-- ==== Sys2Proof/Word.lean ====
section
/-!
DEFINITION. The word types of the ZT-6432 model and their plainest arithmetic. Register contents, codes, masks,
record words and instruction words are bit vectors; device times are natural numbers (see Machine/State.lean),
because the fine field carries at 3200 and not at a power of two (R43).
-/
namespace Sys2Proof

/-- One byte of the Saltern, of a record or of a KPP message. -/
abbrev Byte := BitVec 8
/-- A 16-bit word. -/
abbrev W16 := BitVec 16
/-- A 32-bit word: abort codes, event detail codes, epochs. -/
abbrev W32 := BitVec 32
/-- A 64-bit word: a stored ZTIME or ZDELTA (R38, R42), an instruction word (R158), a mask. -/
abbrev W64 := BitVec 64
/-- A 128-bit record (R56). -/
abbrev W128 := BitVec 128

/-- The number of fine units in one T_E (R38): CLK_E periods are split into 3200 fu. -/
abbrev fuPerTE : Nat := 3200

end Sys2Proof
end

