-- ==== Sys2Proof/Syntax.lean ====
section
/-!
DEFINITION. The commands the block takes: one constructor of `Instr` for every row of the table of operations and
events. Operands are what the row's rule says comes from outside: a unit number, a written value, the requester of a
host request, or the analogue quantity a happening measured.
-/
namespace Sys2Proof

/-- The four host paths (R52, R393): their codes 0 to 3 stand in events. -/
inductive Path where
  | pcie | ethernet | spi | tunnel
deriving DecidableEq, Repr

/-- Who sent a host request (R409): the path, the source on that path (on Ethernet the IPv4 address and UDP port, on
the tunnel the source node) and the header's session byte. -/
structure Requester where
  path    : Path
  addr    : Nat
  session : Byte
deriving DecidableEq, Repr

/-- The output states an edge can name (R161). -/
inductive OutState where
  | low | high | park | hiz
deriving DecidableEq, Repr

/-- The base of a placement (R161): the cursor or the origin. -/
inductive TimeBase where
  | cursor | origin
deriving DecidableEq, Repr

/-- A program target (R160): a Saltern Pan and a word offset in it. -/
structure Target where
  pan  : BitVec 11
  word : BitVec 9
deriving DecidableEq, Repr

/-- What a BRANCH or WAITCOND tests (R161, R162, R174): one bit, or a mask with its `all` bit. -/
inductive CondTest where
  | bit  (b : Fin 64)
  | mask (m : W64) (all : Bool)
deriving DecidableEq, Repr

/-- A condition with its sense and consume bits (R161). -/
structure Cond where
  test    : CondTest
  sense   : Bool
  consume : Bool
deriving DecidableEq, Repr

/-- The tag of a STAMP (R161): the operand itself or a register. -/
inductive TagSource where
  | operand (tag : W32)
  | reg     (r : Fin 8)
deriving DecidableEq, Repr

/-- A line unit under TDC calibration (R262): a stamp input or a loopback slice. -/
inductive CalUnit where
  | input (i : Fin 32)
  | slice (s : Fin 8)
deriving DecidableEq, Repr

/-- What one Drizzle collection counted on one line (R258, R260, R265): hits per tap, hits without a transition, in raw mode
the hits by their tap on line 0 and on this line, and whether the counts met an uncorrectable memory error. -/
structure LineHits where
  taps   : List Nat
  misses : Nat
  joint  : List (Nat × Nat × Nat)
  memErr : Bool
deriving DecidableEq, Repr

/-- A finding of one patrol-scrub read (R462, R463). -/
inductive ScrubFinding where
  | clean | singleBit | uncorrectable
deriving DecidableEq, Repr

/-- What the flash told the device in BOOT (R441): its JEDEC ID, and from its parameter table the density in Mbit, the
quad-enable requirement, the command of the 1-4-4 fast read where it offers one, the 4 KiB erase command, and the longest
times of a 4 KiB erase and of a page program in µs. What no operand names is what a common part gives (PRESUMED, log entry 127). -/
structure FlashChip where
  jedec   : BitVec 24
  density : Nat
  quadEnable : BitVec 3 := 4
  read144 : Option Byte := some 0xEB
  erase4k : Byte := 0x20
  eraseUs : Nat := 400000
  pageUs  : Nat := 3000
deriving DecidableEq, Repr

/-- What the housekeeping ADC, the check slices and the CSU gave over the Tide that a boundary ends (R27, R109, R117, R139,
R467): the samples k = 0 to 799, in the units of the Tide values that they give, or those values themselves: the tuning node in hold-code units and in µV, the eight sensors in 1/65536 °C, the twelve rails in µV, per cluster
the number and mean (fu/16) of the live errors of the channel followed, whether the management plane overran, and in RETURN
the frequency difference measured, in ppb, where there is one. -/
structure TideMeas where
  tuningCode : Nat
  tuningUv   : Nat
  temps      : List Int
  rails      : List Nat
  live       : List (Nat × Int)
  overrun    : Bool
  returnPpb  : Option Int := none
  samples    : List Int := []
deriving DecidableEq, Repr

/-- What a PCI Express configuration request names (R379, R380): the device ID, the class code, the maximum payload and read
request sizes in bytes, the power state, the MSI-X control bits (15 enable, 14 mask of the function), the uncorrectable
error status of Advanced Error Reporting, which a write of 1 clears. -/
inductive ConfigReg where
  | deviceId | classCode | maxPayload | maxRead | power | msixControl | aerStatus
deriving DecidableEq, Repr

/-- How a KPP message came: on Ethernet, how many requests stand in the queue before it, and whether it is a fragment (R426);
whether the stored value that a READ names meets a parity error (R401). -/
structure Arrival where
  queued   : Nat := 0
  fragment : Bool := false
  parity   : Bool := false
deriving DecidableEq, Repr

/-- What only an hourly measurement gives (R471): per cluster the ring-oscillator slowdown in ppm, or the counts of the
reference and the stressed oscillator over one Tide; per port the eye opening in mUI, or which of the scan's 65 places from
−0.5 UI to +0.5 UI, 1/64 UI apart, were free of errors. `none` and no scan where the measurement is missing. -/
structure HourMeas where
  ring   : List (Option Int)
  eye    : List (Option Int)
  counts : List (Nat × Nat) := []
  scans  : List (List Bool) := []
deriving DecidableEq, Repr

/-- What the comparators reported over a self-check (R300, R301), upper and lower, true for outside: at every sample of the
window, and after the thresholds were restored. -/
structure SelfCheckObs where
  samples  : List (Bool × Bool)
  restored : Bool × Bool
deriving DecidableEq, Repr

/-- A KPP message, its header fields apart (R417) and its payload. -/
structure KppMsg where
  magic       : W16
  version     : BitVec 4
  resv        : BitVec 4
  opcode      : Byte
  response    : Bool
  hold        : Bool
  staged      : Bool
  descriptor  : Bool
  lastSeg     : Bool
  resvHi      : BitVec 3
  session     : Byte
  destination : W16
  transaction : W16
  length      : W16
  status      : W32
  payload     : List Byte
deriving DecidableEq, Repr

/-- A received frame's comma word and what came before it (R333, R334): its frame number and CRC-16, the 252 characters of words 1
to 63 of the previous frame (none where that frame was not received whole), and how many of them broke the 8B/10B code. -/
structure FrameSeen where
  number : Byte
  crc    : W16
  chars  : List Byte
  broken : Nat
deriving DecidableEq, Repr

/-- The fields of a Brynline time item (R335), with the frame that brings it and the arrival t4 of its comma (R343) as fu of the
node's own (epoch, ZTIME). -/
structure TimeItem where
  departure : BitVec 52
  epoch     : W32
  lull      : Bool
  timeSet   : Bool
  valid     : Bool
  echoed    : Byte
  echoOff   : BitVec 16
  echoFine  : Fin 3200
  frame     : FrameSeen
  t4        : Nat
  crcOk     : Bool
deriving DecidableEq, Repr

/-- The fields of a HELLO item (R335). -/
structure HelloItem where
  uid       : W64
  upstream  : Bool
  peerSeen  : Bool
  nodeState : BitVec 2
  nodeId    : BitVec 14
  depth     : BitVec 4
  hopExt    : W16
  crcOk     : Bool
deriving DecidableEq, Repr

/-- The fields of an event-code item (R335). -/
structure CodeItem where
  code      : W16
  due       : BitVec 20
  origin    : BitVec 14
  hopsLeft  : BitVec 4
  travelled : BitVec 4
  crcOk     : Bool
deriving DecidableEq, Repr

/-- The fields of a Front item (R335). -/
structure FrontItem where
  sequence : Byte
  mask     : W16
  latency  : W16
  armAt    : W32
  crcOk    : Bool
deriving DecidableEq, Repr

/-- The fields of a Gust item (R335). -/
structure GustItem where
  sequence : Byte
  group    : Fin 16
  node     : BitVec 14
  fireTE   : W32
  fireFine : Fin 3200
  crcOk    : Bool
deriving DecidableEq, Repr

/-- A JOIN request, reply or refusal (R335 kinds 1 to 3): the path of receiving ports, the unique ID, and the node ID
with the depth (reply) or the reason (refusal). -/
structure JoinItem where
  path   : List (Fin 8)
  uid    : W64
  nodeId : BitVec 14
  extra  : BitVec 4
  crcOk  : Bool
deriving DecidableEq, Repr

/-- A tunnel or bulk item (R360): destination, source, the data, the Pan offset and last bit of a bulk item. -/
structure DataItem where
  dest   : BitVec 14
  src    : BitVec 14
  offset : BitVec 11
  last   : Bool
  data   : List Byte
  crcOk  : Bool
deriving DecidableEq, Repr

/-- The down causes of a port (R331, R363): LOS, MODABS, comma alignment, HELLO timeout. -/
inductive DownCause where
  | los | modabs | comma | helloTimeout
deriving DecidableEq, Repr

/-- What happens to RESET_N (R440): a low pulse of at least 1 µs, low from now on, high again. -/
inductive ResetPhase where
  | pulse | low | release
deriving DecidableEq, Repr

/-- The JTAG operations of R501. -/
inductive TapOp where
  | bypass | idcode | samplePreload | extest | highz
deriving DecidableEq, Repr

/-- The commands: one constructor per row of the table of operations and events. -/
inductive Instr where
  -- supply, reset and start-up
  | vinValid
  | brownout
  | resetN (phase : ResetPhase := .pulse)
  | thermalShutdown (sensor : Fin 8) (temp : W16)
  | overcurrentShutdown (regulator : Fin 3)
  | shutdownRestart
  | bootComplete (flash : Option FlashChip)
  | imageLoad
  | startUpAlign
  | startUpLockWaitExpiry
  | fabricStartUpAlign
  | idleEntry (micros : W32)
  -- state commands
  | go (r : Requester)
  | hold (r : Requester)
  | resume (r : Requester)
  | stop (r : Requester)
  | safe (r : Requester)
  | leaveSafe (r : Requester)
  | save (r : Requester)
  | saveComplete (ok : Bool)
  | restoreDefaults (r : Requester)
  | calibrate (r : Requester)
  | align (r : Requester)
  | reset (r : Requester)
  | scheduledCommand (r : Requester) (cmd : Byte) (tide : W64)
  -- Tide, hour and memory housekeeping
  | tideBoundary (m : TideMeas)
  | hourlyUpdate (m : HourMeas)
  | marginAppend
  | appendNow (r : Requester)
  | scrubRead (mem : Fin 6) (cluster : Fin 4) (addr : Nat) (found : ScrubFinding)
  | epochWrap
  -- levels, monitors, inputs
  | levelTick
  | rangingEnd (ch : Fin 64)
  | sampleTick (wm : Fin 32) (vin : Int)
  | stiEdge (inp : Fin 32) (rising : Bool) (taps : List (Option (Fin 384)))
  | measurementTimeout (g : Fin 32)
  | monitorCrossing (wm : Fin 32) (vin : Int)
  | tripinAssert
  | settlingEnd (wm : Fin 32) (vin : Int)
  | blankingEnd (wm : Fin 32) (vin : Int)
  | exttrigEdge (ball : Fin 4) (level : Bool) (phase : Fin 8)
  | conditionFire (cl : Fin 4)
  | delayTrigger (ch : Fin 64)
  | edgePlacement (ch : Fin 64)
  | sweepComplete (ch : Fin 64) (table : Option (List Byte))
  | collectionComplete (u : CalUnit) (lines : List LineHits)
  | collectionTimeout (u : CalUnit)
  -- edge-program instructions, issued by the sequencer of channel ch
  | nop (ch : Fin 64)
  | edge (ch : Fin 64) (st : OutState) (base : TimeBase) (adv : Bool) (t : Nat)
  | pulse (ch : Fin 64) (activeLow : Bool) (base : TimeBase) (adv : Bool) (t w : Nat)
  | burst (ch : Fin 64) (activeLow : Bool) (base : TimeBase) (adv : Bool) (t n w p : Nat)
  | wait (ch : Fin 64) (base : TimeBase) (t : Nat)
  | waitcond (ch : Fin 64) (c : Cond) (timeout : Nat) (target : Target)
  | waitcondMet (ch : Fin 64)
  | waitcondTimeout (ch : Fin 64)
  | branch (ch : Fin 64) (c : Cond) (target : Target)
  | loop (ch : Fin 64) (reg : Fin 8) (target : Target)
  | jump (ch : Fin 64) (target : Target)
  | setregLoad (ch : Fin 64) (reg : Fin 8) (value : W32)
  | setregAdd (ch : Fin 64) (reg : Fin 8) (value : W32)
  | setregCopy (ch : Fin 64) (reg src : Fin 8)
  | setregOrigin (ch : Fin 64)
  | setregClear (ch : Fin 64) (latches : BitVec 12)
  | stamp (ch : Fin 64) (tag : TagSource)
  | level (ch : Fin 64) (tagged : Bool) (entry : W32)
  | gustLocal (ch : Fin 64) (group : Fin 16)
  | gustFabric (ch : Fin 64) (group : Fin 16)
  | signal (ch : Fin 64) (cluster : Fin 4) (sig : Fin 8) (value : Bool)
  | syncTide (ch : Fin 64) (m : Nat)
  | syncFront (ch : Fin 64) (mask : W16)
  | syncGust (ch : Fin 64) (mask : W16)
  | syncTrigger (ch : Fin 64)
  | syncComplete (ch : Fin 64)
  | panhint (ch : Fin 64) (pan : BitVec 11)
  | period (ch : Fin 64)
  | halt (ch : Fin 64)
  -- pager and Sluice
  | hintFetchComplete (cl : Fin 4)
  | pinLoadComplete (ch : Fin 64)
  | panMiss (ch : Fin 64)
  | missPark (ch : Fin 64)
  | repairComplete (cl : Fin 4)
  -- slots, capture
  | captureSlot (cl : Fin 4)
  | statisticsSlot (cl : Fin 4)
  | egressSlot (cl : Fin 4)
  | arm (r : Requester) (cl : Fin 4)
  | captureArming (cl : Fin 4)
  | forceTrigger (r : Requester) (cl : Fin 4)
  | stopCapture (r : Requester) (cl : Fin 4)
  | triggerTaken (cl : Fin 4)
  | freezingStart (cl : Fin 4)
  | spillPanFull (cl : Fin 4)
  | drainComplete (cl : Fin 4)
  -- clock synthesis, Lull, return, bypass
  | referenceLost
  | referencePresent
  -- measured: a deviation, phase errors with how often each came in a row, levels of ALIGN_IN at the reference edges, the
  -- frequency of BYPCLK over 1 ms
  | referenceQualified (diffPpb : Int := 0)
  | lockDeclared (earlier : List (Int × Nat)) (last : Int × Nat)
  | unlockDeclared (seen : List (Int × Nat) := [])
  | acquireTimeout
  | applyConfiguration (r : Requester)
  | markedEdge (samples : List Bool := [])
  | alignTrimComplete (offset residual : Int)
  | alignInTimeout
  | returnAccept (jump : Int) (diffPpb : Int) (seen : List (Int × Nat) := [])
  | bypassEntry (freqHz : Nat := 1250000000)
  | bypclkNotQualified
  | bypassLock (phaseStep : Int) (seen : List (Int × Nat) := [])
  | bypclkLost
  | actionLeave (r : Requester)
  | actionSlew (r : Requester)
  | actionStep (r : Requester)
  | slewStart
  | slewComplete
  | stepExecute
  | clkoutOvercurrent (n : Fin 8)
  | clkoutFaultClear (n : Fin 8)
  -- driver faults and level entries
  | channelOvercurrent (ch : Fin 64)
  | railExcursion (rail : Fin 12) (inside : Bool) (mv : W16)
  | faultPark (r : Requester) (ch : Fin 64)
  | release (r : Requester) (ch : Fin 64)
  | flush (r : Requester) (ch : Fin 64)
  | levelEntry (r : Requester) (ch : Fin 64) (preset : Bool) (entry : W32)
  | taggedLevelEntry (r : Requester) (ch : Fin 64) (entry epoch : W32) (tag : W64)
  -- host commands on units
  | hostFire (r : Requester) (ch : Fin 64)
  | tripClear (r : Requester) (ch : Fin 64)
  | load (r : Requester) (ch : Fin 64)
  | commandedCalibration (r : Requester) (inp : Fin 32)
  | statisticsRestart (r : Requester) (g : Fin 32)
  | swap (r : Requester) (wm : Fin 32)
  | tie0V (r : Requester) (wm : Fin 32)
  | tie1V25 (r : Requester) (wm : Fin 32)
  | selfCheckEnd (wm : Fin 32) (obs : SelfCheckObs)
  | readback (r : Requester) (wm : Fin 32)
  | readbackComplete (wm : Fin 32) (upper lower : Int)
  -- Fronts, Gusts, codes, bulk
  | issueFront (r : Requester) (mask : W16)
  | frontAccept
  | gustExecute (group : Fin 16)
  | eventCodeDeliver
  | bulkSend (r : Requester) (dest firstPan count offset : W16)
  | windowOpen (r : Requester) (opened : Bool)
  -- Saltern and object writes with rows of their own
  | flagWrite (r : Requester) (pan : BitVec 11) (value : Byte)
  | panData (r : Requester) (data : List Byte)
  | thaw (r : Requester)
  | salternTransfer (r : Requester) (index : W16) (sub dir : Byte) (firstPan : W16) (length : W32)
  | clearShutdownRecord (r : Requester)
  | armInjection (r : Requester)
  | odWrite (r : Requester) (index : W16) (sub : Byte) (value : List Byte) (hold : Bool)
  | ztimeRead (r : Requester)
  -- PCI Express
  | hostBlockWrite (block : Nat) (bytes : List (Option Byte))
  | evrCons (value : W32)
  | evrProd
  | alertStatus (value : W32)
  | mbxDoorbell (length : W32) (request : List Byte)
  | mbxAck
  | batchClose
  | batchPublish
  | perstN
  | pcieLinkChange (up : Bool) (width speed : BitVec 4)
  -- Ethernet
  | ethernetLinkChange (up : Bool)
  | dhcpLeaseChange (lease : Option W32)
  | icmpEcho (dest : W32) (payload : List Byte) (source : W32 := 0)
  -- KPP
  | read (r : Requester) (m : KppMsg) (way : Arrival := {})
  | write (r : Requester) (m : KppMsg) (way : Arrival := {})
  | readSeg (r : Requester) (m : KppMsg) (way : Arrival := {})
  | writeSeg (r : Requester) (m : KppMsg) (way : Arrival := {})
  | subscribe (r : Requester) (m : KppMsg) (way : Arrival := {})
  | commit (r : Requester) (m : KppMsg) (way : Arrival := {})
  | abort (r : Requester) (m : KppMsg) (way : Arrival := {})
  | subscriptionLapse (r : Requester)
  | heldSetDiscard (r : Requester)
  | segmentTimeout (r : Requester) (writing : Bool)
  -- SPI target
  | spiRequest (bytes : List Byte)
  | spiStatus
  | spiResponse (complete : Bool)
  | spiEvent (complete : Bool)
  -- Brynline
  | linkDown (n : Fin 8) (cause : DownCause)
  | commaAligned (n : Fin 8)
  | hello (n : Fin 8) (item : HelloItem)
  | timeItem (n : Fin 8) (item : TimeItem)
  | eventCode (n : Fin 8) (item : CodeItem)
  | front (n : Fin 8) (item : FrontItem)
  | gust (n : Fin 8) (item : GustItem)
  | joinRequest (n : Fin 8) (item : JoinItem)
  | joinReply (n : Fin 8) (item : JoinItem)
  | joinRefused (n : Fin 8) (item : JoinItem)
  | leave (n : Fin 8) (node : BitVec 14) (port : Fin 8) (crcOk : Bool)
  | detach (n : Fin 8) (crcOk : Bool)
  | bulkResult (n : Fin 8) (dest src : BitVec 14) (offset : BitVec 11) (failed crcOk : Bool)
  | kppTunnel (n : Fin 8) (item : DataItem)
  | bulk (n : Fin 8) (item : DataItem)
  | joinRequestTimer
  | leaseExpiry (node : BitVec 14)
  | downCausesCleared (n : Fin 8)
  -- happenings added to the table
  | tripinInactive
  | driverOvercurrentEnd (ch : Fin 64)
  | branchDecision (ch : Fin 64)
  | actionAtCursor (ch : Fin 64)
  | sluiceCheckComplete (cl : Fin 4)
  | bypclkQualified (freqHz : Nat := 1250000000)
  | arpRequest (target : W32) (sender : W32 := 0)
  | forwardedRequestExpiry (transaction : W16) (session : Byte)
  | bar2Read (addr length : Nat)
  | alertEnable (value : W32) (offset : Nat := 0x14)
  | configurationRequest (reg : ConfigReg := .deviceId) (value : Option W32 := none)
  | testAccessPort (op : TapOp) (cells : W32 := 0)
deriving DecidableEq, Repr

end Sys2Proof
end

