-- ==== Sys2Proof/Config.lean ====
section
/-!
DEFINITION. What the spec leaves to the part in hand or does not state: free values with no body. Nothing can be proved
of them but what holds for every value.
-/
namespace Sys2Proof

/-- 0x6000:02, the unique ID of the part (R342: per part). -/
opaque Config.uniqueId : BitVec 64
/-- 0x1100:01 [47:0], the MAC address (R430: per part). -/
opaque Config.macAddress : BitVec 48
/-- 0x1000:07, the ROM version (R429: per part). -/
opaque Config.romVersion : BitVec 16
/-- 0x1000:04, the temperature grade: true = C (R2: per part). -/
opaque Config.gradeC : Bool
/-- 0x2100+0x10·n:0A, the output path offset of clock output n in fu (R99: per part). -/
opaque Config.pathOffset : Nat → BitVec 16
/-- Whether 0x2003:07 rounds f_c up, as a function of K_VCO in kHz/V, the charge-pump code, the loop resistor code and the
feedback divider: the spec does not say how it is rounded (R81). -/
opaque Config.bandwidthUp : Nat → Nat → Nat → Nat → Bool
/-- The VCO band that the CSU selects at the start of ACQUIRE (R82). -/
opaque Config.vcoBand : Nat → Nat
/-- Where in 120 to 180 MHz/V the K_VCO of that band lies, in kHz/V (R82). -/
opaque Config.vcoGain : Nat → Nat
/-- The tuning node's average over a Tide that a set of ZTIME ends, in hold-code units (R109, R110). -/
opaque Config.tideCode : Nat → Nat
/-- Sensor 0's average over such a Tide, in 1/65536 °C (R112). -/
opaque Config.tideTemp : Nat → Int
/-- The fine position in fu/16 of a stamp no line of which gave a usable tap (R237, R260). -/
opaque Config.freeStamp : Nat → Nat
/-- Drizzle hits that a collection counted before it was abandoned or timed out (R272). -/
opaque Config.drizzleHits : Nat → Nat
/-- Which of the events waiting in the event merger a word of its buffer belongs to, counted from the oldest, by word address;
none of them where the number is too large (R461, R463). -/
opaque Config.mergerEvent : Nat → Nat
/-- How many Pans beyond the first a Load check reaches before the next command (R192). -/
opaque Config.checkReach : Nat → Nat
/-- How many bytes of a margin record the supply's failure left programmed (R458). -/
opaque Config.bytesProgrammed : Nat → Nat
/-- Whether SAVE, when it is cut off or fails, had written its header without the magic (R451). -/
opaque Config.headerWritten : Nat → Bool
/-- The power in pW of a monitor sampled every so many µs, for another period than 1 µs (R490). -/
opaque Config.sampledPower : Nat → Nat
/-- The bits of a word that an uncorrectable error inverted, by word address (R463, R466). -/
opaque Config.errorMask : Nat → BitVec 32
/-- 0x2003:04 in steps of 20 ps, the measured phase error of the loop: a measurement the spec gives no command to bring in
(R87). -/
opaque Config.phaseError : Nat → Int
/-- What the boundary-scan cells shift out after SAMPLE/PRELOAD (R501): their order stands in a file outside the spec. -/
opaque Config.boundaryCells : Nat → BitVec 32

end Sys2Proof
end

