-- ==== Sys2Proof/Machine/State.lean ====
section
/-!
DEFINITION. The state of the ZT-6432 as plain data: everything the spec gives the machine, the queue of commands that
wait, and the machine right after power-on reset is released (`State.reset`). Times are natural numbers: a T_E count is
the absolute count A = epoch × 2^52 + coarse of R49, an instant is A × 3200 + fine in fu (R38, R43).
-/
namespace Sys2Proof.Machine

/-- An absolute T_E count A (R49). -/
abbrev TE := Nat
/-- An absolute instant in fu: A × 3200 + fine (R38). -/
abbrev Instant := Nat
/-- The recent history of a level signal: (T_E of a change, value from then on), newest first. -/
abbrev Trace (α : Type) := List (TE × α)

/-- The two parts of R1. Fixed for a machine: no command changes it. -/
inductive Part where
  | zt6432 | zt3216
deriving DecidableEq, Repr

/-! ## Power, device state, time -/

/-- Where the supply and the reset ball have brought the device (R15, R434, R440, R485). -/
inductive Power where
  | unpowered      -- VIN not valid: every output Z (R499)
  | resetLow       -- RESET_N is held low: as before t_P, the regulators on (R439, R440)
  | running        -- t_P has passed
  | shutThermal    -- hard-wired shutdown, waiting for RESET_N or VIN and for the sensor (R17)
  | shutCurrent    -- hard-wired shutdown, waiting for RESET_N or VIN
deriving DecidableEq, Repr

/-- The device states of R402, codes 0 to 5. -/
inductive DevState where
  | boot | load | idle | run | hold | safe
deriving DecidableEq, Repr

/-- Supply, reset and start-up. -/
structure Boot where
  power      : Power := .running
  cool       : Bool := true          -- the restart condition of R17 after a thermal shutdown
  restartReq : Bool := false         -- RESET_N or VIN cycled while a thermal restart is awaited
  alignDone  : Bool := false         -- stage 5 over: aligned, failed or not made (R434, R435)
  fabricAlign : Option TE := none    -- entry into IDLE when R436 still owes the fabric ALIGN
  calStage   : Bool := false         -- stage 6 or 7 runs
  micros     : W32 := 0              -- 0x1202:02
  status     : W32 := 0              -- 0x1300:07
deriving DecidableEq, Repr

/-- A whole number of turns of (epoch, coarse) and of the Tide number, which is also a whole number of Tides: counts that
differ by it are the same (epoch, coarse), the same place in the same Tide (R38, R49). The count starts there, so that every
T_E before a set of ZTIME has a count of its own. -/
abbrev bigTurn : TE := 2 ^ 84 * 15625

/-- Device time (R38 to R52). -/
structure TimeState where
  count     : TE := bigTurn                -- the coarse count with its epoch, held in step in every cluster (R40)
  running   : Bool := false                -- the CSU delivers CLK_E (R41)
  lastTide  : Option TE := none            -- the last Tide boundary served
  lastTick  : Option TE := none            -- the last level tick served
  latched   : List (Path × W32 × W64) := []  -- epoch and Tide number latched per host path (R52)
  marked    : Instant := bigTurn * 3200    -- t_M of R100: the last marked edge
  flagged   : Trace Bool := []             -- whether records carry the Lull flag, by T_E (R108)
  histFrom  : TE := bigTurn                -- first T_E of the condition history since the last set (R173)
deriving DecidableEq, Repr

/-- The device state, its commands (R403 to R407). -/
structure Dev where
  st        : DevState := .boot
  pendCmd   : Option (Byte × TE) := none      -- pending command and its boundary
  pendMoved : Bool := false                   -- a set of ZTIME moved that boundary (R414)
  sched     : Option (Byte × W64) := none     -- scheduled command and its Tide (R405)
  lastResult : W32 := 0                       -- 0x1300:08
  resetAt   : Option TE := none               -- RESET accepted: BOOT 1 ms later
  calibrating : Bool := false                 -- CALIBRATE runs
  sweepPair   : Option Nat := none            -- sweeps of CALIBRATE or start-up: the next pair of channels, 0 to 8 (R138)
  saving    : Bool := false                   -- SAVE runs
deriving DecidableEq, Repr

/-! ## Clock synthesis -/

/-- The CSU states of R86, codes 0 to 8. -/
inductive CsuSt where
  | off | freerun | acquire | locked | aligning | aligned | lull | ret | bypass
deriving DecidableEq, Repr

/-- The CSU configuration in force (R74, R75). -/
structure CsuConfig where
  src   : Nat := 0
  fref  : Nat := 100000000
  presc : Nat := 1
  n     : Nat := 100
  icp   : Nat := 9
  rz    : Nat := 3
  c2    : Nat := 10
  win   : Nat := 100
  qtime : Nat := 10
  mode  : Nat := 0
deriving DecidableEq, Repr

/-- How a Tide lay for the hold-DAC average (R109). -/
inductive TideKind where
  | locked | bypass (onClock : Bool) | mixed
deriving DecidableEq, Repr

/-- A pending or running action on the phase offset (R119 to R122). -/
inductive CsuAction where
  | none
  | slewAt (at_ : TE) (code : Nat)
  | slewing (start : TE) (code : Nat) (from_ : Int)   -- rate code × 0.1 ppm, Δ at the start
  | stepAt (at_ : TE)
deriving DecidableEq, Repr

/-- An ALIGN in progress (R91 to R93). -/
structure AlignRun where
  accepted : TE
  deadline : TE               -- the timeout of 0x2002:02 as latched at ALIGN (R90, R91, R436)
  marker   : Nat
  startUp  : Bool
  restarted : Bool := false
  mark     : Option (Instant × Instant) := none  -- fabric marker: the marked edge, and upstream time at it (R347)
deriving DecidableEq, Repr

/-- One stored Tide average (R109): hold code, sensor 0 in 1/65536 °C, kind of the Tide. -/
structure TideAvg where
  code : Nat
  temp : Int
  kind : TideKind
deriving DecidableEq, Repr

/-- The hold DAC and the temperature model (R109 to R113). -/
structure HoldDac where
  code       : Nat := 0                    -- 0x2005:01, 28-bit hold code
  uv         : Nat := 0                    -- 0x2005:02
  avgs       : List TideAvg := []          -- the last 10 complete Tides, newest first
  full       : Option (Nat × Int) := none  -- last full-window value and its T_w
  value      : Nat := 0                    -- hold value in force and its T_w while held
  tw         : Int := 0
  src        : Nat := 2                    -- where it came from: 482 hold source
  bypSum     : Nat := 0                    -- Tides wholly in BYPASS on BYPCLK before the last two: codes, temperatures
  bypTemp    : Int := 0
  bypCount   : Nat := 0
  bypEntry   : Option Nat := none          -- hold code on entry to BYPASS, none from FREERUN
  tideKind   : Option TideKind := none     -- kind of the Tide in progress so far; none at its start
  coef       : Int := 0                    -- 0x2005:04, Q16.16 ppb/°C
  model      : Nat := 0                    -- 0x2005:05: 0 none, 1 learned, 2 host
  modelRef   : Int := 0                    -- 0x2005:06
  fitN       : Nat := 0                    -- least-squares sums over locked Tides
  fitT       : Int := 0
  fitV       : Int := 0
  fitTT      : Int := 0
  fitTV      : Int := 0
  fitMin     : Int := 0
  fitMax     : Int := 0
  factory    : Nat := 0                    -- 0x2005:07
deriving DecidableEq, Repr

/-- The clock synthesis unit. -/
structure Csu where
  st          : CsuSt := .off
  act         : CsuConfig := {}
  present     : Bool := false          -- 0x2003:02
  presentFrom : TE := 0                -- edges have arrived without a missing one since (R78)
  qualified   : Bool := false          -- 0x2003:03
  band        : Nat := 0               -- 0x2003:05
  kvco        : W32 := 0               -- 0x2003:06
  residual    : Int := 0               -- 0x2003:08
  everAligned : Bool := false          -- 0x2003:09
  locks       : W32 := 0               -- 0x2003:0A
  since       : TE := 0                -- entry into the present state
  run         : Nat := 0               -- comparisons in the running count of R85: lock in ACQUIRE, unlock in the locked states
  returnFrom  : TE := 0                -- the acceptance time of RETURN runs since (R117)
  afterBypass : Bool := false          -- RETURN was entered from BYPASS (R117)
  hold        : HoldDac := {}
  delta       : Int := 0               -- 0x2006:01
  action      : CsuAction := .none
  retDiff     : Int := 0               -- 0x2006:08
  lastHold    : W32 := 0               -- 0x2006:09
  lullStart   : Option TE := none      -- start of the Lull in progress (R506)
  lullLen     : Nat := 0               -- 0x2005:08 after the Lull
  noBypass    : Bool := false          -- 485 kind 3 already raised in this Lull
  bypclk      : Bool := false          -- BYPCLK qualified (R123)
  bypLocked   : Bool := false          -- the BYPCLK loop has declared lock
  align       : Option AlignRun := none
  fuLen       : Nat := 250000          -- 0x2203:01, as
  root        : Nat := 10000000000     -- 0x2203:02, Hz
deriving DecidableEq, Repr

/-- One clock output (R99 to R104). -/
structure ClkOut where
  st      : Nat := 0          -- 0x:08: 0 OFF, 1 WAITING, 2 RUNNING, 3 FAULT
  coarse  : Nat := 0          -- delay in force
  fine    : Nat := 0          -- delay reached at `edge0`
  slewTo  : Nat := 0          -- fine delay the output moves to, 4 fu per period (R102)
  started : Bool := false     -- has been enabled since power-up (R101)
  before  : Nat := 0          -- the state FAULT returns to
  div     : Nat := 10         -- the divider in force while the output runs
  edge0   : Option Instant := none  -- while it runs: the next rising edge at the last change, its fine delay left out (R100)
  fall    : Instant := 0      -- end of the high phase that began before `edge0` or before the stop (R101)
  fresh   : Bool := false     -- no rising edge since the start: the disabled state holds on (R101)
deriving DecidableEq, Repr

/-! ## Channels -/

/-- An entry of the edge FIFO (R128): one edge, or a train with the edge it has reached. `written` is the T_E c_w of
R129; `limit` is the instant from which the remaining edges of the train were cancelled. -/
inductive FifoEntry where
  | edge  (target : Instant) (st : OutState) (written : TE)
  | train (first : Instant) (n p w : Nat) (activeLow : Bool) (k : Nat) (second : Bool)
          (limit : Option Instant) (written : TE)
deriving DecidableEq, Repr

/-- An edge engine (R128 to R140). -/
structure EdgeEngine where
  fifo      : List FifoEntry := []
  progState : OutState := .low              -- the programmed state (R131)
  prev      : Option Instant := none        -- previous edge of the programmed timeline (R130)
  hist      : Trace OutState := []          -- programmed state over recent T_E (R306)
  lastPlaced : Option Instant := none
  placedBy  : W32 := 0                      -- correction entry that placed the last edge
  placed    : W64 := 0                      -- :0D
  suppressed : W64 := 0                     -- :0E
  liveErr   : Int := 0                      -- :14
  drifting  : Bool := false                 -- live error beyond the limit
  calGen    : BitVec 4 := 0                 -- 0x7F00+ch:02
  origin    : Nat := 5                      -- 0x7F00+ch:03
  installed : W64 := 0                      -- 0x7F00+ch:04
  table     : Option (List Byte) := none    -- correction table of the live path; none = identity
  newTable  : Option (List Byte × Nat) := none  -- complete table of the spare path and its origin (R137)
  room1     : TE := 0                       -- since when the FIFO has room for one entry, for two (R165)
  room2     : TE := 0
  sweeping  : Option Nat := none            -- a sweep runs; the origin its table will have
  spareIsA  : Bool := false                 -- which of the paths A and B is spare
deriving DecidableEq, Repr

/-- The classifications of a window monitor (R283). -/
inductive Classn where
  | below | inside | above | unresolved
deriving DecidableEq, Repr

/-- A happening that a trigger source can name (R143). -/
inductive TrigEv where
  | stamp (inp : Nat)
  | monitor (wm : Nat) (old new : Classn)
  | ext (ball : Nat) (rising : Bool)
  | cond (cl c : Nat)
  | chan (ch : Nat) (toHigh : Bool)
  | code (w : Nat)
  | gust (g : Nat)
  | tide (n : Nat)
  | fire (ch : Nat)
deriving DecidableEq, Repr

/-- A delay-mode sequence (R145): its trigger, first active edge, count, period, width, and the instant from which its
edges were cancelled. -/
structure Sequence where
  tref  : Instant
  t0    : Instant
  n     : Nat
  p     : Nat
  w     : Nat
  limit : Option Instant
deriving DecidableEq, Repr

/-- The delay-mode logic of a channel (R141 to R150), with its triggers on the way (also of program mode). -/
structure Delay where
  pending   : List Sequence := []
  lastAcc   : Option Instant := none        -- t_ref of the last accepted trigger (hold-off)
  lastCycle : Option Nat := none            -- CLK_C cycle of the last trigger considered (R147)
  transit   : List Instant := []            -- triggers made known to the channel, oldest first
  ahead     : List (TrigEv × Instant) := [] -- happenings whose t_ref the next boundary's settings govern (R145)
  accepted  : W64 := 0                      -- :0F
  discarded : W64 := 0                      -- :10
  delayed   : W64 := 0                      -- :11
deriving DecidableEq, Repr

/-- What a sequencer waits for. -/
inductive SeqWait where
  | none
  | cond   (c : Cond) (from_ : TE) (timeout : Nat) (startAt : Instant) (target : Target)
  | branch (c : Cond) (target : Target)
  | tide   (m : Nat)
  | front  (mask : W16)
  | gust   (mask : W16)
  | trigger
  | repair (target : Target) (since : TE)
deriving DecidableEq, Repr

/-- An action issued ahead of its cursor (R168). -/
inductive SeqAction where
  | stamp  (tag : W32)
  | signal (cl : Fin 4) (sig : Fin 8) (v : Bool)
  | period
  | clear  (latches : BitVec 12)
  | gustLocal (g : Fin 16)
  | gustFabric (g : Fin 16)
deriving DecidableEq, Repr

/-- A channel sequencer (R152 to R189). -/
structure Sequencer where
  pstate    : Nat := 0                          -- :03: 0 none 1 admitted 2 running 3 waiting 4 halted 5 missed
  pc        : Target := ⟨0, 0⟩                  -- :04
  cursor    : Instant := 0                      -- :05
  origin    : Instant := 0                      -- :06
  regs      : Vector W32 8 := Vector.replicate 8 0   -- :0F to :16
  sample    : W64 := 0                          -- :17
  cleared   : List (Nat × TE) := []             -- latched bit and its latest clear (R172): settings up to there are gone
  trigQ     : List Instant := []                -- trigger queue, at most 4 (R185): t_ref
  lastCycle : Option Nat := none
  wait      : SeqWait := .none
  actions   : List (Instant × SeqAction) := []  -- actions waiting for their cursor
  nextIssue : TE := 0                           -- earliest T_E of the next issue (R165, R166)
  started   : TE := 0                           -- start B of the present run
  resumeAt  : Option TE := none                 -- boundary B_r of the last RESUME while waiting (R155)
  taken     : List (Nat × Instant) := []        -- events taken in this run: (SYNC kind, visibility)
  pendHints : List Nat := []                    -- pending Pans, newest first (R193)
  issued    : W64 := 0                          -- :19
  late      : W64 := 0                          -- :1A
  gen       : W16 := 0                          -- :1B
  refused   : W32 := 0xFFFFFFFF                 -- :1C
  parkAt    : Option Instant := none            -- t_p of R209
  loading   : Option Requester := none          -- admitted; its pin loads run and this Load is to be answered (R197)
  panSet    : List Nat := []                    -- Pan set of the admitted program (R191)
  streamed  : List Nat := []                    -- its streamed Pans
  demand    : Nat := 0                          -- its hint demand d (R199)
deriving DecidableEq, Repr

/-- A queued level entry (R217, R220): the entry, its tag, the T_E w in which it entered. -/
structure LevelEntry where
  entry : W32
  tag   : Option Instant
  at_   : TE
deriving DecidableEq, Repr

/-- An output driver and its level DACs (R215 to R230). -/
structure Driver where
  queue      : List LevelEntry := []
  swing      : Nat := 2621             -- code in force
  offset     : Nat := 3932
  gSwing     : Bool := false           -- gains in force: true = ×2
  gOffset    : Bool := false
  ranging    : Option (TE × TE) := none  -- start and end of the RANGING window (R226)
  park       : Bool := false           -- host park in force
  latched    : BitVec 3 := 0           -- latched causes: overcurrent, supply, thermal
  present    : BitVec 3 := 0           -- present causes
  fault      : Option TE := none       -- T_E from which the driver is in FAULT
  releaseAt  : Option TE := none       -- w + 4 of an accepted release: FAULT ends at the first tick from there on (R228)
  roomAt     : TE := 0                 -- since when the queue has room (R165)
deriving DecidableEq, Repr

/-- The trip latch of a channel (R291 to R298). -/
structure TripLatch where
  latched  : Bool := false
  first    : Nat := 63                 -- :1D [13:8]
  setAt    : TE := 0                   -- t_j
  withheld : Nat := 0                  -- :1D [31:16]
deriving DecidableEq, Repr

/-! ## Pager and Sluice -/

/-- One frame of a local store (R190). -/
structure Frame where
  slot    : Nat           -- 0 to 63
  pan     : Nat
  used    : TE            -- last use, for the least-recently-used rule (R194)
  loaded  : Bool          -- the copy is complete
deriving DecidableEq, Repr

/-- A transfer of the pager (R195). -/
structure Fetch where
  pan    : Nat
  asked  : TE
  ch     : Nat
  used   : TE := 0                       -- latest PANHINT of the Pan (R194)
  repair : Bool := false                 -- a repair, not a pin load
deriving DecidableEq, Repr

/-- A Load under check (R153). -/
structure LoadCheck where
  ch    : Fin 64
  entry : Target
  req   : Requester
  taken : List Nat := []
deriving DecidableEq, Repr

/-- Pager, Sluice and slot counters of one cluster (R190 to R214). -/
structure Store where
  frames     : List Frame := []
  hints      : List Fetch := []          -- hint fetches waiting, in service order
  work       : List Fetch := []          -- pin loads and repairs waiting, in the order of request
  check      : Option LoadCheck := none
  hintCount  : W64 := 0                  -- 0x5000:04
  hitCount   : W64 := 0                  -- 0x5000:05
  repairCount : W64 := 0                 -- 0x5000:06
  longest    : W32 := 0                  -- 0x5000:07
  reason     : Nat := 0                  -- 0x5001:02
  refCh      : Nat := 0                  -- 0x5001:03
  refWord    : W32 := 0xFFFFFFFF         -- 0x5001:04
  refusals   : W32 := 0                  -- 0x5001:05
  statAt     : Option Nat := none        -- the last CLK_C cycle whose statistics entry was served (R203)
  egressAt   : Option TE := none         -- the last egress entry served (R203)
  stampsLost : W64 := 0                  -- 0x5001:06
  egressLost : W64 := 0                  -- 0x5001:07
deriving DecidableEq, Repr

/-! ## Records and their requesters -/

/-- A record on its way to the capture write port with the records that continue it (R507). -/
structure Chain where
  recs : List W128
deriving DecidableEq, Repr

/-- An item a requester holds for fabric egress (R205, R337): an event code or a Gust. -/
inductive EgressItem where
  | code (code : W16) (cause : TE) (hops : Nat)
  | gust (seq : Byte) (group : Fin 16) (fire : Instant)
deriving DecidableEq, Repr

/-! ## Stamp inputs, groups, statistics -/

/-- An entry of a stamp FIFO (R250): a stamp with the groups that have not decided on it yet, whether any group of which
it is a selected stop decided (`chosen`) and whether one took it, or an interval of a group with the uses it still has. Each
carries the Lull flag of its ZTIME (R253). -/
inductive StampEntry where
  | stamp (at_ : Instant) (rising : Bool) (seq : W16) (gen : BitVec 4) (lull : Bool) (waits : List (Fin 32))
      (chosen taken : Bool)
  | interval (g : Fin 32) (hit : Nat) (value : Int) (timeout : Bool) (start : Instant) (gen : BitVec 4) (lull : Bool)
      (toRec toStat : Bool)
deriving DecidableEq, Repr

/-- The calibration of one line unit, a stamp input or a loopback slice (R257 to R271). -/
structure LineCal where
  gen        : BitVec 4 := 0                 -- 0x7F40+in:02, 0x7F60+s:02
  origins    : Vector Nat 4 := Vector.replicate 4 5
  installed  : W64 := 0
  table      : Option (List Byte) := none    -- bin table in force; none = identity
  offsets    : Vector Int 4 := Vector.replicate 4 0
  newLines   : List (Nat × List Nat × Option Int) := [] -- (line, centres, entry offset) that wait for a boundary
  newOrigin  : Nat := 0                      -- their origin code
  calState   : Nat := 0                      -- :11: 0, 1–4 line in a step, 5 raw mode
  calSince   : TE := 0                       -- start of the collection
  calOrigin  : Nat := 0                      -- origin code of the collection in progress
  calTarget  : Nat := 22                     -- its target exponent
  busy       : Bool := false                 -- the collection runs
  done       : W64 := 0                      -- :14
  failed     : W64 := 0                      -- :15
  lastFail   : W32 := 0                      -- :16
  latest     : Vector (List Nat) 4 := Vector.replicate 4 []  -- the centres of each line's latest collection (R471)
deriving DecidableEq, Repr

/-- A stamp input (R232 to R253) and its calibration (R261 to R271). -/
structure StampInput where
  fifo       : List StampEntry := []
  last       : Option Instant := none        -- :0F
  seq        : W16 := 0                      -- next sequence number (R240)
  converted  : W64 := 0
  merged     : W64 := 0
  blanked    : W64 := 0
  lost       : W64 := 0
  peak       : Nat := 0
  dead       : Instant := 0                  -- end of the dead time after the latest stamp (R238)
  blankUntil : TE := 0                       -- end of the blanking of R236
  cal        : LineCal := {}
  calBefore  : LineCal := {}                 -- as it was before the last boundary (R237)
  lastOut    : Option TE := none             -- when its last record left for the capture write port (R250)
  gate       : Trace (Option Nat) := []      -- slope selected, none while disabled, by T_E (R236)
deriving DecidableEq, Repr

/-- A measurement (R243 to R248) with the configuration of its start. -/
structure Measurement where
  start  : Instant
  inp    : Fin 32                             -- start input, and which stamp of it started the measurement
  seq    : W16
  gen    : BitVec 4                           -- calibration generation of the start stamp
  lull   : Bool                               -- Lull flag of the start (R253)
  mode   : Nat
  mask   : W16
  limit  : Nat
  open_  : Instant                            -- t_s − W_pre, the window's start
  close  : Instant                            -- t_s + T_out
  keep   : Bool                               -- :09, intervals have records
  taken  : List Nat := []                     -- hit indices taken
deriving DecidableEq, Repr

/-- A stamp handed to a group that has not judged it yet. -/
structure GroupStamp where
  at_    : Instant
  inp    : Fin 32
  rising : Bool
  seq    : W16
  gen    : BitVec 4
  lull   : Bool
  waits  : Bool := false                      -- its FIFO entry waits for the group's decision (R250)
deriving DecidableEq, Repr

/-- A stamp that a later start can still take as a stop through its pre-start window (R244); `owed` while it is a selected
stop that no measurement has taken, `due` the T_E of the decision that it is early (R247). -/
structure PoolStop where
  at_   : Instant
  bit   : Nat
  inp   : Fin 32
  seq   : W16
  owed  : Bool
  due   : TE
deriving DecidableEq, Repr

/-- A measurement group (R241 to R249). -/
structure Group where
  inbox     : List GroupStamp := []           -- stamps not judged yet, in ZTIME order
  openM     : Option Measurement := none
  closing   : List Measurement := []          -- windows that closed with stops missing, their timeouts not yet formed
  tc        : Option Instant := none          -- t_c of the latest measurement (R243)
  cut       : Instant := 0                    -- stamps before it belong to no measurement any more (R248)
  formed    : Nat := 0                        -- windows whose timeouts another group's timeout of that T_E formed (R248)
  pool      : List PoolStop := []
  readySet  : List TE := []                   -- settings of the ready bit, newest first (R171)
  passHist  : Trace Bool := []
  starts    : W64 := 0
  ignored   : W64 := 0
  abandoned : W64 := 0
  missing   : W64 := 0
  early     : W64 := 0
  near      : W64 := 0
deriving DecidableEq, Repr

/-- What is on the way in the data plane (R236, R239, R247, R248, R297, R317): an entry for a stamp FIFO, an interval that is
formed, an edge whose ZTIME begins the next T_E, a monitor's assertion on the synchronised path to the channels of other
clusters, a stop that a group decides on as taken or as early, a period boundary and a host clear of a trip latch, a capture stop; the
swap of a channel's placement paths (R137). -/
inductive LineDue where
  | stamp    (i : Fin 32) (e : StampEntry)
  | interval (g : Fin 32) (m : Measurement) (hit : Nat) (value : Int) (timeout : Bool)
  | edge     (i : Fin 32) (rising : Bool) (x : Instant) (taps : List (Option (Fin 384)))
  | decided  (g inp : Fin 32) (x : Instant) (seq : W16) (taken : Bool)
  | remote   (wm : Fin 32)
  | period   (ch : Fin 64)
  | clear    (ch : Fin 64)
  | stop     (cl : Fin 4)
  | swap     (ch : Fin 64)
deriving DecidableEq, Repr

/-- A statistics run (R273 to R278) of a group. -/
structure StatRun where
  running  : Bool := false                    -- as R273 (0x:15 = 1 when also opened)
  opened   : Bool := false
  complete : Bool := false                    -- single run complete
  since    : TE := 0
  earlyAt  : TE := 0                          -- the T_E of the latest early stops, and how many (R274)
  earlyNow : Nat := 0
  taken    : Nat := 0
  n        : Nat := 0
  tout     : Nat := 0
  early    : Nat := 0
  s1       : Int := 0
  s2       : Nat := 0
  mn       : Int := 140737488355327           -- 2^47 − 1
  mx       : Int := -140737488355328
  results  : W64 := 0
  abandoned : W64 := 0
  unrecorded : W64 := 0
  last     : List W128 := []                  -- :1A
  prevGen  : BitVec 4 := 0                    -- generation of the previous result (R276)
deriving DecidableEq, Repr

/-! ## Monitors and TRIPIN -/

/-- What a monitor is doing (R284, R299). -/
inductive MonPhase where
  | off | settling (until_ : TE) | watching | selfCheck (kind : Nat) (until_ : TE)
deriving DecidableEq, Repr

/-- A window monitor (R281 to R303). V_in is in µV. -/
structure Monitor where
  phase    : MonPhase := .off
  vin      : Int := 0
  cls      : Classn := .inside             -- classification behind the filter (R285)
  raw      : Classn := .inside             -- the comparators' classification
  hist     : Trace Classn := []            -- synchronous classification over recent T_E
  rawHist  : Trace Classn := []            -- comparator classification over recent T_E, for the majority filter (R288)
  due      : List (TE × Classn) := []      -- changes of the synchronous classification on their way, soonest first
  blank    : Option Instant := none        -- end of the blanking window (R287)
  sampled  : Option TE := none             -- the last sample tick served (R289)
  asserts  : Bool := false                 -- trip assertion (R290)
  count    : W64 := 0                      -- :0F
  result   : W32 := 0                      -- :0D
  rbBusy   : Bool := false                 -- a readback runs
  rbValue  : W32 := 0                      -- :0E
deriving DecidableEq, Repr

/-- TRIPIN (R292). -/
structure TripIn where
  level  : Bool := false          -- level at the ball
  active : Bool := false          -- 0x4A00:02
  count  : W64 := 0               -- 0x4A00:03
deriving DecidableEq, Repr

/-! ## Crossbar, trigger and capture engines -/

/-- The crossbar of one cluster: cluster signals, matcher events, Gust and stamp and interval presentations. -/
structure Crossbar where
  signals  : Vector (Trace Bool) 8 := Vector.replicate 8 []
  matched  : Vector (List TE) 4 := Vector.replicate 4 []  -- T_E in which a delivered code met matcher m, newest first
  stamps   : List (TE × Nat × Bool) := []     -- stamps presented: (T_E, input j, rising)
  ready    : List (TE × Nat × Bool) := []     -- completions presented: (T_E, group j, pass)
deriving DecidableEq, Repr

/-- The trigger half of an engine (R306 to R310). -/
structure TrigEngine where
  evaluated : Option TE := none               -- the last T_E whose firing was served
  firings  : W64 := 0
  shadowed : W64 := 0
  lost     : W64 := 0                         -- 0x5004:04
  applied  : Vector TE 16 := Vector.replicate 16 0   -- boundary at which word or window was applied (R309)
  words    : Vector (Trace (Nat × Nat)) 16 := Vector.replicate 16 []  -- word and window of each condition, by T_E
  queue    : List W128 := []                  -- trigger records waiting, at most 4
deriving DecidableEq, Repr

/-- The capture states of R311, codes 0 to 5. -/
inductive CapSt where
  | idle | armed | triggered | freezing | draining | done
deriving DecidableEq, Repr

/-- The configuration frozen at arming (R312). -/
structure CapConfig where
  p : Nat := 4096
  q : Nat := 61440
  mask : W16 := 1
  keep  : W32 := 0x03FFFFFF                   -- store mask
  spill : Bool := false
  first : Nat := 1
  count : Nat := 2
  v : Nat := 0
  tests : List Nat := []                      -- 0x5006+0x100·cl:00 to :1A
deriving DecidableEq, Repr

/-- A trigger the engine has been given and takes at f + 7 (R313, R322). -/
structure CapFire where
  f     : TE
  cl    : Nat
  cond  : Nat
  mask  : W16
  isForce : Bool
deriving DecidableEq, Repr

/-- A run of lost records that no gap record stands for yet (R316): the origin, how many, the first one's ZTIME and its Lull
flag. -/
structure GapRun where
  origin : Nat
  count  : Nat
  first  : Instant
  lull   : Bool
deriving DecidableEq, Repr

/-- A record the engine writes itself, waiting for its cycle (R315): since when, whether it is the trigger marker, and the run
that a gap record stands for. -/
structure EngineRec where
  since  : TE
  marker : Bool
  word   : W128
  gap    : Option GapRun := none
deriving DecidableEq, Repr

/-- The capture half of an engine (R311 to R322). -/
structure Capture where
  st        : CapSt := .idle
  cfg       : CapConfig := {}
  armAt     : Option TE := none               -- arming T_E a of an accepted arm
  anchor    : Option W128 := none             -- latest anchor stored before the records kept in `pre`
  pre       : List W128 := []                 -- pre-trigger records, newest first
  post      : List W128 := []                 -- records from the marker, or from FREEZING, on, newest first
  total     : Nat := 0                        -- records stored since arming: the next buffer slot, modulo 65,536
  fire      : Option CapFire := none          -- trigger on its way
  marked    : Bool := false                   -- the trigger marker has been stored
  freezeAt  : Option TE := none               -- v + 4 of a violation
  vLeft     : Nat := 0                        -- records still permitted while FREEZING
  written   : List EngineRec := []            -- engine records waiting, oldest first
  slotAt    : Option Nat := none              -- the last CLK_C cycle of the write port served (R203)
  chain     : List W128 := []                 -- rest of the chain being written (R507)
  chainDone : Nat := 0                        -- records of that chain written
  chainRun  : GapRun := ⟨0, 0, 0, false⟩      -- the run that would stand for the chain
  stamps    : List (Nat × W128) := []         -- program-stamp records waiting: (channel j, record), oldest first
  results   : List Chain := []                -- statistics results waiting
  gaps      : List GapRun := []               -- runs of lost records
  lastGen   : List (Nat × Nat) := []          -- generation of the last record stored, by unit (R57 [1])
  status    : BitVec 8 := 0                   -- :0A
  trigPos   : W32 := 0xFFFFFFFF               -- :0C
  trigAt    : TE := 0                         -- :0D, :0E
  spillLost : W64 := 0                        -- :0F
  violPos   : W32 := 0xFFFFFFFF               -- :10
  violDet   : W32 := 0                        -- :11
  violated  : Bool := false
  handed    : W32 := 0                        -- :14
  next      : Nat := 0                        -- :15
  drained   : Nat := 0                        -- records of the capture already written to Pans
  firesLost : W64 := 0                        -- 0x5007:03
deriving DecidableEq, Repr

/-! ## TDC calibration shared state -/

/-- The Drizzle of a cluster and its loopback slices (R257, R266, R272). -/
structure Drizzle where
  rate     : W32 := 0
  hits     : W64 := 0
  failed   : W64 := 0
  lastFail : W32 := 0
  step     : Nat := 0                         -- next step of the ring, 0–39
  stepFrom : Nat := 0                         -- Tide from which the line interval runs to its start
  slices   : Vector LineCal 2 := Vector.replicate 2 {}
  sweepFrom : Nat := 0                        -- Tide from which the sweep interval runs to the next background sweep
  sweepCh  : Nat := 0                         -- channel j it visits
  liveCh   : Nat := 0                         -- channel the check slice follows
deriving DecidableEq, Repr

/-! ## Brynline -/

/-- The port states of R330, codes 0 to 5. -/
inductive PortSt where
  | disabled | down | training | hello | up | mismatch
deriving DecidableEq, Repr

/-- A word of a link (R333, R334): the comma word with the frame number and the CRC-16 of the frame before, or a word that carries 24
bits of an item of a class. -/
inductive LinkWord where
  | comma (frame : Byte) (crc : W16)
  | data  (cls index : BitVec 4) (bits : BitVec 24)
deriving DecidableEq, Repr

/-- What a port is sending (R333 to R336). -/
structure LinkTx where
  frame    : Option TE := none        -- start of the frame in progress
  crc      : W16 := 0                 -- CRC-16 of the frame before
  sent     : List LinkWord := []      -- words 1 and on of the frame in progress
  time     : List LinkWord := []      -- the frame's time item
  hello    : List LinkWord := []      -- a HELLO that waits in this frame
  fixed    : List LinkWord := []      -- the rest of the item of classes 2 to 6 in progress, second copies among it
  tunnel   : List LinkWord := []      -- the rest of the tunnel item in progress
  bulk     : List LinkWord := []      -- the rest of the bulk item in progress
  line     : Option LinkWord := none  -- the last word put on the line
  countSet : Option TE := none        -- the first T_E of the count since the last set (R335)
deriving DecidableEq, Repr

/-- An item handed to a port for transmission (R334, R337). -/
inductive TxItem where
  | code  (i : CodeItem)
  | front (i : FrontItem)
  | gust  (i : GustItem)
  | joinRequest (i : JoinItem)
  | joinReply (i : JoinItem)
  | joinRefused (i : JoinItem)
  | leave (node : BitVec 14) (port : Fin 8)
  | detach
  | bulkResult (dest src : BitVec 14) (offset : BitVec 11) (failed : Bool)
  | tunnel (i : DataItem)
  | bulk (i : DataItem)
deriving DecidableEq, Repr

/-- A Brynline port (R329 to R349, R362). -/
structure Port where
  st       : PortSt := .disabled
  causes   : List DownCause := []
  peerSeen : Bool := false
  peerUp   : Bool := false                    -- the peer's role is upstream
  peerUid  : W64 := 0
  peerNode : W16 := 0xFFFF
  peerState : BitVec 2 := 0
  peerDepth : BitVec 4 := 0
  peerExt  : W16 := 0
  alphaEff : Int := 0                         -- α in force at Tide averages (R349)
  rtt      : Nat := 0                         -- :08
  delay    : Nat := 0                         -- :09
  rttRep   : Option Nat := none               -- round trip at the last asymmetry report
  rttBase  : Option Nat := none               -- round trip at the last change of α (items 19–26)
  sumRtt   : Int := 0                         -- sums over the frames of the Tide
  sumDiff  : Int := 0                         -- Σ (t4 − t3)
  frames   : Nat := 0
  theta    : Option Int := none               -- θ̄ of the last average formed
  haveAvg  : Bool := false
  timeLull : Bool := false                    -- the last time item carried the Lull bit
  timeValid : Bool := false                   -- … the time-valid bit
  timeSet  : Bool := false                    -- … the time-set bit
  lastT3d  : Option Instant := none           -- t3 + d of the last frame with a valid time item
  violations : W64 := 0
  crcErrs  : W64 := 0
  discards : W64 := 0
  linkUps  : W32 := 0
  overBudget : Bool := false
  arrived  : List (Byte × Instant) := []      -- numbers of the peer's latest 4 frames, and when their commas arrived (R343)
  tx       : List TxItem := []                -- items handed to the port, oldest first
  out      : LinkTx := {}                     -- what it is sending
  behind   : List (BitVec 14) := []           -- node IDs learned behind this port (R339)
  lastFront : Option FrontItem := none        -- for the second copy (R336)
  lastGust : Option GustItem := none
deriving DecidableEq, Repr

/-- A node present behind the root (R339 to R341): its ID, its unique ID, and the ports on the way down to it: the root's
port, then those its parents received its request on. -/
structure Member where
  node  : BitVec 14
  uid   : W64
  route : List (Fin 8)
deriving DecidableEq, Repr

/-- A lease the root holds (R341). -/
structure Lease where
  node  : BitVec 14
  uid   : W64
  ends  : TE
deriving DecidableEq, Repr

/-- The node in the fabric (R338 to R342), the Front (R353) and bulk transfer (R361). -/
structure Fabric where
  state    : Nat := 0                          -- 0x6000:03: 0 ALONE 1 JOINING 2 JOINED 3 ROOT
  nodeId   : W16 := 0xFFFF
  depth    : BitVec 4 := 0
  txBase   : TE := bigTurn                     -- latest restart of the transmit word clock (R333)
  offset   : Int := 0                          -- 0x6000:08
  steered  : Int := 0                          -- phase moved by steering since reset, in fu (R345)
  steerOk  : Bool := false                     -- R345: ALIGN or time set completed since the CSU was last outside
  setPending : Bool := false                   -- first valid frame after a step hold sets the count (R346)
  delivered : W64 := 0
  lateCodes : W64 := 0
  tunnelLost : W64 := 0
  maxDepth : BitVec 4 := 0
  roster   : List Member := []                 -- nodes present, the root excluded
  leases   : List Lease := []
  codesDue : List (TE × W16) := []              -- codes waiting for their due T_E
  frontSeq : Byte := 0                          -- 0x6400:03
  frontFresh : Bool := true                     -- joined since its last accepted Front
  frontWait : List (FrontItem × TE) := []       -- Fronts on their way to T_arm, oldest first
  armAt    : Instant := 0                       -- 0x6400:05
  seenGusts : List GustItem := []               -- Gusts already forwarded of the present arm
  gustRuns : List (Instant × Fin 16 × Bool) := []  -- Gusts executed: (execution instant, group, fabric)
  fronts   : List (TE × W16) := []              -- Fronts accepted: (T_arm, mask)
  sendSt   : Nat := 0                           -- 0x6300:02
  sendReq  : Option (BitVec 14 × Nat × Nat × Nat) := none  -- destination, first Pan, count, first window offset
  sent     : W16 := 0                           -- 0x6300:03
  windowOn : Bool := false
  windowHeld : List Nat := []                   -- window Pans the device still owns
  winFirst : Nat := 1                           -- window geometry at opening
  winCount : Nat := 1
  received : W32 := 0                           -- 0x6300:07
  failed   : List (BitVec 14 × Nat) := []       -- transfers to the window that failed: source, offset of the Pan that comes next
  outstanding : List (Byte × W16 × Requester × TE) := []  -- forwarded requests (R424)
deriving DecidableEq, Repr

/-- An arm group (R354 to R359). -/
structure ArmGroup where
  armed    : Bool := false
  executed : Bool := false
  seq      : Byte := 0
  latency  : Nat := 0
  cand     : Option (Instant × W16) := none      -- held candidate: T_fire, node
  winner   : Option (Instant × W16) := none      -- executed Gust
  execs    : W64 := 0
  lost     : W64 := 0
  late     : W64 := 0
  unarmed  : W64 := 0
deriving DecidableEq, Repr

/-- An egress requester's queue and a sender's count (R205, R352). -/
structure Egress where
  items : List EgressItem := []
  sent  : W64 := 0
deriving DecidableEq, Repr

/-! ## Saltern, event ring, host interfaces -/

/-- The owners of R367, codes 0 to 3. -/
inductive Owner where
  | free | host | device | frozen
deriving DecidableEq, Repr

/-- The flag and use of a Pan in the ownership store (R366 to R368). -/
structure PanFlag where
  owner : Owner := .free
  gen   : BitVec 6 := 0
  use   : Byte := 0
  changed : Option TE := none               -- when the device changed the flag, until the host does (R374)
deriving DecidableEq, Repr

/-- The event ring (R385 to R390). -/
structure Ring where
  on       : Bool := false
  st       : Nat := 0                       -- 0x1400:04
  first    : Nat := 0
  pans     : Nat := 0
  prod     : W32 := 0                       -- EVR_PROD
  cons     : W32 := 0                       -- EVR_CONS
  wr       : W32 := 0                       -- next index written, ahead of EVR_PROD until publication
  tide     : W64 := 0                       -- EVR_TIDE
  capacity : W32 := 0
  lost     : W64 := 0                       -- 0x1400:05
  gap      : Option (Nat × Instant) := none -- records lost since the last gap record
  since    : Instant := 0                   -- the ring holds events from here on
  latchTide : Option W64 := none            -- EVR_TIDE latched by a read of EVR_PROD
deriving DecidableEq, Repr

/-- One event of the merger (R65, R66): instant, source, detail code, flags. An anchor (R62) stands among the events with
its cause as source and its epoch as detail. -/
structure Event where
  at_     : Instant
  source  : Nat
  detail  : W32
  flags   : Byte
  anchor  : Bool := false
deriving DecidableEq, Repr

/-- A summary event building up over a Tide (R65): the ZTIME of its first case and its detail code so far. -/
structure Summary where
  at_    : Instant
  source : Nat
  key    : Nat                              -- the kind or unit that is counted apart
  detail : W32
  flags  : Byte
deriving DecidableEq, Repr

/-- A Tide that has ended and whose batch is not closed yet: its number, the T_E of the boundary that ended it, its
immediate events not taken yet, its summary events (R66, R68). -/
structure EndedTide where
  tide   : W64
  at_    : TE
  events : List Event
  sums   : List Summary
deriving DecidableEq, Repr

/-- A closed batch: its Tide, its events in ring order, the ring index after its last record (R68, R387). -/
structure Batch where
  tide   : W64
  events : List Event
  past   : W32
deriving DecidableEq, Repr

/-- The event merger (R65 to R71). -/
structure Merger where
  open_   : List Event := []                -- immediate events of the Tide in progress, in order of arrival
  sums    : List Summary := []              -- summary events of the Tide in progress
  once    : List (Nat × Nat) := []          -- (source, kind) raised this Tide, for events raised at most once a Tide
  taken   : List Event := []                -- events of the oldest open batch already taken, in ring order
  ended   : List EndedTide := []            -- Tides that ended, not closed yet, oldest first
  closed  : List Batch := []                -- closed batches waiting for publication, oldest first
  held    : List (Nat × W32 × Byte) := []   -- events of BOOT and LOAD, held until IDLE (R438)
  overruns : Nat := 0                       -- consecutive Tides overrun
deriving DecidableEq, Repr

/-- The endpoint's configuration space (R379), as PCI Express leaves it after reset (log entry 92). -/
structure PcieConfig where
  maxPayload : Nat := 128                   -- bytes
  maxRead    : Nat := 512                   -- bytes
  d3hot      : Bool := false
  msixOn     : Bool := false
  msixMask   : Bool := false                -- every vector masked
  aerStatus  : W32 := 0                     -- uncorrectable errors met
deriving DecidableEq, Repr

/-- An MSI-X memory write that was sent (R379, R383). -/
structure MsixWrite where
  vector  : Nat
  address : W64
  data    : W32
deriving DecidableEq, Repr

/-- A completion of a read of BAR2 (R377): its bytes, and whether it is a poisoned TLP. -/
structure Completion where
  bytes    : List Byte
  poisoned : Bool
deriving DecidableEq, Repr

/-- BAR0 and the PCI Express endpoint (R379 to R384). -/
structure HostIf where
  alertStatus : BitVec 4 := 0
  alertEnable : BitVec 4 := 3
  mbxBusy    : Bool := false
  mbxReady   : Bool := false
  mbxRequest : List Byte := []
  mbxResponse : List Byte := []
  msixPending : W32 := 0                    -- one bit per vector
  msixTable  : Vector W128 32 := Vector.replicate 32 (BitVec.ofNat 128 (2 ^ 96))  -- every vector masked, per PCI Express
  msixSent   : List MsixWrite := []         -- the last 64 messages, oldest first
  config     : PcieConfig := {}
  configRead : W32 := 0                     -- what the last configuration read gave
  linkUp     : Bool := false
  width      : BitVec 4 := 0
  speed      : BitVec 4 := 0
  completions : List Completion := []       -- of the last BAR2 read
  violations : W64 := 0                     -- 0x7000:06
  crs        : Bool := false                -- last configuration request answered with CRS
deriving DecidableEq, Repr

/-! ## Object dictionary, commits, KPP -/

/-- A stored OD value: a number in its type's encoding, or a byte string. -/
inductive OdVal where
  | num   (n : Nat)
  | bytes (b : List Byte)
deriving DecidableEq, Repr

/-- Stored settings: (index × 256 + sub-index, value), keys strictly rising, no entry equal to the default. -/
abbrev Settings := List (Nat × OdVal)

/-- One entry of a commit set or held set (R408, R409): object, value, whose it is, and whether a COMMIT put it there. -/
structure SetEntry where
  key   : Nat
  value : OdVal
  by_   : Requester
  committed : Bool := false
  moved : Bool := false                            -- it waits for another boundary than named (R414)
deriving DecidableEq, Repr

/-- A held set (R409). -/
structure HeldSet where
  by_     : Requester
  entries : List SetEntry := []
  touched : TE := 0
deriving DecidableEq, Repr

/-- The commit model (R408 to R414). -/
structure Commits where
  sets    : List (Nat × List SetEntry) := []      -- the set of each Tide that has one, rising; entries as accepted
  held    : List HeldSet := []
  restart : List (Nat × TE) := []                 -- statistics restarts: group and boundary (R278)
  prior   : Settings := []                        -- the settings in force before the last boundary (R145, R237, R243)
  priorEnd : TE := 0                              -- that boundary
  image   : Option Settings := none               -- the image's RWT values, applied as IDLE is entered (R437)
  carried : W64 := 0                              -- 0x1301:06
  moved   : Bool := false                         -- a statistics restart waits for another boundary than named (R414)
  confGen : W16 := 0                              -- 0x1300:04
deriving DecidableEq, Repr

/-- The response to the latest host request: abort code, applied Tide, payload. -/
structure Answer where
  status  : W32 := 0
  tide    : W64 := 0
  payload : List Byte := []
deriving DecidableEq, Repr

/-- A remembered response (R423). -/
structure Remembered where
  by_  : Requester
  transaction : W16
  opcode : Byte
  ans  : Answer
  lastSeg : Bool := false                        -- the header's last-segment flag
  at_  : TE
deriving DecidableEq, Repr

/-- An unfinished segmented transfer (R421). -/
structure Segment where
  by_   : Requester
  key   : Nat
  total : Nat
  data  : List Byte                              -- latched value, or the bytes accumulated
  hold  : Bool
  at_   : TE
deriving DecidableEq, Repr

/-- A subscription (R425). -/
structure Subscription where
  by_    : Requester
  mask   : BitVec 512
  empty  : Bool
  renewed : TE
  first  : Bool := true                          -- the next EVENT begins with a start anchor
  count  : W16 := 0
  lost   : W16 := 0
  unsent : List (List Byte) := []                -- EVENT messages waiting
deriving DecidableEq, Repr

/-- KPP sessions and subscriptions. -/
structure Kpp where
  memory   : List Remembered := []
  readSegs : List Segment := []
  writeSegs : List Segment := []
  subs     : List Subscription := []
  served   : W64 := 0
  replayed : W64 := 0
  dropped  : W64 := 0                            -- 0x1102:03
  loads    : List (Fin 64 × Requester × KppMsg) := []  -- Load WRITEs whose response is still due (R153, R197)
deriving DecidableEq, Repr

/-- The Ethernet lane (R426, R430). -/
structure Ethernet where
  linkUp    : Bool := false
  lease     : Option W32 := none                 -- address obtained by DHCP
  discarded : W64 := 0                           -- 0x1101:03
  queueFull : W64 := 0                           -- 0x1101:04
  reply     : List Byte := []                    -- the last answer sent: ARP, ICMP or KPP payload
  replyTo   : Nat := 0                           -- where it went: IPv4 address, for KPP with the UDP port in [15:0]
  replyFrom : Nat := 0                           -- where it came from, in the same form
  reached   : Nat := 0                           -- the address at which the request in hand came
deriving DecidableEq, Repr

/-- The SPI target (R427). -/
structure Spi where
  busy      : Bool := false                      -- a request is in hand
  ready     : Bool := false
  discarded : Bool := false                      -- status [2]
  response  : List Byte := []
  events    : List (List Byte) := []             -- at most 32
  out       : List Byte := []                    -- what MISO last shifted out
  lost      : W64 := 0                           -- 0x1101:05
deriving DecidableEq, Repr

/-! ## Flash and persistence -/

/-- A section of an image (R445). -/
structure Section where
  type     : W16
  critical : Bool
  log      : Bool
  value    : List Byte
deriving DecidableEq, Repr

/-- The margin-history log section of an image (R446, R455): its length, and its bytes from its start as far as anything
has been written; the rest reads as erased flash, 0xFF. -/
structure LogArea where
  length : Nat
  bytes  : List Byte := []
deriving DecidableEq, Repr

/-- The content of a flash slot: erased, a header without its magic, or an image (R442, R443). -/
structure Image where
  magic   : W32 := 0x5A54494D
  gen     : W16
  format  : W16 := 1
  length  : W32
  crc     : W32
  product : W32
  count   : W16
  savedBy : W16
  resv    : W64 := 0
  sections : List Section
  log     : Option LogArea := none               -- the log section, always the last one
deriving DecidableEq, Repr

/-- The external flash as the device sees it (R441, R442). Its content outlives a reset. -/
structure Flash where
  chip   : Option FlashChip := none              -- what discovery found
  slotA  : Option Image := none                  -- none = erased
  slotB  : Option Image := none
deriving DecidableEq, Repr

/-- Persistence (R449 to R459). -/
structure Persist where
  bootedFrom : Nat := 0
  bootedGen  : W16 := 0
  stateA     : Nat := 6
  genA       : W16 := 0
  stateB     : Nat := 6
  genB       : W16 := 0
  applied    : W16 := 0
  refused    : W16 := 0
  firstRef   : W32 := 0xFFFFFFFF
  firstCode  : W32 := 0
  logSlot    : Nat := 0                          -- the slot that margin appends go to: 0 none, 1 A, 2 B
  logNext    : Nat := 0                          -- where the next record is written, from the log's start
  logCount   : Nat := 0                          -- valid records
  logSeq     : W32 := 0                          -- sequence number of the next record
  logFull    : Bool := false                     -- 490 kind 7 raised since boot
  idleTide   : Nat := 0                          -- Tide number of entry into IDLE, from which the cadence counts
  lastAppend : Nat := 0                          -- Tide number of the last cadence append, or of entry into IDLE
  deferred   : Nat := 0                          -- appends that wait for SAVE
  lastRecord : Nat := 0                          -- where the last record was appended, from the log's start
  appendEnd  : TE := 0                           -- until when its programming can last
  target     : Option (Nat × Image) := none      -- slot (1 = A, 2 = B) and image SAVE writes
  tuning     : Option (List Byte) := none        -- factory-tuning section of the booted image (R446, R448)
  patch      : Option (List Byte) := none        -- its ROM-patch section, copied by SAVE (R450)
deriving DecidableEq, Repr

/-! ## Health -/

/-- A word in memory `mem` of cluster `cl` (R461). -/
structure MemWord where
  mem  : Nat
  cl   : Nat
  addr : Nat
deriving DecidableEq, Repr

/-- One item of the margin plan (R473, R474). -/
structure MarginItem where
  measurement : Int := 0
  margin      : Int := 0
  rate        : Int := 0                         -- Q16.16 per day
  exhaustion  : W64 := 0xFFFFFFFFFFFFFFFF
  age         : Nat := 0
  stale       : Bool := false
  changed     : Bool := false
  recommended : Nat := 0
  points      : List (Option (Nat × Int)) := []  -- (Tide, margin) of the last 720 updates, newest first
  known       : Bool := false                    -- a margin was computed
  good        : Nat := 0                         -- consecutive updates at three quarters of the budget
  hour        : Option Int := none               -- largest measurement of the hour in progress; items 6–9: the latest ratio
  low         : Bool := false                    -- 495 kind 1 condition holds
  soon        : Bool := false                    -- 495 kind 2 condition holds
  next        : Option Nat := none               -- setting that the autonomous class gives at the next boundary (R475)
deriving DecidableEq, Repr

/-- Health: memory errors, temperature, supplies, shutdown record (R461 to R470). -/
structure Health where
  errs      : List (MemWord × Bool) := []        -- words with a bit error: false = one bit, true = two
  poisoned  : List MemWord := []
  corrected : W64 := 0
  poisons   : W64 := 0
  lastPoison : W32 := 0xFFFFFFFF
  lastPass  : W64 := 0
  passStart : Nat := 0                           -- the Tide in which the scrub's pass began
  passFrom  : TE := bigTurn                      -- its first T_E
  passErrs  : List (MemWord × Bool) := []        -- the errors that stood then
  injArmed  : Bool := false
  hourAt    : Option TE := none                  -- the boundary of the last hourly update
  unreported : Bool := false                     -- a shutdown since the last LOAD (R19)
  temps     : Vector Int 8 := Vector.replicate 8 0   -- 1/65536 °C
  alarms    : Vector Bool 8 := Vector.replicate 8 false
  rails     : Vector Nat 12 := Vector.replicate 12 0
  outside   : Vector Bool 12 := Vector.replicate 12 false
  causes    : BitVec 2 := 0                      -- shutdown-cause record (non-volatile)
  sensor    : Byte := 0xFF
  regulator : Byte := 0xFF
  shutTemp  : W16 := 0
  shutdowns : W32 := 0
deriving DecidableEq, Repr

/-- A level at a digital ball. -/
inductive Pin where
  | low | high | z
deriving DecidableEq, Repr

/-- The balls that hold state of their own, and the boundary-scan port (R329, R439, R501). -/
structure Pins where
  ready   : Pin := .low
  alertN  : Pin := .high
  los     : Vector Bool 8 := Vector.replicate 8 false
  modabs  : Vector Bool 8 := Vector.replicate 8 false
  ext     : Vector (Trace Bool) 4 := Vector.replicate 4 []   -- EXTTRIG levels
  tapInstr : TapOp := .idcode
  tapData : W32 := 0x26432B4F                    -- what TDO shifts out: IDCODE, 0 for BYPASS, boundary cells
  preload : W32 := 0                             -- what PRELOAD put into the boundary cells
  driven  : Option W32 := none                   -- what EXTEST drives the balls to while RESET_N is low
deriving DecidableEq, Repr

/-! ## The whole state -/

/-- The state of the device and the queue of commands that wait (R1 to R508). -/
structure State where
  part    : Part
  pending : List Instr
  boot    : Boot
  time    : TimeState
  dev     : Dev
  csu     : Csu
  clkout  : Vector ClkOut 8
  edge    : Vector EdgeEngine 64
  delay   : Vector Delay 64
  seq     : Vector Sequencer 64
  drv     : Vector Driver 64
  trip    : Vector TripLatch 64
  store   : Vector Store 4
  sti     : Vector StampInput 32
  grp     : Vector Group 32
  stat    : Vector StatRun 32
  line    : List (TE × LineDue)            -- what the data plane has on the way, in the order in which it is due
  mon     : Vector Monitor 32
  tripin  : TripIn
  xbar    : Vector Crossbar 4
  trig    : Vector TrigEngine 4
  cap     : Vector Capture 4
  drz     : Vector Drizzle 4
  port    : Vector Port 8
  fab     : Fabric
  armg    : Vector ArmGroup 16
  sender  : Vector Egress 32               -- event-code senders (R352)
  gustq   : Vector Egress 64               -- the channels' fabric GUST items (R205)
  mem     : List Host.Cell                 -- the Saltern
  own     : List (Nat × PanFlag)           -- ownership store: Pans whose flag is not free at generation 0
  ring    : Ring
  merger  : Merger
  host    : HostIf
  od      : Settings
  parity  : List (Nat × List Byte)         -- stored values that meet a parity error, by key, and the value then (R401)
  commits : Commits
  kpp     : Kpp
  eth     : Ethernet
  spi     : Spi
  flash   : Flash
  persist : Persist
  health  : Health
  margin  : Vector MarginItem 27
  pins    : Pins
  answer  : Answer
  free    : Nat                            -- the model's own counter of free values
deriving DecidableEq, Repr

/-- Why a step can stop: no command faults. -/
inductive Fault where
deriving DecidableEq, Repr

/-- Why the model can give a command no meaning. -/
inductive Refusal where
  /-- Raised only by an arm of `exec` whose command has no meaning yet. Safe: nothing can be proved of such a step. -/
  | notModelled (mnemonic : String)
deriving DecidableEq, Repr

/-- The machine at t_P, when power-on reset is released (R434): device state BOOT, CSU OFF, no T_E counted, no command
waiting, no setting different from its default. -/
def State.reset : State where
  part := .zt6432
  pending := []
  boot := {}
  time := {}
  dev := {}
  csu := {}
  clkout := Vector.replicate 8 {}
  edge := Vector.replicate 64 {}
  delay := Vector.replicate 64 {}
  seq := Vector.replicate 64 {}
  drv := Vector.replicate 64 {}
  trip := Vector.replicate 64 {}
  store := Vector.replicate 4 {}
  sti := Vector.replicate 32 {}
  grp := Vector.replicate 32 {}
  stat := Vector.replicate 32 {}
  line := []
  mon := Vector.replicate 32 {}
  tripin := {}
  xbar := Vector.replicate 4 {}
  trig := Vector.replicate 4 {}
  cap := Vector.replicate 4 {}
  drz := Vector.replicate 4 {}
  port := Vector.replicate 8 {}
  fab := {}
  armg := Vector.replicate 16 {}
  sender := Vector.replicate 32 {}
  gustq := Vector.replicate 64 {}
  mem := []
  own := [(0, { owner := .frozen, gen := 0, use := 0xD0 })]
  ring := {}
  merger := {}
  host := {}
  od := []
  parity := []
  commits := {}
  kpp := {}
  eth := {}
  spi := {}
  flash := {}
  persist := {}
  health := {}
  margin := Vector.replicate 27 {}
  pins := {}
  answer := {}
  free := 0

end Sys2Proof.Machine
end

