-- ==== Sys2Proof/Machine/Operands.lean ====
section
/-!
DEFINITION. Operand forms: little-endian byte strings (R9), ZTIME and ZDELTA words (R38, R42), signed fields, and the
saturations the event tables ask for.
-/
namespace Sys2Proof.Machine

/-! ## Bytes -/

/-- The `n` bytes of `v`, least significant first (R9). -/
def toBytes : Nat → Nat → List Byte
  | 0, _ => []
  | n + 1, v => BitVec.ofNat 8 v :: toBytes n (v / 256)

/-- The number that bytes spell, least significant first (R9). -/
def ofBytes : List Byte → Nat
  | [] => 0
  | b :: bs => b.toNat + 256 * ofBytes bs

/-- `n` bytes of a list from `off`, absent ones 0. -/
def slice (l : List Byte) (off n : Nat) : List Byte :=
  let t := (l.drop off).take n
  t ++ List.replicate (n - t.length) 0

/-- The number in `n` bytes from `off`. -/
def field (l : List Byte) (off n : Nat) : Nat := ofBytes (slice l off n)

/-! ## CRC-32 (R360, R444) -/

/-- One bit of the reflected CRC-32 of IEEE 802.3. -/
def crcBit (c : W32) : W32 := if c.getLsbD 0 then (c >>> 1) ^^^ 0xEDB88320 else c >>> 1

/-- One byte of it. -/
def crcByte (c : W32) (b : Byte) : W32 :=
  crcBit (crcBit (crcBit (crcBit (crcBit (crcBit (crcBit (crcBit (c ^^^ b.setWidth 32))))))))

/-- The CRC-32 of bytes (R444): initial value and final inversion all ones. -/
def crc32 (l : List Byte) : W32 := ~~~(l.foldl crcByte 0xFFFFFFFF)

/-! ## Signed fields -/

/-- Two's-complement code of `i` in `w` bits. -/
def signedCode (w : Nat) (i : Int) : Nat := (i % (2 ^ w : Int)).toNat

/-- The value of a two's-complement code in `w` bits. -/
def signedVal (w n : Nat) : Int := if n % 2 ^ w < 2 ^ (w - 1) then n % 2 ^ w else (n % 2 ^ w : Int) - 2 ^ w

/-- `i` limited to a span. -/
def clampInt (lo hi i : Int) : Int := max lo (min hi i)

/-- `n` limited to `m`. -/
def satNat (m n : Nat) : Nat := min n m

/-- Quotient rounded to the nearest integer, halves upward. -/
def roundDiv (a : Int) (b : Nat) : Int := (2 * a + b) / (2 * b)

/-- Bits `lo .. lo+w−1` of `n`. -/
def bits (n lo w : Nat) : Nat := n / 2 ^ lo % 2 ^ w

/-- Bit `i` of `n`. -/
def bit (n i : Nat) : Bool := n.testBit i

/-! ## ZTIME and ZDELTA (R38 to R43) -/

/-- The number of T_E counts in (epoch, coarse): 2^32 epochs of 2^52 (R38, R44). -/
abbrev countMod : Nat := 2 ^ 84

/-- The coarse field of a T_E count (R38). -/
def coarseOf (a : TE) : Nat := a % 2 ^ 52
/-- The epoch of a T_E count (R44, R49). -/
def epochOf (a : TE) : W32 := BitVec.ofNat 32 (a / 2 ^ 52)
/-- The ZTIME word of an instant (R38). -/
def ztime (x : Instant) : W64 := BitVec.ofNat 64 (coarseOf (x / fuPerTE) * 4096 + x % fuPerTE)
/-- The ZTIME word of the start of a T_E. -/
def ztimeTE (a : TE) : W64 := ztime (a * fuPerTE)
/-- The epoch of an instant. -/
def epochAt (x : Instant) : W32 := epochOf (x / fuPerTE)
/-- The start of a T_E as an instant. -/
def startOf (a : TE) : Instant := a * fuPerTE
/-- The T_E that holds an instant. -/
def teOf (x : Instant) : TE := x / fuPerTE
/-- The first T_E that starts at or after an instant. -/
def teCeil (x : Instant) : TE := (x + (fuPerTE - 1)) / fuPerTE

/-- The fine field of a ZTIME or ZDELTA word. -/
def fineField (w : Nat) : Nat := w % 4096
/-- R39: the word carries no invalid fine code. -/
def fineOk (w : Nat) : Bool := fineField w < fuPerTE

/-- The whole turns of (epoch, coarse) in a count: the count itself is not reduced (R44; log entry 98). -/
def turnsOf (a : TE) : TE := a / countMod * countMod

/-- The count that stands for `v` modulo `m` and lies nearest to `a`, by the difference as a signed number (R46). -/
def nearest (m a v : Nat) : Nat :=
  let d := (v % m + m - a % m) % m
  if d < m / 2 then a + d else a + d - m

/-- A time as a sequencer compares it with T_E `a`: by the coarse difference modulo 2^52, signed (R46). -/
def nearCoarse (a : TE) (x : Instant) : Instant := nearest (2 ^ 52) a (x / fuPerTE) * fuPerTE + x % fuPerTE

/-- The instant an (epoch, ZTIME) pair denotes (R38, R45). -/
def instantOf (epoch zt : Nat) : Instant := (epoch % 2 ^ 32 * 2 ^ 52 + zt / 4096 % 2 ^ 52) * fuPerTE + fineField zt

/-- The duration in fu of a ZDELTA word (R42). -/
def zdeltaVal (w : Nat) : Int := signedVal 52 (w / 4096) * fuPerTE + fineField w

/-- The ZDELTA word of a duration in fu (R42): the coarse part rounds towards minus infinity. -/
def zdeltaCode (d : Int) : Nat := signedCode 52 (d / fuPerTE) * 4096 + (d % fuPerTE).toNat

/-- `add_time` of R43 on an (epoch, ZTIME) pair and a ZDELTA word. -/
def addTime (epoch : W32) (t d : W64) : W32 × W64 :=
  let x := (instantOf epoch.toNat t.toNat : Int) + zdeltaVal d.toNat
  let y := (x % ((countMod * fuPerTE : Nat) : Int)).toNat
  (epochAt y, ztime y)

/-- `diff_time` of R43: (e2, t2) − (e1, t1) as a ZDELTA word. -/
def diffTime (e2 : W32) (t2 : W64) (e1 : W32) (t1 : W64) : W64 :=
  BitVec.ofNat 64 (zdeltaCode ((instantOf e2.toNat t2.toNat : Int) - (instantOf e1.toNat t1.toNat : Int)))

/-- `epoch_of` of R64: the epoch of a record with coarse field `c` after an anchor with `payload` and coarse `ac`. -/
def recordEpoch (c ac : Nat) (payload : W32) : W32 :=
  let d := signedVal 52 ((c + 2 ^ 52 - ac % 2 ^ 52) % 2 ^ 52)
  BitVec.ofNat 32 (((payload.toNat * 2 ^ 52 + ac : Int) + d) / 2 ^ 52 % 2 ^ 32).toNat

/-- R54: serial-number comparison of n-bit counters, true when `b` is newer than `a`. -/
def newer (n : Nat) (b a : Nat) : Bool :=
  let d := (b + 2 ^ n - a % 2 ^ n) % 2 ^ n
  decide (0 < d) && decide (d < 2 ^ (n - 1))

/-! ## Tides (R49) -/

/-- T_E in a Tide. -/
abbrev tideLen : Nat := 1000000
/-- The Tide that holds a T_E (R49). -/
def tideOf (a : TE) : Nat := a / tideLen
/-- The Tide number word (R49): modulo 2^64. -/
def tideWord (a : TE) : W64 := BitVec.ofNat 64 (tideOf a)
/-- The Tide of the present turn that a Tide number names (R49). -/
def tideNamed (a : TE) (n : Nat) : Nat := tideOf a / 2 ^ 64 * 2 ^ 64 + n % 2 ^ 64
/-- The first Tide boundary at least 25,000 T_E after `w` (R403, R408). -/
def usableBoundary (w : TE) : TE := (w + 25000 + (tideLen - 1)) / tideLen * tideLen
/-- The first Tide boundary after `a`. -/
def nextTide (a : TE) : TE := (tideOf a + 1) * tideLen

/-! ## Canonical association lists -/

/-- The value listed for a key. -/
def assocFind {α : Type} : List (Nat × α) → Nat → Option α
  | [], _ => none
  | (k, v) :: rest, key => if k = key then some v else assocFind rest key

/-- The list with the key at a value, in rising order of keys, or without the key. -/
def assocPut {α : Type} : List (Nat × α) → Nat → Option α → List (Nat × α)
  | [], key, some v => [(key, v)]
  | [], _, none => []
  | (k, w) :: rest, key, v =>
    if key < k then match v with | some x => (key, x) :: (k, w) :: rest | none => (k, w) :: rest
    else if key = k then match v with | some x => (key, x) :: rest | none => rest
    else (k, w) :: assocPut rest key v

/-- The keys rise strictly. -/
def assocSorted {α : Type} : List (Nat × α) → Bool
  | [] => true
  | [_] => true
  | (k, _) :: (k', v) :: rest => decide (k < k') && assocSorted ((k', v) :: rest)

/-! ## Traces -/

/-- The value a trace shows in T_E `a`; `d` before its first entry. -/
def traceAt {α : Type} (d : α) : Trace α → TE → α
  | [], _ => d
  | (t, v) :: rest, a => if t ≤ a then v else traceAt d rest a

/-- A trace with a new value from T_E `t` on: entries from `t` on are superseded, equal values are not repeated. -/
def tracePut {α : Type} [DecidableEq α] (d : α) (tr : Trace α) (t : TE) (v : α) : Trace α :=
  let old := tr.filter (fun e => e.1 < t)
  if traceAt d old t = v then old else (t, v) :: old

/-- The part of a trace still needed from T_E `from_` on. -/
def traceTrim {α : Type} (tr : Trace α) (from_ : TE) : Trace α :=
  let newer := tr.filter (fun e => from_ < e.1)
  match tr.find? (fun e => e.1 ≤ from_) with
  | some e => newer ++ [e]
  | none => newer

/-- The product code of the part (R2, R443). -/
def Part.product : Part → W32
  | .zt6432 => 0x6432 | .zt3216 => 0x3216

end Sys2Proof.Machine
end

