-- ==== Sys2Proof/Machine/OdTable.lean ====
section
/-!
DEFINITION. The object dictionary: the types and access classes of R396 and R398, the entries of every section's object
table, the index map of R432, and the stored settings.
-/
namespace Sys2Proof.Machine

/-- The value types of R396. A DOMAIN has a stated length, or a largest length. -/
inductive OdType where
  | bool | u8 | u16 | u32 | u64 | i8 | i16 | i32 | i64 | ztime | zdelta | q16 | string
  | domain (len : Nat) | domainUpTo (len : Nat) | enum8 | mask64
deriving DecidableEq, Repr

/-- The access classes of R398. -/
inductive Access where
  | const | ro | wo | rw | rwi | rwh | rwt
deriving DecidableEq, Repr

/-- What the Range column admits (R397): anything of the type, a span of values, listed codes, or a bit mask outside
which every bit is reserved (R10). `custom` ranges are checked by the object's own rule. -/
inductive OdRange where
  | any
  | span (lo hi : Int)
  | codes (l : List Nat)
  | mask (m : Nat)
  | custom
deriving DecidableEq, Repr

/-- One line of an object table: its sub-indices, type, access class, default code and range. -/
structure OdEntry where
  lo    : Nat
  hi    : Nat
  type  : OdType
  acc   : Access
  dflt  : Nat
  range : OdRange
deriving DecidableEq, Repr

/-- An index template: one record, one record a unit (base, stride, units of the two parts), or the sequencer records
0x5010 + 0x100·cl + j. -/
inductive Tmpl where
  | one (base : Nat)
  | per (base stride n64 n32 : Nat)
  | seqs
deriving DecidableEq, Repr

/-- A record of the OD (R395): its template, the value of sub-index 0, its entries. -/
structure OdRecord where
  tmpl    : Tmpl
  top     : Nat
  entries : List OdEntry
deriving DecidableEq, Repr

/-- The number of clusters of a part (R1). -/
def Part.clusters : Part → Nat
  | .zt6432 => 4
  | .zt3216 => 2

/-- The unit an index names under a template (R432), none where it names no unit present on the part. -/
def Tmpl.unit (p : Part) (idx : Nat) : Tmpl → Option Nat
  | .one b => if idx = b then some 0 else none
  | .per b st n64 n32 =>
    let n := match p with | .zt6432 => n64 | .zt3216 => n32
    if b ≤ idx then
      if (idx - b) % st = 0 then if (idx - b) / st < n then some ((idx - b) / st) else none else none
    else none
  | .seqs =>
    if 0x5000 ≤ idx then
      let cl := (idx - 0x5000) / 0x100
      let o := (idx - 0x5000) % 0x100
      if cl < p.clusters then if 0x10 ≤ o then if o < 0x20 then some (16 * cl + (o - 0x10)) else none else none else none
    else none

/-- The type codes of R396. -/
def OdType.code : OdType → Nat
  | .bool => 0x01 | .u8 => 0x02 | .u16 => 0x03 | .u32 => 0x04 | .u64 => 0x05 | .i8 => 0x06 | .i16 => 0x07 | .i32 => 0x08
  | .i64 => 0x09 | .ztime => 0x0A | .zdelta => 0x0B | .q16 => 0x0C | .string => 0x0D | .domain _ => 0x0E
  | .domainUpTo _ => 0x0E | .enum8 => 0x0F | .mask64 => 0x10

/-- The length in bytes of a value of fixed length (R396); for STRING and variable DOMAINs the largest length. -/
def OdType.len : OdType → Nat
  | .bool => 1 | .u8 => 1 | .u16 => 2 | .u32 => 4 | .u64 => 8 | .i8 => 1 | .i16 => 2 | .i32 => 4 | .i64 => 8
  | .ztime => 8 | .zdelta => 8 | .q16 => 4 | .string => 64 | .domain n => n | .domainUpTo n => n | .enum8 => 1
  | .mask64 => 8

/-- The access-class codes of R398. -/
def Access.code : Access → Nat
  | .const => 0 | .ro => 1 | .wo => 2 | .rw => 3 | .rwi => 4 | .rwh => 5 | .rwt => 6

/-- The number a value of the type stands for (R396), as an integer: signed types by two's complement, durations in fu. -/
def OdType.value (t : OdType) (n : Nat) : Int :=
  match t with
  | .i8 => signedVal 8 n | .i16 => signedVal 16 n | .i32 => signedVal 32 n | .i64 => signedVal 64 n
  | .q16 => signedVal 32 n | .zdelta => zdeltaVal n
  | _ => n

/-- One default entry of the capture table (R204): entry 4b + c. -/
def captureDefault (e : Nat) : Byte :=
  let b := e / 4
  match e % 4 with
  | 0 => BitVec.ofNat 8 b
  | 1 => BitVec.ofNat 8 (0x10 + 2 * b % 8)
  | 2 => BitVec.ofNat 8 (0x10 + (2 * b + 1) % 8)
  | _ => if b % 2 = 0 then 0x18 else 0x19

/-- The default slot tables of R204: 1 capture, 2 statistics, 3 egress. -/
def slotDefault : Nat → List Byte
  | 1 => (List.range 64).map captureDefault
  | 2 => (List.range 64).map (fun e => BitVec.ofNat 8 (e % 8))
  | 3 => (List.range 8).map (fun e => if e % 2 = 1 then BitVec.ofNat 8 (0x10 + (e - 1) / 2) else 0x20)
  | _ => []

/-! ## The object tables -/

/-- 0x1000 (R2, R429). -/
def recIdentity : OdRecord where
  tmpl := .one 0x1000
  top := 8
  entries := [
    ⟨0x01, 0x01, .string, .const, 0, .any⟩,
    ⟨0x02, 0x02, .u32, .const, 0x6432, .any⟩,
    ⟨0x03, 0x03, .u8, .const, 0xb0, .any⟩,
    ⟨0x04, 0x04, .enum8, .const, 0, .any⟩,
    ⟨0x05, 0x05, .u8, .const, 0xf, .any⟩,
    ⟨0x06, 0x06, .u8, .const, 0xff, .any⟩,
    ⟨0x07, 0x07, .u16, .const, 0, .any⟩,
    ⟨0x08, 0x08, .u16, .const, 1, .any⟩]

/-- 0x1100 (R430). -/
def recEthernet : OdRecord where
  tmpl := .one 0x1100
  top := 10
  entries := [
    ⟨0x01, 0x01, .u64, .const, 0, .any⟩,
    ⟨0x02, 0x02, .enum8, .rwi, 1, .codes [0, 1]⟩,
    ⟨0x03, 0x03, .u32, .rwi, 0, .any⟩,
    ⟨0x04, 0x04, .u32, .rwi, 0xffffff00, .any⟩,
    ⟨0x05, 0x05, .u32, .rwi, 0, .any⟩,
    ⟨0x06, 0x06, .u32, .ro, 0, .any⟩,
    ⟨0x07, 0x07, .u16, .const, 0xcbca, .any⟩,
    ⟨0x08, 0x08, .enum8, .ro, 0, .any⟩,
    ⟨0x09, 0x09, .u32, .rwi, 0, .any⟩,
    ⟨0x0A, 0x0A, .u32, .rwi, 0, .any⟩]

/-- 0x1101 (R430). -/
def recRequests : OdRecord where
  tmpl := .one 0x1101
  top := 5
  entries := [
    ⟨0x01, 0x01, .u64, .ro, 0, .any⟩,
    ⟨0x02, 0x02, .u64, .ro, 0, .any⟩,
    ⟨0x03, 0x03, .u64, .ro, 0, .any⟩,
    ⟨0x04, 0x04, .u64, .ro, 0, .any⟩,
    ⟨0x05, 0x05, .u64, .ro, 0, .any⟩]

/-- 0x1102 (R430). -/
def recSubscriptions : OdRecord where
  tmpl := .one 0x1102
  top := 3
  entries := [
    ⟨0x01, 0x01, .u16, .rwh, 0x3c, .span 10 3600⟩,
    ⟨0x02, 0x02, .u8, .ro, 0, .any⟩,
    ⟨0x03, 0x03, .u64, .ro, 0, .any⟩]

/-- 0x1200 (R459). -/
def recPersistence : OdRecord where
  tmpl := .one 0x1200
  top := 12
  entries := [
    ⟨0x01, 0x01, .enum8, .ro, 0, .any⟩,
    ⟨0x02, 0x02, .u16, .ro, 0, .any⟩,
    ⟨0x03, 0x03, .enum8, .ro, 0, .any⟩,
    ⟨0x04, 0x04, .u16, .ro, 0, .any⟩,
    ⟨0x05, 0x05, .enum8, .ro, 0, .any⟩,
    ⟨0x06, 0x06, .u16, .ro, 0, .any⟩,
    ⟨0x07, 0x07, .u16, .ro, 0, .any⟩,
    ⟨0x08, 0x08, .u16, .ro, 0, .any⟩,
    ⟨0x09, 0x09, .u32, .ro, 0, .any⟩,
    ⟨0x0A, 0x0A, .u32, .ro, 0, .any⟩,
    ⟨0x0B, 0x0B, .u32, .ro, 0, .any⟩,
    ⟨0x0C, 0x0C, .u32, .ro, 0, .any⟩]

/-- 0x1201 (R459). -/
def recMarginLog : OdRecord where
  tmpl := .one 0x1201
  top := 5
  entries := [
    ⟨0x01, 0x01, .u16, .rwh, 0x18, .span 0 8760⟩,
    ⟨0x02, 0x02, .u32, .ro, 0, .any⟩,
    ⟨0x03, 0x03, .u32, .ro, 0, .any⟩,
    ⟨0x04, 0x04, .u32, .ro, 0, .any⟩,
    ⟨0x05, 0x05, .bool, .wo, 0, .any⟩]

/-- 0x1202 (R459). -/
def recStartUp : OdRecord where
  tmpl := .one 0x1202
  top := 2
  entries := [
    ⟨0x01, 0x01, .u16, .rwi, 0x32, .span 0 1000⟩,
    ⟨0x02, 0x02, .u32, .ro, 0, .any⟩]

/-- 0x1300 (R431). -/
def recDevice : OdRecord where
  tmpl := .one 0x1300
  top := 8
  entries := [
    ⟨0x01, 0x01, .enum8, .wo, 0, .custom⟩,
    ⟨0x02, 0x02, .enum8, .ro, 0, .any⟩,
    ⟨0x03, 0x03, (.domain 12), .rw, 0xc, .custom⟩,
    ⟨0x04, 0x04, .u16, .ro, 0, .any⟩,
    ⟨0x05, 0x05, .enum8, .ro, 0, .any⟩,
    ⟨0x06, 0x06, .u64, .ro, 0, .any⟩,
    ⟨0x07, 0x07, .u32, .ro, 0, .any⟩,
    ⟨0x08, 0x08, .u32, .ro, 0, .any⟩]

/-- 0x1301 (R431). -/
def recCommitState : OdRecord where
  tmpl := .one 0x1301
  top := 6
  entries := [
    ⟨0x01, 0x01, .u64, .ro, 0, .any⟩,
    ⟨0x02, 0x02, .u16, .ro, 0, .any⟩,
    ⟨0x03, 0x03, .u8, .ro, 0, .any⟩,
    ⟨0x04, 0x04, .u8, .ro, 0, .any⟩,
    ⟨0x05, 0x05, .u32, .const, 0x61a8, .any⟩,
    ⟨0x06, 0x06, .u64, .ro, 0, .any⟩]

/-- 0x1302 (R431). -/
def recTransfer : OdRecord where
  tmpl := .one 0x1302
  top := 1
  entries := [
    ⟨0x01, 0x01, (.domain 12), .wo, 0, .custom⟩]

/-- 0x1400 (R392). -/
def recEventRing : OdRecord where
  tmpl := .one 0x1400
  top := 5
  entries := [
    ⟨0x01, 0x01, .u16, .rwt, 1, .span 1 2047⟩,
    ⟨0x02, 0x02, .u16, .rwt, 4, .span 1 256⟩,
    ⟨0x03, 0x03, .bool, .rwt, 0, .any⟩,
    ⟨0x04, 0x04, .enum8, .ro, 0, .any⟩,
    ⟨0x05, 0x05, .u64, .ro, 0, .any⟩]

/-- 0x1401 (R392). -/
def recVectors : OdRecord where
  tmpl := .one 0x1401
  top := 2
  entries := [
    ⟨0x01, 0x01, (.domain 512), .rwt, 0x200, .custom⟩,
    ⟨0x02, 0x02, (.domain 64), .rwt, 0x40, .any⟩]

/-- 0x2000 (R74). -/
def recCsuConfig : OdRecord where
  tmpl := .one 0x2000
  top := 11
  entries := [
    ⟨0x01, 0x01, .enum8, .rwi, 0, .codes [0, 1, 2, 3, 4, 5, 6, 7, 8]⟩,
    ⟨0x02, 0x02, .u32, .rwi, 0x5f5e100, .span 10000000 500000000⟩,
    ⟨0x03, 0x03, .enum8, .rwi, 1, .codes [0, 1, 2]⟩,
    ⟨0x04, 0x04, .u16, .rwi, 0x64, .span 36 1100⟩,
    ⟨0x05, 0x05, .u8, .rwi, 9, .span 0 15⟩,
    ⟨0x06, 0x06, .u8, .rwi, 3, .span 0 7⟩,
    ⟨0x07, 0x07, .u8, .rwi, 0xa, .span 0 15⟩,
    ⟨0x08, 0x08, .u16, .rwi, 0x64, .span 1 1000⟩,
    ⟨0x09, 0x09, .u16, .rwi, 0xa, .span 1 1000⟩,
    ⟨0x0A, 0x0A, .enum8, .rwi, 0, .codes [0, 1]⟩,
    ⟨0x0B, 0x0B, .bool, .wo, 0, .any⟩]

/-- 0x2001 (R84). -/
def recCsuLock : OdRecord where
  tmpl := .one 0x2001
  top := 5
  entries := [
    ⟨0x01, 0x01, .u8, .rwi, 5, .span 1 32⟩,
    ⟨0x02, 0x02, .u16, .rwi, 0x400, .span 16 65535⟩,
    ⟨0x03, 0x03, .u8, .rwi, 0xa, .span 1 32⟩,
    ⟨0x04, 0x04, .u16, .rwi, 4, .span 1 65535⟩,
    ⟨0x05, 0x05, .u16, .rwi, 0x32, .span 1 1000⟩]

/-- 0x2002 (R90). -/
def recCsuAlign : OdRecord where
  tmpl := .one 0x2002
  top := 3
  entries := [
    ⟨0x01, 0x01, .enum8, .rwi, 0, .codes [0, 1, 2]⟩,
    ⟨0x02, 0x02, .u16, .rwi, 0x64, .span 1 1000⟩,
    ⟨0x03, 0x03, .bool, .rwi, 1, .any⟩]

/-- 0x2003 (R87). -/
def recCsuStatus : OdRecord where
  tmpl := .one 0x2003
  top := 10
  entries := [
    ⟨0x01, 0x01, .enum8, .ro, 0, .any⟩,
    ⟨0x02, 0x02, .bool, .ro, 0, .any⟩,
    ⟨0x03, 0x03, .bool, .ro, 0, .any⟩,
    ⟨0x04, 0x04, .i32, .ro, 0, .any⟩,
    ⟨0x05, 0x05, .u8, .ro, 0, .any⟩,
    ⟨0x06, 0x06, .u32, .ro, 0, .any⟩,
    ⟨0x07, 0x07, .u32, .ro, 0, .any⟩,
    ⟨0x08, 0x08, .i16, .ro, 0, .any⟩,
    ⟨0x09, 0x09, .bool, .ro, 0, .any⟩,
    ⟨0x0A, 0x0A, .u32, .ro, 0, .any⟩]

/-- 0x2004 (R125). -/
def recCsuLoss : OdRecord where
  tmpl := .one 0x2004
  top := 3
  entries := [
    ⟨0x01, 0x01, .enum8, .rwh, 0, .codes [0, 1]⟩,
    ⟨0x02, 0x02, .u16, .rwh, 1, .span 0 1000⟩,
    ⟨0x03, 0x03, .u16, .rwh, 0x64, .span 1 1000⟩]

/-- 0x2005 (R125). -/
def recCsuHold : OdRecord where
  tmpl := .one 0x2005
  top := 8
  entries := [
    ⟨0x01, 0x01, .u32, .ro, 0, .any⟩,
    ⟨0x02, 0x02, .u32, .ro, 0, .any⟩,
    ⟨0x03, 0x03, .bool, .ro, 0, .any⟩,
    ⟨0x04, 0x04, .q16, .rwh, 0, .span (-2000 * 65536) (2000 * 65536)⟩,
    ⟨0x05, 0x05, .enum8, .ro, 0, .any⟩,
    ⟨0x06, 0x06, .q16, .ro, 0, .any⟩,
    ⟨0x07, 0x07, .u32, .ro, 0, .any⟩,
    ⟨0x08, 0x08, .u64, .ro, 0, .any⟩]

/-- 0x2006 (R125). -/
def recCsuPhase : OdRecord where
  tmpl := .one 0x2006
  top := 9
  entries := [
    ⟨0x01, 0x01, .i64, .ro, 0, .any⟩,
    ⟨0x02, 0x02, .u32, .rwh, 0x50, .span 0 2147483647⟩,
    ⟨0x03, 0x03, .enum8, .wo, 0, .codes [0, 1, 2]⟩,
    ⟨0x04, 0x04, .u8, .rwh, 0xa, .span 1 100⟩,
    ⟨0x05, 0x05, .u32, .rw, 0, .any⟩,
    ⟨0x06, 0x06, .ztime, .rw, 0, .any⟩,
    ⟨0x07, 0x07, .enum8, .ro, 0, .any⟩,
    ⟨0x08, 0x08, .i32, .ro, 0, .any⟩,
    ⟨0x09, 0x09, .u32, .ro, 0, .any⟩]

/-- 0x2100+0x10·n (R99). -/
def recClockOut : OdRecord where
  tmpl := .per 0x2100 0x10 8 8
  top := 11
  entries := [
    ⟨0x01, 0x01, .bool, .rwt, 0, .any⟩,
    ⟨0x02, 0x02, .u16, .rwi, 0xa, .span 2 65535⟩,
    ⟨0x03, 0x03, .u16, .rwt, 0, .any⟩,
    ⟨0x04, 0x04, .u16, .rwt, 0, .span 0 399⟩,
    ⟨0x05, 0x05, .enum8, .rwh, 0, .codes [0, 1]⟩,
    ⟨0x06, 0x06, .enum8, .rwi, 0, .codes [0, 1]⟩,
    ⟨0x07, 0x07, .bool, .rwi, 0, .any⟩,
    ⟨0x08, 0x08, .enum8, .ro, 0, .any⟩,
    ⟨0x09, 0x09, .bool, .ro, 0, .any⟩,
    ⟨0x0A, 0x0A, .u16, .ro, 0, .any⟩,
    ⟨0x0B, 0x0B, .bool, .rwh, 0, .any⟩]

/-- 0x2200 (R51). -/
def recTimeNow : OdRecord where
  tmpl := .one 0x2200
  top := 2
  entries := [
    ⟨0x01, 0x01, .ztime, .ro, 0, .any⟩,
    ⟨0x02, 0x02, .u32, .ro, 0, .any⟩]

/-- 0x2201 (R51). -/
def recTide : OdRecord where
  tmpl := .one 0x2201
  top := 2
  entries := [
    ⟨0x01, 0x01, .u64, .ro, 0, .any⟩,
    ⟨0x02, 0x02, .u32, .const, 0xf4240, .any⟩]

/-- 0x2202 (R51). -/
def recTimePreset : OdRecord where
  tmpl := .one 0x2202
  top := 2
  entries := [
    ⟨0x01, 0x01, .ztime, .rwh, 0, .any⟩,
    ⟨0x02, 0x02, .u32, .rwh, 0, .any⟩]

/-- 0x2203 (R51). -/
def recTimeUnit : OdRecord where
  tmpl := .one 0x2203
  top := 2
  entries := [
    ⟨0x01, 0x01, .u32, .ro, 0, .any⟩,
    ⟨0x02, 0x02, .u64, .ro, 0, .any⟩]

/-- 0x3000+0x20·ch (R142, R213, R230, R293). -/
def recChannel : OdRecord where
  tmpl := .per 0x3000 0x20 64 32
  top := 31
  entries := [
    ⟨0x01, 0x01, .enum8, .rwi, 0, .codes [0, 1, 2]⟩,
    ⟨0x02, 0x02, .bool, .rwt, 0, .any⟩,
    ⟨0x03, 0x03, .u32, .rwt, 0, .custom⟩,
    ⟨0x04, 0x04, .zdelta, .rwt, 0, .span 0 (2 ^ 40 * 3200 - 1)⟩,
    ⟨0x05, 0x05, .zdelta, .rwt, 0xc640, .span 1000 (2 ^ 40 * 3200 - 1)⟩,
    ⟨0x06, 0x06, .enum8, .rwt, 0, .codes [0, 1]⟩,
    ⟨0x07, 0x07, .u32, .rwt, 1, .span 1 4294967295⟩,
    ⟨0x08, 0x08, .zdelta, .rwt, 0x7d000, .span 2000 (2 ^ 40 * 3200 - 1)⟩,
    ⟨0x09, 0x09, .enum8, .rwt, 0, .codes [0, 1, 2]⟩,
    ⟨0x0A, 0x0A, .zdelta, .rwt, 0, .span 0 (2 ^ 40 * 3200 - 1)⟩,
    ⟨0x0B, 0x0B, .bool, .wo, 0, .any⟩,
    ⟨0x0C, 0x0C, .enum8, .ro, 0, .any⟩,
    ⟨0x0D, 0x0D, .u64, .ro, 0, .any⟩,
    ⟨0x0E, 0x0E, .u64, .ro, 0, .any⟩,
    ⟨0x0F, 0x0F, .u64, .ro, 0, .any⟩,
    ⟨0x10, 0x10, .u64, .ro, 0, .any⟩,
    ⟨0x11, 0x11, .u64, .ro, 0, .any⟩,
    ⟨0x12, 0x12, .bool, .rwt, 1, .any⟩,
    ⟨0x13, 0x13, .u16, .rwh, 0x18, .span 4 1024⟩,
    ⟨0x14, 0x14, .i32, .ro, 0, .any⟩,
    ⟨0x15, 0x15, .u8, .rwt, 0, .mask 0x0F⟩,
    ⟨0x16, 0x16, .u32, .rwi, 0xc0f5ca3d, .custom⟩,
    ⟨0x17, 0x17, .u32, .wo, 0, .custom⟩,
    ⟨0x18, 0x18, (.domain 16), .wo, 0, .custom⟩,
    ⟨0x19, 0x19, .u64, .ro, 0, .any⟩,
    ⟨0x1A, 0x1A, .enum8, .wo, 0, .codes [1, 2, 3]⟩,
    ⟨0x1B, 0x1B, .u64, .rwt, 0, .mask 0x1FFFFFFFF⟩,
    ⟨0x1C, 0x1C, .u8, .rwt, 3, .mask 0x07⟩,
    ⟨0x1D, 0x1D, .u32, .rw, 0, .span 1 1⟩,
    ⟨0x1E, 0x1E, .enum8, .rwt, 0, .codes [0, 1]⟩,
    ⟨0x1F, 0x1F, .zdelta, .ro, 0, .any⟩]

/-- 0x4000+0x20·in (R235, R271). -/
def recStampInput : OdRecord where
  tmpl := .per 0x4000 0x20 32 16
  top := 31
  entries := [
    ⟨0x01, 0x01, .bool, .rwt, 0, .any⟩,
    ⟨0x02, 0x02, .enum8, .rwt, 0, .codes [0, 1]⟩,
    ⟨0x03, 0x03, .u16, .rwt, 0x555, .span 0 4095⟩,
    ⟨0x04, 0x04, .u8, .rwt, 2, .span 0 15⟩,
    ⟨0x05, 0x05, .enum8, .rwt, 0, .codes [0, 1, 2]⟩,
    ⟨0x06, 0x06, .enum8, .rwt, 0, .codes [0, 1]⟩,
    ⟨0x07, 0x07, .u16, .rwt, 0x555, .span 1365 3549⟩,
    ⟨0x08, 0x08, .bool, .rwt, 0, .any⟩,
    ⟨0x09, 0x09, .u64, .ro, 0, .any⟩,
    ⟨0x0A, 0x0A, .u64, .ro, 0, .any⟩,
    ⟨0x0B, 0x0B, .u64, .ro, 0, .any⟩,
    ⟨0x0C, 0x0C, .u64, .ro, 0, .any⟩,
    ⟨0x0D, 0x0D, .u8, .ro, 0, .any⟩,
    ⟨0x0E, 0x0E, .u8, .ro, 0, .any⟩,
    ⟨0x0F, 0x0F, .ztime, .ro, 0, .any⟩,
    ⟨0x10, 0x10, .bool, .rwt, 1, .any⟩,
    ⟨0x11, 0x11, .enum8, .ro, 0, .any⟩,
    ⟨0x12, 0x12, .bool, .wo, 0, .any⟩,
    ⟨0x13, 0x13, .u8, .rw, 0x16, .span 20 26⟩,
    ⟨0x14, 0x14, .u64, .ro, 0, .any⟩,
    ⟨0x15, 0x15, .u64, .ro, 0, .any⟩,
    ⟨0x16, 0x16, .u32, .ro, 0, .any⟩,
    ⟨0x17, 0x17, .u64, .ro, 0, .any⟩,
    ⟨0x18, 0x18, .u16, .ro, 0, .any⟩,
    ⟨0x19, 0x19, .u16, .ro, 0, .any⟩]

/-- 0x4400+0x20·g (R242, R278). -/
def recGroup : OdRecord where
  tmpl := .per 0x4400 0x20 32 16
  top := 31
  entries := [
    ⟨0x01, 0x01, .bool, .rwt, 0, .any⟩,
    ⟨0x02, 0x02, .u8, .rwt, 0, .custom⟩,
    ⟨0x03, 0x03, .enum8, .rwt, 0, .codes [0, 1, 2]⟩,
    ⟨0x04, 0x04, .enum8, .rwt, 0, .codes [0, 1]⟩,
    ⟨0x05, 0x05, .u16, .rwt, 4, .any⟩,
    ⟨0x06, 0x06, .u8, .rwt, 1, .span 1 16⟩,
    ⟨0x07, 0x07, .u32, .rwt, 0x4e2, .any⟩,
    ⟨0x08, 0x08, .u8, .rwt, 0, .span 0 128⟩,
    ⟨0x09, 0x09, .bool, .rwt, 0, .any⟩,
    ⟨0x0A, 0x0A, .u64, .ro, 0, .any⟩,
    ⟨0x0B, 0x0B, .u64, .ro, 0, .any⟩,
    ⟨0x0C, 0x0C, .u64, .ro, 0, .any⟩,
    ⟨0x0D, 0x0D, .u64, .ro, 0, .any⟩,
    ⟨0x0E, 0x0E, .u64, .ro, 0, .any⟩,
    ⟨0x0F, 0x0F, .u64, .ro, 0, .any⟩,
    ⟨0x10, 0x10, .bool, .rwt, 0, .any⟩,
    ⟨0x11, 0x11, .enum8, .rwt, 0, .codes [0, 1]⟩,
    ⟨0x12, 0x12, .u32, .rwt, 0x3e8, .span 1 16777216⟩,
    ⟨0x13, 0x13, .u16, .rwt, 1, .any⟩,
    ⟨0x14, 0x14, .bool, .wo, 0, .any⟩,
    ⟨0x15, 0x15, .enum8, .ro, 0, .any⟩,
    ⟨0x16, 0x16, .u32, .ro, 0, .any⟩,
    ⟨0x17, 0x17, .u64, .ro, 0, .any⟩,
    ⟨0x18, 0x18, .u64, .ro, 0, .any⟩,
    ⟨0x19, 0x19, .u64, .ro, 0, .any⟩,
    ⟨0x1A, 0x1A, (.domain 64), .ro, 0, .any⟩]

/-- 0x4800+0x10·wm (R286). -/
def recMonitor : OdRecord where
  tmpl := .per 0x4800 0x10 32 16
  top := 15
  entries := [
    ⟨0x01, 0x01, .bool, .rwt, 0, .any⟩,
    ⟨0x02, 0x02, .u16, .rwt, 0xfff, .span 0 4095⟩,
    ⟨0x03, 0x03, .u16, .rwt, 0, .span 0 4095⟩,
    ⟨0x04, 0x04, .u8, .rwt, 3, .span 0 15⟩,
    ⟨0x05, 0x05, .u8, .rwt, 3, .mask 0x07⟩,
    ⟨0x06, 0x06, .u8, .rwt, 0xff, .custom⟩,
    ⟨0x07, 0x07, .u8, .rwt, 0, .span 0 255⟩,
    ⟨0x08, 0x08, .enum8, .rwt, 0, .codes [0, 1, 2]⟩,
    ⟨0x09, 0x09, .enum8, .rwt, 0, .codes [0, 1]⟩,
    ⟨0x0A, 0x0A, .u16, .rwt, 1, .span 1 1000⟩,
    ⟨0x0B, 0x0B, .enum8, .ro, 0, .any⟩,
    ⟨0x0C, 0x0C, .enum8, .wo, 0, .codes [1, 2, 3]⟩,
    ⟨0x0D, 0x0D, .u32, .ro, 0, .any⟩,
    ⟨0x0E, 0x0E, .u32, .rw, 0, .span 1 1⟩,
    ⟨0x0F, 0x0F, .u64, .ro, 0, .any⟩]

/-- 0x4A00 (R292). -/
def recTripin : OdRecord where
  tmpl := .one 0x4A00
  top := 3
  entries := [
    ⟨0x01, 0x01, .enum8, .rwt, 0, .codes [0, 1]⟩,
    ⟨0x02, 0x02, .bool, .ro, 0, .any⟩,
    ⟨0x03, 0x03, .u64, .ro, 0, .any⟩]

/-- 0x5000+0x100·cl (R212). -/
def recPager : OdRecord where
  tmpl := .per 0x5000 0x100 4 2
  top := 7
  entries := [
    ⟨0x01, 0x01, .u8, .ro, 0, .any⟩,
    ⟨0x02, 0x02, .u8, .ro, 0, .any⟩,
    ⟨0x03, 0x03, .u8, .ro, 0, .any⟩,
    ⟨0x04, 0x04, .u64, .ro, 0, .any⟩,
    ⟨0x05, 0x05, .u64, .ro, 0, .any⟩,
    ⟨0x06, 0x06, .u64, .ro, 0, .any⟩,
    ⟨0x07, 0x07, .u32, .ro, 0, .any⟩]

/-- 0x5001+0x100·cl (R212). -/
def recSluice : OdRecord where
  tmpl := .per 0x5001 0x100 4 2
  top := 7
  entries := [
    ⟨0x01, 0x01, .u8, .ro, 0, .any⟩,
    ⟨0x02, 0x02, .u8, .ro, 0, .any⟩,
    ⟨0x03, 0x03, .u8, .ro, 0, .any⟩,
    ⟨0x04, 0x04, .u32, .ro, 0, .any⟩,
    ⟨0x05, 0x05, .u32, .ro, 0, .any⟩,
    ⟨0x06, 0x06, .u64, .ro, 0, .any⟩,
    ⟨0x07, 0x07, .u64, .ro, 0, .any⟩]

/-- 0x5002+0x100·cl (R212). -/
def recSlotTables : OdRecord where
  tmpl := .per 0x5002 0x100 4 2
  top := 3
  entries := [
    ⟨0x01, 0x01, (.domain 64), .rwi, 0, .custom⟩,
    ⟨0x02, 0x02, (.domain 64), .rwi, 0, .custom⟩,
    ⟨0x03, 0x03, (.domain 8), .rwi, 0, .custom⟩]

/-- 0x5003+0x100·cl (R324). -/
def recConditions : OdRecord where
  tmpl := .per 0x5003 0x100 4 2
  top := 32
  entries := [
    ⟨0x01, 0x10, .u64, .rwt, 0, .custom⟩,
    ⟨0x11, 0x20, .u8, .rwt, 0, .span 0 255⟩]

/-- 0x5004+0x100·cl (R324). -/
def recTrigger : OdRecord where
  tmpl := .per 0x5004 0x100 4 2
  top := 4
  entries := [
    ⟨0x01, 0x01, .u16, .ro, 0, .any⟩,
    ⟨0x02, 0x02, .u64, .ro, 0, .any⟩,
    ⟨0x03, 0x03, .u64, .ro, 0, .any⟩,
    ⟨0x04, 0x04, .u64, .ro, 0, .any⟩]

/-- 0x5005+0x100·cl (R325). -/
def recCapture : OdRecord where
  tmpl := .per 0x5005 0x100 4 2
  top := 21
  entries := [
    ⟨0x01, 0x01, .enum8, .wo, 0, .codes [1, 2, 3]⟩,
    ⟨0x02, 0x02, .u16, .rw, 0x1000, .any⟩,
    ⟨0x03, 0x03, .u32, .rw, 0xf000, .span 1 4294967295⟩,
    ⟨0x04, 0x04, .u16, .rw, 1, .any⟩,
    ⟨0x05, 0x05, .u32, .rw, 0x3ffffff, .any⟩,
    ⟨0x06, 0x06, .bool, .rw, 0, .any⟩,
    ⟨0x07, 0x07, .u16, .rw, 1, .span 1 2047⟩,
    ⟨0x08, 0x08, .u16, .rw, 2, .span 2 2047⟩,
    ⟨0x09, 0x09, .enum8, .ro, 0, .any⟩,
    ⟨0x0A, 0x0A, .u8, .ro, 0, .any⟩,
    ⟨0x0B, 0x0B, .u32, .ro, 0, .any⟩,
    ⟨0x0C, 0x0C, .u32, .ro, 0, .any⟩,
    ⟨0x0D, 0x0D, .ztime, .ro, 0, .any⟩,
    ⟨0x0E, 0x0E, .u32, .ro, 0, .any⟩,
    ⟨0x0F, 0x0F, .u64, .ro, 0, .any⟩,
    ⟨0x10, 0x10, .u32, .ro, 0, .any⟩,
    ⟨0x11, 0x11, .u32, .ro, 0, .any⟩,
    ⟨0x12, 0x12, .u8, .rw, 0, .span 0 255⟩,
    ⟨0x13, 0x13, (.domain 4096), .ro, 0, .any⟩,
    ⟨0x14, 0x14, .u32, .ro, 0, .any⟩,
    ⟨0x15, 0x15, .u16, .ro, 0, .any⟩]

/-- 0x5006+0x100·cl (R326). -/
def recMaskTests : OdRecord where
  tmpl := .per 0x5006 0x100 4 2
  top := 26
  entries := [
    ⟨0x01, 0x08, .i64, .rw, 0x8000000000000000, .any⟩,
    ⟨0x09, 0x10, .i64, .rw, 0x7fffffffffffffff, .any⟩,
    ⟨0x11, 0x18, .u8, .rw, 0, .mask 0x03⟩,
    ⟨0x19, 0x19, .u8, .rw, 0, .any⟩,
    ⟨0x1A, 0x1A, .u16, .rw, 0, .span 0 4095⟩]

/-- 0x5007+0x100·cl (R327). -/
def recArmGroup : OdRecord where
  tmpl := .per 0x5007 0x100 4 2
  top := 3
  entries := [
    ⟨0x01, 0x01, .enum8, .rw, 0xff, .codes [0, 1, 2, 3, 255]⟩,
    ⟨0x02, 0x02, .bool, .rw, 0, .any⟩,
    ⟨0x03, 0x03, .u64, .ro, 0, .any⟩]

/-- 0x5008+0x100·cl (R189). -/
def recComparators : OdRecord where
  tmpl := .per 0x5008 0x100 4 2
  top := 24
  entries := [
    ⟨0x01, 0x08, .i64, .rwt, 0x8000000000000000, .any⟩,
    ⟨0x09, 0x10, .i64, .rwt, 0x7fffffffffffffff, .any⟩,
    ⟨0x11, 0x18, .u8, .rwt, 0, .span 0 15⟩]

/-- 0x5009+0x100·cl (R189). -/
def recMatchers : OdRecord where
  tmpl := .per 0x5009 0x100 4 2
  top := 4
  entries := [
    ⟨0x01, 0x04, .u32, .rwt, 0, .any⟩]

/-- 0x500A+0x100·cl (R189). -/
def recSignals : OdRecord where
  tmpl := .per 0x500A 0x100 4 2
  top := 1
  entries := [
    ⟨0x01, 0x01, .u8, .ro, 0, .any⟩]

/-- 0x5010+0x100·cl+j (R188). -/
def recSequencer : OdRecord where
  tmpl := .seqs
  top := 28
  entries := [
    ⟨0x01, 0x01, .u32, .rw, 0, .mask 0xFFFFF⟩,
    ⟨0x02, 0x02, .bool, .wo, 0, .any⟩,
    ⟨0x03, 0x03, .enum8, .ro, 0, .any⟩,
    ⟨0x04, 0x04, .u32, .ro, 0, .any⟩,
    ⟨0x05, 0x05, .ztime, .ro, 0, .any⟩,
    ⟨0x06, 0x06, .ztime, .ro, 0, .any⟩,
    ⟨0x07, 0x0E, .u32, .rw, 0, .any⟩,
    ⟨0x0F, 0x16, .u32, .ro, 0, .any⟩,
    ⟨0x17, 0x17, .mask64, .ro, 0, .any⟩,
    ⟨0x18, 0x18, .mask64, .ro, 0, .any⟩,
    ⟨0x19, 0x19, .u64, .ro, 0, .any⟩,
    ⟨0x1A, 0x1A, .u64, .ro, 0, .any⟩,
    ⟨0x1B, 0x1B, .u16, .ro, 0, .any⟩,
    ⟨0x1C, 0x1C, .u32, .ro, 0, .any⟩]

/-- 0x6000 (R342). -/
def recNode : OdRecord where
  tmpl := .one 0x6000
  top := 13
  entries := [
    ⟨0x01, 0x01, .bool, .rwi, 0, .any⟩,
    ⟨0x02, 0x02, .u64, .const, 0, .any⟩,
    ⟨0x03, 0x03, .enum8, .ro, 0, .any⟩,
    ⟨0x04, 0x04, .u16, .ro, 0, .any⟩,
    ⟨0x05, 0x05, .u8, .ro, 0, .any⟩,
    ⟨0x06, 0x06, .u16, .rwh, 0x3c, .span 1 3600⟩,
    ⟨0x07, 0x07, .bool, .ro, 0, .any⟩,
    ⟨0x08, 0x08, .i64, .ro, 0, .any⟩,
    ⟨0x09, 0x09, .u64, .ro, 0, .any⟩,
    ⟨0x0A, 0x0A, .u64, .ro, 0, .any⟩,
    ⟨0x0B, 0x0B, .u64, .ro, 0, .any⟩,
    ⟨0x0C, 0x0C, .u8, .ro, 0, .any⟩,
    ⟨0x0D, 0x0D, .u16, .ro, 0, .any⟩]

/-- 0x6001 (R342). -/
def recRoster : OdRecord where
  tmpl := .one 0x6001
  top := 3
  entries := [
    ⟨0x01, 0x01, (.domain 2048), .ro, 0, .any⟩,
    ⟨0x02, 0x02, (.domainUpTo 10240), .rwi, 0, .custom⟩,
    ⟨0x03, 0x03, .u16, .ro, 0, .any⟩]

/-- 0x6010+0x10·n (R362). -/
def recPort : OdRecord where
  tmpl := .per 0x6010 0x10 8 4
  top := 15
  entries := [
    ⟨0x01, 0x01, .bool, .rwi, 0, .any⟩,
    ⟨0x02, 0x02, .enum8, .ro, 0, .any⟩,
    ⟨0x03, 0x03, .enum8, .ro, 0, .any⟩,
    ⟨0x04, 0x04, .u64, .ro, 0, .any⟩,
    ⟨0x05, 0x05, .u16, .ro, 0, .any⟩,
    ⟨0x06, 0x06, .i32, .rwh, 0, .span (-1000000) 1000000⟩,
    ⟨0x07, 0x07, .u16, .rwi, 0, .span 0 65535⟩,
    ⟨0x08, 0x08, .u64, .ro, 0, .any⟩,
    ⟨0x09, 0x09, .u32, .ro, 0, .any⟩,
    ⟨0x0A, 0x0A, .u32, .rwh, 0x28, .span 1 2147483647⟩,
    ⟨0x0B, 0x0B, .u64, .ro, 0, .any⟩,
    ⟨0x0C, 0x0C, .u64, .ro, 0, .any⟩,
    ⟨0x0D, 0x0D, .u64, .ro, 0, .any⟩,
    ⟨0x0E, 0x0E, .u32, .ro, 0, .any⟩,
    ⟨0x0F, 0x0F, .bool, .ro, 0, .any⟩]

/-- 0x6100+s (R352). -/
def recCodeSender : OdRecord where
  tmpl := .per 0x6100 1 32 16
  top := 4
  entries := [
    ⟨0x01, 0x01, .u32, .rwt, 0, .custom⟩,
    ⟨0x02, 0x02, .u16, .rwt, 0, .any⟩,
    ⟨0x03, 0x03, .u8, .rwt, 0xf, .span 1 15⟩,
    ⟨0x04, 0x04, .u64, .ro, 0, .any⟩]

/-- 0x6300 (R361). -/
def recBulk : OdRecord where
  tmpl := .one 0x6300
  top := 7
  entries := [
    ⟨0x01, 0x01, (.domain 8), .wo, 0, .custom⟩,
    ⟨0x02, 0x02, .enum8, .ro, 0, .any⟩,
    ⟨0x03, 0x03, .u16, .ro, 0, .any⟩,
    ⟨0x04, 0x04, .u16, .rwh, 1, .span 1 2047⟩,
    ⟨0x05, 0x05, .u16, .rwh, 1, .span 1 2047⟩,
    ⟨0x06, 0x06, .bool, .rwh, 0, .any⟩,
    ⟨0x07, 0x07, .u32, .ro, 0, .any⟩]

/-- 0x6400 (R359). -/
def recFront : OdRecord where
  tmpl := .one 0x6400
  top := 5
  entries := [
    ⟨0x01, 0x01, .u16, .rwh, 0x5dc, .span 100 65535⟩,
    ⟨0x02, 0x02, .u16, .wo, 0, .any⟩,
    ⟨0x03, 0x03, .u8, .ro, 0, .any⟩,
    ⟨0x04, 0x04, .u16, .ro, 0, .any⟩,
    ⟨0x05, 0x05, .ztime, .ro, 0, .any⟩]

/-- 0x6410+g (R359). -/
def recGustGroup : OdRecord where
  tmpl := .per 0x6410 1 16 16
  top := 8
  entries := [
    ⟨0x01, 0x01, .enum8, .ro, 0, .any⟩,
    ⟨0x02, 0x02, .u8, .ro, 0, .any⟩,
    ⟨0x03, 0x03, .ztime, .ro, 0, .any⟩,
    ⟨0x04, 0x04, .u16, .ro, 0, .any⟩,
    ⟨0x05, 0x05, .u64, .ro, 0, .any⟩,
    ⟨0x06, 0x06, .u64, .ro, 0, .any⟩,
    ⟨0x07, 0x07, .u64, .ro, 0, .any⟩,
    ⟨0x08, 0x08, .u64, .ro, 0, .any⟩]

/-- 0x7000 (R391). -/
def recSaltern : OdRecord where
  tmpl := .one 0x7000
  top := 6
  entries := [
    ⟨0x01, 0x01, .u16, .const, 0x800, .any⟩,
    ⟨0x02, 0x02, .u16, .ro, 0, .any⟩,
    ⟨0x03, 0x03, .u16, .ro, 0, .any⟩,
    ⟨0x04, 0x04, .u16, .ro, 0, .any⟩,
    ⟨0x05, 0x05, .u16, .ro, 0, .any⟩,
    ⟨0x06, 0x06, .u64, .ro, 0, .any⟩]

/-- 0x7001 (R391). -/
def recPanAccess : OdRecord where
  tmpl := .one 0x7001
  top := 6
  entries := [
    ⟨0x01, 0x01, .u16, .rw, 1, .span 0 2047⟩,
    ⟨0x02, 0x02, (.domain 4096), .rw, 0, .any⟩,
    ⟨0x03, 0x03, .u8, .wo, 0, .custom⟩,
    ⟨0x04, 0x04, .bool, .wo, 0, .any⟩,
    ⟨0x05, 0x05, (.domain 128), .ro, 0, .any⟩,
    ⟨0x06, 0x06, .u16, .ro, 0, .any⟩]

/-- 0x7800 (R466). -/
def recScrub : OdRecord where
  tmpl := .one 0x7800
  top := 6
  entries := [
    ⟨0x01, 0x01, .u32, .const, 0x30d4, .any⟩,
    ⟨0x02, 0x02, .u64, .ro, 0, .any⟩,
    ⟨0x03, 0x03, .u64, .ro, 0, .any⟩,
    ⟨0x04, 0x04, .u64, .ro, 0, .any⟩,
    ⟨0x05, 0x05, .u32, .ro, 0, .any⟩,
    ⟨0x06, 0x06, .u32, .ro, 0, .any⟩]

/-- 0x7801 (R470). -/
def recShutdown : OdRecord where
  tmpl := .one 0x7801
  top := 6
  entries := [
    ⟨0x01, 0x01, .u8, .ro, 0, .any⟩,
    ⟨0x02, 0x02, .u8, .ro, 0, .any⟩,
    ⟨0x03, 0x03, .u8, .ro, 0, .any⟩,
    ⟨0x04, 0x04, .i16, .ro, 0, .any⟩,
    ⟨0x05, 0x05, .u32, .ro, 0, .any⟩,
    ⟨0x06, 0x06, .bool, .wo, 0, .any⟩]

/-- 0x7802 (R470). -/
def recTemperatures : OdRecord where
  tmpl := .one 0x7802
  top := 16
  entries := [
    ⟨0x01, 0x08, .q16, .ro, 0, .any⟩,
    ⟨0x09, 0x10, .u8, .rwh, 0x64, .span 60 120⟩]

/-- 0x7803 (R470). -/
def recRails : OdRecord where
  tmpl := .one 0x7803
  top := 13
  entries := [
    ⟨0x01, 0x0C, .u32, .ro, 0, .any⟩,
    ⟨0x0D, 0x0D, .u16, .ro, 0, .any⟩]

/-- 0x7804 (R466). -/
def recInjection : OdRecord where
  tmpl := .one 0x7804
  top := 3
  entries := [
    ⟨0x01, 0x01, (.domain 8), .rwi, 8, .custom⟩,
    ⟨0x02, 0x02, .enum8, .rwi, 1, .codes [1, 2]⟩,
    ⟨0x03, 0x03, .bool, .rwi, 0, .any⟩]

/-- 0x7820+i (R476). -/
def recMarginItem : OdRecord where
  tmpl := .per 0x7820 1 27 27
  top := 5
  entries := [
    ⟨0x01, 0x01, (.domain 32), .ro, 0, .any⟩,
    ⟨0x02, 0x02, .enum8, .rwt, 0, .codes [0, 1]⟩,
    ⟨0x03, 0x03, .u32, .rwt, 0x320, .custom⟩,
    ⟨0x04, 0x04, .u16, .rwh, 0, .span 1 65535⟩,
    ⟨0x05, 0x05, .u16, .rwh, 0x1e, .span 1 3650⟩]

/-- 0x7F00+ch (R135). -/
def recCorrection : OdRecord where
  tmpl := .per 0x7F00 1 64 32
  top := 4
  entries := [
    ⟨0x01, 0x01, (.domain 12800), .rwt, 0, .custom⟩,
    ⟨0x02, 0x02, .u8, .ro, 0, .any⟩,
    ⟨0x03, 0x03, .enum8, .ro, 0, .any⟩,
    ⟨0x04, 0x04, .u64, .ro, 0, .any⟩]

/-- 0x7F40+in (R270). -/
def recBinTable : OdRecord where
  tmpl := .per 0x7F40 1 32 16
  top := 5
  entries := [
    ⟨0x01, 0x01, (.domain 3072), .rwt, 0, .custom⟩,
    ⟨0x02, 0x02, .u8, .ro, 0, .any⟩,
    ⟨0x03, 0x03, .u32, .ro, 0, .any⟩,
    ⟨0x04, 0x04, .u64, .ro, 0, .any⟩,
    ⟨0x05, 0x05, (.domain 8), .ro, 0, .any⟩]

/-- 0x7F60+s: as 0x7F40+in, the table read-only (R270). -/
def recSliceTable : OdRecord where
  tmpl := .per 0x7F60 1 8 4
  top := 5
  entries := [
    ⟨0x01, 0x01, (.domain 3072), .ro, 0, .any⟩,
    ⟨0x02, 0x02, .u8, .ro, 0, .any⟩,
    ⟨0x03, 0x03, .u32, .ro, 0, .any⟩,
    ⟨0x04, 0x04, .u64, .ro, 0, .any⟩,
    ⟨0x05, 0x05, (.domain 8), .ro, 0, .any⟩]

/-- 0x7F70 (R272). -/
def recNodeCal : OdRecord where
  tmpl := .one 0x7F70
  top := 3
  entries := [
    ⟨0x01, 0x01, .bool, .rwi, 1, .any⟩,
    ⟨0x02, 0x02, .u8, .rwi, 0x16, .span 20 26⟩,
    ⟨0x03, 0x03, .u16, .ro, 0, .any⟩]

/-- 0x7F78+cl (R272). -/
def recDrizzle : OdRecord where
  tmpl := .per 0x7F78 1 4 2
  top := 4
  entries := [
    ⟨0x01, 0x01, .u32, .ro, 0, .any⟩,
    ⟨0x02, 0x02, .u64, .ro, 0, .any⟩,
    ⟨0x03, 0x03, .u64, .ro, 0, .any⟩,
    ⟨0x04, 0x04, .u32, .ro, 0, .any⟩]

/-- The records of the object dictionary, in the order of the index map (R432). -/
def odRecords : List OdRecord :=
  [recIdentity, recEthernet, recRequests, recSubscriptions, recPersistence, recMarginLog, recStartUp, recDevice] ++
  [recCommitState, recTransfer, recEventRing, recVectors, recCsuConfig, recCsuLock, recCsuAlign, recCsuStatus] ++
  [recCsuLoss, recCsuHold, recCsuPhase, recClockOut, recTimeNow, recTide, recTimePreset, recTimeUnit] ++
  [recChannel, recStampInput, recGroup, recMonitor, recTripin, recPager, recSluice, recSlotTables] ++
  [recConditions, recTrigger, recCapture, recMaskTests, recArmGroup, recComparators, recMatchers, recSignals] ++
  [recSequencer, recNode, recRoster, recPort, recCodeSender, recBulk, recFront, recGustGroup] ++
  [recSaltern, recPanAccess, recScrub, recShutdown, recTemperatures, recRails, recInjection, recMarginItem] ++
  [recCorrection, recBinTable, recSliceTable, recNodeCal, recDrizzle]

/-- The margin items absent on the ZT-3216 (R474). -/
def itemAbsent (p : Part) (i : Nat) : Bool :=
  match p with
  | .zt6432 => false
  | .zt3216 => [4, 5, 8, 9, 15, 16, 17, 18, 23, 24, 25, 26].contains i

/-- The default budgets of R474. -/
def marginBudget (i : Nat) : Nat :=
  if i = 0 then 24 else if i = 1 then 13 else if i ≤ 5 then 96 else if i ≤ 9 then 30000
  else if i = 10 then 100 else if i ≤ 18 then 350 else 8

/-- The record an index names on a part, with the unit (R395, R432). -/
def odRecord (p : Part) (idx : Nat) : Option (OdRecord × Nat) :=
  if itemAbsent p (idx - 0x7820) && decide (0x7820 ≤ idx) then none
  else odRecords.findSome? (fun r => (r.tmpl.unit p idx).map (fun u => (r, u)))

/-- The entry of a sub-index of a record; sub-index 0 is a U8 CONST (R395). -/
def OdRecord.entry (r : OdRecord) (sub : Nat) : Option OdEntry :=
  if sub = 0 then some ⟨0, 0, .u8, .const, r.top, .any⟩
  else r.entries.find? (fun e => decide (e.lo ≤ sub) && decide (sub ≤ e.hi))

/-- The entry of an object (R395). The setting of a margin item exists for items 0 and 1 only (R476). -/
def odEntry (p : Part) (idx sub : Nat) : Option OdEntry :=
  if 0x7822 ≤ idx ∧ idx ≤ 0x783A ∧ sub = 3 then none else (odRecord p idx).bind (fun r => r.1.entry sub)

/-- The ROM default of a numeric setting: the table's, or the one the rule gives unit by unit: the start input 8k of a
group (R242) and the settings and budgets of the margin plan (R474, R476). -/
def odDefault (idx sub : Nat) : Nat :=
  if 0x4400 ≤ idx && idx < 0x4800 && sub = 2 then (idx - 0x4400) / 0x20 / 8 * 8
  else if idx = 0x7820 && sub = 3 then 800
  else if idx = 0x7821 && sub = 3 then 1875
  else if 0x7820 ≤ idx && idx < 0x783B && sub = 4 then
    marginBudget (idx - 0x7820)
  else match odEntry .zt6432 idx sub with
    | some e => e.dflt
    | none => 0

/-! ## Stored settings -/

/-- The key of an object: index × 256 + sub-index. -/
abbrev odKey (idx sub : Nat) : Nat := idx * 256 + sub

/-- The number a setting holds: the stored one, else the default. -/
def Settings.nat (o : Settings) (idx sub : Nat) : Nat :=
  match assocFind o (odKey idx sub) with
  | some (.num n) => n
  | _ => odDefault idx sub

/-- The default bytes of a DOMAIN setting: the slot tables of R204, 64 bytes of 0xFF of the alert mask (R392), the
stated zeros elsewhere. -/
def odDefaultBytes (idx sub : Nat) : List Byte :=
  if 0x5000 ≤ idx && idx < 0x5400 && idx % 0x100 = 2 then slotDefault sub
  else if idx = 0x1401 && sub = 2 then List.replicate 64 0xFF
  else match odEntry .zt6432 idx sub with
    | some ⟨_, _, .domain n, _, _, _⟩ => List.replicate n 0
    | _ => []

/-- The bytes a DOMAIN setting holds. -/
def Settings.bytes (o : Settings) (idx sub : Nat) : List Byte :=
  match assocFind o (odKey idx sub) with
  | some (.bytes b) => b
  | _ => odDefaultBytes idx sub

/-- The default of an object as a stored value. -/
def odDefaultVal (idx sub : Nat) : OdVal :=
  match odEntry .zt6432 idx sub with
  | some ⟨_, _, .domain _, _, _, _⟩ => .bytes (odDefaultBytes idx sub)
  | some ⟨_, _, .domainUpTo _, _, _, _⟩ => .bytes (odDefaultBytes idx sub)
  | _ => .num (odDefault idx sub)

/-- The settings with one object at a value; a value equal to the default is not listed. -/
def Settings.set (o : Settings) (idx sub : Nat) (v : OdVal) : Settings :=
  assocPut o (odKey idx sub) (if v = odDefaultVal idx sub then none else some v)

/-- A setting of the device in force. -/
def State.nat (s : State) (idx sub : Nat) : Nat := s.od.nat idx sub
/-- A BOOL setting of the device in force. -/
def State.on (s : State) (idx sub : Nat) : Bool := s.od.nat idx sub != 0

/-! ## Index templates by unit -/

/-- 0x3000 + 0x20·ch. -/
abbrev chIdx (ch : Nat) : Nat := 0x3000 + 0x20 * ch
/-- 0x4000 + 0x20·in. -/
abbrev inIdx (i : Nat) : Nat := 0x4000 + 0x20 * i
/-- 0x4400 + 0x20·g. -/
abbrev grpIdx (g : Nat) : Nat := 0x4400 + 0x20 * g
/-- 0x4800 + 0x10·wm. -/
abbrev monIdx (w : Nat) : Nat := 0x4800 + 0x10 * w
/-- 0x2100 + 0x10·n. -/
abbrev clkIdx (n : Nat) : Nat := 0x2100 + 0x10 * n
/-- 0x6010 + 0x10·n. -/
abbrev portIdx (n : Nat) : Nat := 0x6010 + 0x10 * n
/-- 0x5000 + 0x100·cl + r, record r of a cluster. -/
abbrev clIdx (cl r : Nat) : Nat := 0x5000 + 0x100 * cl + r
/-- 0x5010 + 0x100·cl + j for channel ch = 16·cl + j. -/
abbrev seqIdx (ch : Nat) : Nat := 0x5010 + 0x100 * (ch / 16) + ch % 16

end Sys2Proof.Machine
end

