-- ==== Sys2Proof/Machine/Ops.lean ====
section
/-!
DEFINITION. The named operations the meanings share: one element of a unit array, device time, records, events, the
Saltern with its ownership store, alerts and answers.
-/
namespace Sys2Proof.Machine

/-! ## One unit of an array -/

/-- A unit array with one unit changed. -/
def upd {α : Type} {n : Nat} (v : Vector α n) (i : Fin n) (f : α → α) : Vector α n := v.set i.val (f v[i.val]) i.isLt

/-- The state with one clock output changed. -/
def State.updClk (s : State) (i : Fin 8) (f : ClkOut → ClkOut) : State := { s with clkout := upd s.clkout i f }
/-- The state with one edge engine changed. -/
def State.updEdge (s : State) (i : Fin 64) (f : EdgeEngine → EdgeEngine) : State := { s with edge := upd s.edge i f }
/-- The state with the delay logic of one channel changed. -/
def State.updDelay (s : State) (i : Fin 64) (f : Delay → Delay) : State := { s with delay := upd s.delay i f }
/-- The state with one sequencer changed. -/
def State.updSeq (s : State) (i : Fin 64) (f : Sequencer → Sequencer) : State := { s with seq := upd s.seq i f }
/-- The state with one driver changed. -/
def State.updDrv (s : State) (i : Fin 64) (f : Driver → Driver) : State := { s with drv := upd s.drv i f }
/-- The state with one trip latch changed. -/
def State.updTrip (s : State) (i : Fin 64) (f : TripLatch → TripLatch) : State := { s with trip := upd s.trip i f }
/-- The state with one local store changed. -/
def State.updStore (s : State) (i : Fin 4) (f : Store → Store) : State := { s with store := upd s.store i f }
/-- The state with one stamp input changed. -/
def State.updSti (s : State) (i : Fin 32) (f : StampInput → StampInput) : State := { s with sti := upd s.sti i f }
/-- The state with one group changed. -/
def State.updGrp (s : State) (i : Fin 32) (f : Group → Group) : State := { s with grp := upd s.grp i f }
/-- The state with one statistics run changed. -/
def State.updStat (s : State) (i : Fin 32) (f : StatRun → StatRun) : State := { s with stat := upd s.stat i f }
/-- The state with one monitor changed. -/
def State.updMon (s : State) (i : Fin 32) (f : Monitor → Monitor) : State := { s with mon := upd s.mon i f }
/-- The state with one crossbar changed. -/
def State.updXbar (s : State) (i : Fin 4) (f : Crossbar → Crossbar) : State := { s with xbar := upd s.xbar i f }
/-- The state with one trigger engine changed. -/
def State.updTrig (s : State) (i : Fin 4) (f : TrigEngine → TrigEngine) : State := { s with trig := upd s.trig i f }
/-- The state with one capture engine changed. -/
def State.updCap (s : State) (i : Fin 4) (f : Capture → Capture) : State := { s with cap := upd s.cap i f }
/-- The state with one Drizzle changed. -/
def State.updDrz (s : State) (i : Fin 4) (f : Drizzle → Drizzle) : State := { s with drz := upd s.drz i f }
/-- The state with one port changed. -/
def State.updPort (s : State) (i : Fin 8) (f : Port → Port) : State := { s with port := upd s.port i f }
/-- The state with one arm group changed. -/
def State.updArm (s : State) (i : Fin 16) (f : ArmGroup → ArmGroup) : State := { s with armg := upd s.armg i f }
/-- The state with one event-code sender changed. -/
def State.updSender (s : State) (i : Fin 32) (f : Egress → Egress) : State := { s with sender := upd s.sender i f }
/-- The state with one channel's Gust queue changed. -/
def State.updGustq (s : State) (i : Fin 64) (f : Egress → Egress) : State := { s with gustq := upd s.gustq i f }
/-- The state with one margin item changed. -/
def State.updItem (s : State) (i : Fin 27) (f : MarginItem → MarginItem) : State := { s with margin := upd s.margin i f }

/-- A list of steps on the state, in order. -/
def each {α : Type} (l : List α) (f : α → State → State) (s : State) : State := l.foldl (fun t a => f a t) s

/-- The cluster of a channel (R22). -/
def clusterOf (ch : Fin 64) : Fin 4 := ⟨ch.val / 16, by omega⟩
/-- The cluster of a stamp input, group, monitor or event-code sender (R22). -/
def clusterOf8 (i : Fin 32) : Fin 4 := ⟨i.val / 8, by omega⟩
/-- Channel 16·cl + j. -/
def channelOf (cl : Fin 4) (j : Fin 16) : Fin 64 := ⟨16 * cl.val + j.val, by omega⟩
/-- Input, group, monitor or sender 8·cl + j. -/
def unitOf8 (cl : Fin 4) (j : Fin 8) : Fin 32 := ⟨8 * cl.val + j.val, by omega⟩

/-- The clusters present (R1). -/
def State.clusters (s : State) : List (Fin 4) := (List.finRange 4).filter (fun c => c.val < s.part.clusters)
/-- The channels present (R1). -/
def State.channels (s : State) : List (Fin 64) := (List.finRange 64).filter (fun c => c.val < 16 * s.part.clusters)
/-- The stamp inputs, groups, monitors and event-code senders present (R1). -/
def State.units8 (s : State) : List (Fin 32) := (List.finRange 32).filter (fun c => c.val < 8 * s.part.clusters)
/-- The Brynline ports present (R1). -/
def State.ports (s : State) : List (Fin 8) := (List.finRange 8).filter (fun c => c.val < 2 * s.part.clusters)

/-! ## Device time -/

/-- The present T_E count. -/
def State.now (s : State) : TE := s.time.count
/-- The start of the present T_E. -/
def State.nowAt (s : State) : Instant := startOf s.time.count
/-- The present Tide number (R49). -/
def State.tideNow (s : State) : W64 := tideWord s.time.count
/-- In IDLE, RUN, HOLD and SAFE. -/
def State.served (s : State) : Bool := match s.dev.st with | .boot => false | .load => false | _ => true

/-- A happening at T_E `a` has arrived: the count is at least `a` (R40). -/
def State.arrive (s : State) (a : TE) : State := { s with time := { s.time with count := max s.time.count a } }
/-- The instant that an (epoch, ZTIME) pair names now (R45, R48). -/
def State.named (s : State) (epoch zt : Nat) : Instant := turnsOf s.time.count * fuPerTE + instantOf epoch zt
/-- The Tide boundary served next: one Tide after the last; after a set of ZTIME the first of the new count (R49, R50; across
the epoch's own wrap log entry 98). -/
def State.nextBoundary (s : State) : TE :=
  match s.time.lastTide with
  | some b => b + tideLen
  | none => if s.now % tideLen = 0 then s.now else Sys2Proof.Machine.nextTide s.now
/-- What concerns an instant is done under the settings in force at it: those before the last boundary, where it lies before
that (R145, R236, R243). -/
def State.asOf (x : Instant) (f : State → State) (s : State) : State :=
  if teOf x < s.commits.priorEnd then { f { s with od := s.commits.prior } with od := s.od } else f s
/-- T_E in `n` milliseconds at the nominal root. -/
abbrev msTE (n : Nat) : Nat := n * 1250000

/-- Whether an instant's T_E is flagged (R108). -/
def State.lullAt (s : State) (x : Instant) : Bool := traceAt false s.time.flagged (teOf x)

/-- The next free value's number; the counter advances. -/
def State.fresh (s : State) : Nat × State := (s.free, { s with free := s.free + 1 })

/-! ## Records (R56) -/

/-- A record from its fields (R56). -/
def record (type flags source gen payload time : Nat) : W128 :=
  BitVec.ofNat 128 (type % 256 * 2 ^ 120 + flags % 256 * 2 ^ 112 + source % 4096 * 2 ^ 100 + gen % 16 * 2 ^ 96
    + payload % 2 ^ 32 * 2 ^ 64 + time % 2 ^ 64)

/-- An anchor record (R63): cause, epoch, ZTIME. -/
def anchor (cause : Nat) (flags : Nat) (x : Instant) : W128 :=
  record 0x07 flags cause 0 (epochAt x).toNat (ztime x).toNat

/-! ## Events (R65 to R70, R438) -/

/-- The ended Tides with the one that holds T_E `a` changed: the oldest that ended after `a`, whatever its number (R50, R68).
None when `a` lies in the Tide in progress or later. -/
def inEnded (f : EndedTide → EndedTide) (a : TE) : List EndedTide → Option (List EndedTide)
  | [] => none
  | b :: rest => if a < b.at_ then some (f b :: rest) else (inEnded f a rest).map (b :: ·)

/-- Put an immediate event into the batch of the Tide its ZTIME lies in: the Tide in progress, or one that has ended and
is not closed yet (R66, R68). -/
def Merger.add (m : Merger) (e : Event) : Merger :=
  match inEnded (fun b => { b with events := b.events ++ [e] }) (teOf e.at_) m.ended with
  | some l => { m with ended := l }
  | none => { m with open_ := m.open_ ++ [e] }

/-- Raise an immediate event at an instant (R66). In BOOT and LOAD it is held until IDLE (R438). -/
def State.raiseAt (s : State) (x : Instant) (source : Nat) (detail : W32) (flags : Nat := 0) : State :=
  match s.dev.st with
  | .boot => { s with merger := { s.merger with held := s.merger.held ++ [(source, detail, BitVec.ofNat 8 flags)] } }
  | .load => { s with merger := { s.merger with held := s.merger.held ++ [(source, detail, BitVec.ofNat 8 flags)] } }
  | _ =>
    let fl := BitVec.ofNat 8 (flags + if s.lullAt x then 1 else 0)
    { s with merger := s.merger.add { at_ := x, source := source, detail := detail, flags := fl } }

/-- Raise an immediate event in the present T_E. -/
def State.raise (s : State) (source : Nat) (detail : Nat) (flags : Nat := 0) : State :=
  s.raiseAt s.nowAt source (BitVec.ofNat 32 detail) flags

/-- Raise an event that its table raises at most once per kind per Tide and without a count. -/
def State.raiseOnceAt (s : State) (x : Instant) (source key : Nat) (detail : Nat) (flags : Nat := 0) : State :=
  if s.merger.once.contains (source, key) then s
  else
    let s := { s with merger := { s.merger with once := (source, key) :: s.merger.once } }
    s.raiseAt x source (BitVec.ofNat 32 detail) flags

/-- Raise such an event in the present T_E. -/
def State.raiseOnce (s : State) (source key : Nat) (detail : Nat) (flags : Nat := 0) : State :=
  s.raiseOnceAt s.nowAt source key detail flags

/-- One more case of a summary event (R65): `first` is the detail of the first case, `again` folds in a later one of the
same Tide, that is on the same side of the boundary `b` to come. -/
def sumInto (b : TE) (l : List Summary) (x : Instant) (source key : Nat) (first : W32) (again : W32 → W32) (flags : Byte) :
    List Summary :=
  let same (u : Summary) : Bool := u.source == source && u.key == key && decide (teOf u.at_ < b) == decide (teOf x < b)
  if l.any same then l.map (fun u => if same u then { u with detail := again u.detail } else u)
  else l ++ [{ at_ := x, source := source, key := key, detail := first, flags := flags }]

/-- A case of a summary event at an instant (R65): it belongs to the Tide that holds the instant. Summary events of BOOT
and LOAD are held with the others, as one case each (R438). -/
def State.raiseSumAt (s : State) (x : Instant) (source key : Nat) (first : W32) (again : W32 → W32) (flags : Nat := 0) :
    State :=
  match s.dev.st with
  | .boot => s.raiseAt x source first flags
  | .load => s.raiseAt x source first flags
  | _ =>
    let fl := BitVec.ofNat 8 (flags + if s.lullAt x then 1 else 0)
    let m := s.merger
    match inEnded (fun b => { b with sums := sumInto b.at_ b.sums x source key first again fl }) (teOf x) m.ended with
    | some l => { s with merger := { m with ended := l } }
    | none => { s with merger := { m with sums := sumInto s.nextBoundary m.sums x source key first again fl } }

/-- A count in bits [31:16] goes up by one, saturating at 0xFFFF. -/
def bumpHigh (d : W32) : W32 :=
  let n := d.toNat
  if n / 2 ^ 16 < 0xFFFF then BitVec.ofNat 32 (n + 2 ^ 16) else d

/-- A count in bits [31:21] goes up by one, saturating at 2,047 (R363). -/
def bumpEleven (d : W32) : W32 :=
  let n := d.toNat
  if n / 2 ^ 21 < 2047 then BitVec.ofNat 32 (n + 2 ^ 21) else d

/-- A case of a summary event whose count of cases stands in [31:16]. -/
def State.raiseCountAt (s : State) (x : Instant) (source key low : Nat) (flags : Nat := 0) : State :=
  s.raiseSumAt x source key (BitVec.ofNat 32 (low % 2 ^ 16 + 2 ^ 16)) bumpHigh flags

/-- Such a case in the present T_E. -/
def State.raiseCount (s : State) (source key low : Nat) (flags : Nat := 0) : State :=
  s.raiseCountAt s.nowAt source key low flags

/-- The Tide in progress ends for the merger (R50, R65, R68): its events and summaries form the next batch to close. What
stands in a later T_E already belongs to the Tide that begins. -/
def State.endTideAt (s : State) (n : W64) : State :=
  let m := s.merger
  let later (x : Instant) : Bool := decide (s.now ≤ teOf x)
  { s with merger := { m with
    open_ := m.open_.filter (fun e => later e.at_)
    sums := m.sums.filter (fun u => later u.at_)
    once := []
    ended := m.ended ++ [⟨n, s.now, m.open_.filter (fun e => !later e.at_), m.sums.filter (fun u => !later u.at_)⟩] } }

/-! ## Measurements of the Barometer (R471, R474) -/

/-- A measurement of an item of the margin plan: the hour keeps the largest. -/
def noteMeasure (i : Nat) (v : Int) (s : State) : State :=
  if h : i < 27 then
    s.updItem ⟨i, h⟩ (fun m => { m with hour := some (match m.hour with | some w => max v w | none => v) })
  else s

/-! ## Alerts (R381, R383) -/

/-- ALERT_N follows ALERT_STATUS and ALERT_ENABLE (R383), unless a hard-wired shutdown holds it low (R15). -/
def State.refreshAlert (s : State) : State :=
  match s.boot.power with
  | .running =>
    { s with pins := { s.pins with alertN := if s.host.alertStatus &&& s.host.alertEnable = 0 then .high else .low } }
  | _ => s

/-- Set a bit of ALERT_STATUS (R381). -/
def State.setAlert (s : State) (b : BitVec 4) : State :=
  { s with host := { s.host with alertStatus := s.host.alertStatus ||| b } }.refreshAlert

/-- A vector's message can be sent (R379, R383; log entry 92): the link is up, the endpoint in D0, MSI-X enabled and neither the
function nor the vector masked. -/
def HostIf.sends (h : HostIf) (v : Fin 32) : Bool :=
  h.linkUp && !h.config.d3hot && h.config.msixOn && !h.config.msixMask && !(h.msixTable[v].toNat.testBit 96)

/-- A vector's message is sent: the memory write that its table entry names (R383). -/
def HostIf.send (h : HostIf) (v : Fin 32) : HostIf :=
  let e := h.msixTable[v]
  let l := h.msixSent ++ [{ vector := v.val, address := e.setWidth 64, data := (e >>> 64).setWidth 32 }]
  { h with msixSent := l.drop (l.length - 64), msixPending := h.msixPending &&& ~~~BitVec.ofNat 32 (2 ^ v.val) }

/-- Every pending vector that can be sent is sent, in vector order (R383). -/
def HostIf.sendPending (h : HostIf) : HostIf :=
  (List.finRange 32).foldl (fun h v => if h.msixPending.toNat.testBit v.val && h.sends v then h.send v else h) h

/-- An MSI-X vector is signalled: its message is sent, or its pending bit waits for that (R383). -/
def State.msix (s : State) (v : Nat) : State :=
  let h := s.host
  { s with host := if h.sends (Fin.ofNat 32 v) then h.send (Fin.ofNat 32 v)
                   else { h with msixPending := h.msixPending ||| BitVec.ofNat 32 (2 ^ v) } }

/-! ## Ownership store (R366 to R371) -/

/-- The owner codes of R367. -/
def Owner.code : Owner → Nat
  | .free => 0 | .host => 1 | .device => 2 | .frozen => 3

/-- The owner a flag byte names (R367). -/
def Owner.ofCode (n : Nat) : Owner :=
  match n % 4 with | 0 => .free | 1 => .host | 2 => .device | _ => .frozen

/-- The flag byte of R367. -/
def PanFlag.byte (f : PanFlag) : Byte := BitVec.ofNat 8 (f.gen.toNat * 4 + f.owner.code)

/-- The flag and use in force of a Pan (R366). -/
def State.flag (s : State) (pan : Nat) : PanFlag := (assocFind s.own pan).getD {}

/-- Set the flag and use of a Pan. -/
def State.setFlag (s : State) (pan : Nat) (f : PanFlag) : State :=
  { s with own := assocPut s.own pan (if f = {} then none else some f) }

/-- A Pan passes to an owner: generation + 1, the use given (R369, R371). -/
def State.handOver (s : State) (pan : Nat) (o : Owner) (use : Byte) : State :=
  s.setFlag pan { owner := o, gen := (s.flag pan).gen + 1, use := use, changed := some s.now }

/-- The device takes a host-owned Pan (R371). -/
def State.takePan (s : State) (pan : Nat) (use : Byte) : State := s.handOver pan .device use

/-- The device hands a Pan back to the host; a frozen Pan stays frozen (R371, R376). -/
def State.givePan (s : State) (pan : Nat) : State :=
  if (s.flag pan).owner = .device then s.handOver pan .host 0 else s

/-- Every Pan of `l` is host-owned. -/
def State.allHost (s : State) (l : List Nat) : Bool := l.all (fun p => (s.flag p).owner == .host)

/-! ## The Saltern (R365, R366, R376) -/

/-- The size of the Saltern in bytes (R365). -/
abbrev salternSize : Nat := 8388608

/-- The canonical form of the Saltern's cells: rising addresses, no listed zero, Pan 0 not among them. -/
def Memory.wf (m : List Host.Cell) : Bool :=
  assocSorted m && m.all (fun c => decide (4096 ≤ c.1) && decide (c.1 < salternSize) && c.2 != 0)

/-- What a byte reads as that nothing has written (log entry 7). -/
abbrev salternUnwritten : Byte := 0

/-- A byte of the Saltern: Pan 0 shows the ownership store (R366). -/
def State.byte (s : State) (a : Nat) : Byte :=
  if a < 2048 then (s.flag a).byte
  else if a < 4096 then (s.flag (a - 2048)).use
  else (assocFind s.mem a).getD salternUnwritten

/-- Cells with one byte written. -/
def Memory.put (m : List Host.Cell) (a : Nat) (b : Byte) : List Host.Cell :=
  if 4096 ≤ a ∧ a < salternSize then assocPut m a (if b = salternUnwritten then none else some b) else m

/-- Cells with some bytes written from an address; `none` leaves a byte. -/
def Memory.putAll : List Host.Cell → Nat → List (Option Byte) → List Host.Cell
  | m, _, [] => m
  | m, a, none :: bs => Memory.putAll m (a + 1) bs
  | m, a, some b :: bs => Memory.putAll (Memory.put m a b) (a + 1) bs

/-- `n` bytes of the Saltern from an address. -/
def State.readBytes (s : State) (a n : Nat) : List Byte := (List.range n).map (fun i => s.byte (a + i))

/-- A word of the Saltern (memory code 0, R461). -/
def salternWord (w : Nat) : MemWord := { mem := 0, cl := 0, addr := w }

/-- Whether a word is poisoned (R463). -/
def State.isPoisoned (s : State) (w : MemWord) : Bool := s.health.poisoned.contains w

/-- The word that the injection objects name; a memory of the node lies in no cluster (R461, R466; log entry 128). -/
def State.injTarget (s : State) : MemWord :=
  let b := s.od.bytes 0x7804 1
  let m := field b 0 1
  { mem := m, cl := if m = 0 ∨ m = 5 then 0 else field b 1 1, addr := field b 4 4 }

/-- An armed injection acts on a word that is written, and is disarmed (R466). -/
def State.inject (s : State) (written : MemWord → Bool) : State :=
  if s.health.injArmed && written s.injTarget then
    { s with health := { s.health with
      injArmed := false, errs := (s.injTarget, decide (s.nat 0x7804 2 = 2)) :: s.health.errs } }
  else s

/-- Words are written whole: their errors go; then an armed injection on one of them acts (R376, R463, R466). -/
def State.wordsWritten (s : State) (written : MemWord → Bool) : State :=
  ({ s with health := { s.health with
    poisoned := s.health.poisoned.filter (fun w => !written w)
    errs := s.health.errs.filter (fun e => !written e.1) } }).inject written

/-- A word is written whole (R376, R466). -/
def State.wordWritten (s : State) (w : MemWord) : State := s.wordsWritten (fun x => x = w)

/-- Corrected and uncorrectable findings raise the event of the memory's place (R479): a cluster memory 416 + 8·cl + 6 or
7, a centre memory 501. -/
def memoryEvent (w : MemWord) (uncorrectable scrub : Bool) (s : State) : State :=
  if w.mem = 0 ∨ w.mem = 5 then
    s.raiseOnce 501 (w.mem * 2 + if uncorrectable then 1 else 0)
      (w.mem + (if uncorrectable then 16 else 0) + (if scrub then 32 else 0) + w.addr % 2 ^ 24 * 2 ^ 8)
  else if uncorrectable then
    s.raiseOnce (423 + 8 * w.cl) w.mem (w.mem + (if scrub then 16 else 0) + w.addr % 2 ^ 24 * 2 ^ 8)
  else s.raiseCount (422 + 8 * w.cl) w.mem w.mem

/-- A single-bit error is corrected and written back (R462). -/
def correctWord (w : MemWord) (scrub : Bool) (s : State) : State :=
  memoryEvent w false scrub { s with health := { s.health with
    errs := s.health.errs.filter (fun e => e.1 ≠ w), corrected := s.health.corrected + 1 } }

/-- The 32-bit form of a word's place (R466 0x7800:06). -/
def wordPlace (w : MemWord) : W32 := BitVec.ofNat 32 (w.mem % 16 + w.cl % 16 * 2 ^ 4 + w.addr % 2 ^ 24 * 2 ^ 8)

/-- An uncorrectable word of a program Pan freezes the Pan (R376, R208). -/
def freezeProgramPan (pan : Nat) (s : State) : State :=
  let f := s.flag pan
  if f.owner = .device ∧ f.use = 0x01 then s.handOver pan .frozen 0xF0 else s

/-- Member k of the lists, counted through, is changed. -/
def changeNth {α : Type} (f : α → α) : Nat → List (List α) → List (List α)
  | _, [] => []
  | k, l :: rest => if k < l.length then l.modify k f :: rest else l :: changeNth f (k - l.length) rest

/-- An uncorrectable word of the event merger's buffer: the event is delivered poisoned, its detail code reads 0 (R463). -/
def poisonEvent (k : Nat) (m : Merger) : Merger :=
  let ls := changeNth (fun (e : Event) => { e with detail := 0, flags := e.flags ||| 0x20 }) k
    (m.ended.map (fun b => b.events) ++ [m.open_])
  { m with
    ended := (m.ended.zip ls).map (fun p => { p.1 with events := p.2 })
    open_ := ls.getLastD m.open_ }

/-- An uncorrectable word is poisoned and counted once (R463, R376); a word of Pan 0 is rewritten from the ownership store. -/
def poisonWord (w : MemWord) (scrub : Bool) (s : State) : State :=
  if s.isPoisoned w then s
  else
    let h := s.health
    let kept := if w.mem = 0 ∧ w.addr < 1024 then h.poisoned else h.poisoned ++ [w]
    let s := { s with health := { h with
      errs := h.errs.filter (fun e => e.1 ≠ w), poisoned := kept, poisons := h.poisons + 1, lastPoison := wordPlace w } }
    let s := if w.mem = 5 then { s with merger := poisonEvent (Config.mergerEvent w.addr) s.merger } else s
    let s := memoryEvent w true scrub s
    if w.mem = 0 then freezeProgramPan (w.addr / 1024) s else s

/-- A demand read of a word (R462, R463). -/
def readWord (w : MemWord) (s : State) : State :=
  match s.health.errs.find? (fun e => e.1 = w) with
  | some (_, true) => poisonWord w false s
  | some (_, false) => correctWord w false s
  | none => s

/-- Write one aligned word of the Saltern, byte by byte. A write of some of its bytes reads the word first; of a poisoned word
it is discarded (R376, R462; log entry 128). -/
def State.putWord (s : State) (w : Nat) (bs : List (Option Byte)) : State :=
  if bs.all Option.isNone then s
  else if bs.all Option.isSome then
    ({ s with mem := Memory.putAll s.mem (4 * w) bs }).wordWritten (salternWord w)
  else
    let t := readWord (salternWord w) s
    if t.isPoisoned (salternWord w) then t
    else ({ t with mem := Memory.putAll t.mem (4 * w) bs }).inject (fun x => x = salternWord w)

/-- Write bytes from a word address on, word by word; the list's length is a multiple of 4. -/
def State.putWords : State → Nat → Nat → List (Option Byte) → State
  | s, _, 0, _ => s
  | s, w, n + 1, bs => State.putWords (s.putWord w (bs.take 4)) (w + 1) n (bs.drop 4)

/-- Write bytes into the Saltern from a word-aligned address (the device's own writes are whole words). -/
def State.writeBytes (s : State) (a : Nat) (bs : List Byte) : State :=
  s.putWords (a / 4) ((bs.length + 3) / 4) (bs.map some)

/-- Write a record at a 16-byte slot (R386). -/
def State.writeRecord (s : State) (a : Nat) (r : W128) : State := s.writeBytes a (toBytes 16 r.toNat)

/-- The path codes of R393. -/
def pathCode : Path → Nat
  | .pcie => 0 | .ethernet => 1 | .spi => 2 | .tunnel => 3

/-- An ownership violation (R375, R393, R394): counted, reported, ALERT_STATUS [3]. -/
def State.violation (s : State) (path : Path) (pan kind : Nat) : State :=
  let s := { s with host := { s.host with violations := s.host.violations + 1 } }
  (s.raiseCount 498 kind (pan % 2048 + kind * 2 ^ 11 + pathCode path * 2 ^ 14)).setAlert 8

/-! ## Answers to host requests (R399, R417) -/

/-- The answer to the request in hand. -/
def State.reply (s : State) (status : W32) (tide : W64 := 0) (payload : List Byte := []) : State :=
  { s with answer := { status := status, tide := tide, payload := payload } }

/-- The request is granted with effect before its response. -/
def State.ok (s : State) : State := s.reply 0

/-- The request is refused with an abort code and has no effect (R399). A refusal for device or unit state raises 491
kind 1 or 2 for the object concerned (R406). -/
def State.refuse (s : State) (r : Requester) (idx sub : Nat) (code : W32) : State :=
  let s := s.reply code
  let d := sub % 256 * 2 ^ 4 + pathCode r.path * 2 ^ 12 + idx % 2 ^ 16 * 2 ^ 16
  if code = 0x04010000 then s.raiseOnce 491 1 (1 + d)
  else if code = 0x04020000 then s.raiseOnce 491 2 (2 + d)
  else s

/-- The device-state codes of R402. -/
def DevState.code : DevState → Nat
  | .boot => 0 | .load => 1 | .idle => 2 | .run => 3 | .hold => 4 | .safe => 5

/-- The CSU state codes of R86. -/
def CsuSt.code : CsuSt → Nat
  | .off => 0 | .freerun => 1 | .acquire => 2 | .locked => 3 | .aligning => 4 | .aligned => 5 | .lull => 6 | .ret => 7
  | .bypass => 8

/-- LOCKED, ALIGNING or ALIGNED (R107). -/
def CsuSt.isLocked : CsuSt → Bool
  | .locked => true | .aligning => true | .aligned => true | _ => false

end Sys2Proof.Machine
end

