-- ==== Sys2Proof/Machine/Request.lean ====
section
/-!
DEFINITION. The gate every host request passes: device state and access class (R398, R402) and the order of the checks
(R399).
-/
namespace Sys2Proof.Machine

/-- Whether the access class permits a write in a device state (R398). -/
def Access.permits (a : Access) (d : DevState) : Bool :=
  match a, d with
  | .const, _ => false
  | .ro, _ => false
  | _, .boot => false
  | _, .load => false
  | .rwi, .idle => true
  | .rwi, _ => false
  | .rwh, .run => false
  | _, _ => true

/-- One check that refuses with a code when it fails. -/
def need (c : Bool) (code : W32) : Option W32 := if c then none else some code

/-- The first failing check. -/
def firstFail : List (Option W32) → Option W32
  | [] => none
  | some c :: _ => some c
  | none :: rest => firstFail rest

/-- The existence checks of R399 steps 3 and 4. -/
def State.exists_ (s : State) (idx sub : Nat) : Option W32 :=
  match odRecord s.part idx with
  | none => some 0x01010000
  | some _ => match odEntry s.part idx sub with
    | none => some 0x01020000
    | some _ =>
      if s.part = .zt3216 ∧ 0x4800 ≤ idx ∧ idx < 0x4A00 ∧ sub = 0x0E then some 0x01010000 else none

/-- A host request on an object: `early` are its checks before the device state in R399's order, `late` those after it,
`effect` what it does when all pass. In BOOT no request is served (R402). -/
def State.request (s : State) (r : Requester) (idx sub : Nat) (acc : Access) (early late : List (Option W32))
    (effect : State → State) : State :=
  match s.dev.st with
  | .boot => s
  | d =>
    match firstFail (s.exists_ idx sub :: early) with
    | some c => s.refuse r idx sub c
    | none =>
      if acc.permits d then
        match firstFail late with
        | some c => s.refuse r idx sub c
        | none => effect s
      else s.refuse r idx sub 0x04010000

/-- The configuration generation increments at each RWI or RWH write (R415). -/
def State.confGen (s : State) : State :=
  { s with commits := { s.commits with confGen := s.commits.confGen + 1 } }

/-- The stored copy of an object is written anew (R401). -/
def State.repaired (s : State) (idx sub : Nat) : State :=
  { s with parity := s.parity.filter (fun p => p.1 ≠ odKey idx sub) }

/-- A host names a requester, whatever the session byte (R409, R423, R425). -/
def Requester.sameHost (a b : Requester) : Bool := a.path = b.path && a.addr = b.addr

/-- A setting takes a value at once. -/
def State.store1 (s : State) (idx sub : Nat) (v : OdVal) : State :=
  { s with od := s.od.set idx sub v, parity := s.parity.filter (fun p => p.1 ≠ odKey idx sub) }

/-- The value a setting will hold at the next usable boundary: staged entries over the value in force (R411). -/
def Commits.overlay (o : Settings) : List SetEntry → Settings
  | [] => o
  | e :: rest => Commits.overlay (o.set (e.key / 256) (e.key % 256) e.value) rest

/-- The entries of every set for a Tide up to n, in boundary order. -/
def Commits.upTo (c : Commits) (n : Nat) : List SetEntry := ((c.sets.filter (fun p => p.1 ≤ n)).map (fun p => p.2)).flatten

/-- The Tide whose boundary is the first usable one (R408). -/
def State.nextTide (s : State) : Nat := tideOf (usableBoundary s.now)

/-- Statistics restarts in the set of Tide n (R278). -/
def Commits.restartsAt (c : Commits) (n : Nat) : Nat := (c.restart.filter (fun p => tideOf p.2 = n)).length

/-- Entries of the set of Tide n, the restarts among them (R278, R413). -/
def Commits.size (c : Commits) (n : Nat) : Nat := ((assocFind c.sets n).getD []).length + c.restartsAt n

/-- A write accepted now comes after the cutoff of the next boundary (R408). -/
def State.pastCutoff (s : State) : Bool := s.nextTide != tideOf s.now + 1

/-- The count of writes accepted later than a cutoff, after one more write (R408, 0x1301:06). -/
def State.carriedNow (s : State) : W64 := if s.pastCutoff then s.commits.carried + 1 else s.commits.carried

/-- The settings in force at the boundary of Tide n (R411). -/
def State.viewAt (s : State) (n : Nat) : Settings := Commits.overlay s.od (s.commits.upTo n)

/-- The settings as the next set will leave them (R408, R411). -/
def State.staged (s : State) : Settings := s.viewAt s.nextTide

/-- A BOOL setting is 1, as applied or as the set of some Tide will leave it. -/
def State.onOrStaged (s : State) (idx sub : Nat) : Bool :=
  s.on idx sub || s.commits.sets.any (fun p => (s.viewAt p.1).nat idx sub != 0)

end Sys2Proof.Machine
end

