-- ==== Sys2Proof/Machine/Memory.lean ====
section
/-!
DEFINITION. SECDED memories (spec 17, R461 to R466, R479; spec 14, R376): what reading a word with an error does, and what writing a table does; the
swap of placement paths (spec 05, R136, R137).
-/
namespace Sys2Proof.Machine

/-- A read of the word would deliver poisoned data (R463). -/
def State.badWord (s : State) (w : MemWord) : Bool := s.isPoisoned w || s.health.errs.contains (w, true)

/-- The event merger takes its oldest events: an injection armed on one of their words acts, and every word of them with an
error is met; later events rewrite the words (R462, R463, R466; log entry 39). -/
def readMerger (n : Nat) (s : State) : State :=
  let taken (w : MemWord) : Bool := w.mem = 5 && decide (Config.mergerEvent w.addr < n)
  let s := s.inject taken
  let s := each (s.health.errs.filter (fun e => taken e.1)) (fun e t => readWord e.1 t) s
  { s with health := { s.health with poisoned := s.health.poisoned.filter (fun w => !taken w) } }

/-- The device reads a Pan: every word of it with an error is met (R462, R463). -/
def readPan (pan : Nat) (s : State) : State :=
  each (s.health.errs.filter (fun e => e.1.mem = 0 && e.1.addr / 1024 = pan)) (fun e t => readWord e.1 t) s

/-- A Pan of the Saltern holds a poisoned word (R376). -/
def State.panPoisoned (s : State) (pan : Nat) : Bool := s.health.poisoned.any (fun w => w.mem = 0 && w.addr / 1024 = pan)

/-! ## Correction tables and the swap of paths (R136, R137) -/

/-- The numbers of `w` bytes each that bytes hold. -/
def chunks (w : Nat) : Nat → List Byte → List Nat
  | 0, _ => []
  | n + 1, b => ofBytes (b.take w) :: chunks w n (b.drop w)

/-- An entry of a correction table (R134, R136). -/
def correctionOk (e : Nat) : Bool := bits e 24 8 = 0 && bits e 14 2 = 0 && bits e 12 2 != 2

/-- The words of a memory in a range are written whole: their errors go, an armed injection on one of them acts (R463,
R466). -/
def rangeWritten (mem : Nat) (cl : Fin 4) (lo n : Nat) (s : State) : State :=
  s.wordsWritten (fun w => w.mem = mem && w.cl = cl.val && decide (lo ≤ w.addr) && decide (w.addr < lo + n))

/-- The first word of a placement path's table in its cluster's memory (R461): path A, then path B. -/
def pathPlace (ch : Fin 64) (b : Bool) : Nat := 6400 * (ch.val % 16) + if b then 3200 else 0

/-- Entry f of the identity table (R134). -/
def identityEntry (f : Nat) : Nat := f / 400 * 512 + f % 400

/-- Entry f of a channel's live table, the identity table where none is installed (R134). -/
def EdgeEngine.entry (g : EdgeEngine) (f : Nat) : Nat :=
  match g.table with | some b => field b (4 * f) 4 | none => identityEntry f

/-- The word of the live path's table that serves a target: the entry of its fine field (R134, R461). -/
def State.entryWord (s : State) (ch : Fin 64) (x : Instant) : MemWord :=
  { mem := 3, cl := (clusterOf ch).val, addr := pathPlace ch s.edge[ch].spareIsA + x % 3200 }

/-- The entry that places an edge at its target: the identity entry where the table's is poisoned (R134, R463). -/
def State.placementEntry (s : State) (ch : Fin 64) (x : Instant) : W32 :=
  BitVec.ofNat 32 (if s.isPoisoned (s.entryWord ch x) then identityEntry (x % 3200) else s.edge[ch].entry (x % 3200))

/-- The words of a channel's correction table are written: of its live path, or of the spare one (R463). -/
def tableWords (ch : Fin 64) (live : Bool) (s : State) : State :=
  rangeWritten 3 (clusterOf ch) (pathPlace ch (s.edge[ch].spareIsA == live)) 3200 s

/-- The counters of a table that comes into force at the boundary that begins Tide `tide` (R136, R137). -/
def EdgeEngine.installedNow (g : EdgeEngine) (tide : W64) (origin : Nat) : EdgeEngine :=
  { g with origin := origin, calGen := g.calGen + 1, installed := tide }

/-- Some edge of the entry that is still to be placed lies in a span of instants. -/
def FifoEntry.edgeIn (lo hi : Instant) : FifoEntry → Bool
  | .edge x _ _ => decide (lo ≤ x) && decide (x < hi)
  | .train first n p w _ k second limit _ =>
    let hit (base least : Nat) : Bool :=
      let i := max least (if lo ≤ base then 0 else (lo - base + (p - 1)) / max p 1)
      let x := base + i * p
      decide (i < n) && decide (lo ≤ x) && decide (x < hi) && match limit with | some l => decide (x < l) | none => true
    hit first (if second then k + 1 else k) || hit (first + w) k

/-- An edge of the channel lies in a T_E less than 2 from T_E `t` (R137; log entry 118). -/
def EdgeEngine.edgeNear (g : EdgeEngine) (t : TE) : Bool :=
  let lo := startOf (t - 1)
  let hi := startOf (t + 2)
  g.fifo.any (FifoEntry.edgeIn lo hi) || match g.lastPlaced with | some x => decide (lo ≤ x) && decide (x < hi) | none => false

/-- The first T_E from `t` on that lies at least 2 T_E from every placed edge of a channel, looked for over `fuel` T_E; `near` says
which lie nearer (R137). -/
def swapTime (near : TE → Bool) : Nat → TE → TE
  | 0, t => t
  | fuel + 1, t => if near t then swapTime near fuel (t + 1) else t

/-- The spare path becomes live with its new table (R137). -/
def swapNow (ch : Fin 64) (s : State) : State :=
  s.updEdge ch (fun g => match g.newTable with
    | some (b, _) => { g with table := some (slice b 0 12800), newTable := none, spareIsA := !g.spareIsA }
    | none => g)

end Sys2Proof.Machine
end

