-- ==== Sys2Proof/Machine/Capture.lean ====
section
/-!
DEFINITION. The capture half of the trigger and capture engines (spec 12, R311 to R328; R203, R205, R507): arming, the
write port, trigger, gaps, mask violations, spill.
-/
namespace Sys2Proof.Machine

/-! ## Properties of records -/

/-- The type of a record (R56). -/
def recType (r : W128) : Nat := bits r.toNat 120 8
/-- An anchor (R58 type 0x07). -/
def isAnchor (r : W128) : Bool := recType r = 0x07
/-- A record with a flag bit set (R57). -/
def setFlagBit (b : Nat) (r : W128) : W128 := r ||| BitVec.ofNat 128 (2 ^ (112 + b))
/-- The calibration generation of a record (R56). -/
def recGen (r : W128) : Nat := bits r.toNat 96 4

/-- The Lull flag of a record (R57). -/
def recLull (r : W128) : Bool := bit r.toNat 112

/-- The calibrated unit of the records that a requester of a cluster presents, for the calibration-changed flag (R57, R58,
R253): channels from 64 on for program stamps, the input for a stamp and for an interval, whose start input it is (R250).
Other requesters have none. -/
def requesterUnit (cl : Fin 4) (code : Nat) : Option Nat :=
  if code < 0x10 then some (64 + 16 * cl.val + code)
  else if code < 0x18 then some (8 * cl.val + (code - 0x10))
  else none

/-! ## Storing (R311, R313 to R316, R318, R319) -/

/-- The engine is storing (R311). -/
def Capture.storing (c : Capture) : Bool :=
  match c.st with
  | .armed => true | .triggered => true | .freezing => true | _ => false

/-- The pre-trigger part in capture order (R313): headed by an anchor. -/
def Capture.preRecords (c : Capture) : List W128 :=
  let body := c.pre.reverse
  match body with
  | r :: _ => if isAnchor r then body else c.anchor.toList ++ body
  | [] => c.anchor.toList

/-- The capture in capture order. -/
def Capture.records (c : Capture) : List W128 := c.preRecords ++ c.post.reverse

/-- Records in the capture (:0B). -/
def Capture.stored (c : Capture) : Nat := c.preRecords.length + c.post.length

/-- Records that count toward Q: those from the trigger marker on, and with P = 0 the start anchor (R313). -/
def Capture.postCount (c : Capture) : Nat := c.stored - c.trigPos.toNat + if c.cfg.p = 0 then 1 else 0

/-- Places left under the limit that ends the part being written; none while there is no such limit (R313, R319). -/
def Capture.room (c : Capture) : Option Nat :=
  match c.st with
  | .triggered => if c.marked then some (c.cfg.q - c.postCount) else none
  | .freezing =>
    some (min c.vLeft (min (c.cfg.p + c.cfg.q - c.stored) (if c.marked then c.cfg.q - c.postCount else c.vLeft)))
  | _ => none

/-- The limit that ends the part was P + Q or Q (status bit [5]). -/
def Capture.fullPart (c : Capture) : Bool :=
  c.marked && decide (c.cfg.q ≤ c.postCount) || decide (c.cfg.p + c.cfg.q ≤ c.stored)

/-- A record enters the pre-trigger part, the oldest leaving past P − 1; with P = 0 there is no such part and the start anchor
stays (R313). -/
def Capture.pushPre (c : Capture) (r : W128) : Capture :=
  let l := r :: c.pre
  if c.cfg.p = 0 then { c with total := c.total + 1 } else
  if c.cfg.p - 1 < l.length then
    match l.getLast? with
    | some o => { c with pre := l.dropLast, anchor := if isAnchor o then some o else c.anchor, total := c.total + 1 }
    | none => c
  else { c with pre := l, total := c.total + 1 }

/-- A record is put in its part. -/
def Capture.place (c : Capture) (r : W128) : Capture :=
  match c.st with
  | .freezing => { c with post := r :: c.post, vLeft := c.vLeft - 1, total := c.total + 1 }
  | .triggered => if c.marked then { c with post := r :: c.post, total := c.total + 1 } else c.pushPre r
  | _ => c.pushPre r

/-- Whether a record of a unit is the first stored with a new calibration generation, and the engine that has noted it (R57
[1]). DEDUCED, log entry 126: a generation is new when it is 1 to 7 steps, modulo 16, beyond the newest one stored. -/
def Capture.noteGen (c : Capture) (unit : Option Nat) (r : W128) : Bool × Capture :=
  match unit with
  | none => (false, c)
  | some u =>
    let step := (recGen r + 16 - (assocFind c.lastGen u).getD 0) % 16
    if step = 0 ∨ 8 ≤ step then (false, c)
    else (true, { c with lastGen := assocPut c.lastGen u (some (recGen r)) })

/-- The record with its calibration-changed flag set or left (R57 [1]). -/
def calFlag (on : Bool) (r : W128) : W128 := if on then setFlagBit 1 r else r

/-- The four buffer words of a slot (memory code 2, R461). -/
def captureWords (cl : Fin 4) (slot : Nat) : List MemWord :=
  (List.range 4).map (fun k => { mem := 2, cl := cl.val, addr := 4 * (slot % 65536) + k })

/-- Store one record in the capture of cluster cl. -/
def storeOne (cl : Fin 4) (r : W128) (s : State) : State :=
  (each (captureWords cl s.cap[cl].total) (fun w t => t.wordWritten w) s).updCap cl (fun c => c.place r)

/-- The runs that no gap record in the capture stands for yet: those still open, and those whose gap record waits for its
cycle (R316). -/
def Capture.runs (c : Capture) : List GapRun := c.gaps ++ c.written.filterMap (fun e => e.gap)

/-- One run for several (R316): the total lost, from the first record lost in any of them. -/
def joinRuns : List GapRun → Option GapRun
  | [] => none
  | g :: rest => match joinRuns rest with
    | some h => some { (if h.first < g.first then h else g) with count := g.count + h.count }
    | none => some g

/-- A gap record (R58, R316). -/
def gapRecord (cl : Fin 4) (g : GapRun) : W128 :=
  record 0x06 (if g.lull then 1 else 0) cl.val 0 (min g.count 0xFFFFFFFF) (ztime g.first).toNat

/-- The Pans of the spill ring (R318). -/
def CapConfig.pans (c : CapConfig) : List Nat := (List.range c.count).map (fun i => c.first + i)

/-- The requester owns an entry of the capture table (R205). -/
def State.ownsCapture (s : State) (cl : Fin 4) (code : Nat) : Bool :=
  (s.od.bytes (clIdx cl 2) 1).contains (BitVec.ofNat 8 code)

/-- `n` records of an origin are lost, the first of them at x (R316): the run goes on or begins. -/
def loseRecords (cl : Fin 4) (origin n : Nat) (x : Instant) (lull : Bool) (s : State) : State :=
  s.updCap cl (fun c =>
    if c.gaps.any (fun g => g.origin = origin) then
      { c with gaps := c.gaps.map (fun g => if g.origin = origin then { g with count := g.count + n } else g) }
    else { c with gaps := c.gaps ++ [{ origin := origin, count := n, first := x, lull := lull }] })

/-- A loss at a FIFO or queue of a requester counts for a gap only while the engine stores records of that requester
(R316). -/
def loseAtQueue (cl : Fin 4) (code n : Nat) (x : Instant) (lull : Bool) (s : State) : State :=
  let c := s.cap[cl]
  if c.storing && bit c.cfg.keep.toNat code then loseRecords cl code n x lull s else s

/-- The engine presents a trigger record (R310, R205). -/
def presentTrigger (cl : Fin 4) (c : Nat) (mask : W16) (f : TE) (s : State) : State :=
  let lull := s.lullAt (startOf f)
  if !s.ownsCapture cl 0x19 then s
  else if 4 ≤ s.trig[cl].queue.length then
    loseAtQueue cl 0x19 1 (startOf f) lull (s.updTrig cl (fun t => { t with lost := t.lost + 1 }))
  else
    let r := record 0x04 (if lull then 1 else 0) (cl.val * 16 + c) 0 mask.toNat (ztimeTE f).toNat
    s.updTrig cl (fun t => { t with queue := t.queue ++ [r] })

/-- A trigger on its way is not taken: a firing of the engine's own condition presents its trigger record after all (R310). -/
def dropFire (cl : Fin 4) (s : State) : State :=
  match s.cap[cl].fire with
  | some x =>
    let s := s.updCap cl (fun c => { c with fire := none })
    if x.cl = cl.val && !x.isForce then presentTrigger cl x.cond x.mask x.f s else s
  | none => s

/-- Enter DONE in T_E t: event 416 + 8·cl + 1 (R328). -/
def captureDone (cl : Fin 4) (t : TE) (s : State) : State :=
  let c := s.cap[cl]
  let s := s.updCap cl (fun c => { c with st := .done })
  s.raiseAt (startOf t) (417 + 8 * cl.val) (BitVec.ofNat 32 (c.status.toNat % 64 + min c.handed.toNat 0xFFFF * 2 ^ 16))

/-- A chain whose first record has been written is stored whole, its rest at the latest with the end of storing or the start
of FREEZING (R507). -/
def finishChain (cl : Fin 4) (s : State) : State :=
  (each s.cap[cl].chain (storeOne cl) s).updCap cl (fun c => { c with chain := [], chainDone := 0 })

/-- The closing gap record in its place as the last record (R316): with P = 0 before the trigger it stands behind the start
anchor, where Q leaves room. -/
def Capture.placeClosing (c : Capture) (r : W128) : Capture :=
  if c.cfg.p = 0 ∧ !c.marked ∧ c.st ≠ .freezing then
    if 1 < c.cfg.q then { c with post := r :: c.post, total := c.total + 1 } else c
  else c.place r

/-- Storing ends in T_E t (R313, R316, R317): a closing gap record for the runs that none stands for, the status bits,
DRAINING or DONE; a trigger that is still on its way is not taken. -/
def endStoring (cl : Fin 4) (extra : BitVec 8) (t : TE) (s : State) : State :=
  let s := finishChain cl s
  let s := match joinRuns s.cap[cl].runs with
    | some g => (each (captureWords cl s.cap[cl].total) (fun w t => t.wordWritten w) s).updCap cl
        (fun c => { c.placeClosing (gapRecord cl g) with gaps := [] })
    | none => s
  let c := s.cap[cl]
  let st := c.status ||| extra ||| (if c.fullPart then 0x20 else 0) ||| (if c.cfg.spill then 0x08 else 0)
  let s := dropFire cl (s.updCap cl (fun c => { c with
    status := st, st := if c.cfg.spill then .draining else .done, written := [], freezeAt := none }))
  if c.cfg.spill then s else captureDone cl t s

/-- Records the spill buffer can take (R318); before the trigger nothing spills. -/
def Capture.bufferRoom (c : Capture) : Option Nat :=
  if c.cfg.spill && c.st != .armed then some (65536 - (c.stored - c.drained)) else none

/-- The origin code of spill backpressure in the runs of lost records. -/
abbrev spillOrigin : Nat := 0x100

/-- `n` records from x on find the spill buffer full (R318): counted in :0F, the capture is incomplete. -/
def loseSpilled (cl : Fin 4) (n : Nat) (x : Instant) (lull : Bool) (s : State) : State :=
  (loseRecords cl spillOrigin n x lull s).updCap cl (fun c =>
    { c with spillLost := c.spillLost + BitVec.ofNat 64 n, status := c.status ||| 0x04 })

/-- A record is stored, or lost, under the limits: with one place left and a run open, the closing gap record takes the
place (R316); with the spill buffer full it is lost (R318). -/
def storeRecord (cl : Fin 4) (origin : Nat) (x : Instant) (r : W128) (s : State) : State :=
  let c := s.cap[cl]
  if !c.storing then s
  else if c.bufferRoom = some 0 then loseSpilled cl 1 x (recLull r) s
  else
    match c.room with
    | some 0 => endStoring cl 0 s.now s
    | some 1 =>
      if c.runs.isEmpty then endStoring cl 0 s.now (storeOne cl r s)
      else endStoring cl 0 s.now (loseRecords cl origin 1 x (recLull r) s)
    | _ => storeOne cl r s

/-- The next record of a chain is written (R507). Where a run has begun since the chain's first record and this one would take
the last place, the closing gap record takes it and stands for the whole chain too (R316). -/
def storeChained (cl : Fin 4) (r : W128) (s : State) : State :=
  let c := s.cap[cl]
  if c.room = some 1 then
    if c.runs.isEmpty then endStoring cl 0 s.now (storeOne cl r s)
    else
      let g := c.chainRun
      endStoring cl 0 s.now (loseRecords cl g.origin g.count g.first g.lull
        (s.updCap cl (fun c => { c with post := c.post.drop c.chainDone, total := c.total - c.chainDone })))
  else (storeOne cl r s).updCap cl (fun c => { c with chainDone := c.chainDone + 1 })

/-- The time of a record for a loss: its own ZTIME field, in the epoch nearest the present (R64). -/
def recTime (s : State) (r : W128) : Instant :=
  let z := bits r.toNat 0 64
  nearest (2 ^ 52) s.now (z / 4096) * fuPerTE + fineField z

/-- A gap record is written (R316). While the spill buffer is full, or where it would take the last place with another run
open, its run stays open instead. -/
def storeGap (cl : Fin 4) (g : GapRun) (r : W128) (s : State) : State :=
  let c := s.cap[cl]
  if !c.storing then s
  else if c.bufferRoom = some 0 then loseRecords cl g.origin g.count g.first g.lull s
  else if c.room = some 1 ∧ !c.runs.isEmpty then
    endStoring cl 0 s.now (loseRecords cl g.origin g.count g.first g.lull s)
  else storeRecord cl g.origin g.first r s

/-- A record written now has its place in the capture: the buffer has room, and under the limit of its part one place more than
an open run needs for its closing gap record (R316, R318). -/
def Capture.keepsNext (c : Capture) : Bool :=
  c.storing && c.bufferRoom != some 0 && c.room != some 0 && (c.room != some 1 || c.runs.isEmpty)

/-- An engine record is written (R315): a marker begins the post-trigger part and sets the trigger position, unless it finds no
place (R314). -/
def storeEngine (cl : Fin 4) (e : EngineRec) (s : State) : State :=
  match e.gap with
  | some g => storeGap cl g e.word s
  | none =>
    let s := if e.marker then s.updCap cl (fun c => { c with
        marked := true,
        trigPos := BitVec.ofNat 32 (if c.st ≠ .freezing ∧ c.cfg.p = 0 then 1 else c.stored) }) else s
    let kept := s.cap[cl].keepsNext
    let s := storeRecord cl 0x200 (recTime s e.word) e.word s
    if e.marker && !kept then s.updCap cl (fun c => { c with trigPos := 0xFFFFFFFF }) else s

/-- A record that the engine writes itself joins its queue (R315). -/
def engineWrites (cl : Fin 4) (marker : Bool) (r : W128) (s : State) : State :=
  s.updCap cl (fun c => if c.storing then
    { c with written := c.written ++ [{ since := s.now, marker := marker, word := r }] } else c)

/-- An anchor in every stream that is open (R62): the captures that store, the event ring, subscriptions. -/
def anchorAll (cause : Nat) (x : Instant) (s : State) : State :=
  let r := anchor cause (if s.lullAt x then 1 else 0) x
  let s := each s.clusters (fun cl t => engineWrites cl false r t) s
  if s.ring.on || !s.kpp.subs.isEmpty then
    let e : Event := { at_ := x, source := cause, detail := epochAt x, flags := if s.lullAt x then 1 else 0, anchor := true }
    { s with merger := s.merger.add e }
  else s

/-! ## The write port (R203, R205, R250, R253, R315, R507) -/

/-- The requester code in an entry of the capture table. -/
def State.captureCode (s : State) (cl : Fin 4) (e : Nat) : Nat := field (s.od.bytes (clIdx cl 2) 1) e 1

/-- The record of a stamp of input i (R58, R253). -/
def stampRecord (i : Fin 32) (x : Instant) (rising : Bool) (seq : W16) (gen : BitVec 4) (lull early : Bool) : W128 :=
  record 0x01 ((if early then 16 else 0) + if lull then 1 else 0) (i.val + if rising then 32 else 0) gen.toNat
    seq.toNat (ztime x).toNat

/-- The chain of an interval (R58, R60, R253): the interval record, and its continuation when it does not fit. -/
def intervalChain (g : Fin 32) (hit : Nat) (value : Int) (timeout : Bool) (start : Instant) (gen : BitVec 4)
    (lull : Bool) : List W128 :=
  let near := !timeout && decide (value.natAbs < 4)
  let fl := (if timeout then 8 else 0) + (if near then 4 else 0) + if lull then 1 else 0
  let src := hit % 16 * 256 + g.val
  if timeout then [record 0x02 fl src gen.toNat 0 (ztime start).toNat]
  else if -2147483648 ≤ value ∧ value ≤ 2147483647 then
    [record 0x02 fl src gen.toNat (signedCode 32 value) (ztime start).toNat]
  else
    [record 0x02 (fl + 128) src gen.toNat (if 0 < value then 0x7FFFFFFF else 0x80000000) (ztime start).toNat,
     record 0x02 fl src gen.toNat 0 (signedCode 64 value)]

/-- Entries whose uses are complete leave the head of a stamp FIFO (R250). -/
def trimFifo : List StampEntry → List StampEntry
  | .interval _ _ _ _ _ _ _ false false :: rest => trimFifo rest
  | l => l

/-- The records the head of an input's FIFO has ready for the write port (R250): a stamp every group of which has
decided, or an interval whose record is still due; at most one in 8 T_E. -/
def fifoReady (s : State) (i : Fin 32) : List W128 :=
  let u := s.sti[i]
  let paced := match u.lastOut with | some a => decide (a + 8 ≤ s.now) | none => true
  if !paced then []
  else match u.fifo with
    | .stamp x rising seq gen lull [] chosen taken :: _ => [stampRecord i x rising seq gen lull (chosen && !taken)]
    | .interval g hit v tmo st gen lull true _ :: _ => intervalChain g hit v tmo st gen lull
    | _ => []

/-- The head record of an input's FIFO has been written or discarded (R250). -/
def fifoDone (i : Fin 32) (s : State) : State :=
  s.updSti i (fun u => match u.fifo with
    | .stamp _ _ _ _ _ _ _ _ :: rest => { u with fifo := trimFifo rest, lastOut := some s.now }
    | .interval g hit v tmo st gen lull _ stat :: rest =>
      { u with fifo := trimFifo (.interval g hit v tmo st gen lull false stat :: rest), lastOut := some s.now }
    | [] => u)

/-- The records a requester has ready for its entry. -/
def requesterReady (s : State) (cl : Fin 4) (code : Nat) : List W128 :=
  if code < 0x10 then
    match s.cap[cl].stamps.find? (fun p => p.1 = code) with | some p => [p.2] | none => []
  else if h : 0x10 ≤ code ∧ code < 0x18 then fifoReady s (unitOf8 cl ⟨code - 0x10, by omega⟩)
  else if code = 0x18 then match s.cap[cl].results with | r :: _ => r.recs | [] => []
  else if code = 0x19 then match s.trig[cl].queue with | r :: _ => [r] | [] => []
  else []

/-- The first record of a list of pairs with a key leaves. -/
def dropFirst (code : Nat) : List (Nat × W128) → List (Nat × W128)
  | [] => []
  | p :: rest => if p.1 = code then rest else p :: dropFirst code rest

/-- A requester's records have left its queue. -/
def requesterDone (cl : Fin 4) (code : Nat) (s : State) : State :=
  if code < 0x10 then s.updCap cl (fun c => { c with stamps := dropFirst code c.stamps })
  else if h : 0x10 ≤ code ∧ code < 0x18 then fifoDone (unitOf8 cl ⟨code - 0x10, by omega⟩) s
  else if code = 0x18 then s.updCap cl (fun c => { c with results := c.results.drop 1 })
  else if code = 0x19 then s.updTrig cl (fun t => { t with queue := t.queue.drop 1 })
  else s

/-- A run of lost records ends with the next record of its origin; one of spill backpressure when the buffer has room again
(R316, R318). -/
def Capture.endsRun (c : Capture) (code : Nat) (g : GapRun) : Bool :=
  g.origin = code || g.origin = spillOrigin && c.bufferRoom != some 0

/-- The requester's records are to be stored (R315): the engine stores, and the store mask selects the requester. -/
def Capture.selects (c : Capture) (code : Nat) : Bool := c.storing && bit c.cfg.keep.toNat code

/-- The runs that a requester's next record ends have their gap records made (R315, R316): they are written first. A record that
finds the spill buffer full ends none (R318). -/
def queueGaps (cl : Fin 4) (code : Nat) (s : State) : State :=
  s.updCap cl (fun c => if c.bufferRoom = some 0 then c else { c with
    written := c.written ++ (c.gaps.filter (c.endsRun code)).map (fun g =>
      { since := s.now, marker := false, word := gapRecord cl g, gap := some g })
    gaps := c.gaps.filter (fun g => !c.endsRun code g) })

/-- A requester's record waits for a gap record that has not been written (R315), unless it is lost for want of room (R318). -/
def Capture.holds (c : Capture) (code : Nat) : Bool :=
  c.selects code && c.bufferRoom != some 0 && c.written.any (fun e => e.gap.any (c.endsRun code))

/-- The records of a requester take its entry (R315, R507). A record of a requester that the store mask does not select, or
that reaches the port while nothing is stored, is discarded. A chain that does not fit whole is lost whole: under the limit
of its part, where an open run keeps one place for the closing gap record (R316), or in the spill buffer (R318). -/
def takeEntry (cl : Fin 4) (code : Nat) (rs : List W128) (s : State) : State :=
  let c := s.cap[cl]
  match rs with
  | [] => s
  | r :: more =>
    let s := requesterDone cl code s
    let x := recTime s r
    let keep := if more.isEmpty || c.runs.isEmpty then 0 else 1
    if !c.selects code then s
    else if c.room.any (fun n => decide (n < rs.length + keep)) && !more.isEmpty then loseRecords cl code rs.length x (recLull r) s
    else if c.bufferRoom.any (fun n => decide (n < rs.length)) then loseSpilled cl rs.length x (recLull r) s
    else if c.room.any (· ≤ 1) && (c.room = some 0 || !c.runs.isEmpty) then storeRecord cl code x r s
    else
      let (new, _) := c.noteGen (requesterUnit cl code) r
      let s := s.updCap cl (fun c => (c.noteGen (requesterUnit cl code) r).2)
      (storeRecord cl code x (calFlag new r) s).updCap cl (fun c => if c.storing then { c with
        chain := more.map (calFlag new), chainDone := 1
        chainRun := { origin := code, count := rs.length, first := x, lull := recLull r } } else c)

/-- The next CLK_C cycle, not served yet, at or after the present T_E. -/
def nextCycle (now : TE) (last : Option Nat) : Nat :=
  if last = some (now / 2) then now / 2 + 1 else now / 2

/-! ## Arm and fire groups (R320 to R322) -/

/-- The arm group of a cluster, 0xFF for none (R320). -/
def State.armGroupOf (s : State) (cl : Fin 4) : Nat := s.nat (clIdx cl 7) 1

/-- The members of a cluster's arm group, or the cluster alone (R320). -/
def State.armMembers (s : State) (cl : Fin 4) : List (Fin 4) :=
  let g := s.armGroupOf cl
  if g = 0xFF then [cl] else s.clusters.filter (fun c => s.armGroupOf c = g)

/-- A cluster is the master of its group. -/
def State.isMaster (s : State) (cl : Fin 4) : Bool := s.on (clIdx cl 7) 2

/-- The capture configuration that stands in the objects (R312, R325, R326). -/
def State.capConfig (s : State) (cl : Fin 4) : CapConfig where
  p := s.nat (clIdx cl 5) 2
  q := s.nat (clIdx cl 5) 3
  mask := BitVec.ofNat 16 (s.nat (clIdx cl 5) 4)
  keep := BitVec.ofNat 32 (s.nat (clIdx cl 5) 5)
  spill := s.on (clIdx cl 5) 6
  first := s.nat (clIdx cl 5) 7
  count := s.nat (clIdx cl 5) 8
  v := s.nat (clIdx cl 6) 0x1A
  tests := (List.range 27).map (fun i => s.nat (clIdx cl 6) i)

/-- A mask-test object as frozen at arming (R326). -/
def Capture.test (c : Capture) (sub : Nat) : Nat := c.cfg.tests.getD sub 0

/-! ## Mask tests (R319) -/

/-- A mask test of cluster cl is violated at v (R319): the first violation of a capture acts, the event is raised. -/
def violate (cl : Fin 4) (v : TE) (test cause : Nat) (s : State) : State :=
  let c := s.cap[cl]
  let live := match c.st with | .armed => true | .triggered => true | _ => false
  if live && !c.violated then
    let d := test + cause * 2 ^ 4 + c.cfg.v % 2 ^ 16 * 2 ^ 16
    let s := s.updCap cl (fun c => { c with
      violated := true, violDet := BitVec.ofNat 32 d, status := c.status ||| 2, freezeAt := some (v + 4) })
    s.raiseAt (startOf v) (418 + 8 * cl.val) (BitVec.ofNat 32 d)
  else s

/-- The interval test of group g on an interval (R319). -/
def intervalTest (g : Fin 32) (v : TE) (value : Int) (timeout : Bool) (s : State) : State :=
  let cl := clusterOf8 g
  let j := g.val % 8
  let c := s.cap[cl]
  let ctl := c.test (0x11 + j)
  if bit ctl 0 then
    if timeout then if bit ctl 1 then violate cl v j 2 s else s
    else if value < signedVal 64 (c.test (1 + j)) then violate cl v j 0 s
    else if signedVal 64 (c.test (9 + j)) < value then violate cl v j 1 s
    else s
  else s

/-- The monitor test of monitor wm on the classification of a T_E (R319). -/
def monitorTest (wm : Fin 32) (v : TE) (c : Classn) (s : State) : State :=
  let cl := clusterOf8 wm
  let j := wm.val % 8
  if bit (s.cap[cl].test 0x19) j && c != .inside then violate cl v (8 + j) 3 s else s

/-- The monitor tests of a cluster on the classifications of the arming T_E (R319). -/
def testAllMonitors (cl : Fin 4) (a : TE) (s : State) : State :=
  each ((List.finRange 8).map (unitOf8 cl)) (fun wm t => monitorTest wm a (traceAt .inside t.mon[wm].hist a) t) s

/-- Order of two fires of one arming: the earlier, then the lower cluster, then a condition before a force (R313, R322,
R323). -/
def CapFire.before (a b : CapFire) : Bool :=
  decide (a.f < b.f) || (a.f = b.f && (decide (a.cl < b.cl) || (a.cl = b.cl && !a.isForce && b.isForce)))

/-- The fire that the engines of a cluster's group have pending. -/
def State.groupFire (s : State) (cl : Fin 4) : Option CapFire :=
  ((s.armMembers cl).filterMap (fun c => if s.cap[c].st = .armed then s.cap[c].fire else none)).head?

/-- A fire of the group is lost and counted at the cluster whose fire lost (R322). -/
def countLostFire (cl : Nat) (s : State) : State :=
  if h : cl < 4 then s.updCap ⟨cl, h⟩ (fun c => { c with firesLost := c.firesLost + 1 }) else s

/-- An engine can take a fire (R313, R319, R322): it is ARMED, or it belongs to no group, has entered FREEZING from ARMED and
has taken no trigger (log entry 93). -/
def Capture.takesFire (c : Capture) (grouped : Bool) : Bool :=
  match c.st with
  | .armed => true
  | .freezing => !grouped && decide (c.status &&& 1 = 0)
  | _ => false

/-- A fire reaches the engines that take it (R313, R322): each of them keeps the first; the others of the same arming are
lost. -/
def offerFire (cl : Fin 4) (x : CapFire) (s : State) : State :=
  let ms := s.armMembers cl
  let grouped := s.armGroupOf cl != 0xFF
  let s := match s.groupFire cl with
    | some o => if grouped then countLostFire (if x.before o then o.cl else x.cl) s else s
    | none => if grouped && ms.any (fun c => s.cap[c].st != .idle && s.cap[c].status &&& 1 = 1) then countLostFire x.cl s else s
  each ms (fun c t => t.updCap c (fun e =>
    if e.takesFire grouped then
      match e.fire with
      | some o => if x.before o then { e with fire := some x } else e
      | none => { e with fire := some x }
    else e)) s

end Sys2Proof.Machine
end

