-- ==== Sys2Proof/Machine/Trigger.lean ====
section
/-!
DEFINITION. Triggers and conditions: trigger sources with their insertion delays (spec 05, R143, R144), event-code
senders (spec 13, R350 to R352), trigger conditions (spec 12, R306 to R310), EXTTRIG, cluster signals.
-/
namespace Sys2Proof.Machine

/-! ## Trigger sources (R143, R144) -/

/-- The transition codes of class 0x02 (R143): into ABOVE, into BELOW, out of INSIDE, into INSIDE. -/
def transitionMeets (k : Nat) (old new : Classn) : Bool :=
  match k with
  | 0 => new == .above && old != .above
  | 1 => new == .below && old != .below
  | 2 => old == .inside && new != .inside
  | _ => new == .inside && old != .inside

/-- Whether a source word names a happening (R143). -/
def TrigEv.meets (e : TrigEv) (src : Nat) : Bool :=
  let op := src % 2 ^ 24
  match e with
  | .stamp i => src / 2 ^ 24 = 1 && op % 32 = i
  | .monitor wm old new => src / 2 ^ 24 = 2 && op % 32 = wm && transitionMeets (bits op 8 2) old new
  | .ext b rising => src / 2 ^ 24 = 3 && op % 4 = b && bit op 8 != rising
  | .cond cl c => src / 2 ^ 24 = 4 && bits op 4 2 = cl && op % 16 = c
  | .chan ch toHigh => src / 2 ^ 24 = 5 && op % 64 = ch && bit op 8 != toHigh
  | .code w => src / 2 ^ 24 = 6 && op % 2 ^ 16 = w
  | .gust g => src / 2 ^ 24 = 7 && bit op g
  | .tide n => src / 2 ^ 24 = 8 && op % 2 ^ 20 != 0 && n % (op % 2 ^ 20) = 0
  | .fire _ => src / 2 ^ 24 = 9

/-- D_ins in fu of a source word at a channel (R144): 4 T_E more when the source unit lies in another cluster (R35). -/
def insertionDelay (ch : Fin 64) (src : Nat) : Nat :=
  let op := src % 2 ^ 24
  let far (cl : Nat) : Nat := if cl = ch.val / 16 then 0 else 4
  match src / 2 ^ 24 with
  | 1 => (12 + far (op % 32 / 8)) * fuPerTE
  | 2 => (11 + far (op % 32 / 8)) * fuPerTE
  | 3 => 13 * fuPerTE + 2800
  | 4 => (8 + far (bits op 4 2)) * fuPerTE
  | 5 => (8 + far (op % 64 / 16)) * fuPerTE
  | 6 => 6 * fuPerTE
  | 9 => 16 * fuPerTE
  | _ => 0

/-- The applied trigger source of a channel (R142). -/
def State.source (s : State) (ch : Fin 64) : Nat := s.nat (chIdx ch) 3

/-- The insertion delay of a channel's applied source (0x3000+0x20·ch:1F). -/
def State.dIns (s : State) (ch : Fin 64) : Nat := insertionDelay ch (s.source ch)

/-- A trigger of channel ch is on its way (R147: a channel in mode 0 has no trigger logic). -/
def sendTrigger (tref : Instant) (ch : Fin 64) (s : State) : State :=
  if s.nat (chIdx ch) 1 = 0 then s else s.updDelay ch (fun d => { d with transit := d.transit ++ [tref] })

/-- A happening triggers every channel whose source names it (R143), by the settings in force at t_ref (R145): where the next
boundary comes first, the happening waits for it. -/
def deliverTriggers (e : TrigEv) (tref : Instant) (s : State) : State :=
  if teOf tref < s.nextBoundary then
    s.asOf tref (fun s => each (s.channels.filter (fun ch => e.meets (s.source ch))) (sendTrigger tref) s)
  else each s.channels (fun ch t => t.updDelay ch (fun d => { d with ahead := d.ahead ++ [(e, tref)] })) s

/-- The happenings that waited for the settings of a boundary, up to the next one in T_E b, trigger the channel (R145). -/
def releaseAhead (b : TE) (ch : Fin 64) (s : State) : State :=
  let l := s.delay[ch].ahead
  let now (p : TrigEv × Instant) : Bool := decide (teOf p.2 < b)
  each (l.filter (fun p => now p && p.1.meets (s.source ch))) (fun p t => sendTrigger p.2 ch t)
    (s.updDelay ch (fun d => { d with ahead := l.filter (fun p => !now p) }))

/-! ## Gusts that are to execute (R356) -/

/-- The groups of a mask. -/
def maskGroups (m : W16) : List (Fin 16) := (List.finRange 16).filter (fun g => bit m.toNat g.val)

/-- The candidate's execution instant (R356). -/
def ArmGroup.fireAt (a : ArmGroup) : Option Instant := a.cand.map (fun c => c.1 + a.latency * fuPerTE)

/-- The execution instants of the candidates of some groups whose contest is closed: from 16 T_E before on (R356). -/
def State.closedGusts (s : State) (mask : W16) : List Instant :=
  (maskGroups mask).filterMap (fun g => match s.armg[g].fireAt with
    | some x => if x ≤ s.nowAt + 16 * fuPerTE then some x else none
    | none => none)

/-- The t_ref of the triggers that the channel's source is known to give: those on the way, Gusts whose contest is closed, the
next Tide boundary, what waits for that boundary's settings (R143 to R145). -/
def State.knownTriggers (s : State) (ch : Fin 64) : List Instant :=
  let src := s.source ch
  let then_ := (s.viewAt (tideOf s.nextBoundary)).nat (chIdx ch) 3
  s.delay[ch].transit ++ (if src / 2 ^ 24 = 7 then s.closedGusts (BitVec.ofNat 16 src) else [])
    ++ (if (TrigEv.tide (tideWord s.nextBoundary).toNat).meets then_ then [startOf s.nextBoundary] else [])
    ++ (s.delay[ch].ahead.filter (fun p => p.1.meets then_)).map (·.2)

/-! ## Event-code senders (R350 to R352, R205) -/

/-- The object of event-code sender i (R352). -/
def senderIdx (i : Fin 32) : Nat := 0x6100 + i.val

/-- A requester owns an entry of its cluster's egress table (R205). -/
def State.ownsEgress (s : State) (cl : Fin 4) (code : Nat) : Bool :=
  (s.od.bytes (clIdx cl 2) 3).contains (BitVec.ofNat 8 code)

/-- The node sends event codes and Gusts (R341, R352): JOINED or ROOT. -/
def State.inTree (s : State) : Bool := s.fab.state = 2 || s.fab.state = 3

/-- An item of an egress requester that cannot be held is counted (R205, 0x5001+0x100·cl:07). -/
def loseEgress (cl : Fin 4) (s : State) : State :=
  s.updStore cl (fun t => { t with egressLost := t.egressLost + 1 })

/-- One sender sends its code for a cause T_E c (R351): due at c + 6 on its own node, and an item for the fabric. -/
def sendCode (c : TE) (i : Fin 32) (s : State) : State :=
  let w := BitVec.ofNat 16 (s.nat (senderIdx i) 2)
  let cl := clusterOf8 i
  let s := { s with fab := { s.fab with codesDue := s.fab.codesDue ++ [(c + 6, w)] } }
  if !s.inTree then s
  else if s.ownsEgress cl (0x10 + i.val % 8) && decide (s.sender[i].items.length < 2) then
    s.updSender i (fun q => { q with items := q.items ++ [.code w c (s.nat (senderIdx i) 3)] })
  else loseEgress cl s

/-- A happening of a cluster makes every sender of the cluster that names it send (R350). -/
def sendCodes (e : TrigEv) (cl : Fin 4) (c : TE) (s : State) : State :=
  each (s.units8.filter (fun i => clusterOf8 i = cl && e.meets (s.nat (senderIdx i) 1))) (sendCode c) s

/-! ## Recent history kept for conditions -/

/-- T_E of the past that an evaluation can still ask for. -/
abbrev keepTE : Nat := 600

/-- Times newer than the kept span, and the newest older one. -/
def trimTimes (now : TE) (l : List TE) : List TE :=
  l.filter (fun t => now < t + keepTE) ++ (l.find? (fun t => t + keepTE ≤ now)).toList

/-- Entries of the kept span. -/
def trimBy {α : Type} (f : α → TE) (now : TE) (l : List α) : List α := l.filter (fun e => now < f e + keepTE)

/-- A signal trace with one SIGNAL added (R183): two for the same T_E give 1 when either sets 1. -/
def signalPut : Trace Bool → TE → Bool → Trace Bool
  | [], t, v => [(t, v)]
  | (u, w) :: rest, t, v =>
    if t < u then (u, w) :: signalPut rest t v else if u = t then (u, v || w) :: rest else (t, v) :: (u, w) :: rest

/-- Cluster signal `sig` of cluster `cl` takes a value from T_E `t` on (R183). -/
def setSignal (cl : Fin 4) (sig : Fin 8) (t : TE) (v : Bool) (s : State) : State :=
  s.updXbar cl (fun x => { x with
    signals := upd x.signals sig (fun tr => traceTrim (signalPut tr t v) (s.now - keepTE)) })

/-- Every signal is 0 from T_E `t` on (R183, entry to IDLE). -/
def clearSignals (t : TE) (s : State) : State :=
  { s with xbar := s.xbar.map (fun x => { x with signals := x.signals.map (fun tr => tracePut false tr t false) }) }

/-! ## Trigger conditions (R306 to R309) -/

/-- The level of an EXTTRIG ball at the CLK_E edge that ends T_E `a`. -/
def State.extSample (s : State) (b : Fin 4) (a : TE) : Bool := traceAt false s.pins.ext[b] (a + 1)

/-- The classification of monitor wm in T_E `a` (R285). -/
def State.classAt (s : State) (wm : Fin 32) (a : TE) : Classn := traceAt .inside s.mon[wm].hist a

/-- The classification a class 0x3 operand tests (R307). -/
def testedClass (k : Nat) : Classn :=
  match k with | 0 => .above | 1 => .below | 2 => .inside | _ => .unresolved

/-- Whether the state a term names holds in the presentation of T_E f (R306, R307). -/
def termState (s : State) (cl : Fin 4) (cls op : Nat) (f : TE) : Bool :=
  match cls with
  | 3 => s.classAt (unitOf8 cl ⟨op % 8, by omega⟩) (f - 3) == testedClass (bits op 3 2)
  | 4 => s.extSample ⟨op % 4, by omega⟩ (f - 6)
  | 5 => traceAt false s.xbar[cl].signals[op % 8] f
  | 6 => traceAt .low s.edge[channelOf cl ⟨op % 16, by omega⟩].hist f == .high
  | _ => false

/-- Whether the event a term names is presented in T_E f (R306, R307). -/
def termEvent (s : State) (cl : Fin 4) (cls op : Nat) (f : TE) : Bool :=
  let x := s.xbar[cl]
  let k := bits op 3 2
  match cls with
  | 1 => x.stamps.any (fun e => e.1 = f && e.2.1 = op % 8 && (k = 2 || e.2.2 = decide (k = 0)))
  | 2 => x.ready.any (fun e => e.1 = f && e.2.1 = op % 8 && (k = 0 || e.2.2 = decide (k = 1)))
  | 7 => x.matched[op % 4].contains f
  | 8 => s.fab.gustRuns.any (fun e => teOf e.1 = f && e.2.1.val = op % 16)
  | _ => false

/-- A term of qualifier 3, 4 or 5 becomes true in T_E f (R308). -/
def termBecomes (s : State) (cl : Fin 4) (t : Nat) (f : TE) : Bool :=
  let cls := bits t 8 4
  let op := t % 256
  match bits t 12 4 with
  | 3 => termState s cl cls op f && decide (0 < f) && !termState s cl cls op (f - 1)
  | 4 => !termState s cl cls op f && decide (0 < f) && termState s cl cls op (f - 1)
  | 5 => termEvent s cl cls op f
  | _ => false

/-- A term is true in T_E f under window w (R308). -/
def termTrue (s : State) (cl : Fin 4) (t w : Nat) (f : TE) : Bool :=
  match bits t 12 4 with
  | 0 => true
  | 1 => termState s cl (bits t 8 4) (t % 256) f
  | 2 => !termState s cl (bits t 8 4) (t % 256) f
  | _ => (List.range (w + 1)).any (fun k => decide (k ≤ f) && termBecomes s cl t (f - k))

/-- Condition c of cluster cl is true in T_E f (R307, R308): active, and all four terms true, under the word and window in
force in that T_E (R170, R306). -/
def condTrue (s : State) (cl : Fin 4) (c : Fin 16) (f : TE) : Bool :=
  let (word, w) := traceAt (0, 0) s.trig[cl].words[c] f
  word != 0 && (List.range 4).all (fun i => termTrue s cl (bits word (16 * i) 16) w f)

/-- Condition c is taken as true in f − 1 (R309): not before the boundary at which its word or window was applied. -/
def condBefore (s : State) (cl : Fin 4) (c : Fin 16) (f : TE) : Bool :=
  decide (s.trig[cl].applied[c] < f) && decide (0 < f) && condTrue s cl c (f - 1)

/-! ## Firing (R309, R310) -/

/-- A pending fire of the engine's own condition that another fire displaces presents its trigger record after all
(R310). -/
def presentDisplaced (cl : Fin 4) (x : CapFire) (s : State) : State :=
  match s.groupFire cl with
  | some o =>
    if x.before o && !o.isForce then
      if h : o.cl < 4 then
        if s.cap[o.cl].st = .armed ∧ s.cap[o.cl].fire = some o then presentTrigger ⟨o.cl, h⟩ o.cond o.mask o.f s else s
      else s
    else s
  | none => s

/-- The consumers of a firing of condition c of cluster cl in T_E f (R310). -/
def fire (cl : Fin 4) (c : Nat) (mask : W16) (f : TE) (s : State) : State :=
  let s := deliverTriggers (.cond cl.val c) (startOf f) s
  let s := sendCodes (.cond cl.val c) cl f s
  let x : CapFire := { f := f, cl := cl.val, cond := c, mask := mask, isForce := false }
  let inMask := bit (if s.cap[cl].storing then s.cap[cl].cfg.mask.toNat else s.nat (clIdx cl 5) 4) c
  let s := if inMask then offerFire cl x (presentDisplaced cl x s) else s
  let taken := s.cap[cl].storing ∧ s.cap[cl].fire = some x
  let s := if taken then s else presentTrigger cl c mask f s
  s.raiseCountAt (startOf f) (416 + 8 * cl.val) 0 c

/-- The conditions of a cluster that are true in T_E f. -/
def trueConds (s : State) (cl : Fin 4) (f : TE) : List (Fin 16) :=
  (List.finRange 16).filter (fun c => condTrue s cl c f)

/-- The mask of a list of conditions. -/
def condMask (l : List (Fin 16)) : W16 := l.foldl (fun m c => m ||| BitVec.ofNat 16 (2 ^ c.val)) 0

/-! ## EXTTRIG (R143, R144, R306) -/

/-- EXTTRIG_EDGE: ball b takes a level within phase interval `phase` (400 fu each) of the present T_E; the level is
sampled from the CLK_E edge that ends the T_E on, and t_ref is the next edge of the phase grid (R144). -/
def exttrigEdge (b : Fin 4) (level : Bool) (phase : Fin 8) (s : State) : State :=
  if s.extSample b s.now = level then s
  else
    let s := { s with pins := { s.pins with
      ext := upd s.pins.ext b (fun tr => traceTrim (tracePut false tr (s.now + 1) level) (s.now - keepTE)) } }
    deliverTriggers (.ext b.val level) (s.nowAt + (phase.val + 1) * 400) s

/-- EXTTRIG_EDGE (R143, R144, R306). -/
def execExttrigEdge (ball : Fin 4) (level : Bool) (phase : Fin 8) (s : State) : Host.Outcome State Fault Refusal :=
  .next (exttrigEdge ball level phase s)

end Sys2Proof.Machine
end

