-- ==== Sys2Proof/Machine/Groups.lean ====
section
/-!
DEFINITION. Stamp inputs and measurement groups (spec 09, R232 to R255): conversion, dead time, the groups' judgement of
starts and stops, and what is due of them: FIFO entries, intervals, early stops.
-/
namespace Sys2Proof.Machine

/-! ## What is due -/

/-- Order of things due in one T_E: stamps, then intervals by hit index, then decisions (R248, R254); after the monitors the
trip latches and the stops (R297, R323). -/
def LineDue.rank : LineDue → Nat
  | .stamp _ _ => 0
  | .interval _ _ hit _ _ => 1 + hit
  | .edge _ _ _ _ => 99
  | .decided _ _ _ _ _ => 100
  | .remote _ => 199
  | .period _ => 200
  | .clear _ => 201
  | .stop _ => 202
  | .swap _ => 203

/-- The list with one more thing due, after those of its T_E and rank. -/
def insertDue (p : TE × LineDue) : List (TE × LineDue) → List (TE × LineDue)
  | [] => [p]
  | q :: rest => if p.1 < q.1 ∨ (p.1 = q.1 ∧ p.2.rank < q.2.rank) then p :: q :: rest else q :: insertDue p rest

/-- The state with more things due. -/
def addDue (l : List (TE × LineDue)) (s : State) : State := { s with line := l.foldl (fun a p => insertDue p a) s.line }

/-! ## Bin tables (R237, R260, R261, R463) -/

/-- The centre of tap t of line l in the identity table (R261): round((t + 0.5 + l/4) × 166.4), unused from 51,200 on. -/
def identityCentre (l t : Nat) : Nat :=
  let c := (2 * (1664 * t + 832 + 416 * l) + 10) / 20
  if c < 51200 then c else 0xFFFF

/-- The centre of tap t of line l in a unit's table in force. -/
def LineCal.centre (c : LineCal) (l t : Nat) : Nat :=
  match c.table with
  | some b => field b (768 * l + 2 * t) 2
  | none => identityCentre l t

/-- The word of a bin table that holds the centre of tap t of line l of unit u of a cluster (log entry 30). -/
def binWord (cl : Fin 4) (u l t : Nat) : MemWord := { mem := 4, cl := cl.val, addr := 768 * u + 192 * l + t / 2 }

/-- Line l of a unit is in service (R262, R267). -/
def LineCal.inService (c : LineCal) (l : Nat) : Bool := c.calState != 5 && c.calState != l + 1

/-- The times before the sampling edge, in fu/16, that the lines of an input in service give for an edge. A line whose
tap is unused or whose entry is poisoned is left out (R260). -/
def lineTimes (s : State) (i : Fin 32) (cal : LineCal) (taps : List (Option (Fin 384))) : List Nat :=
  (List.range 4).filterMap (fun l =>
    match taps[l]? with
    | some (some t) =>
      let c := cal.centre l t.val
      if cal.inService l && c != 0xFFFF && !s.badWord (binWord (clusterOf8 i) (i.val % 8) l t.val) then some c
      else none
    | _ => none)

/-- The mean of the lines' times rounded to fu, halves up (R237): each time taken within half a T_E of the first line's,
so that all refer to one sampling edge (R260). -/
def meanTime (l : List Nat) : Int :=
  match l with
  | [] => 0
  | t :: _ =>
    let near (x : Nat) : Int := t + (((x : Int) - t + 25600) % 51200 - 25600)
    roundDiv ((l.map near).foldl (· + ·) 0) (16 * l.length)

/-- The stamp of an edge sampled by the CLK_E edge that begins T_E `e`, by one state of the calibration (R237); none where no line
can place it. -/
def placeStamp (s : State) (i : Fin 32) (cal : LineCal) (taps : List (Option (Fin 384))) (e : TE) : Option Instant :=
  match lineTimes s i cal taps with
  | [] => none
  | l => some ((startOf e : Int) - meanTime l).toNat

/-- The calibration in force at an instant (R237). -/
def State.calAt (s : State) (i : Fin 32) (x : Instant) : LineCal :=
  if teOf x < s.commits.priorEnd then s.sti[i].calBefore else s.sti[i].cal

/-! ## Termination (R233, R234) -/

/-- The threshold and Vtt DACs in units of 1/4,096 mV (R233): −1.250 V + code × 3.750 V / 4,096. -/
def stampDac (code : Nat) : Int := -1250 * 4096 + code * 3750

/-- What the legs of an input are terminated to through 50 Ω, STIin_P then STIin_N, in units of 1/4,096 mV; none for high
impedance (R234), as before LOAD (R439): both legs in differential mode, STIin_P alone in single-ended mode, whatever the enable. -/
def State.termination (s : State) (i : Fin 32) : Option Int × Option Int :=
  let vtt := stampDac (s.nat (inIdx i) 7)
  if s.boot.power = .running ∧ s.dev.st ≠ .boot ∧ s.nat (inIdx i) 6 = 1 then (some vtt, if s.nat (inIdx i) 2 = 0 then some vtt else none) else (none, none)

/-! ## FIFO entries (R250, R251) -/

/-- The ZTIME of an entry's record (R58): of its stamp, or of the start of its interval. -/
def StampEntry.time : StampEntry → Instant
  | .stamp x _ _ _ _ _ _ _ => x
  | .interval _ _ _ _ start _ _ _ _ => start

/-- The Lull flag of an entry's record (R253). -/
def StampEntry.lull : StampEntry → Bool
  | .stamp _ _ _ _ l _ _ _ => l
  | .interval _ _ _ _ _ _ l _ _ => l

/-- An entry enters the FIFO of input i in T_E t, or is lost (R250, R251): `n` records of it are lost with it, from its own
ZTIME on (R316). -/
def pushFifo (i : Fin 32) (e : StampEntry) (kind n : Nat) (t : TE) (s : State) : State :=
  if 16 ≤ s.sti[i].fifo.length then
    let s := s.updSti i (fun u => { u with lost := u.lost + 1 })
    let s := s.raiseCountAt (startOf t) (257 + 3 * i.val) 0 kind
    if n = 0 then s else loseAtQueue (clusterOf8 i) (0x10 + i.val % 8) n e.time e.lull s
  else s.updSti i (fun u => { u with fifo := u.fifo ++ [e], peak := max u.peak (u.fifo.length + 1) })

/-- The input owns an entry of the capture table (R205). -/
def State.inputOwns (s : State) (i : Fin 32) : Bool := s.ownsCapture (clusterOf8 i) (0x10 + i.val % 8)

/-- The statistics of group g are running (R273). -/
def State.statRuns (s : State) (g : Fin 32) : Bool := s.stat[g].running && !s.stat[g].complete

/-! ## Intervals (R246, R248, R171) -/

/-- The comparator of group g passes an interval (R171, R189). -/
def State.passes (s : State) (g : Fin 32) (value : Int) : Bool :=
  let cl := clusterOf8 g
  let j := g.val % 8
  decide (signedVal 64 (s.nat (clIdx cl 8) (1 + j)) ≤ value) && decide (value ≤ signedVal 64 (s.nat (clIdx cl 8) (9 + j)))

/-- An interval is formed in T_E v (R248): counters, mask test, ready and pass (R171), the start input's FIFO (R250). -/
def formInterval (g : Fin 32) (m : Measurement) (hit : Nat) (value : Int) (timeout : Bool) (v : TE) (s : State) : State :=
  let cl := clusterOf8 g
  let s := s.updGrp g (fun q => { q with
    near := if !timeout && decide (value.natAbs < 4) then q.near + 1 else q.near,
    missing := if timeout then q.missing + 1 else q.missing })
  let s := if timeout then s.raiseCountAt m.close (256 + 3 * m.inp.val) 0 g.val else s
  let s := intervalTest g v value timeout s
  let s := if s.nat (clIdx cl 8) (0x11 + g.val % 8) = hit then
      let pass := !timeout && s.passes g value
      let s := s.updGrp g (fun q => { q with
        readySet := trimTimes s.now (v :: q.readySet),
        passHist := traceTrim (tracePut false q.passHist v pass) (s.now - keepTE) })
      s.updXbar cl (fun x => { x with ready := (v, g.val % 8, pass) :: trimBy (·.1) s.now x.ready })
    else s
  let rec_ := m.keep && s.inputOwns m.inp
  let stat := s.statRuns g
  let n := (intervalChain g hit value timeout m.start m.gen m.lull).length
  if rec_ || stat then
    pushFifo m.inp (.interval g hit value timeout m.start m.gen m.lull rec_ stat) 1 (if rec_ then n else 0) v s
  else s

/-! ## Decisions on stops (R247, R253) -/

/-- A group has decided on the stamp of a FIFO entry. -/
def StampEntry.decide (g : Fin 32) (x : Instant) (seq : W16) (t : Bool) (e : StampEntry) : StampEntry :=
  match e with
  | .stamp a r n gen l w _ k =>
    if a = x ∧ n = seq then .stamp a r n gen l (w.filter (· ≠ g)) true (k || t) else e
  | _ => e

/-- A run counts an early stop decided in T_E d (R274). -/
def StatRun.addEarly (r : StatRun) (d : TE) : StatRun :=
  { r with early := r.early + 1, earlyAt := d, earlyNow := if r.earlyAt = d then r.earlyNow + 1 else 1 }

/-- A group decides on a stop in T_E d: taken, or early (R247): counted, reported, and counted in an open run (R274). -/
def decideStop (g inp : Fin 32) (x : Instant) (seq : W16) (taken : Bool) (d : TE) (s : State) : State :=
  let s := s.updSti inp (fun u => { u with fifo := u.fifo.map (StampEntry.decide g x seq taken) })
  if taken then s
  else
    let s := s.updGrp g (fun q => { q with early := q.early + 1 })
    let s := s.raiseCountAt (startOf d) (258 + 3 * inp.val) 0 g.val
    if s.statRuns g then s.updStat g (fun r => r.addEarly d) else s

/-! ## Judging starts and stops (R243 to R247) -/

/-- The objects of a group as its judgement uses them (R242). -/
structure GroupCfg where
  g     : Fin 32
  inp   : Nat
  slope : Nat
  mode  : Nat
  mask  : W16
  limit : Nat
  tout  : Nat
  wpre  : Nat
  keep  : Bool

/-- The configuration of group g in force. -/
def State.groupCfg (s : State) (g : Fin 32) : GroupCfg where
  g := g
  inp := s.nat (grpIdx g) 2
  slope := s.nat (grpIdx g) 3
  mode := s.nat (grpIdx g) 4
  mask := BitVec.ofNat 16 (s.nat (grpIdx g) 5)
  limit := s.nat (grpIdx g) 6
  tout := if s.nat (grpIdx g) 7 = 0 then 2 ^ 32 else s.nat (grpIdx g) 7
  wpre := s.nat (grpIdx g) 8
  keep := s.on (grpIdx g) 9

/-- The mask bit of a stamp (R241). -/
def stopBit (inp : Fin 32) (rising : Bool) : Nat := 2 * (inp.val % 8) + if rising then 0 else 1

/-- The hit index a stop with mask bit b would have in a measurement (R244), when the measurement still takes it. -/
def Measurement.hitOf (m : Measurement) (b : Nat) : Option Nat :=
  if !m.mask.toNat.testBit b then none
  else if m.mode = 0 then if m.taken.length < m.limit then some m.taken.length else none
  else if m.taken.contains b then none else some b

/-- Hit indices of the expected stops (R245). -/
def Measurement.expected (m : Measurement) : List Nat :=
  if m.mode = 0 then List.range m.limit else (List.range 16).filter (fun b => m.mask.toNat.testBit b)

/-- Every expected stop has been taken (R245). -/
def Measurement.full (m : Measurement) : Bool := m.expected.all (fun h => m.taken.contains h)

/-- A group with what it has put on the way. -/
abbrev Judged := Group × List (TE × LineDue)

/-- The open measurement's window closes (R245): t_c = t_s + T_out. -/
def Group.closeWindow (q : Group) (m : Measurement) : Group :=
  { q with openM := none, tc := some m.close, closing := q.closing ++ [m] }

/-- A stop is offered to a measurement (R244): taken, with its interval and decision on the way from T_E v, or not. -/
def offerStop (g : Fin 32) (v : TE) (e : PoolStop) (m : Measurement) : Option (Measurement × List (TE × LineDue)) :=
  match if m.open_ ≤ e.at_ then m.hitOf e.bit else none with
  | none => none
  | some h =>
    some ({ m with taken := m.taken ++ [h] },
      [(v, .interval g m h ((e.at_ : Int) - m.start) false), (v, .decided g e.inp e.at_ e.seq true)])

/-- A measurement that has all its stops completes with t_c, else it stays open (R245). -/
def Group.settleOpen (q : Group) (m : Measurement) (tc : Instant) : Group :=
  if m.full then { q with openM := none, tc := some tc } else { q with openM := some m }

/-- The stops of the pool that lie in the window of a new measurement are taken in ZTIME order (R244). -/
def takePool (g : Fin 32) (v : TE) : List PoolStop → Measurement → List PoolStop × Measurement × List (TE × LineDue)
  | [], m => ([], m, [])
  | e :: rest, m =>
    match if e.inp = m.inp ∧ e.seq = m.seq then none else offerStop g v e m with
    | some (m', d) =>
      let (p, m'', d') := takePool g v rest m'
      ({ e with owed := false } :: p, m'', d ++ d')
    | none =>
      let (p, m'', d') := takePool g v rest m
      (e :: p, m'', d')

/-- A group judges a stamp as a stop (R244, R247). Every stamp stays in the pool as long as a later start can have it in its
window, whatever mask that start has; a selected one that the open measurement does not take is owed a decision. A stamp whose
entry waits for a measurement that has ended, and that the mask does not select, waits no longer (R250). -/
def judgeStop (c : GroupCfg) (e : GroupStamp) (q : Group) : Judged :=
  let q := match q.openM with
    | some m => if m.close ≤ e.at_ then q.closeWindow m else q
    | none => q
  let b := stopBit e.inp e.rising
  let v := teOf e.at_ + 6
  let selected := c.mask.toNat.testBit b || q.openM.any (fun m => m.mask.toNat.testBit b)
  let p : PoolStop := { at_ := e.at_, bit := b, inp := e.inp, seq := e.seq, owed := selected, due := v + c.wpre }
  match q.openM.bind (fun m => offerStop c.g v p m) with
  | some (m, d) => ({ q.settleOpen m (max m.start e.at_) with pool := q.pool ++ [{ p with owed := false }] }, d)
  | none => ({ q with pool := q.pool ++ [p] }, if e.waits && !selected then [(v, .decided c.g e.inp e.at_ e.seq true)] else [])

/-- A stamp from before an instant at which the group's measurements were abandoned belongs to none (R248): a selected one is
early. -/
def judgeCut (c : GroupCfg) (e : GroupStamp) (q : Group) : Judged :=
  (q, if e.waits || c.mask.toNat.testBit (stopBit e.inp e.rising) then
    [(teOf e.at_ + 6, .decided c.g e.inp e.at_ e.seq false)] else [])

/-- A group judges a stamp as a start candidate (R243). -/
def judgeStart (c : GroupCfg) (e : GroupStamp) (q : Group) : Judged :=
  let slopeOk := c.slope = 2 || decide (c.slope = 0) == e.rising
  if e.inp.val = c.inp && slopeOk then
    let early := match q.tc with | some t => decide (e.at_ < t) | none => false
    if q.openM.isSome || early then ({ q with ignored := q.ignored + 1 }, [])
    else
      let m : Measurement := {
        start := e.at_, inp := e.inp, seq := e.seq, gen := e.gen, lull := e.lull, mode := c.mode, mask := c.mask,
        limit := c.limit, open_ := e.at_ - c.wpre * fuPerTE, close := e.at_ + c.tout * fuPerTE, keep := c.keep }
      let (pool, m, d) := takePool c.g (teOf e.at_ + 6) q.pool m
      (Group.settleOpen { q with starts := q.starts + 1, pool := pool } m e.at_, d)
  else (q, [])

/-- The longest pre-start window in T_E (R242). -/
abbrev maxPre : Nat := 128

/-- Selected stops whose pre-start window no start can reach any more are early, in the T_E due (R247); stamps past the
longest window leave the pool. -/
def expirePool (c : GroupCfg) (x : Instant) (q : Group) : Judged :=
  let past (e : PoolStop) : Bool := decide (e.at_ + c.wpre * fuPerTE < x)
  ({ q with pool := (q.pool.filter (fun e => decide (x ≤ e.at_ + maxPre * fuPerTE))).map (fun e =>
      { e with owed := e.owed && !past e }) },
   (q.pool.filter (fun e => e.owed && past e)).map (fun e => (e.due, .decided c.g e.inp e.at_ e.seq false)))

/-- One stamp, in its part as a stop and then as a start: a stamp that completes a measurement can start the next. -/
def judgeOne (c : GroupCfg) (e : GroupStamp) (j : Judged) : Judged :=
  let (q, d1) := expirePool c e.at_ j.1
  let (q, d2) := judgeStop c e q
  let (q, d3) := judgeStart c e q
  (q, j.2 ++ d1 ++ d2 ++ d3)

/-- Stamps of one ZTIME: all act as stops before any acts as a start (R243). -/
def judgeAll (c : GroupCfg) (fuel : Nat) (l : List GroupStamp) (j : Judged) : Judged :=
  match fuel, l with
  | 0, _ => j
  | _, [] => j
  | n + 1, e :: rest =>
    let same := rest.takeWhile (fun f => f.at_ = e.at_)
    if same.isEmpty then judgeAll c n rest (judgeOne c e j)
    else
      let (q, d) := expirePool c e.at_ j.1
      let j := (e :: same).foldl (fun j f => let (q, d) := judgeStop c f j.1; (q, j.2 ++ d)) (q, j.2 ++ d)
      let j := (e :: same).foldl (fun j f => let (q, d) := judgeStart c f j.1; (q, j.2 ++ d)) j
      judgeAll c n (rest.drop same.length) j

/-- Group g has judged, with one configuration, every stamp before instant x. -/
def judgeSpan (c : GroupCfg) (x : Instant) (s : State) : State :=
  let q := s.grp[c.g]
  let now := q.inbox.takeWhile (fun e => e.at_ < x)
  let (q, d0) := (now.takeWhile (fun e => e.at_ < q.cut)).foldl
    (fun (j : Judged) e => let (q, d) := judgeCut c e j.1; (q, j.2 ++ d)) (q, [])
  let (q, d) := judgeAll c (now.length + 1) (now.dropWhile (fun e => e.at_ < q.cut)) (q, d0)
  let (q, d') := expirePool c x q
  addDue (d ++ d') (s.updGrp c.g (fun r => { q with inbox := r.inbox.drop now.length }))

/-- Group g has judged every stamp before instant x, each with the configuration in force at it (R243). -/
def judgeGroup (x : Instant) (g : Fin 32) (s : State) : State :=
  let b := startOf s.commits.priorEnd
  let old := { s with od := s.commits.prior }.groupCfg g
  judgeSpan (s.groupCfg g) x (if (s.grp[g].inbox.any (fun e => e.at_ < b)) then judgeSpan old (min x b) s else s)

/-- The groups have judged every stamp of the T_E that no edge can be stamped in any more: an edge sampled in the present T_E can
have its ZTIME in the one before (R237, R260). -/
def judgeGroups (s : State) : State := each s.units8 (judgeGroup (startOf (s.now - 1))) s

/-! ## Stamps (R236 to R240) -/

/-- The inbox with one more stamp, in ZTIME order. -/
def insertStamp (e : GroupStamp) : List GroupStamp → List GroupStamp
  | [] => [e]
  | f :: rest => if e.at_ < f.at_ then e :: f :: rest else f :: insertStamp e rest

/-- The enabled groups of which a stamp is a selected stop (R241, R247). -/
def State.stopGroups (s : State) (i : Fin 32) (rising : Bool) : List (Fin 32) :=
  s.units8.filter (fun g => clusterOf8 g = clusterOf8 i && s.on (grpIdx g) 1 &&
    ((s.groupCfg g).mask.toNat.testBit (stopBit i rising) ||
      s.grp[g].openM.any (fun m => m.mask.toNat.testBit (stopBit i rising))))

/-- A stamp goes to triggers, event-code senders, conditions, groups and, with records on, the FIFO (R239). -/
def deliverStamp (i : Fin 32) (x : Instant) (rising : Bool) (seq : W16) (gen : BitVec 4) (s : State) : State :=
  let cl := clusterOf8 i
  let a := teOf x + 4
  let s := deliverTriggers (.stamp i.val) x s
  let s := sendCodes (.stamp i.val) cl (teOf x) s
  let s := s.updXbar cl (fun u => { u with stamps := (a, i.val % 8, rising) :: trimBy (·.1) s.now u.stamps })
  let lull := s.lullAt x
  let keep := s.on (inIdx i) 8
  let waits := if keep then s.stopGroups i rising else []
  let e : GroupStamp := { at_ := x, inp := i, rising := rising, seq := seq, gen := gen, lull := lull }
  let s := each (s.units8.filter (fun g => clusterOf8 g = cl && s.on (grpIdx g) 1))
    (fun (g : Fin 32) t => t.updGrp g (fun q => { q with
      inbox := insertStamp { e with waits := waits.contains g } q.inbox })) s
  if keep then addDue [(a, .stamp i (.stamp x rising seq gen lull waits false false))] s else s

/-- The input stamps crossings of this slope in T_E a, by what was applied then (R232, R236). -/
def State.gateOpen (s : State) (i : Fin 32) (rising : Bool) (a : TE) : Bool :=
  match traceAt none s.sti[i].gate a with
  | some k => k = 2 || decide (k = 0) == rising
  | none => false

/-- An instant lies in the 2,500 T_E of blanking after an analogue change (R236). -/
def StampInput.blanks (u : StampInput) (x : Instant) : Bool :=
  decide (startOf u.blankUntil ≤ x + 2500 * fuPerTE) && decide (x < startOf u.blankUntil)

/-- A crossing with ZTIME x at input i (R236, R238): what selects it, and what takes its stamp, is judged by x; blanked, merged, or
a stamp. -/
def takeEdge (i : Fin 32) (rising : Bool) (x : Instant) (s : State) : State :=
  let u := s.sti[i]
  if !s.gateOpen i rising (teOf x) || u.cal.calState = 5 then s
  else if u.blanks x then s.updSti i (fun u => { u with blanked := u.blanked + 1 })
  else if x < u.dead then s.updSti i (fun u => { u with merged := u.merged + 1 })
  else
    let s := s.updSti i (fun u => { u with
      last := some x, dead := x + 2 * fuPerTE, seq := u.seq + 1, converted := u.converted + 1 })
    s.asOf x (deliverStamp i x rising u.seq (s.calAt i x).gen)

/-- The ZTIME of an edge whose ZTIME began the present T_E by the table before it: where a boundary has installed another table, that
table has placed it (R237). -/
def State.placedAgain (s : State) (i : Fin 32) (x : Instant) (taps : List (Option (Fin 384))) : Instant :=
  if s.commits.priorEnd = teOf x then
    match placeStamp s i s.sti[i].cal taps (teOf x) with | some y => max y (startOf (teOf x)) | none => x
  else x

/-- One thing that stamps and groups have due comes about. -/
def doDue (p : TE × LineDue) (s : State) : State :=
  match p.2 with
  | .stamp i e => if s.inputOwns i then pushFifo i e 0 1 p.1 s else s
  | .interval g m hit value tmo => formInterval g m hit value tmo p.1 s
  | .edge i rising x taps => takeEdge i rising (s.placedAgain i x taps) s
  | .decided g inp x seq taken => decideStop g inp x seq taken p.1 s
  | .remote _ => s
  | .period _ => s
  | .clear _ => s
  | .stop _ => s
  | .swap _ => s

end Sys2Proof.Machine
end

