-- ==== Sys2Proof/Machine/Levels.lean ====
section
/-!
DEFINITION. Output drivers and level DACs (spec 08): level entries, a driver at a level tick, driver faults, what the
ball shows.
-/
namespace Sys2Proof.Machine

/-! ## Entries (R217, R218) -/

/-- The kind field of an entry (R217). -/
def entryKind (e : Nat) : Nat := bits e 30 2

/-- R218: no reserved field of the entry is non-zero. -/
def entryOk (e : Nat) : Bool :=
  let k := entryKind e
  bits e 28 2 = 0 && bits e 24 2 = 0 && (k = 3 || bits e 26 2 = 0) && (k != 0 || bits e 12 12 = 0)
    && (k != 1 || bits e 0 12 = 0)

/-- Apply an entry to the codes and gains (R217). -/
def Driver.applyEntry (d : Driver) (e : Nat) : Driver :=
  let sw := bits e 0 12
  let off := bits e 12 12
  match entryKind e with
  | 0 => { d with swing := sw }
  | 1 => { d with offset := off }
  | 2 => { d with swing := sw, offset := off }
  | _ => { d with swing := sw, offset := off, gSwing := bit e 27, gOffset := bit e 26 }

/-- Whether an entry is eligible at a tick (R220). -/
def LevelEntry.eligible (e : LevelEntry) (tick : TE) : Bool :=
  decide (e.at_ + 4 ≤ tick) && match e.tag with | some x => decide (x ≤ startOf tick) | none => true

/-- Apply the eligible entries at the head of a queue, in queue order (R220). -/
def Driver.applyHead (d : Driver) (tick : TE) : List LevelEntry → Driver
  | [] => { d with queue := [] }
  | e :: rest =>
    if e.eligible tick then Driver.applyHead (d.applyEntry e.entry.toNat) tick rest
    else { d with queue := e :: rest }

/-- One channel at a level tick (R220, R226, R228): entries, RANGING when the gains end up different, release of FAULT. -/
def Driver.tick (d : Driver) (t : TE) : Driver :=
  let n := d.applyHead t d.queue
  let n := if 16 ≤ d.queue.length ∧ n.queue.length < 16 then { n with roomAt := t } else n
  let n := if n.gSwing ≠ d.gSwing ∨ n.gOffset ≠ d.gOffset then { n with ranging := some (t, t + 2500) } else n
  match n.releaseAt with
  | some x => if x ≤ t then { n with fault := none, releaseAt := none } else n
  | none => n

/-- The next level tick at or after the present T_E that has not been served (R219). -/
def State.nextLevelTick (s : State) : TE :=
  let a := (s.now + 124) / 125 * 125
  if s.time.lastTick = some a then a + 125 else a

/-- Whether a channel's level queue holds 16 entries (R221). -/
def State.levelFull (s : State) (ch : Fin 64) : Bool := decide (16 ≤ s.drv[ch].queue.length)

/-! ## Queueing (R220, R221) -/

/-- An entry enters the queue in the present T_E (R220). -/
def pushLevel (ch : Fin 64) (e : W32) (tag : Option Instant) (s : State) : State :=
  s.updDrv ch (fun d => { d with queue := d.queue ++ [{ entry := e, tag := tag, at_ := s.now }] })

/-- R48: an absolute time lies within 2^51 T_E of the present. -/
def State.within48 (s : State) (x : Instant) : Bool :=
  decide (teOf x ≤ s.now + 2 ^ 51) && decide (s.now ≤ teOf x + 2 ^ 51)

/-- A host write of a level entry (:17), or of the level preset (:16), which is also queued untagged (R221, R230). -/
def levelEntry (r : Requester) (ch : Fin 64) (preset : Bool) (e : W32) (s : State) : State :=
  let busy := [need (!s.levelFull ch) 0x04030000]
  if preset then
    s.request r (chIdx ch) 0x16 .rwi
      [need (entryOk e.toNat) 0x03020000, need (entryKind e.toNat = 3) 0x03020000] busy
      (fun s => ((pushLevel ch e none s).store1 (chIdx ch) 0x16 (.num e.toNat)).confGen.ok)
  else
    s.request r (chIdx ch) 0x17 .wo [need (entryOk e.toNat) 0x03020000] busy (fun s => (pushLevel ch e none s).ok)

/-- LEVEL_ENTRY (R218, R220, R221, R230). -/
def execLevelEntry (r : Requester) (ch : Fin 64) (preset : Bool) (entry : W32) (s : State) :
    Host.Outcome State Fault Refusal := .next (levelEntry r ch preset entry s)

/-- A host write of a tagged entry (:18): the tag is checked under R39 and R48 (R220, R230). -/
def taggedEntry (r : Requester) (ch : Fin 64) (e epoch : W32) (tag : W64) (s : State) : State :=
  let x := s.named epoch.toNat tag.toNat
  s.request r (chIdx ch) 0x18 .wo
    [need (entryOk e.toNat) 0x03020000, need (fineOk tag.toNat) 0x03020000, need (s.within48 x) 0x03020000]
    [need (!s.levelFull ch) 0x04030000]
    (fun s => (pushLevel ch e (some x) s).ok)

/-- TAGGED_LEVEL_ENTRY (R220, R230). -/
def execTaggedLevelEntry (r : Requester) (ch : Fin 64) (entry epoch : W32) (tag : W64) (s : State) :
    Host.Outcome State Fault Refusal := .next (taggedEntry r ch entry epoch tag s)

/-! ## Faults (R227, R228) -/

/-- The arm bits of :15 as a mask over causes: overcurrent, supply, thermal. -/
def State.armedCauses (s : State) (ch : Fin 64) : BitVec 3 := BitVec.ofNat 3 (s.nat (chIdx ch) 0x15 / 2)

/-- The first level tick at or after T_E `a` (R219). -/
def tickFrom (a : TE) : TE := (a + 124) / 125 * 125

/-- The T_E from which a FAULT that a release has not ended by T_E `a` holds (R227, R228). -/
def Driver.faultFrom (d : Driver) (a : TE) : Option TE :=
  if d.releaseAt.any (fun x => decide (tickFrom x ≤ a)) then none else d.fault

/-- Causes `c` of a channel act: an armed cause that is present puts the driver into FAULT and is latched (R227). -/
def faultCheck (ch : Fin 64) (c : BitVec 3) (s : State) : State :=
  let hit := c &&& s.drv[ch].present &&& s.armedCauses ch
  if hit = 0 then s
  else s.updDrv ch (fun d => { d with
    latched := d.latched ||| hit, fault := some (match d.faultFrom s.now with | some f => min f s.now | none => s.now),
    releaseAt := none })

/-- Causes become present on a channel (R227). -/
def causeOn (c : BitVec 3) (ch : Fin 64) (s : State) : State :=
  faultCheck ch c (s.updDrv ch (fun d => { d with present := d.present ||| c }))

/-- Causes end on a channel: the latched causes and FAULT stay (R227, R228). -/
def causeOff (c : BitVec 3) (ch : Fin 64) (s : State) : State :=
  s.updDrv ch (fun d => { d with present := d.present &&& ~~~c })

/-- The channels of a cluster. -/
def clusterChannels (cl : Fin 4) : List (Fin 64) := (List.finRange 16).map (channelOf cl)

/-- CHANNEL_OVERCURRENT (R227): the cause is reported as 489 kind 3, once a channel and Tide (R479). -/
def channelOvercurrent (ch : Fin 64) (s : State) : State :=
  if ch.val < 16 * s.part.clusters then
    causeOn 1 ch (s.raiseOnce 489 (300 + ch.val) (3 + ch.val * 2 ^ 4))
  else s

/-- CHANNEL_OVERCURRENT (R227, R479). -/
def execChannelOvercurrent (ch : Fin 64) (s : State) : Host.Outcome State Fault Refusal :=
  .next (channelOvercurrent ch s)

/-- DRIVER_OVERCURRENT_END (R227): the present overcurrent cause clears. -/
def execDriverOvercurrentEnd (ch : Fin 64) (s : State) : Host.Outcome State Fault Refusal := .next (causeOff 1 ch s)

/-- The window of a rail in mV (R469). -/
def railWindow (rail : Nat) : Nat × Nat :=
  if rail = 0 ∨ 8 ≤ rail then (3100, 3500) else if rail = 1 then (760, 840) else if rail = 2 then (1140, 1260) else (1710, 1890)

/-- A rail's value agrees with what its comparator says; at a limit, where the value in mV is rounded, either may hold (R469). -/
def railAgrees (rail : Nat) (inside : Bool) (mv : Nat) : Bool :=
  let (lo, hi) := railWindow rail
  if inside then decide (lo ≤ mv) && decide (mv ≤ hi) else decide (mv ≤ lo) || decide (hi ≤ mv)

/-- A rail leaves its window or is back inside (R469): event 489, and for a cluster driver supply the supply cause of
every channel of the cluster (R227). -/
def railExcursion (rail : Fin 12) (inside : Bool) (mv : W16) (s : State) : State :=
  let out := s.health.outside[rail]
  if out = !inside ∨ !railAgrees rail.val inside mv.toNat then s
  else
    let s := { s with health := { s.health with outside := s.health.outside.set rail.val (!inside) rail.isLt } }
    let s := s.raise 489 ((if inside then 2 else 1) + rail.val * 2 ^ 4 + mv.toNat * 2 ^ 16)
    if h : 8 ≤ rail.val then
      let cl : Fin 4 := ⟨rail.val - 8, by omega⟩
      each (clusterChannels cl) (if inside then causeOff 2 else causeOn 2) s
    else s

/-- RAIL_EXCURSION (R469, R227). -/
def execRailExcursion (rail : Fin 12) (inside : Bool) (mv : W16) (s : State) : Host.Outcome State Fault Refusal :=
  .next (railExcursion rail inside mv s)

/-- FAULT_PARK: driver command 1; FAULT from 4 T_E after acceptance (R227). -/
def faultPark (r : Requester) (ch : Fin 64) (s : State) : State :=
  s.request r (chIdx ch) 0x1A .wo [] [] (fun s =>
    (s.updDrv ch (fun d => { d with
      park := true, fault := some ((d.faultFrom s.now).getD (s.now + 4)), releaseAt := none })).ok)

/-- FAULT_PARK (R227). -/
def execFaultPark (r : Requester) (ch : Fin 64) (s : State) : Host.Outcome State Fault Refusal := .next (faultPark r ch s)

/-- RELEASE: driver command 2 (R228); a FAULT that an earlier release ends goes at that one's tick. -/
def release (r : Requester) (ch : Fin 64) (s : State) : State :=
  s.request r (chIdx ch) 0x1A .wo []
    [need (s.drv[ch].present &&& s.armedCauses ch = 0) 0x04020000]
    (fun s =>
      (if (s.drv[ch].faultFrom s.now).isSome then
        s.updDrv ch (fun d => { d with park := false, latched := 0, releaseAt := some (d.releaseAt.getD (s.now + 4)) })
      else s).ok)

/-- RELEASE (R228). -/
def execRelease (r : Requester) (ch : Fin 64) (s : State) : Host.Outcome State Fault Refusal := .next (release r ch s)

/-- FLUSH: driver command 3 removes every entry without applying it (R221). -/
def flush (r : Requester) (ch : Fin 64) (s : State) : State :=
  s.request r (chIdx ch) 0x1A .wo [] [] (fun s =>
    (s.updDrv ch (fun d => { d with queue := [], roomAt := if 16 ≤ d.queue.length then s.now else d.roomAt })).ok)

/-- FLUSH (R221). -/
def execFlush (r : Requester) (ch : Fin 64) (s : State) : Host.Outcome State Fault Refusal := .next (flush r ch s)

/-! ## What the ball shows (R215, R216, R222) -/

/-- The driver is in FAULT in a T_E (R227, R228): after a release, up to the first tick from w + 4 on. -/
def Driver.faultAt (d : Driver) (a : TE) : Bool :=
  match d.fault with
  | some f => decide (f ≤ a) && match d.releaseAt with | some x => decide (a < tickFrom x) | none => true
  | none => false

/-- The channel is RANGING at an instant (R226). -/
def Driver.rangingAt (d : Driver) (x : Instant) : Bool :=
  match d.ranging with
  | some (b, e) => decide (startOf b ≤ x) && decide (x < startOf e)
  | none => false

/-- The channel is tripped in a T_E: its latch is set from there on. -/
def TripLatch.trippedAt (t : TripLatch) (a : TE) : Bool := t.latched && decide (t.setAt ≤ a)

/-- High impedance by fault, host fault-park or SAFE in a T_E (R131 reason 5). -/
def State.driverOff (s : State) (ch : Fin 64) (a : TE) : Bool := s.drv[ch].faultAt a || s.dev.st == .safe

/-- Whether the channel is enabled with a mode (R141). -/
def State.chOn (s : State) (ch : Fin 64) : Bool := s.on (chIdx ch) 2 && s.nat (chIdx ch) 1 != 0

/-- The trip state of :1C (R293). -/
def State.tripState (s : State) (ch : Fin 64) : OutState :=
  match s.nat (chIdx ch) 0x1C % 4 with
  | 0 => .low | 1 => .high | 2 => .park | _ => .hiz

/-- The state the ball shows at an instant (R222), HIZ for high impedance. -/
def State.ball (s : State) (ch : Fin 64) (x : Instant) : OutState :=
  if !s.chOn ch || s.driverOff ch (teOf x) || s.drv[ch].rangingAt x then .hiz
  else if s.trip[ch].trippedAt (teOf x) then s.tripState ch
  else s.edge[ch].progState

/-- The level DAC voltage in units of 1.25 V / 4,096 (R216): code × gain. -/
def dacUnits (code : Nat) (g : Bool) : Nat := if g then 2 * code else code

/-- Swing and offset as the DACs give them, in units of 1/4,096 mV (R216). -/
def Driver.dac (d : Driver) : Nat × Nat := (dacUnits d.swing d.gSwing * 1250, dacUnits d.offset d.gOffset * 1250)

/-- Swing and offset after rules 1 to 3 of R216, in units of 1/4,096 mV. -/
def Driver.levels (d : Driver) : Nat × Nat :=
  let u (mv : Nat) : Nat := mv * 4096
  let o := max (u 400) (min (u 2000) d.dac.2)
  (min (max (u 100) (min (u 1200) d.dac.1)) (min (2 * (o - u 100)) (2 * (u 2600 - o))), o)

/-- R216: rules 1 and 3 change the swing, rule 2 the offset: (swing limited, offset limited). -/
def Driver.limited (d : Driver) : Bool × Bool := (decide (d.levels.1 ≠ d.dac.1), decide (d.levels.2 ≠ d.dac.2))

/-- The levels at the two balls of a channel in an output state, CHOch_P then CHOch_N, in units of 1/8,192 mV, none for high
impedance (R215): single-ended mode leaves CHOch_N in high impedance. -/
def Driver.legs (d : Driver) (single : Bool) (o : OutState) : Option Int × Option Int :=
  let v : Int := 2 * d.levels.2
  let h : Int := d.levels.1
  let second (x : Int) : Option Int := if single then none else some x
  match o with
  | .high => (some (v + h), second (v - h))
  | .low => (some (v - h), second (v + h))
  | .park => (some v, second v)
  | .hiz => (none, none)

/-- The levels that a channel shows at an instant (R215, R222). -/
def State.legs (s : State) (ch : Fin 64) (x : Instant) : Option Int × Option Int :=
  s.drv[ch].legs (bit (s.nat (chIdx ch) 0x15) 0) (s.ball ch x)

/-- 0x3000+0x20·ch:19, the level status (R230). -/
def State.levelStatus (s : State) (ch : Fin 64) : Nat :=
  let d := s.drv[ch]
  let b (x : Bool) (n : Nat) : Nat := if x then 2 ^ n else 0
  d.swing % 4096 + d.offset % 4096 * 2 ^ 12 + b d.gSwing 24 + b d.gOffset 25 + d.queue.length % 32 * 2 ^ 26
    + b (d.rangingAt s.nowAt) 31 + b d.limited.1 32 + b d.limited.2 33 + d.present.toNat * 2 ^ 34 + d.latched.toNat * 2 ^ 37
    + b d.park 40

/-- The DACs take the level preset at LOAD (R223). -/
def Driver.preset (d : Driver) (e : Nat) : Driver := d.applyEntry e

end Sys2Proof.Machine
end

