-- ==== Sys2Proof/Machine/Monitor.lean ====
section
/-!
DEFINITION. Window monitors and the trip network (spec 11, R281 to R304); what is due of the data plane comes about as time
arrives at a T_E (`State.reach`); level ticks and the end of RANGING (spec 08).
-/
namespace Sys2Proof.Machine

/-! ## Classification (R282 to R284) -/

/-- Thresholds and half the hysteresis in units of 1/12288 µV (R282). -/
structure Bands where
  upper : Int
  lower : Int
  half  : Int

/-- The R282 value of a threshold code in units of 1/12288 µV: −0.5 V + code × 3.5 V / 4,096. -/
def thresholdOf (code : Nat) : Int := -500000 * 12288 + code * 10500000

/-- The bands of a monitor's applied settings (R282): h = code × 8/3 mV. -/
def State.bands (s : State) (wm : Fin 32) : Bands where
  upper := thresholdOf (s.nat (monIdx wm) 2)
  lower := thresholdOf (s.nat (monIdx wm) 3)
  half := (s.nat (monIdx wm) 4 : Int) * 16384000

/-- The start rule of R284 on V_in in µV; it is also the rule of R283 for UNRESOLVED, where no line applies the
classification stays. -/
def Bands.start (b : Bands) (vin : Int) : Classn :=
  let x := vin * 12288
  if b.upper + b.half < x then .above
  else if x < b.lower - b.half then .below
  else if b.lower + b.half < x ∧ x < b.upper - b.half then .inside
  else .unresolved

/-- The classification after V_in in µV from a previous one (R283). -/
def Bands.next (b : Bands) (vin : Int) (c : Classn) : Classn :=
  let x := vin * 12288
  match c with
  | .inside => if b.upper + b.half < x then .above else if x < b.lower - b.half then .below else .inside
  | .above => if x < b.lower - b.half then .below else if x < b.upper - b.half then .inside else .above
  | .below => if b.upper + b.half < x then .above else if b.lower + b.half < x then .inside else .below
  | .unresolved => b.start vin

/-- A classification lies in a trip set (R290): [0] ABOVE, [1] BELOW, [2] UNRESOLVED. -/
def Classn.inSet (c : Classn) (set : Nat) : Bool :=
  match c with
  | .above => bit set 0 | .below => bit set 1 | .unresolved => bit set 2 | .inside => false

/-- The codes of :0B and of event 352 (R286, R304). -/
def Classn.code : Classn → Nat
  | .below => 0 | .inside => 1 | .above => 2 | .unresolved => 3

/-! ## Trip latches (R291 to R298, R304) -/

/-- Source 32 is TRIPIN (R293). -/
abbrev tripinSource : Nat := 32

/-- A source asserts now (R290, R292). -/
def State.sourceAsserts (s : State) (src : Nat) : Bool :=
  if h : src < 32 then s.mon[src].asserts else src = tripinSource && s.tripin.active

/-- At least one source routed to a channel asserts now (R293). -/
def State.routedAsserts (s : State) (ch : Fin 64) : Bool :=
  let r := s.nat (chIdx ch) 0x1B
  (List.range 33).any (fun i => bit r i && s.sourceAsserts i)

/-- The trip event of a channel for a latch setting (R304). -/
def tripSetEvent (ch : Fin 64) (src : Nat) (t : TE) (s : State) : State :=
  s.raiseSumAt (startOf t) (ch.val * 4 + 1) 0 (BitVec.ofNat 32 (src + 2 ^ 16))
    (fun d => bumpHigh (if d.toNat / 2 ^ 16 = 0 then BitVec.ofNat 32 (d.toNat / 64 * 64 + src) else d))

/-- The trip event of a channel for a release (R304): releases in [15:8], saturating at 255. -/
def tripReleaseEvent (ch : Fin 64) (src : Nat) (t : TE) (s : State) : State :=
  s.raiseSumAt (startOf t) (ch.val * 4 + 1) 0 (BitVec.ofNat 32 (src + 2 ^ 8))
    (fun d => if bits d.toNat 8 8 < 255 then BitVec.ofNat 32 (d.toNat + 2 ^ 8) else d)

/-- The trip event of the Tide that ends at b and holds T_E `was`, where one setting stands in it: the setting names another
source, and its T_E, where it was the event's first case, is tj (R298, R304). -/
def renameTrip (ch : Fin 64) (src : Nat) (was tj b : TE) (l : List Summary) : List Summary :=
  l.map (fun u =>
    if u.source = ch.val * 4 + 1 ∧ u.detail.toNat / 2 ^ 16 = 1 ∧ decide (teOf u.at_ < b) = decide (was < b) then
      { u with
        at_ := if u.at_ = startOf was then startOf tj else u.at_
        detail := BitVec.ofNat 32 (u.detail.toNat / 64 * 64 + src) }
    else u)

/-- The latest setting of a channel's latch, of T_E `was`, comes from another source, or earlier: its event says so (R298,
R304). -/
def tripRenamed (ch : Fin 64) (src : Nat) (was tj : TE) (s : State) : State :=
  let m := s.merger
  match inEnded (fun b => { b with sums := renameTrip ch src was tj b.at_ b.sums }) was m.ended with
  | some l => { s with merger := { m with ended := l } }
  | none => { s with merger := { m with sums := renameTrip ch src was tj s.nextBoundary m.sums } }

/-- The latch of a channel is set by a source with t_j (R294, R298): of two in one T_E the lower number is named; a
setting still on its way gives place to an earlier one. -/
def setLatch (src : Nat) (tj : TE) (ch : Fin 64) (s : State) : State :=
  let l := s.trip[ch]
  if l.latched then
    if tj < l.setAt ∨ tj = l.setAt ∧ src < l.first then
      tripRenamed ch src l.setAt tj (s.updTrip ch (fun l => { l with first := src, setAt := tj }))
    else s
  else
    tripSetEvent ch src tj
      (s.updTrip ch (fun _ => { latched := true, first := src, setAt := tj, withheld := 0 }))

/-- The latch of a channel is released in T_E t (R297). -/
def releaseLatch (ch : Fin 64) (t : TE) (s : State) : State :=
  let l := s.trip[ch]
  if l.latched then
    tripReleaseEvent ch l.first t (s.updTrip ch (fun _ => {}))
  else s

/-- A source sets the latches of the given channels that it is routed to (R291). -/
def setLatches (src : Nat) (t : TE) (chs : List (Fin 64)) (s : State) : State :=
  each (chs.filter (fun (ch : Fin 64) => bit (s.nat (chIdx ch) 0x1B) src)) (setLatch src t) s

/-- The source reaches a channel without the synchronised path: TRIPIN, and a monitor of the channel's cluster (R291). -/
def direct (src : Nat) (ch : Fin 64) : Bool := decide (32 ≤ src) || src / 8 == ch.val / 16

/-- An assertion of a source from T_E t on (R291, R294): the latches it reaches directly are set with t_j t; a monitor's
assertion is captured on CLK_E and reaches other clusters 4 T_E later (R35). -/
def assertTrip (src : Nat) (t : TE) (s : State) : State :=
  let s := setLatches src t (s.channels.filter (direct src)) s
  if h : src < 32 then addDue [(t + 4, .remote ⟨src, h⟩)] s else s

/-- A captured assertion of monitor wm arrives at the channels of other clusters in T_E t (R291, R294). -/
def remoteArrives (wm : Fin 32) (t : TE) (s : State) : State :=
  setLatches wm.val t (s.channels.filter (fun ch => !direct wm.val ch)) s

/-- A latch is not released in T_E t: a routed source asserts in it (R297, R298). -/
def State.staysLatched (s : State) (ch : Fin 64) (t : TE) : Bool := s.routedAsserts ch || decide (s.trip[ch].setAt = t)

/-- A period boundary acts in its T_E t (R297): release when no routed source asserts, else one more release withheld. -/
def periodActs (ch : Fin 64) (t : TE) (s : State) : State :=
  if bit (s.nat (chIdx ch) 0x1C) 2 ∧ s.trip[ch].trippedAt t then
    if s.staysLatched ch t then s.updTrip ch (fun l => { l with withheld := satNat 0xFFFF (l.withheld + 1) })
    else releaseLatch ch t s
  else s

/-- A period boundary of a channel at an instant (R297): it acts in the first T_E that starts at or after it, when that
comes. -/
def periodBoundary (ch : Fin 64) (x : Instant) (s : State) : State :=
  let t := teCeil x
  if t ≤ s.now then periodActs ch t s else addDue [(t, .period ch)] s

/-- A host clear acts in T_E t (R297): release when no routed source asserts in it. -/
def clearActs (ch : Fin 64) (t : TE) (s : State) : State :=
  if s.trip[ch].trippedAt t && !s.staysLatched ch t then releaseLatch ch t s else s

/-! ## Changes of a monitor's classification (R285, R290, R508) -/

/-- The monitor is watching, or holds its state in a self-check (R290, R299). -/
def Monitor.live (m : Monitor) : Bool :=
  match m.phase with | .watching => true | .selfCheck _ _ => true | _ => false

/-- The trip assertion follows the classification from T_E t on (R290). A start of an assertion counts, raises
352 + 2·wm and sets latches. -/
def followAssert (wm : Fin 32) (t : TE) (s : State) : State :=
  let m := s.mon[wm]
  let a := m.live && m.cls.inSet (s.nat (monIdx wm) 5)
  if a && !m.asserts then
    let s := s.updMon wm (fun m => { m with asserts := true, count := m.count + 1 })
    assertTrip wm.val t (s.raiseCountAt (startOf t) (352 + 2 * wm.val) 0 m.cls.code)
  else if !a && m.asserts then
    -- gone before the CLK_E edge that would have captured it (R291)
    { s with line := s.line.filter (fun p => p.1 ≠ t + 4 ∨ p.2 ≠ LineDue.remote wm) }.updMon wm (fun m => { m with asserts := a })
  else s.updMon wm (fun m => { m with asserts := a })

/-- The synchronous classification becomes c in T_E t (R285, R508): triggers with t_ref t, codes with cause t − 1, the
capture's monitor test. -/
def syncClass (wm : Fin 32) (t : TE) (c : Classn) (s : State) : State :=
  let old := traceAt .inside s.mon[wm].hist t
  if old = c then s
  else
    let s := s.updMon wm (fun m => { m with hist := traceTrim (tracePut .inside m.hist t c) (s.now - keepTE) })
    let s := deliverTriggers (.monitor wm.val old c) (startOf t) s
    let s := sendCodes (.monitor wm.val old c) (clusterOf8 wm) (t - 1) s
    monitorTest wm t c s

/-- The majority filter is on (R288). -/
def State.filtered (s : State) (wm : Fin 32) : Bool := s.nat (monIdx wm) 8 != 0

/-- A self-check holds the monitor in T_E t: from w + 4 to its end (R299). -/
def Monitor.heldAt (m : Monitor) (t : TE) : Bool :=
  match m.phase with | .selfCheck _ u => decide (u ≤ t + 8750) | _ => false

/-- A due change comes about in T_E t: through the filter the trip assertion follows with it (R288). A self-check holds both
at the values of w + 4, which a change of that T_E still gives (R299, R508). -/
def applyDue (wm : Fin 32) (t : TE) (c : Classn) (s : State) : State :=
  if s.mon[wm].heldAt t && s.mon[wm].heldAt (t - 1) then s else
  let s := if s.filtered wm then followAssert wm t (s.updMon wm (fun m => { m with cls := c })) else s
  syncClass wm t c s

/-- The changes of monitor wm that are due by T_E a. -/
def settleMon (a : TE) (wm : Fin 32) (s : State) : State :=
  let l := s.mon[wm].due
  if l.isEmpty then s
  else
    let s := s.updMon wm (fun m => { m with due := l.filter (fun d => a < d.1) })
    each (l.filter (fun d => d.1 ≤ a)) (fun d t => applyDue wm d.1 d.2 t) s

/-- What comes after the monitors in its T_E: trip latches and stops (R297, R298, R323). -/
def LineDue.late : LineDue → Bool
  | .remote _ => true | .period _ => true | .clear _ => true | .stop _ => true | .swap _ => true | _ => false

/-- What stamps and groups have due by T_E a. -/
def settleLine (a : TE) (s : State) : State :=
  let l := s.line
  each (l.filter (fun p => decide (p.1 ≤ a) && !p.2.late)) doDue { s with line := l.filter (fun p => decide (a < p.1) || p.2.late) }

/-- A trigger that the channel is known to get can place an edge in a T_E less than 2 from T_E `t` (R137, R145). -/
def State.triggerNear (s : State) (ch : Fin 64) (t : TE) : Bool :=
  let v (k : Nat) : Nat := s.nat (chIdx ch) k
  let span (k : Nat) : Nat := (zdeltaVal (v k)).toNat
  v 1 = 1 && v 2 != 0 && (s.knownTriggers ch).any (fun y =>
    (FifoEntry.train (y + s.dIns ch + span 4) (v 7) (span 8) (span 5) false 0 false none 0).edgeIn (startOf (t - 1)) (startOf (t + 2)))

/-- The swap of a channel's paths takes effect in T_E t, or in the first later one that lies at least 2 T_E from every placed
edge and from every edge of a known trigger (R137): where the next 64 T_E hold none, it is looked for again when they have
passed. -/
def swapPath (ch : Fin 64) (t : TE) (s : State) : State :=
  let near (t : TE) : Bool := s.edge[ch].edgeNear t || s.triggerNear ch t
  let u := swapTime near 64 t
  if near u then addDue [(max u (s.now + 1), .swap ch)] s
  else if u ≤ s.now then swapNow ch s
  else addDue [(u, .swap ch)] s

/-- One late thing comes about in its T_E: an assertion from another cluster, a period boundary, a host clear, a stop, a swap
(R291, R297, R317, R137). -/
def doLate (p : TE × LineDue) (s : State) : State :=
  match p.2 with
  | .remote wm => remoteArrives wm p.1 s
  | .period ch => periodActs ch p.1 s
  | .clear ch => clearActs ch p.1 s
  | .stop cl => if s.cap[cl].storing then endStoring cl 0x10 p.1 s else s
  | .swap ch => swapPath ch p.1 s
  | _ => s

/-- What trip latches and captures have due by T_E a. -/
def settleLate (a : TE) (s : State) : State :=
  let l := s.line
  each (l.filter (fun p => decide (p.1 ≤ a) && p.2.late)) doLate { s with line := l.filter (fun p => decide (a < p.1) || !p.2.late) }

/-- T_E numbers in rising order, each once. -/
def insertTE (t : TE) : List TE → List TE
  | [] => [t]
  | u :: rest => if t < u then t :: u :: rest else if t = u then u :: rest else u :: insertTE t rest

/-- The T_E by `a` in which something is due. -/
def State.dueTimes (s : State) (a : TE) : List TE :=
  let l := s.line.map (·.1) ++ (s.units8.map (fun (wm : Fin 32) => s.mon[wm].due.map (·.1))).flatten
  (l.filter (· ≤ a)).foldl (fun m t => insertTE t m) []

/-- What is due in T_E t comes about: stamps and groups, monitors, then trip latches and captures. -/
def settleAt (t : TE) (s : State) : State := settleLate t (each s.units8 (settleMon t) (settleLine t s))

/-- What is due by the present T_E comes about, T_E by T_E, at most `fuel` of them; nothing of it stays on the way. -/
def settleBy : Nat → State → State
  | 0, s => { s with line := s.line.filter (fun p => decide (s.now < p.1)) }
  | fuel + 1, s =>
    let s := judgeGroups s
    match s.dueTimes s.now with
    | [] => s
    | t :: _ => settleBy fuel (settleAt t s)

/-- More T_E than those that hold something due, with all that it can bring: an edge brings one stamp, a stamp at most a stop or
a start to each of 32 groups, and each of these at most 16 intervals and their decisions. -/
def State.settleFuel (s : State) : Nat :=
  1024 * (s.line.length + (s.units8.map (fun (u : Fin 32) =>
    s.mon[u].due.length + s.grp[u].inbox.length + s.grp[u].pool.length)).foldl (· + ·) 0) + 1

/-- Every change that is due by the present T_E has come about, in the order of its T_E. -/
def State.settle (s : State) : State := settleBy s.settleFuel s

/-- A happening at T_E a arrives, everything due by then done. -/
def State.reach (s : State) (a : TE) : State := (s.arrive a).settle

/-- The comparators give classification c from T_E t on, unfiltered: the trip follows at once, the synchronous copy at
the start of t (R283, R285). -/
def asyncClass (wm : Fin 32) (t : TE) (c : Classn) (s : State) : State :=
  let s := s.updMon wm (fun m => { m with
    cls := c, raw := c, rawHist := traceTrim (tracePut .inside m.rawHist t c) (t - 16)
    due := m.due.filter (fun d => d.1 < t) ++ [(t, c)] })
  (followAssert wm t s).settle

/-- Samples out of n that the filter needs (R288). -/
def filterCounts (k : Nat) : Nat × Nat := if k = 1 then (3, 5) else (5, 9)

/-- The filter over the samples from T_E u on, `fuel` of them: a change to X three T_E after the first sample with which
k of the last n are X (R288). -/
def runFilter (raw : Trace Classn) (k n : Nat) : Nat → TE → Classn → List (TE × Classn)
  | 0, _, _ => []
  | fuel + 1, u, c =>
    let last := (List.range n).map (fun i => traceAt Classn.inside raw (u - i))
    match [Classn.inside, .above, .below, .unresolved].find? (fun x => x ≠ c ∧ k ≤ last.count x) with
    | some x => (u + 3, x) :: runFilter raw k n fuel (u + 1) x
    | none => runFilter raw k n fuel (u + 1) c

/-- The comparators' classification becomes c at the sample of T_E t; the filter's further changes are worked out
anew (R288). -/
def filterClass (wm : Fin 32) (t : TE) (c : Classn) (s : State) : State :=
  let (k, n) := filterCounts (s.nat (monIdx wm) 8)
  s.updMon wm (fun m =>
    let raw := traceTrim (tracePut .inside m.rawHist t c) (t - 16)
    let kept := m.due.filter (fun d => d.1 < t + 3)
    let from_ := match kept.getLast? with | some d => d.2 | none => m.cls
    { m with raw := c, rawHist := raw, due := kept ++ runFilter raw k n n t from_ })

/-- The monitor is in a blanking window (R287). -/
def State.blanked (s : State) (wm : Fin 32) : Bool :=
  match s.mon[wm].blank with | some e => decide (s.nowAt < e) | none => false

/-- The sampled mode (R289). -/
def State.sampledMode (s : State) (wm : Fin 32) : Bool := s.nat (monIdx wm) 9 = 1

/-- A self-check holds the monitor in the present T_E (R299). -/
def State.checking (s : State) (wm : Fin 32) : Bool := s.mon[wm].heldAt s.now

/-- The monitor's comparators are followed (R284, R289, R299). -/
def State.watches (s : State) (wm : Fin 32) : Bool :=
  s.mon[wm].live && !s.checking wm && !s.sampledMode wm

/-- MONITOR_CROSSING: V_in takes a value in the present T_E; the first CLK_E edge after it starts T_E t_c = now + 1
(R283, R285, R288, R294). -/
def monitorCrossing (wm : Fin 32) (vin : Int) (s : State) : State :=
  let s := s.settle.updMon wm (fun m => { m with vin := vin })
  if !s.watches wm || s.blanked wm then s
  else
    let c := (s.bands wm).next vin s.mon[wm].raw
    if c = s.mon[wm].raw then s
    else if s.filtered wm then filterClass wm (s.now + 1) c s
    else asyncClass wm (s.now + 1) c s

/-- MONITOR_CROSSING (R283, R285, R288, R290, R291, R294). -/
def execMonitorCrossing (wm : Fin 32) (vin : Int) (s : State) : Host.Outcome State Fault Refusal :=
  .next (monitorCrossing wm vin s)

/-! ## Blanking and sampling (R287, R289) -/

/-- An edge that a channel places at its ball opens the windows of the monitors that name it (R287). -/
def openBlanking (ch : Fin 64) (x : Instant) (s : State) : State :=
  each ((List.finRange 8).map (unitOf8 (clusterOf ch))) (fun wm t =>
    let b := t.nat (monIdx wm) 7
    if t.on (monIdx wm) 1 ∧ t.nat (monIdx wm) 6 = ch.val % 16 ∧ 0 < b then
      t.updMon wm (fun m => { m with
        blank := some (max (x + b * fuPerTE) (match m.blank with | some e => e | none => 0)) })
    else t) s

/-- BLANKING_END (R287, R294): at the end of the window both take the value of R283 for V_in; t_j is the first T_E start
at or after it. -/
def blankingEnd (wm : Fin 32) (vin : Int) (s : State) : State :=
  match s.mon[wm].blank with
  | none => s
  | some e =>
    let s := (s.reach (teOf e)).updMon wm (fun m => { m with vin := vin, blank := none })
    if s.watches wm then
      asyncClass wm (teCeil e) ((s.bands wm).next vin s.mon[wm].cls) s
    else s

/-- BLANKING_END (R287, R294). -/
def execBlankingEnd (wm : Fin 32) (vin : Int) (s : State) : Host.Outcome State Fault Refusal :=
  .next (blankingEnd wm vin s)

/-- The next sample tick of a monitor that has not been served: at the next multiple of the period, which the count 0 is too
(R289). -/
def State.nextSample (s : State) (wm : Fin 32) : TE :=
  let p := 1250 * s.nat (monIdx wm) 0x0A
  let t := match s.mon[wm].sampled with | some a => max s.now (a + 1) | none => s.now
  t - t % countMod + min ((t % countMod + (p - 1)) / p * p) countMod

/-- SAMPLE_TICK (R289): the classification is decided under R283 from V_in at the tick; a tick within a blanking window
is skipped. -/
def sampleTick (wm : Fin 32) (vin : Int) (s : State) : State :=
  if s.sampledMode wm ∧ s.on (monIdx wm) 1 then
    let a := s.nextSample wm
    let s := (s.reach a).updMon wm (fun m => { m with vin := vin, sampled := some a })
    if s.mon[wm].live && !s.checking wm && !s.blanked wm then
      asyncClass wm a ((s.bands wm).next vin s.mon[wm].cls) s
    else s
  else s

/-- SAMPLE_TICK (R289, R294). -/
def execSampleTick (wm : Fin 32) (vin : Int) (s : State) : Host.Outcome State Fault Refusal :=
  .next (sampleTick wm vin s)

/-! ## Starts (R284) -/

/-- A monitor starts at T_E b (R284): SETTLING for 2,500 T_E, no assertion, the synchronous classification held. -/
def startMonitor (b : TE) (wm : Fin 32) (s : State) : State :=
  s.updMon wm (fun m => { m with phase := .settling (b + 2500), asserts := false, due := [] })

/-- A monitor is disabled at boundary b (R285, R508): it shows INSIDE. -/
def stopMonitor (b : TE) (wm : Fin 32) (s : State) : State :=
  syncClass wm b .inside
    (s.updMon wm (fun m => { m with phase := .off, asserts := false, due := [], cls := .inside, raw := .inside, blank := none }))

/-- SETTLING_END (R284, R508): 2,500 T_E after the start the monitor classifies V_in. -/
def settlingEnd (wm : Fin 32) (vin : Int) (s : State) : State :=
  match s.mon[wm].phase with
  | .settling u =>
    let s := (s.reach u).updMon wm (fun m => { m with vin := vin, phase := .watching })
    if s.blanked wm then s
    else
      let c := (s.bands wm).start vin
      let s := s.updMon wm (fun m => { m with cls := c, raw := c, rawHist := [(0, c)] })
      syncClass wm u c (followAssert wm u s)
  | _ => s

/-- SETTLING_END (R284, R508). -/
def execSettlingEnd (wm : Fin 32) (vin : Int) (s : State) : Host.Outcome State Fault Refusal :=
  .next (settlingEnd wm vin s)

/-! ## TRIPIN (R292) -/

/-- TRIPIN asserts from T_E t on (R290, R292). -/
def tripinOn (t : TE) (s : State) : State :=
  assertTrip tripinSource t { s with tripin := { s.tripin with active := true, count := s.tripin.count + 1 } }

/-- The TRIPIN ball is at its active level (R292). -/
def State.tripinLevel (s : State) : Bool := s.tripin.level == (s.nat 0x4A00 1 == 0)

/-- TRIPIN_ASSERT (R292, R294): the ball reaches its active level. BOOT and LOAD ignore it (R439). -/
def tripinAssert (s : State) : State :=
  if s.tripin.active then s
  else
    let s := s.settle
    let s := { s with tripin := { s.tripin with level := s.nat 0x4A00 1 = 0 } }
    if s.served then tripinOn (s.now + 1) s else s

/-- TRIPIN_ASSERT (R292, R294). -/
def execTripinAssert (s : State) : Host.Outcome State Fault Refusal := .next (tripinAssert s)

/-- TRIPIN_INACTIVE (R292): the ball leaves its active level. -/
def tripinInactive (s : State) : State :=
  if s.tripin.active || s.tripinLevel then
    let s := s.settle
    { s with tripin := { s.tripin with active := false, level := s.nat 0x4A00 1 = 1 } }
  else s

/-- TRIPIN_INACTIVE (R290, R292). -/
def execTripinInactive (s : State) : Host.Outcome State Fault Refusal := .next (tripinInactive s)

/-! ## Host clear (R297) -/

/-- TRIP_CLEAR: a write of 1 to :1D releases the latch at w + 4 unless a routed source asserts then; a clear latch stays as it
is. -/
def tripClear (r : Requester) (ch : Fin 64) (s : State) : State :=
  let s := s.settle
  s.request r (chIdx ch) 0x1D .rw [] [need (!s.routedAsserts ch) 0x04020000] (fun s =>
    (if s.trip[ch].trippedAt s.now then addDue [(s.now + 4, .clear ch)] s else s).ok)

/-- TRIP_CLEAR (R293, R297). -/
def execTripClear (r : Requester) (ch : Fin 64) (s : State) : Host.Outcome State Fault Refusal := .next (tripClear r ch s)

/-! ## Level ticks and RANGING (R219, R220, R226) -/

/-- A level tick on every channel. -/
def levelTickAt (t : TE) (s : State) : State :=
  let s := s.reach t
  let s := { s with time := { s.time with lastTick := some t } }
  { s with drv := s.drv.map (fun d => d.tick t) }

/-- LEVEL_TICK (R219, R220, R226). -/
def execLevelTick (s : State) : Host.Outcome State Fault Refusal := .next (levelTickAt s.nextLevelTick s)

/-- RANGING ends 2,500 T_E after its tick (R226). A restarted window ends at its own time. -/
def rangingEnds (ch : Fin 64) (s : State) : State :=
  match s.drv[ch].ranging with
  | some (_, e) => (s.reach e).updDrv ch (fun d => { d with ranging := none })
  | none => s

/-- RANGING_END (R226, R222). -/
def execRangingEnd (ch : Fin 64) (s : State) : Host.Outcome State Fault Refusal := .next (rangingEnds ch s)

/-! ## Self-checks and readback (R299 to R303) -/

/-- Some enabled channel routes the monitor (R299). -/
def State.routedByEnabled (s : State) (wm : Fin 32) : Bool :=
  s.channels.any (fun ch => s.on (chIdx ch) 2 && bit (s.nat (chIdx ch) 0x1B) wm.val)

/-- A self-check or readback of the monitor runs (R299). -/
def Monitor.busy (m : Monitor) : Bool :=
  m.rbBusy || match m.phase with | .selfCheck _ _ => true | _ => false

/-- The monitor is enabled and neither SETTLING nor sampled (R299). -/
def State.checkable (s : State) (wm : Fin 32) : Bool :=
  !s.sampledMode wm && match s.mon[wm].phase with | .watching => true | .selfCheck _ _ => true | _ => false

/-- The tie voltages in µV (R301). -/
def tieVoltage (kind : Nat) : Int := if kind = 2 then 0 else 1250000

/-- The tie voltage lies within h/2 + 10 mV of a threshold (R301). -/
def State.tieTooNear (s : State) (wm : Fin 32) (kind : Nat) : Bool :=
  let b := s.bands wm
  let x := tieVoltage kind * 12288
  let d := b.half + 10000 * 12288
  decide ((x - b.upper).natAbs ≤ d.natAbs) || decide ((x - b.lower).natAbs ≤ d.natAbs)

/-- A self-check of kind 1 to 3 (R299 to R301): it takes the monitor away from its input for 8,750 T_E from w + 4. -/
def selfCheck (r : Requester) (wm : Fin 32) (kind : Nat) (s : State) : State :=
  let s := s.settle
  s.request r (monIdx wm) 0x0C .wo []
    [need (!(s.dev.st == .run && s.routedByEnabled wm)) 0x04010000,
     need (s.checkable wm) 0x04020000,
     need (kind != 1 || s.mon[wm].cls == .inside) 0x04020000,
     need (kind = 1 || !s.tieTooNear wm kind) 0x03030000,
     need (!s.mon[wm].busy) 0x04030000]
    (fun s => (s.updMon wm (fun m => { m with phase := .selfCheck kind (s.now + 4 + 8750) })).ok)

/-- SWAP (R299, R300). -/
def execSwap (r : Requester) (wm : Fin 32) (s : State) : Host.Outcome State Fault Refusal := .next (selfCheck r wm 1 s)
/-- TIE_0V (R299, R301). -/
def execTie0V (r : Requester) (wm : Fin 32) (s : State) : Host.Outcome State Fault Refusal := .next (selfCheck r wm 2 s)
/-- TIE_1V25 (R299, R301). -/
def execTie1V25 (r : Requester) (wm : Fin 32) (s : State) : Host.Outcome State Fault Refusal :=
  .next (selfCheck r wm 3 s)

/-- The result of a check is recorded; a failure raises 352 + 2·wm + 1, once a Tide (R303, R304). -/
def recordCheck (wm : Fin 32) (result : Nat) (s : State) : State :=
  let s := s.updMon wm (fun m => { m with result := BitVec.ofNat 32 result })
  if bit result 3 then s.raiseOnce (353 + 2 * wm.val) 0 result else s

/-- The classification that two comparators report, upper and lower, true for outside (R283, R300). -/
def Classn.reported : Bool × Bool → Classn
  | (false, false) => .inside | (true, false) => .above | (false, true) => .below | (true, true) => .unresolved

/-- A sample of a self-check agrees with what the check expects (R300, R301): both comparators outside under swap; under a tie
the classification that the start rule of R284 gives for the tie voltage. -/
def Bands.expects (b : Bands) (kind : Nat) (sample : Bool × Bool) : Bool :=
  if kind = 1 then sample == (true, true) else Classn.reported sample == b.start (tieVoltage kind)

/-- SELF_CHECK_END (R299 to R301, R303): the result is recorded and the monitor starts. -/
def selfCheckEnd (wm : Fin 32) (obs : SelfCheckObs) (s : State) : State :=
  match s.mon[wm].phase with
  | .selfCheck kind u =>
    let s := s.reach u
    let restored := if kind = 1 ∧ obs.restored ≠ (false, false) then some obs.restored else none
    let result := match (obs.samples.find? (fun p => !(s.bands wm).expects kind p)).or restored with
      | some p => kind + 8 + (if p.1 then 16 else 0) + if p.2 then 32 else 0
      | none => kind
    startMonitor u wm (recordCheck wm result s)
  | _ => s

/-- SELF_CHECK_END (R299, R300, R301, R303). -/
def execSelfCheckEnd (wm : Fin 32) (obs : SelfCheckObs) (s : State) : Host.Outcome State Fault Refusal :=
  .next (selfCheckEnd wm obs s)

/-- READBACK: a write of 1 to :0E (R302). -/
def readback (r : Requester) (wm : Fin 32) (s : State) : State :=
  s.request r (monIdx wm) 0x0E .rw [] [need (!s.mon[wm].busy) 0x04030000]
    (fun s => (s.updMon wm (fun m => { m with rbBusy := true })).ok)

/-- READBACK (R302). -/
def execReadback (r : Requester) (wm : Fin 32) (s : State) : Host.Outcome State Fault Refusal := .next (readback r wm s)

/-- The error of a measured threshold in 0.1 mV, times 4,096 (R302). -/
def readbackError (measured : Int) (code : Nat) : Int := (measured + 5000) * 4096 - code * 35000

/-- READBACK_COMPLETE (R302, R303): measured thresholds in 0.1 mV; the check fails beyond 25 mV. -/
def readbackComplete (wm : Fin 32) (upper lower : Int) (s : State) : State :=
  if s.mon[wm].rbBusy then
    let eu := readbackError upper (s.nat (monIdx wm) 2)
    let el := readbackError lower (s.nat (monIdx wm) 3)
    let larger := if eu.natAbs < el.natAbs then el else eu
    let lowBad := decide (250 * 4096 < el.natAbs)
    let bad := lowBad || decide (250 * 4096 < eu.natAbs)
    let err := signedCode 16 (clampInt (-32768) 32767 (roundDiv larger 4096))
    let code16 (i : Int) : Nat := signedCode 16 (clampInt (-32768) 32767 i)
    let s := s.updMon wm (fun m => { m with
      rbBusy := false, rbValue := BitVec.ofNat 32 (code16 upper + code16 lower * 2 ^ 16) })
    recordCheck wm (4 + (if bad then 8 else 0) + (if lowBad then 64 else 0) + err * 2 ^ 16) s
  else s

/-- READBACK_COMPLETE (R302, R303). -/
def execReadbackComplete (wm : Fin 32) (upper lower : Int) (s : State) : Host.Outcome State Fault Refusal :=
  .next (readbackComplete wm upper lower s)

/-- The monitor state of :0B in T_E a (R286, R299, R303). -/
def Monitor.state (m : Monitor) (a : TE) : Nat :=
  match m.phase with
  | .off => 4 | .settling _ => 5 | .selfCheck _ _ => if m.heldAt a then 6 else m.cls.code | .watching => m.cls.code

end Sys2Proof.Machine
end

