-- ==== Sys2Proof/Machine/Engine.lean ====
section
/-!
DEFINITION. The capture engine at work (spec 12, R311 to R323): the write port's cycles, arming, force and stop, the
trigger taken, freezing, the spill of Pans.
-/
namespace Sys2Proof.Machine

/-- One CLK_C cycle of the capture write port (R203, R315, R507): the next one not served yet. A further record of a chain
takes it; else a record the engine writes itself, where the entry has nothing pending or it has waited 8 T_E; else the
entry's requester. -/
def captureSlot (cl : Fin 4) (s : State) : State :=
  let cyc := nextCycle s.now s.cap[cl].slotAt
  let s := (s.reach (2 * cyc)).updCap cl (fun c => { c with slotAt := some cyc })
  match s.cap[cl].chain with
  | r :: rest => storeChained cl r (s.updCap cl (fun c => { c with chain := rest }))
  | [] =>
    let code := s.captureCode cl (cyc % 64)
    let rs := requesterReady s cl code
    let s := if !rs.isEmpty && s.cap[cl].selects code then queueGaps cl code s else s
    match s.cap[cl].written with
    | e :: rest =>
      if rs.isEmpty || s.cap[cl].holds code || decide (e.since + 8 ≤ s.now) then
        storeEngine cl e (s.updCap cl (fun c => { c with written := rest }))
      else takeEntry cl code rs s
    | [] => takeEntry cl code rs s

/-- CAPTURE_SLOT (R203, R315, R507). -/
def execCaptureSlot (cl : Fin 4) (s : State) : Host.Outcome State Fault Refusal := .next (captureSlot cl s)

/-- The first check of R312 that an arm command fails, with its abort code. -/
def armCheck (s : State) (cl : Fin 4) : Option (Nat × W32) :=
  let ms := s.armMembers cl
  let grouped := s.armGroupOf cl ≠ 0xFF
  let idle (c : Fin 4) : Bool :=
    (s.cap[c].st == .idle || s.cap[c].st == .done) && s.cap[c].armAt.isNone
  let masters := (ms.filter s.isMaster).length
  let cfg (c : Fin 4) := s.capConfig c
  if grouped ∧ !s.isMaster cl then some (1, 0x04020000)
  else if !ms.all idle then some (2, 0x04020000)
  else if grouped ∧ masters ≠ 1 then some (3, 0x03030000)
  else if ms.any (fun c => !(cfg c).spill && (decide (65536 < (cfg c).q) || decide (65536 < (cfg c).p + (cfg c).q))) then
    some (4, 0x05020000)
  else if ms.any (fun c => (cfg c).spill && !s.allHost (cfg c).pans) then some (5, 0x06010000)
  else none

/-- ARM: capture command 1 (R312, R321). A refusal raises 416 + 8·cl + 3 for every engine concerned. -/
def arm (r : Requester) (cl : Fin 4) (s : State) : State :=
  s.request r (clIdx cl 5) 1 .wo [] [] (fun s =>
    match armCheck s cl with
    | some (n, code) =>
      let s := each (s.armMembers cl) (fun c t => t.raise (419 + 8 * c.val) n) s
      s.refuse r (clIdx cl 5) 1 code
    | none => (each (s.armMembers cl) (fun c t => t.updCap c (fun e => { e with armAt := some (s.now + 8) })) s).ok)

/-- ARM (R312, R321). -/
def execArm (r : Requester) (cl : Fin 4) (s : State) : Host.Outcome State Fault Refusal := .next (arm r cl s)

/-! ## Entering ARMED (R312) -/

/-- One engine enters ARMED at its arming T_E (R312, R318): the previous capture goes, the configuration is frozen, the
spill Pans are taken, the start anchor is written. -/
def armEngine (a : TE) (cl : Fin 4) (s : State) : State :=
  let cfg := s.capConfig cl
  let s := if cfg.spill then
      each cfg.pans (fun p t => if (t.flag p).owner = .host then t.takePan p (BitVec.ofNat 8 (0x10 + cl.val)) else t) s
    else s
  let x := startOf a
  let an := anchor 0 (if s.lullAt x then 1 else 0) x
  (each (captureWords cl 0) (fun w t => t.wordWritten w) s).updCap cl (fun c => { c with
    st := .armed, cfg := cfg, armAt := none, anchor := some an, pre := [], post := [], total := 1, fire := none,
    marked := false, freezeAt := none, vLeft := 0, written := [], chain := [], gaps := [], status := 0,
    trigPos := 0xFFFFFFFF, trigAt := 0, spillLost := 0, violPos := 0xFFFFFFFF, violDet := 0, violated := false,
    handed := 0, next := cfg.first, drained := 0 })

/-- CAPTURE_ARMING: every engine armed for the same T_E enters ARMED in it (R312, R321). -/
def captureArming (cl : Fin 4) (s : State) : State :=
  match s.cap[cl].armAt with
  | none => s
  | some a =>
    let l := s.clusters.filter (fun c => s.cap[c].armAt = some a)
    let s := each l (armEngine a) (s.reach (a - 1))
    each l (fun c t => testAllMonitors c a t) (s.reach a)

/-- CAPTURE_ARMING (R312, R318, R321). -/
def execCaptureArming (cl : Fin 4) (s : State) : Host.Outcome State Fault Refusal := .next (captureArming cl s)

/-- FORCE_TRIGGER: capture command 2 acts at w + 4 (R313). -/
def forceTrigger (r : Requester) (cl : Fin 4) (s : State) : State :=
  s.request r (clIdx cl 5) 1 .wo [] [need (s.cap[cl].st == .armed) 0x04020000] (fun s =>
    (offerFire cl { f := s.now + 4, cl := cl.val, cond := 0, mask := 0, isForce := true } s).ok)

/-- FORCE_TRIGGER (R313, R322). -/
def execForceTrigger (r : Requester) (cl : Fin 4) (s : State) : Host.Outcome State Fault Refusal :=
  .next (forceTrigger r cl s)

/-- STOP_CAPTURE: capture command 3 ends storing at w + 4 (R317). -/
def stopCapture (r : Requester) (cl : Fin 4) (s : State) : State :=
  s.request r (clIdx cl 5) 1 .wo [] [] (fun s =>
    (if s.cap[cl].storing then addDue [(s.now + 4, .stop cl)] s else s).ok)

/-- STOP_CAPTURE (R317). -/
def execStopCapture (r : Requester) (cl : Fin 4) (s : State) : Host.Outcome State Fault Refusal :=
  .next (stopCapture r cl s)

/-- TRIGGER_TAKEN at f + 7 (R313, R314): the engine is triggered and writes the marker. -/
def triggerTaken (cl : Fin 4) (s : State) : State :=
  match s.cap[cl].fire with
  | none => s
  | some x =>
    let s := s.reach (x.f + 7)
    if s.cap[cl].storing then
      let fl := if s.lullAt (startOf x.f) then 1 else 0
      let r := record 0x04 fl (x.cl % 4 * 16 + x.cond % 16) 0 x.mask.toNat (ztimeTE x.f).toNat
      let s := s.updCap cl (fun c => { c with
        st := if c.st = .armed then .triggered else c.st, fire := none, status := c.status ||| 1, trigAt := x.f })
      engineWrites cl true r s
    else s

/-- TRIGGER_TAKEN (R313, R314, R322). -/
def execTriggerTaken (cl : Fin 4) (s : State) : Host.Outcome State Fault Refusal := .next (triggerTaken cl s)

/-! ## Freezing (R319) -/

/-- A member of a group that enters FREEZING in T_E a ignores the group's fire (R322), unless it takes it in that T_E, or the
fire and the violation came in one T_E (R323). -/
def State.ignoresFire (s : State) (cl : Fin 4) (a : TE) : Bool :=
  s.armGroupOf cl != 0xFF && s.cap[cl].fire.any (fun x => decide (a < x.f + 7) && x.f + 4 != a)

/-- FREEZING_START at v + 4 (R319), unless storing has ended by then. -/
def freezingStart (cl : Fin 4) (s : State) : State :=
  match s.settle.cap[cl].freezeAt with
  | none => s
  | some a =>
    let s := s.reach a
    if s.cap[cl].freezeAt = some a then
      let s := finishChain cl (if s.ignoresFire cl a then dropFire cl s else s)
      let s := s.updCap cl (fun c => { c with
        st := .freezing, freezeAt := none, vLeft := c.cfg.v, violPos := BitVec.ofNat 32 c.stored })
      if s.cap[cl].cfg.v = 0 then endStoring cl 0 a s else s
    else s

/-- FREEZING_START (R319). -/
def execFreezingStart (cl : Fin 4) (s : State) : Host.Outcome State Fault Refusal := .next (freezingStart cl s)

/-! ## Spill (R318) -/

/-- The anchor that governs record `i` of a capture (R63 cause 0x005, R64): the latest one at or before it. -/
def governing (rs : List W128) (i : Nat) : Option W128 := ((rs.take (i + 1)).filter isAnchor).getLast?

/-- The spill-Pan anchor (R63): the epoch and ZTIME of the governing anchor. -/
def spillAnchor (a : Option W128) : W128 :=
  match a with
  | some r => record 0x07 (bits r.toNat 112 8) 5 0 (bits r.toNat 64 32) (bits r.toNat 0 64)
  | none => record 0x07 0 5 0 0 0

/-- The record with the poisoned flag where a buffer word of it is poisoned (R323, R463): word k of the slot holds bits
32k on, and the bits that its error inverted are free. -/
def readOut (s : State) (cl : Fin 4) (i : Nat) (r : W128) : W128 :=
  let c := s.cap[cl]
  let ws := captureWords cl (c.total - c.stored + i)
  let err := ((List.range 4).zip ws).foldl (fun (a : W128) (p : Nat × MemWord) =>
    if s.isPoisoned p.2 then a ^^^ ((Config.errorMask (wordPlace p.2).toNat).setWidth 128 <<< (32 * p.1)) else a) 0
  if ws.any s.isPoisoned then setFlagBit 5 (r ^^^ err) else r

/-- The capture buffer is read: the errors of its words from record `i` on, `n` records, are met (R323, R462, R463). -/
def readRecords (cl : Fin 4) (i n : Nat) (s : State) : State :=
  let c := s.cap[cl]
  each (s.health.errs.filter (fun e => e.1.mem = 2 && e.1.cl = cl.val &&
      (List.range n).any (fun k => (captureWords cl (c.total - c.stored + i + k)).contains e.1)))
    (fun e t => readWord e.1 t) s

/-- Write up to 255 records of the capture into the present spill Pan, the rest of it zero, and hand it to the host. -/
def fillPan (cl : Fin 4) (s : State) : State :=
  let c := s.cap[cl]
  let rs := c.records
  let part := (rs.drop c.drained).take 255
  let s := readRecords cl c.drained part.length s
  let part := (List.range part.length).zip part |>.map (fun p => readOut s cl (c.drained + p.1) p.2)
  let all := spillAnchor (governing rs c.drained) :: part
  let bytes := (all.map (fun r => toBytes 16 r.toNat)).flatten
  let s := s.writeBytes (4096 * c.next) (slice bytes 0 4096)
  let s := s.givePan c.next
  let nxt := if c.next + 1 < c.cfg.first + c.cfg.count then c.next + 1 else c.cfg.first
  s.updCap cl (fun c => { c with
    drained := c.drained + part.length, handed := c.handed + 1, next := nxt })

/-- Spill writes to Pans from the trigger, or from FREEZING or the end of storing, on (R318). -/
def Capture.spilling (c : Capture) : Bool :=
  c.cfg.spill && match c.st with | .triggered => c.marked | .freezing => true | .draining => true | _ => false

/-- SPILL_PAN_FULL: slot 255 of the present spill Pan is written and the Pan is handed over (R318). -/
def spillPanFull (cl : Fin 4) (s : State) : State :=
  let c := s.cap[cl]
  if c.spilling ∧ 255 ≤ c.stored - c.drained ∧ (s.flag c.next).owner = .device ∧
      (s.flag c.next).use = BitVec.ofNat 8 (0x10 + cl.val) then fillPan cl s
  else s

/-- SPILL_PAN_FULL (R318, R371). -/
def execSpillPanFull (cl : Fin 4) (s : State) : Host.Outcome State Fault Refusal := .next (spillPanFull cl s)

/-- Full Pans, then the last one, until nothing is left or the next Pan is not the device's (R318). -/
def drainPans : Nat → Fin 4 → State → State
  | 0, _, s => s
  | n + 1, cl, s =>
    let c := s.cap[cl]
    if c.drained < c.stored ∧ (s.flag c.next).owner = .device then drainPans n cl (fillPan cl s) else s

/-- DRAIN_COMPLETE (R318): what remains is written and handed over, the ring's other Pans go back, DONE. While the next
Pan is not the device's, draining waits. -/
def drainComplete (cl : Fin 4) (s : State) : State :=
  if s.cap[cl].st = .draining then
    let s := drainPans (s.cap[cl].stored) cl s
    let c := s.cap[cl]
    if c.drained < c.stored then s
    else
      let s := each c.cfg.pans (fun p t =>
        if (t.flag p).use = BitVec.ofNat 8 (0x10 + cl.val) then t.givePan p else t) s
      captureDone cl s.now s
  else s

/-- DRAIN_COMPLETE (R318, R328). -/
def execDrainComplete (cl : Fin 4) (s : State) : Host.Outcome State Fault Refusal := .next (drainComplete cl s)

/-- Window n of the capture (R317): 256 records, zero beyond the last. -/
def windowBytes (s : State) (cl : Fin 4) (n : Nat) : List Byte :=
  let rs := (s.cap[cl].records.drop (256 * n)).take 256
  let rs := (List.range rs.length).zip rs |>.map (fun p => readOut s cl (256 * n + p.1) p.2)
  slice ((rs.map (fun r => toBytes 16 r.toNat)).flatten) 0 4096

end Sys2Proof.Machine
end

