-- ==== Sys2Proof/Machine/Stamps.lean ====
section
/-!
DEFINITION. Stamp inputs, measurement timeouts and statistics at work (spec 09, R236 to R255; spec 10, R273 to R279).
-/
namespace Sys2Proof.Machine

/-! ## STI_EDGE (R232 to R240) -/

/-- The bin-table words an edge's taps read (R261). -/
def edgeWords (i : Fin 32) (taps : List (Option (Fin 384))) : List MemWord :=
  (List.range 4).filterMap (fun l =>
    match taps[l]? with | some (some t) => some (binWord (clusterOf8 i) (i.val % 8) l t.val) | _ => none)

/-- The stamp of an edge in the present T_E (R237): the CLK_E edge that ends the T_E less the mean of the lines' times, by the bin
table in force at the edge: beside a boundary the one before it, where that places the edge before the boundary. An edge that no
line can place has a free position in the T_E. -/
def stampAt (i : Fin 32) (taps : List (Option (Fin 384))) (s : State) : Instant × State :=
  let s := each (edgeWords i taps) readWord s
  let e := s.now + 1
  let b := startOf s.now
  let old := if s.commits.priorEnd = s.now then placeStamp s i s.sti[i].calBefore taps e else none
  match placeStamp s i s.sti[i].cal taps e with
  | some x => (match old with | some y => if y < b then y else max x b | none => x, s)
  | none =>
    match old with
    | some y => (y, s)
    | none => let (k, s) := s.fresh; (((startOf e : Int) - roundDiv ((Config.freeStamp k % 51200 : Nat) : Int) 16).toNat, s)

/-- STI_EDGE: a crossing at STI input i in the present T_E, with the tap position of each line (R232 to R240). What is
applied at a boundary acts on it by its ZTIME (R236): one whose ZTIME begins the next T_E waits for that T_E. -/
def stiEdge (i : Fin 32) (rising : Bool) (taps : List (Option (Fin 384))) (s : State) : State :=
  if i.val < 8 * s.part.clusters ∧ s.time.running ∧ s.sti[i].cal.calState ≠ 5 then
    let s := s.settle
    let (x, s) := stampAt i taps s
    if s.now < teOf x then addDue [(s.now + 1, .edge i rising x taps)] s else takeEdge i rising x s
  else s

/-- STI_EDGE (R232, R236 to R241, R243 to R248, R250, R251, R255). -/
def execStiEdge (inp : Fin 32) (rising : Bool) (taps : List (Option (Fin 384))) (s : State) :
    Host.Outcome State Fault Refusal := .next (stiEdge inp rising taps s)

/-! ## MEASUREMENT_TIMEOUT (R245, R248) -/

/-- The closing of the next window of a group that closes with stops missing. -/
def Group.nextClose (q : Group) : Option Instant :=
  match q.closing with | m :: _ => some m.close | [] => q.openM.map (·.close)

/-- The timeout intervals of a measurement whose window closed with stops missing (R245), formed in T_E v (R248). -/
def Measurement.timeouts (m : Measurement) (g : Fin 32) (v : TE) : List (TE × LineDue) :=
  (m.expected.filter (fun h => !m.taken.contains h)).map (fun h => (v, .interval g m h ((m.close : Int) - m.start) true))

/-- The window of group g that ends in T_E v − 2 with stops missing is closed, its timeout intervals due in T_E v; `own` when the
command names the group, else a later command of that group finds it done (R248). -/
def closeAt (v : TE) (own : Bool) (g : Fin 32) (s : State) : State :=
  let s := judgeGroup (startOf (v - 1)) g s
  let s := match s.grp[g].openM with
    | some m => if teOf m.close + 2 = v then s.updGrp g (fun q => q.closeWindow m) else s
    | none => s
  match s.grp[g].closing with
  | m :: rest =>
    if teOf m.close + 2 = v then
      addDue (m.timeouts g v) (s.updGrp g (fun q => { q with closing := rest, formed := if own then q.formed else q.formed + 1 }))
    else s
  | [] => s

/-- MEASUREMENT_TIMEOUT: the timeout intervals of the group's next window that closed unfilled are formed, 2 T_E after the
T_E of its closing, among the intervals of that T_E of every group by hit index (R245, R248). -/
def measurementTimeout (g : Fin 32) (s : State) : State :=
  let u := s.settle
  if 0 < u.grp[g].formed then u.updGrp g (fun q => { q with formed := q.formed - 1 })
  else match u.grp[g].nextClose with
  | none => s
  | some w =>
    let v := teOf w + 2
    let r := s.reach (v - 1)
    if (judgeGroup (startOf (v - 1)) g r).grp[g].nextClose = some w then
      (each s.units8 (fun h t => closeAt v (h == g) h t) r).reach v
    else s

/-- MEASUREMENT_TIMEOUT (R171, R245, R248, R251, R255). -/
def execMeasurementTimeout (g : Fin 32) (s : State) : Host.Outcome State Fault Refusal := .next (measurementTimeout g s)

/-! ## Statistics (R273 to R279) -/

/-- A run opens in T_E t (R273, R275). -/
def StatRun.open_ (r : StatRun) (t : TE) : StatRun :=
  { r with opened := true, complete := false, since := t, earlyAt := t, earlyNow := 0, taken := 0, n := 0, tout := 0, early := 0, s1 := 0, s2 := 0,
           mn := 140737488355327, mx := -140737488355328 }

/-- The run takes an interval (R275). -/
def StatRun.take (r : StatRun) (x : Int) (timeout : Bool) : StatRun :=
  if timeout then { r with taken := r.taken + 1, tout := r.tout + 1 }
  else { r with
    taken := r.taken + 1, n := r.n + 1, s1 := r.s1 + x, s2 := r.s2 + x.natAbs * x.natAbs,
    mn := min r.mn x, mx := max r.mx x }

/-- The integer square root, at most 2^b − 1, bit by bit. -/
def isqrt (q : Nat) : Nat → Nat → Nat
  | 0, r => r
  | b + 1, r => isqrt q b (if (r + 2 ^ b) * (r + 2 ^ b) ≤ q then r + 2 ^ b else r)

/-- The mean of R275, Q48.16, halves away from zero. -/
def StatRun.mean (r : StatRun) : Int :=
  if r.n = 0 then 0 else r.s1.sign * ((2 * r.s1.natAbs * 65536 + r.n) / (2 * r.n) : Nat)

/-- The deviation of R275, Q32.16, truncated, at most 2^48 − 1. -/
def StatRun.dev (r : StatRun) : Nat :=
  if r.n < 2 then 0
  else isqrt (2 ^ 32 * (r.n * r.s2 - r.s1.natAbs * r.s1.natAbs) / (r.n * (r.n - 1))) 48 0

/-- The four records of a result (R61, R276). -/
def StatRun.records (r : StatRun) (g : Fin 32) (gen : BitVec 4) (x : Instant) (lull : Bool) : List W128 :=
  let fl := (if r.early != 0 then 16 else 0) + (if r.tout != 0 then 8 else 0) + (if gen ≠ r.prevGen then 2 else 0)
    + if lull then 1 else 0
  let rec_ (part ext payload time : Nat) := record 0x03 (fl + ext) (part * 256 + g.val) gen.toNat payload time
  let mx := signedCode 48 r.mx
  [rec_ 0 128 r.n (ztime x).toNat, rec_ 1 128 r.tout (signedCode 64 r.mean), rec_ 2 128 r.early r.dev,
   rec_ 3 0 (mx / 65536) (mx % 65536 * 2 ^ 48 + signedCode 48 r.mn)]

/-- Some T_E from a up to b was flagged (R108, R276). -/
def State.flaggedIn (s : State) (a b : TE) : Bool :=
  traceAt false s.time.flagged a || s.time.flagged.any (fun e => e.2 && decide (a < e.1) && decide (e.1 < b))

/-- The intervals of group g wait for its statistics no longer: the run is over or was ended (R250). -/
def dropStatUse (g : Fin 32) (s : State) : State :=
  { s with sti := s.sti.map (fun u => { u with
      fifo := trimFifo (u.fifo.map (fun e => match e with
        | .interval h hit v tmo st gen l r _ => if h = g then .interval h hit v tmo st gen l r false else e
        | _ => e)) }) }

/-- Statistics engine: the result's records are presented, unless an earlier result's are still held or the engine owns
no capture entry (R205, R276). True when they are lost. -/
def presentResult (cl : Fin 4) (rs : List W128) (x : Instant) (s : State) : Bool × State :=
  if !s.ownsCapture cl 0x18 then (false, s)
  else if !s.cap[cl].results.isEmpty || s.cap[cl].chain.any (fun r => recType r = 0x03) then
    (true, loseAtQueue cl 0x18 4 x ((rs.map recLull).headD false) s)
  else (false, s.updCap cl (fun c => { c with results := [⟨rs⟩] }))

/-- The early stops of a run that were decided in T_E t lie in the next one's span (R274). -/
def StatRun.earlyFrom (r : StatRun) (t : TE) : Nat := if r.earlyAt = t then r.earlyNow else 0

/-- A run of group g completes in T_E t (R273, R275, R276, R279): x is the ZTIME of its completing edge or timeout. -/
def completeRun (g : Fin 32) (t : TE) (x : Instant) (s : State) : State :=
  let cl := clusterOf8 g
  let r := s.stat[g]
  let gen := (if h : s.nat (grpIdx g) 2 < 32 then s.sti[s.nat (grpIdx g) 2].cal.gen else 0)
  let next := r.earlyFrom t
  let rs := { r with early := r.early - next }.records g gen x (s.flaggedIn r.since t)
  let (lost, s) := presentResult cl rs x s
  let s := s.updStat g (fun r =>
    let r := { r with
      results := r.results + 1, last := rs, prevGen := gen, opened := false,
      unrecorded := if lost then r.unrecorded + 1 else r.unrecorded }
    if s.nat (grpIdx g) 0x11 = 1 then { r.open_ t with early := next, earlyNow := next } else { r with complete := true })
  let j := g.val % 8
  let b := BitVec.ofNat 32 (2 ^ j + if lost then 2 ^ (8 + j) else 0)
  let s := s.raiseSumAt (startOf t) (421 + 8 * cl.val) 0 (b + 65536#32) (fun d => bumpHigh (d ||| b))
  if s.stat[g].complete then dropStatUse g s else s

/-- Group g's statistics take the interval at the head of input i's FIFO (R250, R274). -/
def takeInterval (g : Fin 32) (i : Fin 32) (t : TE) (s : State) : State :=
  match s.sti[i].fifo with
  | .interval h hit v tmo st gen l r _ :: rest =>
    let s := s.updSti i (fun u => { u with fifo := trimFifo (.interval h hit v tmo st gen l r false :: rest) })
    if s.stat[g].opened && bit (s.nat (grpIdx g) 0x13) hit then
      let s := s.updStat g (fun r => r.take v tmo)
      if s.nat (grpIdx g) 0x12 ≤ s.stat[g].taken then completeRun g t ((st : Int) + v).toNat s else s
    else s
  | _ => s

/-- The input at the head of whose FIFO an interval waits for group g's statistics. -/
def State.statInput (s : State) (g : Fin 32) : Option (Fin 32) :=
  (s.units8.filter (fun i => clusterOf8 i = clusterOf8 g)).find? (fun (i : Fin 32) =>
    match s.sti[i].fifo with | .interval h _ _ _ _ _ _ _ true :: _ => h = g | _ => false)

/-- STATISTICS_SLOT: the next entry of the cluster's statistics table not served yet takes one interval (R203). -/
def statisticsSlot (cl : Fin 4) (s : State) : State :=
  let cyc := nextCycle s.now s.store[cl].statAt
  let s := (s.reach (2 * cyc)).updStore cl (fun t => { t with statAt := some cyc })
  let code := field (s.od.bytes (clIdx cl 2) 2) (cyc % 64) 1
  if h : code < 8 then
    let g := unitOf8 cl ⟨code, h⟩
    match s.statInput g with
    | some i => takeInterval g i s.now s
    | none => s
  else s

/-- STATISTICS_SLOT (R203, R250, R273 to R276, R279). -/
def execStatisticsSlot (cl : Fin 4) (s : State) : Host.Outcome State Fault Refusal := .next (statisticsSlot cl s)

/-- STATISTICS_RESTART: a write of 1 to 0x4400+0x20·g:14 joins the commit set of the next usable boundary as an RWT write
does: it counts towards the set's limit, and as carried over when it comes after a cutoff (R278, R408, R413). -/
def statisticsRestart (r : Requester) (g : Fin 32) (s : State) : State :=
  s.request r (grpIdx g) 0x14 .wo []
    [need (s.staged.nat (grpIdx g) 0x10 != 0) 0x03030000, need (decide (s.commits.size s.nextTide < 512)) 0x04030000]
    (fun s =>
      let b := usableBoundary s.now
      { s with commits := { s.commits with
          restart := s.commits.restart ++ [(g.val, b)], carried := s.carriedNow } }.reply 0 (tideWord b))

/-- STATISTICS_RESTART (R278). -/
def execStatisticsRestart (r : Requester) (g : Fin 32) (s : State) : Host.Outcome State Fault Refusal :=
  .next (statisticsRestart r g s)

/-! ## Configuration changes at a boundary (R236, R248, R273, R277) -/

/-- The open measurement of group g is abandoned at instant x: what it has not formed yet is dropped, t_c stays (R248). One
whose window has closed by then is open no more: its timeout intervals are formed. -/
def abandonMeasurement (x : Instant) (g : Fin 32) (s : State) : State :=
  match s.grp[g].openM with
  | none => s
  | some m =>
    if m.close ≤ x then s.updGrp g (fun q => q.closeWindow m)
    else
      let s := { s with line := s.line.filter (fun p =>
        match p.2 with | .interval h n _ _ _ => !(h = g && n.start = m.start && n.seq = m.seq) | _ => true) }
      s.updGrp g (fun q => { q with openM := none, abandoned := q.abandoned + 1 })

/-- At boundary x the open measurement of group g is abandoned, the stamps before it judged: an edge that is stamped later with a
ZTIME before x belongs to no measurement (R248; log entry 122). -/
def abandonFrom (x : Instant) (g : Fin 32) (s : State) : State :=
  (abandonMeasurement x g (judgeGroup x g s)).updGrp g (fun q => { q with cut := x })

/-- The stops that wait in the pool of group g find no measurement any more (R247): early, decided in T_E d, and not before
the stamp itself has reached its FIFO (R250). -/
def emptyPool (g : Fin 32) (d : TE) (s : State) : State :=
  addDue ((s.grp[g].pool.filter (fun e => e.owed)).map
      (fun e => (max d (teOf e.at_ + 4), .decided g e.inp e.at_ e.seq false)))
    (s.updGrp g (fun q => { q with pool := [] }))

/-- A new pre-start window at boundary b (R244, R247): a start before b has the old one, a start from b on the new one. -/
def PoolStop.window (e : PoolStop) (wpre : Nat) (b : TE) : PoolStop :=
  { e with due := max (teOf e.at_ + wpre + 6) (min e.due (b + 5)) }

/-- An open run is abandoned (R277). -/
def abandonRun (g : Fin 32) (s : State) : State :=
  if s.stat[g].opened then s.updStat g (fun r => { r with opened := false, abandoned := r.abandoned + 1 }) else s

/-- An open run of group g sees a change at boundary b: ended when the statistics no longer run, abandoned and opened
anew on a restart or a new value of what governs it (R273, R277). -/
def runAtBoundary (g : Fin 32) (b : TE) (running restart changed : Bool) (s : State) : State :=
  let r := s.stat[g]
  if !running then
    dropStatUse g ((abandonRun g s).updStat g (fun r => { r with running := false, opened := false, complete := false }))
  else if !r.running then s.updStat g (fun r => { r.open_ b with running := true })
  else if restart then (abandonRun g s).updStat g (fun r => r.open_ b)
  else if changed && r.opened then (abandonRun g s).updStat g (fun r => r.open_ b)
  else s

end Sys2Proof.Machine
end

