-- ==== Sys2Proof/Machine/Calibration.lean ====
section
/-!
DEFINITION. TDC calibration (spec 10, R257 to R272): collections, bin tables, the background ring, raw mode; and the
sweeps that CALIBRATE and start-up order (spec 05, R138).
-/
namespace Sys2Proof.Machine

/-! ## The calibration of one unit -/

/-- The cluster of a slice (R257). -/
def clusterOfSlice (k : Fin 8) : Fin 4 := ⟨k.val / 2, by omega⟩

/-- The calibration of a unit. -/
def State.cal (s : State) (u : CalUnit) : LineCal :=
  match u with
  | .input i => s.sti[i].cal
  | .slice k => s.drz[clusterOfSlice k].slices[k.val % 2]

/-- The state with the calibration of a unit changed. -/
def State.updCal (s : State) (u : CalUnit) (f : LineCal → LineCal) : State :=
  match u with
  | .input i => s.updSti i (fun q => { q with cal := f q.cal })
  | .slice k => s.updDrz (clusterOfSlice k) (fun d => { d with slices := upd d.slices ⟨k.val % 2, by omega⟩ f })

/-- The cluster of a unit. -/
def unitCluster (u : CalUnit) : Fin 4 :=
  match u with | .input i => clusterOf8 i | .slice k => clusterOfSlice k

/-- Position of a unit among the ten of its cluster: inputs 0–7, slices 8 and 9 (R461). -/
def unitPlace (u : CalUnit) : Nat :=
  match u with | .input i => i.val % 8 | .slice k => 8 + k.val % 2

/-- The first of the two words that hold a unit's entry offsets, behind the bin tables (R461; log entry 128). -/
def offsetPlace (u : CalUnit) : Nat := 7680 + 2 * unitPlace u

/-- The units present (R1, R272). -/
def State.calUnits (s : State) : List CalUnit :=
  s.units8.map .input ++ ((List.finRange 8).filter (fun k => k.val < 2 * s.part.clusters)).map .slice

/-- The unit is present. -/
def State.hasUnit (s : State) (u : CalUnit) : Bool := decide ((unitCluster u).val < s.part.clusters)

/-- All lines of a unit go out of service for a raw collection (R262). -/
def enterRaw (origin target : Nat) (u : CalUnit) (s : State) : State :=
  s.updCal u (fun c => { c with
    calState := 5, calSince := s.now, calOrigin := origin, calTarget := target, busy := true })

/-- The Drizzle hits that a collection of a unit counted up to now without reaching its target: the spec gives no count, some
number below the target (R272; log entry 109). -/
def uncounted (u : CalUnit) (s : State) : State :=
  if (s.cal u).busy then
    let (k, s) := s.fresh
    s.updDrz (unitCluster u) (fun z => { z with
      hits := z.hits + BitVec.ofNat 64 (Config.drizzleHits k % 2 ^ (s.cal u).calTarget) })
  else s

/-- A collection of a unit is abandoned: its lines return with their old centres (R269, R404). -/
def abandonCollection (u : CalUnit) (s : State) : State :=
  (uncounted u s).updCal u (fun c => if c.busy then { c with calState := 0, busy := false } else c)

/-- A step of a unit is abandoned, its result, if it has one already, discarded; a raw collection goes on (R269). -/
def abandonStep (u : CalUnit) (s : State) : State :=
  if (s.cal u).calState = 5 then s
  else (uncounted u s).updCal u (fun c => { c with calState := 0, busy := false, newLines := [] })

/-! ## Collections (R258, R260, R265) -/

/-- The bin centres of a line from its counts (R258): H the hits, `o` the entry offset; `before` the hits of lower taps. -/
def binCentres (hits : Nat) (o : Int) : Nat → List Nat → List Nat
  | _, [] => []
  | before, h :: rest =>
    (if h = 0 then 0xFFFF
     else
      let c := roundDiv (51200 * (2 * before + h)) (2 * hits) + o
      (if c < 0 then c + 51200 else if 51199 < c then c - 51200 else c).toNat) :: binCentres hits o (before + h) rest

/-- Hits of a line on its taps. -/
def lineTotal (l : LineHits) : Nat := l.taps.foldl (· + ·) 0

/-- A time in fu/16 referred to the sampling edge that puts it within half a T_E of 0 (R260). -/
def sameEdge (d : Int) : Int := (d + 25600) % 51200 - 25600

/-- The entry offset of a line (R260): over the raw-mode hits, by their tap on line 0 and on the line, the mean time of line
0 less that of the line, each by R258 with no offset and referred to one sampling edge. -/
def entryOffset (first l : LineHits) : Int :=
  let a := binCentres (lineTotal first) 0 0 first.taps
  let b := binCentres (lineTotal l) 0 0 l.taps
  let n := (l.joint.map (fun h => h.2.2)).foldl (· + ·) 0
  roundDiv ((l.joint.map (fun h => (h.2.2 : Int) * sameEdge ((a.getD h.1 0 : Int) - b.getD h.2.1 0))).foldl (· + ·) 0) (max n 1)

/-- Why a line's collection fails, 0 for none (R265); `o` is its entry offset. -/
def lineFault (l : LineHits) (e : Nat) (raw : Bool) (o : Int) : Nat :=
  let used := (l.taps.filter (· ≠ 0)).length
  if lineTotal l < 2 ^ e then 1
  else if used < 260 ∨ 370 < used ∨ l.misses ≠ 0 then 2
  else if l.taps.any (fun h => 512 * lineTotal l < 51200 * h) then 3
  else if raw ∧ 400 < o.natAbs then 4
  else if l.memErr then 5
  else 0

/-- A failed collection (R265): nothing is installed, the lines return, the failure is counted and reported. -/
def failCollection (u : CalUnit) (reason line : Nat) (s : State) : State :=
  let s := if (s.cal u).calOrigin = 1 then { s with boot := { s.boot with status := s.boot.status ||| 4 } } else s
  let s := s.updCal u (fun c => { c with calState := 0, busy := false })
  match u with
  | .input i =>
    (s.updCal u (fun c => { c with failed := c.failed + 1, lastFail := BitVec.ofNat 32 (reason + line * 2 ^ 8) })).raise
      495 (5 + i.val * 2 ^ 4 + reason * 2 ^ 10)
  | .slice k =>
    (s.updDrz (clusterOfSlice k) (fun d => { d with
      failed := d.failed + 1
      lastFail := BitVec.ofNat 32 (reason + line * 2 ^ 8 + k.val % 2 * 2 ^ 10) })).raise
      495 (5 + k.val * 2 ^ 4 + 2 ^ 9 + reason * 2 ^ 10)

/-- The Drizzle's hits and rate in Hz after a collection (R272): a T_E is 8 periods of the root. -/
def countDrizzle (u : CalUnit) (hits : Nat) (s : State) : State :=
  let d := s.now - (s.cal u).calSince
  s.updDrz (unitCluster u) (fun z => { z with
    hits := z.hits + BitVec.ofNat 64 hits,
    rate := if d = 0 then z.rate else BitVec.ofNat 32 (min (hits * s.csu.root / (8 * d)) 0xFFFFFFFF) })

/-- The lines a collection of a unit calibrates: all four in raw mode, one in a step. -/
def LineCal.collected (c : LineCal) : List Nat := if c.calState = 5 then [0, 1, 2, 3] else [c.calState - 1]

/-- The distance of two centres on the circle of one T_E, in fu/16. -/
def centreDistance (a b : Nat) : Nat := let d := (a + 51200 - b) % 51200; min d (51200 - d)

/-- The largest change of a used centre of line l against the line's previous collection (R471); none where it had none. -/
def centreChange (c : LineCal) (l : Nat) (new : List Nat) : Option Int :=
  match c.latest.toList.getD l [] with
  | [] => none
  | old => some ((List.range new.length).foldl (fun m t =>
      let a := old.getD t 0xFFFF
      let b := new.getD t 0xFFFF
      if a = 0xFFFF ∨ b = 0xFFFF then m else max m (centreDistance a b : Int)) 0)

/-- The collection of a line leaves its centres behind (R471). -/
def LineCal.collects (c : LineCal) (l : Nat) (new : List Nat) : LineCal :=
  { c with latest := Vector.ofFn (fun k : Fin 4 => if k.val = l then new else c.latest[k]) }

/-- COLLECTION_COMPLETE: a collection ends with the counts of its lines (R258, R260, R264, R265). -/
def collectionComplete (u : CalUnit) (lines : List LineHits) (s : State) : State :=
  let c := s.cal u
  let ls := c.collected
  let raw := c.calState = 5
  if !c.busy || lines.length ≠ ls.length || !s.hasUnit u then s
  else
    let s := countDrizzle u ((lines.map lineTotal).foldl max 0) s
    let pairs := ls.zip lines
    let offset (p : Nat × LineHits) : Int :=
      if p.1 = 0 then 0
      else if raw then match lines with | f :: _ => entryOffset f p.2 | [] => 0
      else c.offsets.toList.getD p.1 0
    let fault (p : Nat × LineHits) : Nat := lineFault p.2 c.calTarget raw (offset p)
    match pairs.find? (fun p => fault p ≠ 0) with
    | some p => failCollection u (fault p) p.1 s
    | none =>
      let new := pairs.map (fun p => (p.1, binCentres (lineTotal p.2) (offset p) 0 p.2.taps, if raw then some (offset p) else none))
      let s := each new (fun p t => match centreChange c p.1 p.2.1 with | some v => noteMeasure 1 v t | none => t) s
      s.updCal u (fun c =>
        let c' := new.foldl (fun c p => LineCal.collects c p.1 p.2.1) c
        { c' with busy := false, done := c.done + 1, newLines := new, newOrigin := c.calOrigin })

/-- COLLECTION_COMPLETE (R258 to R260, R263 to R265, R267, R471). -/
def execCollectionComplete (u : CalUnit) (lines : List LineHits) (s : State) : Host.Outcome State Fault Refusal :=
  .next (collectionComplete u lines s)

/-- COLLECTION_TIMEOUT: the time limit of the collection passes first, 40 ms at 2^20 hits (R258, R265 reason 0x01). -/
def collectionTimeout (u : CalUnit) (s : State) : State :=
  let c := s.cal u
  if c.busy && s.hasUnit u then
    failCollection u 1 (c.collected.headD 0) (uncounted u (s.reach (c.calSince + 50000000 * 2 ^ c.calTarget / 2 ^ 20)))
  else s

/-- COLLECTION_TIMEOUT (R258, R265). -/
def execCollectionTimeout (u : CalUnit) (s : State) : Host.Outcome State Fault Refusal := .next (collectionTimeout u s)

/-- COMMANDED_CALIBRATION: a write of 1 to 0x4000+0x20·in:12 (R263). -/
def commandedCalibration (r : Requester) (i : Fin 32) (s : State) : State :=
  s.request r (inIdx i) 0x12 .wo []
    [need (!s.onOrStaged (inIdx i) 1) 0x04020000, need (s.sti[i].cal.calState != 5) 0x04030000]
    (fun s => (enterRaw 6 (s.nat (inIdx i) 0x13) (.input i) (abandonStep (.input i) s)).ok)

/-- COMMANDED_CALIBRATION (R263, R269). -/
def execCommandedCalibration (r : Requester) (inp : Fin 32) (s : State) : Host.Outcome State Fault Refusal :=
  .next (commandedCalibration r inp s)

/-! ## Installation (R264, R269, R270) -/

/-- The bytes of the identity table (R261). -/
def identityTable : List Byte :=
  ((List.range 4).map (fun l => ((List.range 384).map (fun t => toBytes 2 (identityCentre l t))).flatten)).flatten

/-- The table in force as bytes (R261). -/
def LineCal.bytes (c : LineCal) : List Byte := c.table.getD identityTable

/-- One line of a unit takes its new centres. -/
def LineCal.installLine (c : LineCal) (p : Nat × List Nat × Option Int) : LineCal :=
  let b := c.bytes
  let line := (p.2.1.map (toBytes 2)).flatten
  { c with
    table := some (b.take (768 * p.1) ++ slice line 0 768 ++ b.drop (768 * p.1 + 768)),
    origins := if h : p.1 < 4 then c.origins.set p.1 c.newOrigin h else c.origins,
    offsets := match p.2.2 with | some o => if h : p.1 < 4 then c.offsets.set p.1 o h else c.offsets | none => c.offsets }

/-- The installation counters of a unit (R264). -/
def LineCal.installedNow (c : LineCal) (tide : W64) : LineCal := { c with gen := c.gen + 1, installed := tide }

/-- A unit's completed lines are installed at the boundary that begins Tide `tide` (R264, R267). -/
def installUnit (tide : W64) (u : CalUnit) (s : State) : State :=
  let c := s.cal u
  if c.newLines.isEmpty then s
  else
    let s := each c.newLines (fun p t => rangeWritten 4 (unitCluster u) (768 * (unitPlace u) + 192 * p.1) 192 t) s
    let s := rangeWritten 4 (unitCluster u) (offsetPlace u) 2 s
    s.updCal u (fun c =>
      let c' := (c.newLines.foldl LineCal.installLine c).installedNow tide
      { c' with newLines := [], calState := if c.busy then c.calState else 0 })

/-- A host table is installed for an input (R269, R270); a raw result due at the same boundary is installed in its place, and
the line of a step that is due is discarded. -/
def installHostTable (tide : W64) (i : Fin 32) (b : List Byte) (s : State) : State :=
  if 1 < s.sti[i].cal.newLines.length then s
  else
    let s := rangeWritten 4 (clusterOf8 i) (768 * (i.val % 8)) 768 s
    s.updCal (.input i) (fun c =>
      { c.installedNow tide with
        table := some (slice b 0 3072), origins := Vector.replicate 4 4, newLines := []
        calState := if c.busy then c.calState else 0 })

/-- A host write of the bin table abandons a step that runs (R269). -/
def hostTableWritten (i : Fin 32) (s : State) : State := abandonStep (.input i) s

/-! ## The background ring (R266, R267) -/

/-- The unit and line of step k of a cluster's ring (R266). -/
def ringStep (cl : Fin 4) (k : Nat) : CalUnit × Nat :=
  let u := k % 40 / 4
  (if h : u < 8 then .input (unitOf8 cl ⟨u, h⟩) else .slice ⟨2 * cl.val + (u - 8) % 2, by omega⟩, k % 4)

/-- A step is skipped: the input's :10 is 0, or the unit is in raw mode (R266). -/
def State.skipStep (s : State) (u : CalUnit) : Bool :=
  (s.cal u).calState = 5 || match u with | .input i => !s.on (inIdx i) 0x10 | .slice _ => false

/-- The line interval I (R266): the setting of margin item 1. -/
def State.lineInterval (s : State) : Nat := s.nat 0x7821 3

/-- The ring of a cluster at the boundary that begins Tide n: a step that is due starts (R266, R267). -/
def ringAtBoundary (n : Nat) (cl : Fin 4) (s : State) : State :=
  let z := s.drz[cl]
  if n < z.stepFrom + s.lineInterval then s
  else
    match (List.range 40).find? (fun k => !s.skipStep (ringStep cl (z.step + k)).1) with
    | none => s.updDrz cl (fun d => { d with stepFrom := n })
    | some k =>
      let (u, l) := ringStep cl (z.step + k)
      let s := s.updDrz cl (fun d => { d with step := (z.step + k + 1) % 40, stepFrom := n })
      s.updCal u (fun c => { c with
        calState := l + 1, calSince := s.now, calOrigin := 2, calTarget := 22, busy := true, newLines := [] })

/-- A step of an input whose :10 has become 0 is abandoned (R269). -/
def stepDisabled (i : Fin 32) (s : State) : State := abandonStep (.input i) s

/-! ## CALIBRATE and start-up (R138, R263) -/

/-- Every input and slice enters raw mode at a boundary (R263): origin 3 for CALIBRATE, 1 for start-up. A collection that runs is
abandoned (R269); a result that is due at the boundary is installed at it (R264). -/
def startRaw (origin target : Nat) (s : State) : State :=
  each s.calUnits (fun u t => enterRaw origin target u (abandonCollection u t)) s

/-- A collection of the run goes on. -/
def State.rawRuns (s : State) : Bool := s.calUnits.any (fun u => (s.cal u).busy && (s.cal u).calState = 5)

/-- Some sweep goes on. -/
def State.sweepRuns (s : State) : Bool := s.channels.any (fun ch => s.edge[ch].sweeping.isSome)

/-- The placement an entry implies, in fu (R134): phases of 400 fu, interpolator codes of one. -/
def entryPlace (e : Nat) : Int :=
  (match bits e 12 2 with | 1 => 3200 | 3 => -3200 | _ => 0) + 400 * (bits e 9 3 : Int) + bits e 0 9

/-- The largest change of placement between the live table and its successor, in fu/16 (R471). -/
def correctionChange (g : EdgeEngine) (b : List Byte) : Int :=
  (List.range 3200).foldl (fun m f => max m (16 * ((entryPlace (field b (4 * f) 4) - entryPlace (g.entry f)).natAbs : Int))) 0

/-- A committed table is put on the live path of a channel at the boundary that begins Tide `tide` (R136). -/
def installCorrection (ch : Fin 64) (tide : W64) (b : List Byte) (s : State) : State :=
  (tableWords ch true s).updEdge ch (fun g => { g.installedNow tide 4 with table := some (slice b 0 12800) })

/-- Tables whose sweeps are complete become live at boundary `b`, which begins Tide `tide`, by a swap of the paths at the
first T_E that lies far enough from every edge (R137). -/
def swapPaths (b : TE) (tide : W64) (s : State) : State :=
  each s.channels (fun ch t =>
    match t.edge[ch].newTable with
    | some (v, o) =>
      if t.line.any (fun p => p.2 = .swap ch) then t
      else
        let t := noteMeasure (2 + (clusterOf ch).val) (correctionChange t.edge[ch] v) t
        swapPath ch b ((tableWords ch false t).updEdge ch (fun g => g.installedNow tide o))
    | none => t) s

/-- The two channels of pair k of every cluster begin their sweeps (R138). -/
def startPair (origin k : Nat) (s : State) : State :=
  each (s.channels.filter (fun ch => ch.val % 16 / 2 = k)) (fun ch t => t.updEdge ch (fun g => { g with sweeping := some origin })) s

/-- One boundary of the sweeps of CALIBRATE or start-up (R138): the next pair begins; true when the last swap is done. -/
def sweepAtBoundary (origin : Nat) (s : State) : Bool × State :=
  if s.rawRuns || s.sweepRuns then (false, s)
  else
    let k := s.dev.sweepPair.getD 0
    if k < 8 then (false, { startPair origin k s with dev := { s.dev with sweepPair := some (k + 1) } })
    else (true, { s with dev := { s.dev with sweepPair := none } })

/-- Channels that a background sweep visits (R138). -/
def State.sweepable (s : State) (ch : Fin 64) : Bool := s.chOn ch && s.on (chIdx ch) 0x12

/-- The background sweep of a cluster at the boundary that begins Tide n (R138): `interval` is margin item 0. -/
def backgroundSweep (n interval : Nat) (cl : Fin 4) (s : State) : State :=
  let z := s.drz[cl]
  if n < z.sweepFrom + interval then s
  else
    let s := s.updDrz cl (fun d => { d with sweepFrom := n })
    match (List.range 16).find? (fun k => s.sweepable (channelOf cl ⟨(z.sweepCh + k) % 16, by omega⟩)) with
    | none => s
    | some k =>
      let j : Fin 16 := ⟨(z.sweepCh + k) % 16, by omega⟩
      let s := s.updDrz cl (fun d => { d with sweepCh := (j.val + 1) % 16 })
      s.updEdge (channelOf cl j) (fun g => if g.sweeping.isSome then g else { g with sweeping := some 2 })

/-- CALIBRATE is abandoned (R404): tables whose sweep or collection has not completed are not installed. -/
def abandonCalibrate (s : State) : State :=
  if s.dev.calibrating then
    let s := each s.calUnits (fun u t => if (t.cal u).calState = 5 && (t.cal u).calOrigin = 3 then abandonCollection u t else t) s
    let s := each s.channels (fun ch t => t.updEdge ch (fun g => if g.sweeping = some 3 then { g with sweeping := none } else g)) s
    { s with dev := { s.dev with calibrating := false, sweepPair := none } }
  else s

end Sys2Proof.Machine
end

