-- ==== Sys2Proof/WellFormed.lean ====
section
/-!
DEFINITION. Well-formed commands: operands of the sizes that the rows' rules give them.
-/
namespace Sys2Proof

/-- A message holds no more bytes than a KPP message can (R417). -/
def KppMsg.sized (m : KppMsg) : Bool := decide (m.payload.length ≤ 65535)

/-- A time operand (R159): below 2^40 T_E. -/
def durationOk (t : Nat) : Bool := decide (t < 2 ^ 40 * 3200)

/-- The limits of a BURST (R162, R164). -/
def burstOk (t n w p : Nat) : Bool :=
  decide (1 ≤ n) && decide (n < 2 ^ 32) && decide (1000 ≤ w) && decide (w < 2 ^ 32) && decide (2000 ≤ p) && durationOk p
    && (n = 1 || decide (w + 1000 ≤ p)) && durationOk (t + (n - 1) * p + w)

/-- A mask form tests at least one bit (R162, R164). -/
def Cond.maskOk (c : Cond) : Bool :=
  match c.test with | .bit _ => true | .mask m _ => m != 0

/-- Operands of the sizes that the spec gives them. -/
def Instr.wellFormed : Instr → Bool
  | .vinValid => true
  | .brownout => true
  | .resetN _ => true
  | .thermalShutdown _ _ => true
  | .overcurrentShutdown _ => true
  | .shutdownRestart => true
  | .bootComplete _ => true
  | .imageLoad => true
  | .startUpAlign => true
  | .startUpLockWaitExpiry => true
  | .fabricStartUpAlign => true
  | .idleEntry _ => true
  | .go _ => true
  | .hold _ => true
  | .resume _ => true
  | .stop _ => true
  | .safe _ => true
  | .leaveSafe _ => true
  | .save _ => true
  | .saveComplete _ => true
  | .restoreDefaults _ => true
  | .calibrate _ => true
  | .align _ => true
  | .reset _ => true
  | .scheduledCommand _ _ _ => true
  | .tideBoundary m => decide (m.temps.length = 8) && decide (m.rails.length = 12) && decide (m.live.length = 4)
  | .hourlyUpdate m => decide (m.ring.length = 4) && decide (m.eye.length = 8)
  | .marginAppend => true
  | .appendNow _ => true
  | .scrubRead _ _ addr _ => decide (addr < 2097152)
  | .epochWrap => true
  | .levelTick => true
  | .rangingEnd _ => true
  | .sampleTick _ _ => true
  | .stiEdge _ _ taps => decide (taps.length = 4)
  | .measurementTimeout _ => true
  | .monitorCrossing _ _ => true
  | .tripinAssert => true
  | .settlingEnd _ _ => true
  | .blankingEnd _ _ => true
  | .exttrigEdge _ _ _ => true
  | .conditionFire _ => true
  | .delayTrigger _ => true
  | .edgePlacement _ => true
  | .sweepComplete _ table => match table with | some t => decide (t.length = 12800) | none => true
  | .collectionComplete _ lines => lines.all (fun l => decide (l.taps.length = 384))
  | .collectionTimeout _ => true
  | .nop _ => true
  | .edge _ _ _ _ t => durationOk t
  | .pulse _ _ _ _ t w => durationOk t && durationOk w && decide (1000 ≤ w) && durationOk (t + w)
  | .burst _ _ _ _ t n w p => durationOk t && burstOk t n w p
  | .wait _ _ t => durationOk t
  | .waitcond _ c timeout target => durationOk timeout && c.maskOk && (if timeout = 0 then target == ⟨0, 0⟩ else target.pan != 0)
  | .waitcondMet _ => true
  | .waitcondTimeout _ => true
  | .branch _ c target => c.maskOk && target.pan != 0
  | .loop _ _ target => target.pan != 0
  | .jump _ target => target.pan != 0
  | .setregLoad _ _ _ => true
  | .setregAdd _ _ _ => true
  | .setregCopy _ _ _ => true
  | .setregOrigin _ => true
  | .setregClear _ _ => true
  | .stamp _ _ => true
  | .level _ _ _ => true
  | .gustLocal _ _ => true
  | .gustFabric _ _ => true
  | .signal _ _ _ _ => true
  | .syncTide _ m => decide (1 ≤ m) && decide (m < 2 ^ 20)
  | .syncFront _ mask => mask != 0
  | .syncGust _ mask => mask != 0
  | .syncTrigger _ => true
  | .syncComplete _ => true
  | .panhint _ pan => pan != 0
  | .period _ => true
  | .halt _ => true
  | .hintFetchComplete _ => true
  | .pinLoadComplete _ => true
  | .panMiss _ => true
  | .missPark _ => true
  | .repairComplete _ => true
  | .captureSlot _ => true
  | .statisticsSlot _ => true
  | .egressSlot _ => true
  | .arm _ _ => true
  | .captureArming _ => true
  | .forceTrigger _ _ => true
  | .stopCapture _ _ => true
  | .triggerTaken _ => true
  | .freezingStart _ => true
  | .spillPanFull _ => true
  | .drainComplete _ => true
  | .referenceLost => true
  | .referencePresent => true
  | .referenceQualified _ => true
  | .lockDeclared earlier last => (earlier ++ [last]).all (fun r => r.1 % 80 == 0)   -- resolved to 20 ps (R87)
  | .unlockDeclared seen => seen.all (fun r => r.1 % 80 == 0)
  | .acquireTimeout => true
  | .applyConfiguration _ => true
  | .markedEdge _ => true
  | .alignTrimComplete _ _ => true
  | .alignInTimeout => true
  | .returnAccept _ _ seen => seen.all (fun r => r.1 % 80 == 0)
  | .bypassEntry _ => true
  | .bypclkNotQualified => true
  | .bypassLock _ seen => seen.all (fun r => r.1 % 80 == 0)
  | .bypclkLost => true
  | .actionLeave _ => true
  | .actionSlew _ => true
  | .actionStep _ => true
  | .slewStart => true
  | .slewComplete => true
  | .stepExecute => true
  | .clkoutOvercurrent _ => true
  | .clkoutFaultClear _ => true
  | .channelOvercurrent _ => true
  | .railExcursion _ _ _ => true
  | .faultPark _ _ => true
  | .release _ _ => true
  | .flush _ _ => true
  | .levelEntry _ _ _ _ => true
  | .taggedLevelEntry _ _ _ _ _ => true
  | .hostFire _ _ => true
  | .tripClear _ _ => true
  | .load _ _ => true
  | .commandedCalibration _ _ => true
  | .statisticsRestart _ _ => true
  | .swap _ _ => true
  | .tie0V _ _ => true
  | .tie1V25 _ _ => true
  | .selfCheckEnd _ _ => true
  | .readback _ _ => true
  | .readbackComplete _ _ _ => true
  | .issueFront _ _ => true
  | .frontAccept => true
  | .gustExecute _ => true
  | .eventCodeDeliver => true
  | .bulkSend _ _ _ _ _ => true
  | .windowOpen _ _ => true
  | .flagWrite _ _ _ => true
  | .panData _ data => decide (data.length ≤ 65536)
  | .thaw _ => true
  | .salternTransfer _ _ _ _ _ _ => true
  | .clearShutdownRecord _ => true
  | .armInjection _ => true
  | .odWrite _ _ _ value _ => decide (value.length ≤ 65536)
  | .ztimeRead _ => true
  | .hostBlockWrite block bytes => decide (block < 2 ^ 58) && decide (bytes.length = 64)
  | .evrCons _ => true
  | .evrProd => true
  | .alertStatus _ => true
  | .mbxDoorbell _ _ => true
  | .mbxAck => true
  | .batchClose => true
  | .batchPublish => true
  | .perstN => true
  | .pcieLinkChange up width speed => !up || ([1, 2, 4].contains width.toNat && decide (1 ≤ speed.toNat) && decide (speed.toNat ≤ 4))
  | .ethernetLinkChange _ => true
  | .dhcpLeaseChange _ => true
  | .icmpEcho _ _ _ => true
  | .read _ m _ => m.sized
  | .write _ m _ => m.sized
  | .readSeg _ m _ => m.sized
  | .writeSeg _ m _ => m.sized
  | .subscribe _ m _ => m.sized
  | .commit _ m _ => m.sized
  | .abort _ m _ => m.sized
  | .subscriptionLapse _ => true
  | .heldSetDiscard _ => true
  | .segmentTimeout _ _ => true
  | .spiRequest bytes => decide (bytes.length ≤ 65535)
  | .spiStatus => true
  | .spiResponse _ => true
  | .spiEvent _ => true
  | .linkDown _ _ => true
  | .commaAligned _ => true
  | .hello _ _ => true
  | .timeItem _ _ => true
  | .eventCode _ _ => true
  | .front _ _ => true
  | .gust _ _ => true
  | .joinRequest _ item => decide (item.path.length ≤ 15)
  | .joinReply _ item => decide (item.path.length ≤ 15)
  | .joinRefused _ item => decide (item.path.length ≤ 15)
  | .leave _ _ _ _ => true
  | .detach _ _ => true
  | .bulkResult _ _ _ _ _ _ => true
  | .kppTunnel _ _ => true
  | .bulk _ _ => true
  | .joinRequestTimer => true
  | .leaseExpiry _ => true
  | .downCausesCleared _ => true
  | .tripinInactive => true
  | .driverOvercurrentEnd _ => true
  | .branchDecision _ => true
  | .actionAtCursor _ => true
  | .sluiceCheckComplete _ => true
  | .bypclkQualified _ => true
  | .arpRequest _ _ => true
  | .forwardedRequestExpiry _ _ => true
  | .bar2Read addr length => decide (addr < 2 ^ 64) && decide (length ≤ 4096)
  | .alertEnable _ offset => decide (offset % 4 = 0) && decide (offset < 65536) &&
      !([0x10, 0x100, 0x108, 0x204].contains offset) && !(decide (0x1000 ≤ offset) && decide (offset < 0x1800))
  | .configurationRequest _ _ => true
  | .testAccessPort _ _ => true

/-- The channel whose sequencer issues a program instruction (R152); none for every other command. -/
def Instr.channel : Instr → Option (Fin 64)
  | .nop ch => some ch
  | .edge ch _ _ _ _ => some ch
  | .pulse ch _ _ _ _ _ => some ch
  | .burst ch _ _ _ _ _ _ _ => some ch
  | .wait ch _ _ => some ch
  | .waitcond ch _ _ _ => some ch
  | .branch ch _ _ => some ch
  | .loop ch _ _ => some ch
  | .jump ch _ => some ch
  | .setregLoad ch _ _ => some ch
  | .setregAdd ch _ _ => some ch
  | .setregCopy ch _ _ => some ch
  | .setregOrigin ch => some ch
  | .setregClear ch _ => some ch
  | .stamp ch _ => some ch
  | .level ch _ _ => some ch
  | .gustLocal ch _ => some ch
  | .gustFabric ch _ => some ch
  | .signal ch _ _ _ => some ch
  | .syncTide ch _ => some ch
  | .syncFront ch _ => some ch
  | .syncGust ch _ => some ch
  | .syncTrigger ch => some ch
  | .panhint ch _ => some ch
  | .period ch => some ch
  | .halt ch => some ch
  | _ => none

end Sys2Proof
end

