-- ==== Sys2Proof/Machine/Encoding.lean ====
section
/-!
DEFINITION. The instruction words of edge programs (spec 06, R158 to R163): their encoder and decoder.
-/
namespace Sys2Proof.Machine

/-! ## Fields -/

/-- The code of a time operand of `t` fu (R159). -/
def timeCode (t : Nat) : Nat := t / fuPerTE * 4096 + t % fuPerTE
/-- The value in fu of a time-operand code (R159). -/
def timeFu (c : Nat) : Nat := c / 4096 * fuPerTE + c % 4096

/-- The 20-bit code of a target (R160). -/
def targetCode (t : Target) : Nat := t.pan.toNat * 512 + t.word.toNat
/-- The target of a 20-bit code (R160). -/
def targetOf (c : Nat) : Target := ⟨BitVec.ofNat 11 (c / 512), BitVec.ofNat 9 c⟩

/-- The code of an output state (R161). -/
def stateCode : OutState → Nat
  | .low => 0 | .high => 1 | .park => 2 | .hiz => 3
/-- The output state of a code (R161). -/
def stateOf (c : Nat) : OutState :=
  match c % 4 with | 0 => .low | 1 => .high | 2 => .park | _ => .hiz

/-- The code of a base (R161). -/
def baseCode : TimeBase → Nat
  | .cursor => 0 | .origin => 1
/-- The base of a bit (R161). -/
def baseOf (b : Bool) : TimeBase := if b then .origin else .cursor

/-- 0 or 1. -/
def boolCode (b : Bool) : Nat := if b then 1 else 0

/-- A number below 2^w as a `Fin`. -/
def finOf (n k : Nat) [NeZero n] : Fin n := Fin.ofNat n k

/-- A main word (R158). -/
def mainWord (op md od : Nat) : Nat := op * 2 ^ 58 + md * 2 ^ 52 + od

/-- The condition fields above a target (R161, R162): sense, consume, mask form, all, from bit `top` downward. -/
def condFields (c : Cond) (top : Nat) : Nat :=
  boolCode c.sense * 2 ^ top + boolCode c.consume * 2 ^ (top - 1)
    + (match c.test with | .bit _ => 0 | .mask _ all => 2 ^ (top - 2) + boolCode all * 2 ^ (top - 3))

/-- The modifier of a condition: the bit index in single form, 0 in mask form (R161). -/
def condModifier (c : Cond) : Nat :=
  match c.test with | .bit b => b.val | .mask _ _ => 0

/-- The mask word of a condition, if any (R162). -/
def condMaskWord (c : Cond) : List Nat :=
  match c.test with | .bit _ => [] | .mask m _ => [m.toNat]

/-! ## The encoder -/

/-- The words of a program instruction (R161 to R163); none of another command. -/
def encode : Instr → List Nat
  | .nop _ => [mainWord 0x00 0 0]
  | .edge _ st base adv t => [mainWord 0x01 (stateCode st * 16 + baseCode base * 8 + boolCode adv * 4) (timeCode t)]
  | .pulse _ low base adv t w =>
    [mainWord 0x02 (boolCode low * 32 + baseCode base * 8 + boolCode adv * 4) (timeCode t), timeCode w]
  | .burst _ low base adv t n w p =>
    [mainWord 0x03 (boolCode low * 32 + baseCode base * 8 + boolCode adv * 4) (timeCode t), n * 2 ^ 32 + w, timeCode p]
  | .wait _ base t => [mainWord 0x04 (baseCode base * 8) (timeCode t)]
  | .waitcond _ c timeout target =>
    [mainWord 0x05 (condModifier c) (timeCode timeout), condFields c 63 + targetCode target] ++ condMaskWord c
  | .branch _ c target => [mainWord 0x06 (condModifier c) (condFields c 51 + targetCode target)] ++ condMaskWord c
  | .loop _ r target => [mainWord 0x07 (r.val * 8) (targetCode target)]
  | .jump _ target => [mainWord 0x08 0 (targetCode target)]
  | .setregLoad _ r v => [mainWord 0x0A (r.val * 8) v.toNat]
  | .setregAdd _ r v => [mainWord 0x0A (r.val * 8 + 1) v.toNat]
  | .setregCopy _ r src => [mainWord 0x0A (r.val * 8 + 2) src.val]
  | .setregOrigin _ => [mainWord 0x0A 3 0]
  | .setregClear _ l => [mainWord 0x0A 4 l.toNat]
  | .stamp _ (.operand tag) => [mainWord 0x0B 0 tag.toNat]
  | .stamp _ (.reg r) => [mainWord 0x0B (32 + r.val * 4) 0]
  | .level _ tagged e => [mainWord 0x0C (boolCode tagged * 32) e.toNat]
  | .gustLocal _ g => [mainWord 0x0D 0 g.val]
  | .gustFabric _ g => [mainWord 0x0D 32 g.val]
  | .signal _ cl sig v => [mainWord 0x0E (cl.val * 16 + sig.val * 2 + boolCode v) 0]
  | .syncTide _ m => [mainWord 0x0F 0 m]
  | .syncFront _ m => [mainWord 0x0F 8 m.toNat]
  | .syncGust _ m => [mainWord 0x0F 16 m.toNat]
  | .syncTrigger _ => [mainWord 0x0F 24 0]
  | .panhint _ p => [mainWord 0x10 0 (p.toNat * 512)]
  | .period _ => [mainWord 0x11 0 0]
  | .halt _ => [mainWord 0x3F 0 0]
  | _ => []

/-! ## The decoder -/

/-- The opcode of a main word (R158). -/
def opcodeOf (w : Nat) : Nat := bits w 58 6
/-- The modifier of a main word (R158). -/
def modifierOf (w : Nat) : Nat := bits w 52 6
/-- The operand of a main word (R158). -/
def operandOf (w : Nat) : Nat := w % 2 ^ 52

/-- The number of words of an instruction, from its main word and its first extension word (R161). -/
def wordCount (w0 w1 : Nat) : Nat :=
  match opcodeOf w0 with
  | 0x02 => 2
  | 0x03 => 3
  | 0x05 => if bit w1 61 then 3 else 2
  | 0x06 => if bit w0 49 then 2 else 1
  | _ => 1

/-- An answer under a condition. -/
def when (c : Bool) (i : Instr) : Option Instr := if c then some i else none

/-- A condition from its fields (R161, R162, R174): `top` is the place of the sense bit, `md` the modifier. -/
def condOf (f top md mask : Nat) : Cond where
  test := if bit f (top - 2) then .mask (BitVec.ofNat 64 mask) (bit f (top - 3)) else .bit (finOf 64 md)
  sense := bit f top
  consume := bit f (top - 1)

/-- A mask form carries modifier 0 and a mask other than 0 (R164). -/
def condOk (f top md mask : Nat) : Bool := !bit f (top - 2) || (md = 0 && mask % 2 ^ 64 != 0)

/-- PULSE and BURST (R161, R162, R164). -/
def decodePulse (ch : Fin 64) (md od w1 : Nat) : Option Instr :=
  let w := timeFu w1
  when (md % 4 = 0 && !bit md 4 && fineOk od && fineOk w1 && w1 < 2 ^ 52 && 1000 ≤ w && durationOk (timeFu od + w))
    (.pulse ch (bit md 5) (baseOf (bit md 3)) (bit md 2) (timeFu od) w)

/-- BURST (R161, R162, R164). -/
def decodeBurst (ch : Fin 64) (md od w1 w2 : Nat) : Option Instr :=
  when (md % 4 = 0 && !bit md 4 && fineOk od && fineOk w2 && w2 < 2 ^ 52
      && burstOk (timeFu od) (w1 / 2 ^ 32) (w1 % 2 ^ 32) (timeFu w2))
    (.burst ch (bit md 5) (baseOf (bit md 3)) (bit md 2) (timeFu od) (w1 / 2 ^ 32) (w1 % 2 ^ 32) (timeFu w2))

/-- WAITCOND (R161, R162, R164). -/
def decodeWaitcond (ch : Fin 64) (md od w1 w2 : Nat) : Option Instr :=
  let t := targetOf (w1 % 2 ^ 20)
  when (fineOk od && bits w1 20 40 = 0 && condOk w1 63 md w2 && (if timeFu od = 0 then w1 % 2 ^ 20 = 0 else t.pan != 0))
    (.waitcond ch (condOf w1 63 md w2) (timeFu od) t)

/-- BRANCH (R161, R162, R164). -/
def decodeBranch (ch : Fin 64) (md od w1 : Nat) : Option Instr :=
  let t := targetOf (od % 2 ^ 20)
  when (bits od 20 28 = 0 && condOk od 51 md w1 && t.pan != 0) (.branch ch (condOf od 51 md w1) t)

/-- SETREG (R163). -/
def decodeSetreg (ch : Fin 64) (md od : Nat) : Option Instr :=
  let r := finOf 8 (bits md 3 3)
  match md % 8 with
  | 0 => when (od < 2 ^ 32) (.setregLoad ch r (BitVec.ofNat 32 od))
  | 1 => when (od < 2 ^ 32) (.setregAdd ch r (BitVec.ofNat 32 od))
  | 2 => when (od < 8) (.setregCopy ch r (finOf 8 od))
  | 3 => when (od = 0 && bits md 3 3 = 0) (.setregOrigin ch)
  | 4 => when (od < 2 ^ 12 && bits md 3 3 = 0) (.setregClear ch (BitVec.ofNat 12 od))
  | _ => none

/-- SYNC (R161, R164, R185). -/
def decodeSync (ch : Fin 64) (md od : Nat) : Option Instr :=
  if md % 8 ≠ 0 then none
  else match bits md 3 3 with
    | 0 => when (0 < od && od < 2 ^ 20) (.syncTide ch od)
    | 1 => when (0 < od && od < 2 ^ 16) (.syncFront ch (BitVec.ofNat 16 od))
    | 2 => when (0 < od && od < 2 ^ 16) (.syncGust ch (BitVec.ofNat 16 od))
    | 3 => when (od = 0) (.syncTrigger ch)
    | _ => none

/-- The instruction that a main word and the words after it spell (R161 to R163); none where R164 refuses it for a
reserved opcode, a reserved field, a fine field, a target or a limit. -/
def decode (ch : Fin 64) (w0 w1 w2 : Nat) : Option Instr :=
  let md := modifierOf w0
  let od := operandOf w0
  match opcodeOf w0 with
  | 0x00 => when (md = 0 && od = 0) (.nop ch)
  | 0x01 => when (md % 4 = 0 && fineOk od) (.edge ch (stateOf (bits md 4 2)) (baseOf (bit md 3)) (bit md 2) (timeFu od))
  | 0x02 => decodePulse ch md od w1
  | 0x03 => decodeBurst ch md od w1 w2
  | 0x04 => when ((md = 0 || md = 8) && fineOk od) (.wait ch (baseOf (bit md 3)) (timeFu od))
  | 0x05 => decodeWaitcond ch md od w1 w2
  | 0x06 => decodeBranch ch md od w1
  | 0x07 => when (md % 8 = 0 && od < 2 ^ 20 && (targetOf od).pan != 0) (.loop ch (finOf 8 (bits md 3 3)) (targetOf od))
  | 0x08 => when (md = 0 && od < 2 ^ 20 && (targetOf od).pan != 0) (.jump ch (targetOf od))
  | 0x0A => decodeSetreg ch md od
  | 0x0B =>
    if bit md 5 then when (md % 4 = 0 && od = 0) (.stamp ch (.reg (finOf 8 (bits md 2 3))))
    else when (md % 4 = 0 && od < 2 ^ 32) (.stamp ch (.operand (BitVec.ofNat 32 od)))
  | 0x0C => when (md % 32 = 0 && od < 2 ^ 32) (.level ch (bit md 5) (BitVec.ofNat 32 od))
  | 0x0D => when (md % 32 = 0 && od < 16) (if bit md 5 then .gustFabric ch (finOf 16 od) else .gustLocal ch (finOf 16 od))
  | 0x0E => when (od = 0) (.signal ch (finOf 4 (bits md 4 2)) (finOf 8 (bits md 1 3)) (bit md 0))
  | 0x0F => decodeSync ch md od
  | 0x10 => when (md = 0 && od < 2 ^ 20 && od % 512 = 0 && od / 512 != 0) (.panhint ch (BitVec.ofNat 11 (od / 512)))
  | 0x11 => when (md = 0 && od = 0) (.period ch)
  | 0x3F => when (md = 0 && od = 0) (.halt ch)
  | _ => none

end Sys2Proof.Machine
end

