-- ==== Sys2Proof/Machine/Edge.lean ====
section
/-!
DEFINITION. Edge engines and delay mode (spec 05, R128 to R151, R504).
-/
namespace Sys2Proof.Machine

/-! ## Edges of FIFO entries (R128, R145, R175) -/

/-- The state of an active edge, and of an inactive one (R161, R145). -/
def pulseState (activeLow second : Bool) : OutState := if activeLow = second then .high else .low

/-- The next edge of an entry: target and state; none when the entry has no edge left. -/
def FifoEntry.head : FifoEntry → Option (Instant × OutState)
  | .edge x st _ => some (x, st)
  | .train first n p w low k second limit _ =>
    let x := first + k * p + if second then w else 0
    let cut := match limit with | some l => decide (l ≤ x) | none => false
    if n ≤ k || cut then none else some (x, pulseState low second)

/-- The T_E c_w in which an entry was written (R129). -/
def FifoEntry.written : FifoEntry → TE
  | .edge _ _ c => c
  | .train _ _ _ _ _ _ _ _ c => c

/-- The entry after its next edge has been dealt with; none when it is released (R128). -/
def FifoEntry.tail : FifoEntry → Option FifoEntry
  | .edge _ _ _ => none
  | .train first n p w low k second limit c =>
    let e := if second then FifoEntry.train first n p w low (k + 1) false limit c
      else FifoEntry.train first n p w low k true limit c
    if e.head.isSome then some e else none

/-- The entry with its edges from x on cancelled. -/
def FifoEntry.cancelFrom (x : Instant) : FifoEntry → FifoEntry
  | .edge y st c => .edge y st c
  | .train first n p w low k second limit c =>
    .train first n p w low k second (some (match limit with | some l => min l x | none => x)) c

/-- A FIFO with the edges from x on cancelled; entries with no edge left are released. -/
def cancelFifo (x : Instant) (l : List FifoEntry) : List FifoEntry :=
  (l.filter (fun e => match e with | .edge y _ _ => decide (y < x) | _ => true)).map (FifoEntry.cancelFrom x)
    |>.filter (fun e => e.head.isSome)

/-- The number of entries the edge FIFO holds at most (R128). -/
abbrev fifoDepth : Nat := 32

/-- An entry is written to the edge FIFO. -/
def pushEntry (ch : Fin 64) (e : FifoEntry) (s : State) : State :=
  s.updEdge ch (fun g => { g with fifo := g.fifo ++ [e] })

/-! ## Sequences of delay mode (R145, R147, R148) -/

/-- The last edge of a sequence that has not been cancelled; none when none is left. -/
def Sequence.last (q : Sequence) : Option Instant :=
  let whole := q.t0 + (q.n - 1) * q.p + q.w
  match q.limit with
  | none => some whole
  | some l =>
    if l ≤ q.t0 then none
    else
      let k := min (q.n - 1) ((l - 1 - q.t0) / q.p)
      let x := q.t0 + k * q.p
      some (if x + q.w < l then x + q.w else x)

/-- A sequence is pending at an instant while its last edge is at or after it (R147 step 3). -/
def Sequence.pendingAt (q : Sequence) (x : Instant) : Bool :=
  match q.last with | some y => decide (x ≤ y) | none => false

/-- The latest last edge of sequences. -/
def latestLast (l : List Sequence) : Instant :=
  l.foldl (fun m q => match q.last with | some y => max m y | none => m) 0

/-- A sequence with its edges from x on cancelled. -/
def Sequence.cancelFrom (x : Instant) (q : Sequence) : Sequence :=
  { q with limit := some (match q.limit with | some l => min l x | none => x) }

/-- Every edge of a channel with a target at or after x is cancelled (R141, R148, R156). -/
def cancelEdges (ch : Fin 64) (x : Instant) (s : State) : State :=
  (s.updEdge ch (fun g => { g with fifo := cancelFifo x g.fifo })).updDelay ch
    (fun d => { d with pending := (d.pending.map (Sequence.cancelFrom x)).filter (fun q => q.last.isSome) })

/-- Every edge of a channel not yet placed is cancelled (R149, R155). -/
def cancelAll (ch : Fin 64) (s : State) : State :=
  (s.updEdge ch (fun g => { g with fifo := [] })).updDelay ch (fun d => { d with pending := [] })

/-- The programmed state is set without an edge (R141, R149, R154). -/
def setProgrammed (ch : Fin 64) (t : TE) (st : OutState) (s : State) : State :=
  s.updEdge ch (fun g => { g with progState := st, hist := traceTrim (tracePut .low g.hist t st) (s.now - keepTE) })

/-- The idle level of the polarity (R142). -/
def State.idleLevel (s : State) (ch : Fin 64) : OutState := if s.nat (chIdx ch) 6 = 1 then .high else .low

/-! ## Placement (R129 to R132, R295) -/

/-- An edge is suppressed with a reason and counted (R131, R151); the event carries the late flag. -/
def suppress (ch : Fin 64) (x : Instant) (reason : Nat) (s : State) : State :=
  (s.updEdge ch (fun g => { g with suppressed := g.suppressed + 1 })).raiseCountAt x (ch.val * 4 + 2) 0 reason 64

/-- The override that holds at an instant (R131): its reason. -/
def State.override (s : State) (ch : Fin 64) (x : Instant) : Option Nat :=
  if s.trip[ch].trippedAt (teOf x) then some 3
  else if s.driverOff ch (teOf x) then some 5
  else if s.drv[ch].rangingAt x then some 4
  else none

/-- The state is H or L. -/
def levelState : OutState → Bool
  | .low => true | .high => true | _ => false

/-- An edge enters the programmed timeline (R131): the programmed state changes, class 0x05 sources see the change, and
the edge is placed at the ball by the correction entry of its fine field, unless an override holds (R134, R462). -/
def enterTimeline (ch : Fin 64) (x : Instant) (st : OutState) (s : State) : State :=
  let old := s.edge[ch].progState
  let s := setProgrammed ch (teCeil x) st (s.updEdge ch (fun g => { g with prev := some x }))
  let s := if levelState old && levelState st then deliverTriggers (.chan ch.val (st == .high)) x s else s
  match s.override ch x with
  | some r => suppress ch x r s
  | none =>
    let s := readWord (s.entryWord ch x) s
    openBlanking ch x (s.updEdge ch (fun g => { g with
      placed := g.placed + 1, lastPlaced := some x, placedBy := s.placementEntry ch x }))

/-- One edge is judged (R131): late, redundant, too close, or part of the programmed timeline. -/
def judgeEdge (ch : Fin 64) (x : Instant) (st : OutState) (written : TE) (s : State) : State :=
  let g := s.edge[ch]
  if teOf x < written + 4 then suppress ch x 1 s
  else if st = g.progState then s
  else
    let close := match g.prev with | some p => decide (x < p + 1000) | none => false
    if close then suppress ch x 2 s else enterTimeline ch x st s

/-- The edge at the head of a channel's FIFO is judged and leaves it (R128, R131); a sequencer that waits for one place or for
two can issue from then on (R165). -/
def placeHead (ch : Fin 64) (x : Instant) (st : OutState) (e : FifoEntry) (rest : List FifoEntry) (s : State) : State :=
  let s := judgeEdge ch x st e.written s
  match e.tail with
  | some t => s.updEdge ch (fun g => { g with fifo := t :: rest })
  | none => s.updEdge ch (fun g => { g with
      fifo := rest
      room1 := if rest.length + 1 = fifoDepth then s.now else g.room1
      room2 := if rest.length + 2 = fifoDepth then s.now else g.room2 })

/-! ## Triggers known ahead of their edges (R144, R148) -/

/-- A ZDELTA object of a channel in fu. -/
def State.chDelta (s : State) (ch : Fin 64) (sub : Nat) : Nat := (zdeltaVal (s.nat (chIdx ch) sub)).toNat

/-- The device is in RUN at T_E `a`, as the commands that are pending and scheduled leave it (R403, R405). -/
def State.runsAt (s : State) (a : TE) : Bool :=
  let code := match s.dev.pendCmd with | some (c, b) => if b ≤ a then some c else none | none => none
  let code := match s.dev.sched with
    | some (c, n) => if tideNamed s.now n.toNat * tideLen ≤ a then some c else code
    | none => code
  match code with | some c => c = 1 || c = 3 | none => s.dev.st == .run

/-- Where a trigger with t_ref `y` cancels pending edges from, when it will be accepted in conflict under Restart: 1,000 fu
before its first active edge (R147, R148), under the state and the settings in force at `y`. -/
def State.restartFrom (s : State) (ch : Fin 64) (y : Instant) : Option Instant :=
  let o := if teOf y < s.nextBoundary then s.od else s.viewAt (tideOf (teOf y))
  let v (k : Nat) : Nat := o.nat (chIdx ch) k
  let span (k : Nat) : Nat := (zdeltaVal (v k)).toNat
  let d := s.delay[ch]
  let pend := d.pending.filter (fun q => q.pendingAt y)
  let t0 := y + insertionDelay ch (v 3) + span 4
  let held := match d.lastAcc with | some a => decide (0 < span 0x0A) && decide (y < a + span 0x0A) | none => false
  if v 1 = 1 && v 2 != 0 && v 9 = 1 && s.runsAt (teOf y) && d.lastCycle != some (teOf y / 2) && !held && !pend.isEmpty
      && decide (pend.length < 8) && decide (t0 < latestLast pend + 1000) then some (t0 - 1000)
  else none

/-- Before an edge with target `x` is placed, a known trigger that restarts the channel cancels it where it reaches back to
it (R148). -/
def restartBefore (ch : Fin 64) (x : Instant) (s : State) : State :=
  match (((s.knownTriggers ch).filterMap (s.restartFrom ch)).filter (· ≤ x)).min? with
  | some c => cancelEdges ch c s
  | none => s

/-- The edge at the head of a channel's FIFO is placed at its target, unless a known trigger cancels it (R128, R131, R148). -/
def placeNext (ch : Fin 64) (x : Instant) (st : OutState) (s : State) : State :=
  let s := restartBefore ch x s
  match s.edge[ch].fifo with
  | e :: rest => if e.head = some (x, st) then placeHead ch x st e rest s else s
  | [] => s

/-- EDGE_PLACEMENT: the next edge of the channel's FIFO reaches its target (R128, R131, R132). -/
def edgePlacement (ch : Fin 64) (s : State) : State :=
  match s.edge[ch].fifo with
  | [] => s
  | e :: rest =>
    match e.head with
    | none => s.updEdge ch (fun g => { g with fifo := rest })
    | some (x, st) => placeNext ch x st (s.reach (teOf x))

/-- The edges of a channel with targets before an instant that has come are placed, `fuel` of them at most. -/
def placeBefore (x : Instant) : Nat → Fin 64 → State → State
  | 0, _, s => s
  | fuel + 1, ch, s =>
    match s.edge[ch].fifo with
    | [] => s
    | e :: rest =>
      match e.head with
      | none => placeBefore x fuel ch (s.updEdge ch (fun g => { g with fifo := rest }))
      | some (y, st) => if y < x then placeBefore x fuel ch (placeNext ch y st s) else s

/-- An upper bound of the edges that an entry has left. -/
def FifoEntry.size : FifoEntry → Nat
  | .edge _ _ _ => 1
  | .train _ n _ _ _ _ _ _ _ => 2 * n + 1

/-- Every edge with a target before an instant that has come is placed. -/
def placeEdges (x : Instant) (s : State) : State :=
  each s.channels (fun ch t => placeBefore x ((t.edge[ch].fifo.map FifoEntry.size).foldl (· + ·) 1) ch t) s

/-- EDGE_PLACEMENT (R128 to R132, R215, R287, R295). -/
def execEdgePlacement (ch : Fin 64) (s : State) : Host.Outcome State Fault Refusal := .next (edgePlacement ch s)

/-! ## Triggers of delay mode (R147, R148, R150) -/

/-- A trigger is discarded and counted (R147, R185). -/
def discardTrigger (ch : Fin 64) (s : State) : State :=
  s.updDelay ch (fun d => { d with discarded := d.discarded + 1 })

/-- A trigger is accepted with first active edge t0 (R145, R147, R150): the sequence is written as one train entry, no
later than 4 T_E before t0 (R148), and a period boundary is marked at t_ref + D_ins. -/
def acceptTrigger (ch : Fin 64) (tref t0 : Instant) (s : State) : State :=
  let n := s.nat (chIdx ch) 7
  let p := s.chDelta ch 8
  let w := s.chDelta ch 5
  let low := decide (s.nat (chIdx ch) 6 = 1)
  let q : Sequence := { tref := tref, t0 := t0, n := n, p := p, w := w, limit := none }
  let s := s.updDelay ch (fun d => { d with
    pending := d.pending ++ [q], lastAcc := some tref, accepted := d.accepted + 1 })
  let s := pushEntry ch (.train t0 n p w low 0 false none (min s.now (teOf t0 - 4))) s
  periodBoundary ch (tref + s.dIns ch) s

/-- Steps 2 to 5 of R147, with R148 for a conflict. -/
def admitTrigger (ch : Fin 64) (tref : Instant) (s : State) : State :=
  let d := s.delay[ch]
  let h := s.chDelta ch 0x0A
  let held := match d.lastAcc with | some a => decide (tref < a + h) | none => false
  let pend := d.pending.filter (fun q => q.pendingAt tref)
  let s := s.updDelay ch (fun d => { d with pending := pend })
  if decide (0 < h) && held then discardTrigger ch s
  else if 8 ≤ pend.length then discardTrigger ch s
  else
    let t0 := tref + s.dIns ch + s.chDelta ch 4
    let last := latestLast pend
    if pend.isEmpty || decide (last + 1000 ≤ t0) then acceptTrigger ch tref t0 s
    else
      match s.nat (chIdx ch) 9 with
      | 0 => discardTrigger ch s
      | 1 => acceptTrigger ch tref t0 (cancelEdges ch (t0 - 1000) s)
      | _ =>
        acceptTrigger ch tref (last + 1000) (s.updDelay ch (fun d => { d with delayed := d.delayed + 1 }))

/-- A trigger of a channel in delay mode (R147): dropped outside RUN or disabled, else the first of its CLK_C cycle goes
on. -/
def delayModeTrigger (ch : Fin 64) (tref : Instant) (s : State) : State :=
  if s.on (chIdx ch) 2 && s.dev.st == .run then
    let cycle := teOf tref / 2
    if s.delay[ch].lastCycle = some cycle then discardTrigger ch s
    else admitTrigger ch tref (s.updDelay ch (fun d => { d with lastCycle := some cycle }))
  else s

/-- 6 T_E in fu: how long before its instant an event is visible (R185). -/
abbrev sixTE : Nat := 6 * fuPerTE

/-- The visibility of a trigger at a channel (R185). -/
def State.triggerVis (s : State) (ch : Fin 64) (tref : Instant) : Instant := tref + s.dIns ch - sixTE

/-- An event qualifies from this visibility on (R155, R185): the cursor, and after a RESUME its boundary. -/
def Sequencer.syncFrom (q : Sequencer) : Instant := max q.cursor (match q.resumeAt with | some b => startOf b | none => 0)

/-- SYNC kind 3 removes queued triggers with a visibility before its cursor, from its issue on (R185; log entry 123). -/
def dropStale (ch : Fin 64) (s : State) : State :=
  let x := nearCoarse s.now s.seq[ch].syncFrom
  let l := s.seq[ch].trigQ
  let old := l.filter (fun t => s.triggerVis ch t < x)
  (s.updDelay ch (fun d => { d with discarded := d.discarded + BitVec.ofNat 64 old.length })).updSeq ch (fun q => { q with
    trigQ := l.filter (fun t => x ≤ s.triggerVis ch t) })

/-- A trigger of a channel in program mode (R185): it enters the trigger queue while the program runs or waits, from
which a waiting SYNC kind 3 has removed those that come too early. -/
def programModeTrigger (ch : Fin 64) (tref : Instant) (s : State) : State :=
  let s := if s.seq[ch].wait = .trigger then dropStale ch s else s
  let q := s.seq[ch]
  if q.pstate = 2 ∨ q.pstate = 3 then
    let cycle := teOf tref / 2
    if q.lastCycle = some cycle ∨ 4 ≤ q.trigQ.length then
      discardTrigger ch (s.updSeq ch (fun q => { q with lastCycle := some cycle }))
    else s.updSeq ch (fun q => { q with lastCycle := some cycle, trigQ := q.trigQ ++ [tref] })
  else s

/-- A trigger reaches its channel, which judges it by the settings in force at t_ref (R145). -/
def considerTrigger (ch : Fin 64) (tref : Instant) (s : State) : State :=
  s.asOf tref (fun s =>
    match s.nat (chIdx ch) 1 with
    | 1 => delayModeTrigger ch tref s
    | 2 => programModeTrigger ch tref s
    | _ => s)

/-- The earliest trigger on its way to a channel. -/
def firstTransit (d : Delay) : Option Instant := d.transit.min?

/-- DELAY_TRIGGER: the earliest trigger on its way is considered (R147, R185). -/
def delayTrigger (ch : Fin 64) (s : State) : State :=
  match firstTransit s.delay[ch] with
  | none => s
  | some x =>
    let s := s.reach (teOf x)
    considerTrigger ch x (s.updDelay ch (fun d => { d with transit := d.transit.erase x }))

/-- DELAY_TRIGGER (R144, R145, R147, R148, R150, R185, R297). -/
def execDelayTrigger (ch : Fin 64) (s : State) : Host.Outcome State Fault Refusal := .next (delayTrigger ch s)

/-- The triggers of a channel with t_ref before an instant are considered, `fuel` of them at most. -/
def drainChannel (x : Instant) : Nat → Fin 64 → State → State
  | 0, _, s => s
  | fuel + 1, ch, s =>
    match firstTransit s.delay[ch] with
    | some y => if y < x then
        drainChannel x fuel ch
          (considerTrigger ch y (s.updDelay ch (fun d => { d with transit := d.transit.erase y })))
      else s
    | none => s

/-- Every trigger with t_ref before an instant has been considered (R145, R147: the state and the parameters in force at
t_ref decide). -/
def drainTriggers (x : Instant) (s : State) : State :=
  each s.channels (fun ch t => drainChannel x t.delay[ch].transit.length ch t) s

/-- HOST_FIRE: a write of 1 to :0B (R142, R143 class 0x09). -/
def hostFire (r : Requester) (ch : Fin 64) (s : State) : State :=
  s.request r (chIdx ch) 0x0B .wo [] [need (s.source ch / 2 ^ 24 = 9) 0x03030000]
    (fun s => (sendTrigger s.nowAt ch s).ok)

/-- HOST_FIRE (R142, R143, R144). -/
def execHostFire (r : Requester) (ch : Fin 64) (s : State) : Host.Outcome State Fault Refusal := .next (hostFire r ch s)

/-! ## Sweeps (R137, R151) -/

/-- The calibration-drift event of a channel (R151). -/
def driftEvent (ch : Fin 64) (bitsUp : Nat) (s : State) : State :=
  s.raise (ch.val * 4 + 3) (signedCode 16 (clampInt (-32768) 32767 s.edge[ch].liveErr) + bitsUp)

/-- SWEEP_COMPLETE: the sweep of a spare path ends with a complete table, every entry within the fields of R134, which waits
for the next boundary, or without one (R137). -/
def sweepComplete (ch : Fin 64) (table : Option (List Byte)) (s : State) : State :=
  match s.edge[ch].sweeping with
  | none => s
  | some origin =>
    match table.filter (fun t => t.length = 12800 && (chunks 4 3200 t).all correctionOk) with
    | some t => s.updEdge ch (fun g => { g with sweeping := none, newTable := some (t, origin) })
    | none => driftEvent ch (2 ^ 17) (s.updEdge ch (fun g => { g with sweeping := none }))

/-- SWEEP_COMPLETE (R137, R151). -/
def execSweepComplete (ch : Fin 64) (table : Option (List Byte)) (s : State) : Host.Outcome State Fault Refusal :=
  .next (sweepComplete ch table s)

/-! ## ZTIME set (R504) -/

/-- The entry with its targets at the same coarse values in the count of T_E `a` (R46, R504), written anew in `a`. -/
def FifoEntry.timeSet (a : TE) (e : FifoEntry) : FifoEntry :=
  let shift (head x : Instant) : Instant := nearCoarse a head + x - head
  match e with
  | .edge x st _ => .edge (nearCoarse a x) st a
  | .train f n p w low k second limit _ =>
    let h := f + k * p + if second then w else 0
    .train (shift h f) n p w low k second (limit.map (shift h)) a

/-- A sequence of delay mode with its edges at the same coarse values in the count of T_E `a`. -/
def Sequence.timeSet (a : TE) (q : Sequence) : Sequence :=
  let shift (x : Instant) : Instant := nearCoarse a q.t0 + x - q.t0
  { q with tref := shift q.tref, t0 := shift q.t0, limit := q.limit.map shift }

/-- The edge engine after a ZTIME set at T_E `a` of the new count (R504): edges are judged again with c_w = a, the record
of the previous edge moves by the change of the count. -/
def EdgeEngine.timeSet (g : EdgeEngine) (a : TE) (delta : Int) : EdgeEngine :=
  let shift (x : Instant) : Instant := ((x : Int) + delta * fuPerTE).toNat
  { g with
    prev := g.prev.map shift
    lastPlaced := g.lastPlaced.map shift
    hist := g.hist.map (fun e => (((e.1 : Int) + delta).toNat, e.2))
    room1 := ((g.room1 : Int) + delta).toNat
    room2 := ((g.room2 : Int) + delta).toNat
    fifo := g.fifo.map (FifoEntry.timeSet a) }

end Sys2Proof.Machine
end

