-- ==== Sys2Proof/Machine/Gust.lean ====
section
/-!
DEFINITION. Fronts, Gusts, event codes and the egress entries (spec 13, R337, R351, R353 to R358; spec 07, R203 to R206;
spec 06, R182, R189).
-/
namespace Sys2Proof.Machine

/-! ## What goes to the ports (R337) -/

/-- An item joins the class queue of a port. -/
def sendOn (i : TxItem) (n : Fin 8) (s : State) : State := s.updPort n (fun p => { p with tx := p.tx ++ [i] })

/-- The UP ports. -/
def State.upPorts (s : State) : List (Fin 8) := s.ports.filter (fun n => s.port[n].st == .up)

/-- The upstream port of a non-root node: the port the CSU reference source names (R332). -/
def State.upstream (s : State) : Option (Fin 8) :=
  let src := s.csu.act.src
  if s.on 0x6000 1 then none
  else if h : 1 ≤ src ∧ src ≤ 8 then some ⟨src - 1, by omega⟩ else none

/-- E of a link (R351): the larger of the two ends' hop extensions. -/
def State.linkExt (s : State) (n : Fin 8) : Nat := max (s.nat (portIdx n) 7) s.port[n].peerExt.toNat

/-- The coarse count nearest the present whose low `w` bits are given (R335, R64). -/
def expandTE (now : TE) (w low : Nat) : TE :=
  let d := signedVal w ((low + 2 ^ w - now % 2 ^ w) % 2 ^ w)
  ((now : Int) + d).toNat

/-! ## Local and fabric Gusts (R182, R355 to R358) -/

/-- A Gust of a group executes at an instant (R182, R356): triggers of class 0x07, SYNC kind 2, condition terms. -/
def executeGust (x : Instant) (g : Fin 16) (fabric : Bool) (s : State) : State :=
  deliverTriggers (.gust g.val) x { s with fab := { s.fab with gustRuns := (x, g, fabric) :: s.fab.gustRuns } }

/-- The detail code of event 497 (R363). -/
def gustDetail (kind g node seq : Nat) : Nat := kind + g * 2 ^ 4 + node % 2 ^ 14 * 2 ^ 8 + seq % 256 * 2 ^ 22

/-- Event 497 of a kind that is raised at most once a group and Tide (R363); a late Gust carries the late flag (R57). -/
def gustEvent (kind : Nat) (g : Fin 16) (node seq : Nat) (s : State) : State :=
  s.raiseOnce 497 (kind * 16 + g.val) (gustDetail kind g.val node seq) (if kind = 3 then 64 else 0)

/-- The key of a Gust is smaller (R355, R356): T_fire, then node ID. -/
def keyLess (a b : Instant × W16) : Bool := decide (a.1 < b.1) || (a.1 = b.1 && decide (a.2.toNat < b.2.toNat))

/-- A Gust is lost (R356). -/
def loseGust (g : Fin 16) (node seq : Nat) (s : State) : State :=
  gustEvent 2 g node seq (s.updArm g (fun a => { a with lost := a.lost + 1 }))

/-- A Gust is late (R356). -/
def lateGust (g : Fin 16) (node seq : Nat) (s : State) : State :=
  gustEvent 3 g node seq (s.updArm g (fun a => { a with late := a.late + 1 }))

/-- A Gust is stale (R356): its sequence differs from the group's arm sequence. -/
def State.staleGust (s : State) (g : Fin 16) (seq : Byte) : Bool := s.armg[g].seq != seq

/-- The contest of a group on a Gust that reaches the node in the present T_E (R356). -/
def contest (g : Fin 16) (seq : Byte) (key : Instant × W16) (s : State) : State :=
  let a := s.armg[g]
  let node := key.2.toNat
  if s.staleGust g seq then gustEvent 4 g node seq.toNat s
  else if a.executed then
    match a.winner with
    | some w => if keyLess key w then lateGust g node seq.toNat s else loseGust g node seq.toNat s
    | none => loseGust g node seq.toNat s
  else if !a.armed then s
  else if key.1 + a.latency * fuPerTE < s.nowAt + 16 * fuPerTE then lateGust g node seq.toNat s
  else
    match a.cand with
    | none => s.updArm g (fun a => { a with cand := some key })
    | some c =>
      if keyLess key c then loseGust g c.2.toNat seq.toNat (s.updArm g (fun a => { a with cand := some key }))
      else loseGust g node seq.toNat s

/-- A channel owns an entry for its fabric GUST items: its own code or 0x20 (R204). -/
def State.ownsGust (s : State) (ch : Fin 64) : Bool :=
  s.ownsEgress (clusterOf ch) (ch.val % 16) || s.ownsEgress (clusterOf ch) 0x20

/-- A fabric GUST fires with T_fire (R182, R355), or is an unarmed fire. -/
def fireGust (ch : Fin 64) (g : Fin 16) (x : Instant) (s : State) : State :=
  let a := s.armg[g]
  let node := s.fab.nodeId
  if a.armed ∧ node ≠ 0xFFFF then
    let s := contest g a.seq (x, node) s
    if s.ownsGust ch && decide (s.gustq[ch].items.length < 2) then
      s.updGustq ch (fun q => { q with items := q.items ++ [.gust a.seq g x] })
    else loseEgress (clusterOf ch) s
  else gustEvent 7 g 0 a.seq.toNat (s.updArm g (fun a => { a with unarmed := a.unarmed + 1 }))

/-- GUST_EXECUTE: the candidate executes at T_fire + L_g and the group is unarmed (R354, R356). -/
def gustExecute (g : Fin 16) (s : State) : State :=
  match s.armg[g].cand with
  | none => s
  | some c =>
    let a := s.armg[g]
    let x := c.1 + a.latency * fuPerTE
    let s := s.reach (teOf x)
    let s := s.updArm g (fun a => { a with
      armed := false, executed := true, cand := none, winner := some c, execs := a.execs + 1 })
    let s := s.raiseAt x 497 (BitVec.ofNat 32 (gustDetail 1 g.val c.2.toNat a.seq.toNat))
    executeGust x g true s

/-- GUST_EXECUTE (R354, R356). -/
def execGustExecute (group : Fin 16) (s : State) : Host.Outcome State Fault Refusal := .next (gustExecute group s)

/-- A group becomes unarmed, or is armed anew: a candidate it holds is dropped and reported (R354, R358). -/
def dropCandidate (g : Fin 16) (s : State) : State :=
  match s.armg[g].cand with
  | some c =>
    gustEvent 5 g c.2.toNat s.armg[g].seq.toNat (s.updArm g (fun a => { a with cand := none }))
  | none => s

/-! ## Fronts (R353, R354) -/

/-- One group is armed by an accepted Front (R354). -/
def armGroup (f : FrontItem) (t : TE) (g : Fin 16) (s : State) : State :=
  let s := (dropCandidate g s).updArm g (fun a => { a with
    armed := true, executed := false, seq := f.sequence, latency := f.latency.toNat, winner := none })
  s.raiseAt (startOf t) 497 (BitVec.ofNat 32 (gustDetail 6 g.val 0 f.sequence.toNat))

/-- The Front of the given T_arm is accepted (R353, R354): its sequence is newer, or the node has joined since its last
accepted Front; the root accepts its own. -/
def acceptFront (f : FrontItem) (t : TE) (s : State) : State :=
  if s.fab.state = 3 ∨ s.fab.frontFresh ∨ newer 8 f.sequence.toNat s.fab.frontSeq.toNat then
    let s := { s with fab := { s.fab with
      frontSeq := if s.fab.state = 3 then s.fab.frontSeq else f.sequence, frontFresh := false, armAt := startOf t,
      fronts := (t, f.mask) :: s.fab.fronts, seenGusts := [] } }
    each (maskGroups f.mask) (armGroup f t) s
  else s

/-- The pair of a list with the least T_E. -/
def earliest {α : Type} : List (α × TE) → Option (α × TE)
  | [] => none
  | p :: rest => match earliest rest with
    | some q => if q.2 < p.2 then some q else some p
    | none => some p

/-- FRONT_ACCEPT: at T_arm the node accepts the Front and arms its groups (R353, R354). -/
def frontAccept (s : State) : State :=
  match earliest s.fab.frontWait with
  | none => s
  | some (f, t) =>
    let s := s.reach t
    acceptFront f t { s with fab := { s.fab with frontWait := s.fab.frontWait.erase (f, t) } }

/-- FRONT_ACCEPT (R353, R354). -/
def execFrontAccept (s : State) : Host.Outcome State Fault Refusal := .next (frontAccept s)

/-- A Front is handed to UP ports; both copies carry the same fields (R336). -/
def sendFront (f : FrontItem) (ports : List (Fin 8)) (s : State) : State := each ports (sendOn (.front f)) s

/-- ISSUE_FRONT: a write of a group mask to 0x6400:02 on the root (R353). -/
def issueFront (r : Requester) (mask : W16) (s : State) : State :=
  let l := s.nat 0x6400 1
  s.request r 0x6400 2 .wo [need (mask != 0) 0x03020000]
    [need (s.fab.state = 3) 0x03030000, need (decide (120 * s.fab.maxDepth.toNat + 16 ≤ l)) 0x03030000]
    (fun s =>
      let t := s.now + l
      let f : FrontItem := { sequence := s.fab.frontSeq + 1, mask := mask, latency := BitVec.ofNat 16 l,
                             armAt := BitVec.ofNat 32 (coarseOf t), crcOk := true }
      let s := { s with fab := { s.fab with frontSeq := f.sequence, frontWait := s.fab.frontWait ++ [(f, t)] } }
      (sendFront f s.upPorts s).ok)

/-- ISSUE_FRONT (R353). -/
def execIssueFront (r : Requester) (mask : W16) (s : State) : Host.Outcome State Fault Refusal :=
  .next (issueFront r mask s)

/-! ## Event codes (R189, R351) -/

/-- A matcher meets a delivered code (R189): [15:0] code, [31:16] mask; a mask of 0 never matches. -/
def matcherMeets (word : Nat) (w : W16) : Bool :=
  let mask := BitVec.ofNat 16 (word / 2 ^ 16)
  mask != 0 && (w ^^^ BitVec.ofNat 16 word) &&& mask == 0

/-- The crossbar of a cluster is given a code in T_E t (R170, R189). -/
def matchCode (w : W16) (t : TE) (cl : Fin 4) (s : State) : State :=
  each ((List.finRange 4).filter (fun m => matcherMeets (s.nat (clIdx cl 9) (1 + m.val)) w)) (fun (m : Fin 4) u =>
    u.updXbar cl (fun x => { x with matched := upd x.matched m (fun l => trimTimes t (t :: l)) })) s

/-- EVENT_CODE_DELIVER: the code with the earliest due T_E is delivered to every crossbar (R351). -/
def eventCodeDeliver (s : State) : State :=
  match earliest (s.fab.codesDue.map (fun p => (p.2, p.1))) with
  | none => s
  | some (w, t) =>
    let s := s.reach t
    let s := { s with fab := { s.fab with
      codesDue := s.fab.codesDue.erase (t, w), delivered := s.fab.delivered + 1 } }
    deliverTriggers (.code w.toNat) (startOf t) (each s.clusters (matchCode w t) s)

/-- EVENT_CODE_DELIVER (R170, R189, R351). -/
def execEventCodeDeliver (s : State) : Host.Outcome State Fault Refusal := .next (eventCodeDeliver s)

/-! ## Egress entries (R203 to R206, R337, R351, R355) -/

/-- The T_E of the cluster's next egress entry, not served yet: offset 32e + 8·cl of the 256 T_E superframe (R203). -/
def nextEgress (cl : Fin 4) (now : TE) (last : Option TE) : TE :=
  let a := now + (8 * cl.val + 32 - now % 32) % 32
  if last = some a then a + 32 else a

/-- An event code leaves on one UP port (R351). -/
def sendCodeOn (w : W16) (c : TE) (hops : Nat) (n : Fin 8) (s : State) : State :=
  let due := c + 6 + 60 + s.linkExt n
  sendOn (.code { code := w, due := BitVec.ofNat 20 due, origin := BitVec.ofNat 14 s.fab.nodeId.toNat,
                  hopsLeft := BitVec.ofNat 4 hops, travelled := 1, crcOk := true }) n s

/-- The Gust item of this node (R335, R355). -/
def gustItem (s : State) (seq : Byte) (g : Fin 16) (x : Instant) : GustItem where
  sequence := seq
  group := g
  node := BitVec.ofNat 14 s.fab.nodeId.toNat
  fireTE := BitVec.ofNat 32 (coarseOf (teOf x))
  fireFine := ⟨x % 3200, by omega⟩
  crcOk := true

/-- One item of a requester goes to the class queues of the UP ports (R337): a code while the node is in the tree; a
Gust unless a candidate with a smaller key is held (R355). -/
def handItem (i : EgressItem) (s : State) : State :=
  match i with
  | .code w c hops => if s.inTree then each s.upPorts (sendCodeOn w c hops) s else s
  | .gust seq g x =>
    let beaten := match s.armg[g].cand with | some k => keyLess k (x, s.fab.nodeId) | none => false
    if beaten || s.fab.state = 0 then s else each s.upPorts (sendOn (.gust (gustItem s seq g x))) s

/-- A channel's first Gust item leaves. -/
def egressChannel (ch : Fin 64) (s : State) : State :=
  match s.gustq[ch].items with
  | [] => s
  | i :: rest => handItem i (s.updGustq ch (fun q => { items := rest, sent := q.sent + 1 }))

/-- A sender's first item leaves; outside the tree it is not sent (R352). -/
def egressSender (i : Fin 32) (s : State) : State :=
  match s.sender[i].items with
  | [] => s
  | x :: rest => handItem x (s.updSender i (fun q => { items := rest, sent := if s.inTree then q.sent + 1 else q.sent }))

/-- EGRESS_SLOT: the cluster's next egress entry serves the requester it names (R203, R204, R337). -/
def egressSlot (cl : Fin 4) (s : State) : State :=
  let a := nextEgress cl s.now s.store[cl].egressAt
  let s := (s.reach a).updStore cl (fun t => { t with egressAt := some a })
  let code := field (s.od.bytes (clIdx cl 2) 3) (a % 256 / 32) 1
  if h : code < 16 then egressChannel (channelOf cl ⟨code, h⟩) s
  else if h : code < 24 then egressSender (unitOf8 cl ⟨code - 16, by omega⟩) s
  else if code = 0x20 then
    match (clusterChannels cl).find? (fun ch => !s.gustq[ch].items.isEmpty) with
    | some ch => egressChannel ch s
    | none => s
  else s

/-- EGRESS_SLOT (R203, R337). -/
def execEgressSlot (cl : Fin 4) (s : State) : Host.Outcome State Fault Refusal := .next (egressSlot cl s)

end Sys2Proof.Machine
end

