-- ==== Sys2Proof/Machine/Pager.lean ====
section
/-!
DEFINITION. The local stores and the pager (spec 07, R190 to R197, R207 to R210, R214): frames, what a sequencer fetches,
hint fetches, misses and repairs.
-/
namespace Sys2Proof.Machine

/-! ## Frames and fetching (R158, R190) -/

/-- The frame of a cluster that holds a complete copy of a Pan. -/
def State.frameOf (s : State) (cl : Fin 4) (pan : Nat) : Option Frame :=
  s.store[cl].frames.find? (fun f => f.pan = pan && f.loaded)

/-- The two memory words of instruction word `off` in a frame (R461). -/
def frameWords (cl : Fin 4) (slot off : Nat) : List MemWord :=
  (List.range 2).map (fun k => { mem := 1, cl := cl.val, addr := slot * 1024 + 2 * off + k })

/-- An instruction word of a frame is poisoned. -/
def State.frameBad (s : State) (cl : Fin 4) (f : Frame) (off : Nat) : Bool :=
  (frameWords cl f.slot off).any s.badWord

/-- Word o of Saltern Pan p (R158). -/
def State.progWord (s : State) (pan off : Nat) : Nat := ofBytes (s.readBytes (pan * 4096 + 8 * off) 8)

/-- Word o of a Pan, 0 beyond its last word. -/
def State.progWordIn (s : State) (pan off : Nat) : Nat := if off < 512 then s.progWord pan off else 0

/-- The instruction at a target and its number of words (R161, R164). -/
def State.instrAt (s : State) (ch : Fin 64) (t : Target) : Option (Instr × Nat) :=
  let p := t.pan.toNat
  let o := t.word.toNat
  let w0 := s.progWordIn p o
  let w1 := s.progWordIn p (o + 1)
  match decode ch w0 w1 (s.progWordIn p (o + 2)) with
  | some i => some (i, wordCount w0 w1)
  | none => none

/-- The first poisoned word that the sequencer of a channel needs at its program counter, if any: the main word, then the
extension words (R207). -/
def State.missAt (s : State) (ch : Fin 64) : Option Target :=
  let t := s.seq[ch].pc
  let cl := clusterOf ch
  match s.frameOf cl t.pan.toNat with
  | none => none
  | some f =>
    let o := t.word.toNat
    if s.frameBad cl f o then some t
    else
      let n := wordCount (s.progWordIn f.pan o) (s.progWordIn f.pan (o + 1))
      match (List.range n).find? (fun k => s.frameBad cl f (o + k)) with
      | some k => some ⟨t.pan, BitVec.ofNat 9 (o + k)⟩
      | none => none

/-- The instruction that the sequencer of a channel fetches at its program counter (R152, R190); none while its Pan is not
resident or a word it needs is poisoned. -/
def State.fetch (s : State) (ch : Fin 64) : Option (Instr × Nat) :=
  let t := s.seq[ch].pc
  if (s.frameOf (clusterOf ch) t.pan.toNat).isNone || (s.missAt ch).isSome then none else s.instrAt ch t

/-- Since when there has been room for what the next instruction of a channel writes, be a word of it poisoned or not: one entry of
the edge FIFO, two for PULSE, one of the level queue (R128, R165, R207). -/
def State.roomSince (s : State) (ch : Fin 64) : TE :=
  match s.instrAt ch s.seq[ch].pc with
  | some (.edge .., _) => s.edge[ch].room1
  | some (.burst .., _) => s.edge[ch].room1
  | some (.pulse .., _) => s.edge[ch].room2
  | some (.level .., _) => s.drv[ch].roomAt
  | _ => 0

/-- There is room for what the next instruction of a channel writes (R165). -/
def State.hasRoom (s : State) (ch : Fin 64) : Bool :=
  match s.instrAt ch s.seq[ch].pc with
  | some (.edge .., _) => decide (s.edge[ch].fifo.length < fifoDepth)
  | some (.burst .., _) => decide (s.edge[ch].fifo.length < fifoDepth)
  | some (.pulse .., _) => decide (s.edge[ch].fifo.length + 2 ≤ fifoDepth)
  | some (.level .., _) => !s.levelFull ch
  | _ => true

/-- The T_E in which the next instruction of a channel issues (R165 to R167); the cursor compared as R46 says. -/
def State.issueAt (s : State) (ch : Fin 64) : TE :=
  max (max s.seq[ch].nextIssue (s.roomSince ch)) (teCeil (nearCoarse s.now s.seq[ch].cursor) - 2 ^ 41)

/-- The words of an instruction are read from the frame of its Pan: a single-bit error in one is corrected (R190, R207,
R462). -/
def readFetched (ch : Fin 64) (n : Nat) (s : State) : State :=
  let t := s.seq[ch].pc
  match s.frameOf (clusterOf ch) t.pan.toNat with
  | some f => each (List.range n) (fun k u => each (frameWords (clusterOf ch) f.slot (t.word.toNat + k)) readWord u) s
  | none => s

/-- The sequencer runs and waits for nothing (R165). -/
def State.ready (s : State) (ch : Fin 64) : Bool := s.seq[ch].pstate = 2 && s.seq[ch].wait == .none

/-- A frame is used (R194). -/
def touchFrame (cl : Fin 4) (pan : Nat) (t : TE) (s : State) : State :=
  s.updStore cl (fun u => { u with frames := u.frames.map (fun f => if f.pan = pan then { f with used := max f.used t } else f) })

/-- The program counter takes a target; a pending Pan that it enters leaves the pending list (R193). -/
def setPc (ch : Fin 64) (t : Target) (s : State) : State :=
  s.updSeq ch (fun q => { q with
    pc := t, pendHints := if t.pan = q.pc.pan then q.pendHints else q.pendHints.erase t.pan.toNat })

/-! ## Programs' holds on Pans (R191 to R193) -/

/-- The program of a channel is admitted, so its Pan set is held. -/
def Sequencer.admitted (q : Sequencer) : Bool := !q.panSet.isEmpty

/-- The pinned Pans of a channel's admitted program (R191). -/
def Sequencer.pinned (q : Sequencer) : List Nat := q.panSet.filter (fun p => !q.streamed.contains p)

/-- The channels of a cluster other than ch. -/
def otherChannels (cl : Fin 4) (ch : Fin 64) : List (Fin 64) := (clusterChannels cl).filter (· ≠ ch)

/-- Some admitted program of a cluster pins a Pan. -/
def State.pinnedIn (s : State) (cl : Fin 4) (p : Nat) : Bool :=
  (clusterChannels cl).any (fun ch => s.seq[ch].pinned.contains p)

/-- Some admitted program of the node holds a Pan (R192). -/
def State.heldByProgram (s : State) (p : Nat) : Bool := s.channels.any (fun ch => s.seq[ch].panSet.contains p)

/-- A Pan lies in some channel's lookahead (R193). -/
def State.inLookahead (s : State) (cl : Fin 4) (p : Nat) : Bool :=
  (clusterChannels cl).any (fun ch =>
    let q := s.seq[ch]
    q.admitted && (q.pc.pan.toNat = p || q.pendHints.contains p))

/-! ## Copying a Pan into a frame (R190, R194, R195) -/

/-- The lowest free frame of a cluster, else the frame of the least recently used streamed Pan in no lookahead (R194). -/
def State.freeSlot (s : State) (cl : Fin 4) : Option Nat :=
  let fs := s.store[cl].frames
  match (List.range 64).find? (fun n => !fs.any (fun f => f.slot = n)) with
  | some n => some n
  | none =>
    let c := fs.filter (fun f => !s.pinnedIn cl f.pan && !s.inLookahead cl f.pan)
    match c.find? (fun f => c.all (fun g => f.used ≤ g.used)) with
    | some f => some f.slot
    | none => none

/-- Every word of a frame is written with the words of a Pan as read: poisoned words stay poisoned (R207); an armed
injection on a word of the frame acts (R466). -/
def copyWords (cl : Fin 4) (slot pan : Nat) (s : State) : State :=
  let s := readPan pan s
  let inFrame (w : MemWord) : Bool := w.mem = 1 && w.cl = cl.val && w.addr / 1024 = slot
  let moved := (s.health.poisoned.filter (fun w => w.mem = 0 && w.addr / 1024 = pan)).map
    (fun w => ({ mem := 1, cl := cl.val, addr := slot * 1024 + w.addr % 1024 } : MemWord))
  let clean : State := { s with health := { s.health with
    poisoned := s.health.poisoned.filter (fun w => !inFrame w) ++ moved
    errs := s.health.errs.filter (fun e => !inFrame e.1) } }
  clean.inject inFrame

/-- A Pan becomes resident in a frame. -/
def loadFrame (cl : Fin 4) (slot pan : Nat) (used : TE) (s : State) : State :=
  copyWords cl slot pan (s.updStore cl (fun t => { t with
    frames := t.frames.filter (fun f => f.slot ≠ slot) ++ [{ slot := slot, pan := pan, used := used, loaded := true }] }))

/-- The slot of the frame that a Pan occupies, its copy complete or not (R193), else one for it (R194). -/
def State.slotFor (s : State) (cl : Fin 4) (pan : Nat) : Option Nat :=
  match s.store[cl].frames.find? (fun f => f.pan = pan) with
  | some f => some f.slot
  | none => s.freeSlot cl

/-- A Pan that was last used in T_E `used` becomes resident unless it is. -/
def bringIn (cl : Fin 4) (pan : Nat) (used : TE) (s : State) : State :=
  if (s.frameOf cl pan).isSome then s
  else match s.slotFor cl pan with
    | some n => loadFrame cl n pan used s
    | none => s

/-- A pinned Pan occupies a frame from its admission on (R193). -/
def reserveFrame (cl : Fin 4) (pan : Nat) (s : State) : State :=
  if s.store[cl].frames.any (fun f => f.pan = pan) then s
  else match s.freeSlot cl with
    | some n => s.updStore cl (fun t => { t with
        frames := t.frames.filter (fun f => f.slot ≠ n) ++ [{ slot := n, pan := pan, used := 0, loaded := false }] })
    | none => s

/-- A fetch joins a list in the order of its T_E, ties by channel number (R195). -/
def insertFetch (f : Fetch) : List Fetch → List Fetch
  | [] => [f]
  | g :: rest =>
    if f.asked < g.asked ∨ (f.asked = g.asked ∧ f.ch < g.ch) then f :: g :: rest else g :: insertFetch f rest

/-- HINT_FETCH_COMPLETE: the first hint fetch of a cluster has been copied (R194 to R196). -/
def hintFetchComplete (cl : Fin 4) (s : State) : State :=
  match s.store[cl].hints with
  | [] => s
  | f :: rest =>
    let s := bringIn cl f.pan f.used s
    s.updStore cl (fun t => { t with
      hints := rest, hintCount := t.hintCount + 1,
      longest := BitVec.ofNat 32 (max t.longest.toNat (s.now - f.asked)) })

/-- HINT_FETCH_COMPLETE (R194, R195, R196). -/
def execHintFetchComplete (cl : Fin 4) (s : State) : Host.Outcome State Fault Refusal := .next (hintFetchComplete cl s)

/-- A PANHINT issues in T_E t (R193, R194): of a streamed Pan of the channel's program only. -/
def hintPan (ch : Fin 64) (p : Nat) (t : TE) (s : State) : State :=
  let q := s.seq[ch]
  let cl := clusterOf ch
  if !q.streamed.contains p then s
  else
    let pending := q.pendHints.contains p
    let s := s.updSeq ch (fun q => { q with pendHints := p :: (q.pendHints.erase p).take 2 })
    let s := (touchFrame cl p t s).updStore cl (fun u => { u with
      hints := u.hints.map (fun f => if f.pan = p then { f with used := max f.used t } else f) })
    if pending then s
    else if (s.frameOf cl p).isSome then s.updStore cl (fun u => { u with hitCount := u.hitCount + 1 })
    else if s.store[cl].hints.any (fun f => f.pan = p) then s
    else s.updStore cl (fun u => { u with hints := insertFetch { pan := p, asked := t, ch := ch.val, used := t } u.hints })

/-! ## Stops of a program (R155, R156, R209) -/

/-- A program stops and returns to admitted (R155, R156): waits, actions ahead and the run's events go. -/
def stopProgram (ch : Fin 64) (s : State) : State :=
  s.updSeq ch (fun q =>
    if 2 ≤ q.pstate then { q with pstate := 1, wait := .none, actions := [], parkAt := none, trigQ := [], taken := [],
                                  pendHints := [], resumeAt := none }
    else q)

/-! ## Misses (R207 to R210, R214) -/

/-- The number of edges of an entry with targets at or after an instant. -/
def FifoEntry.countFrom (x : Instant) : FifoEntry → Nat
  | .edge y _ _ => if x ≤ y then 1 else 0
  | .train first n p w _ k second limit _ =>
    -- edges of the train with targets below a bound: active edges, then inactive ones
    let below (b : Instant) : Nat :=
      let act := if b ≤ first then 0 else min n (1 + (b - 1 - first) / max p 1)
      let ina := if b ≤ first + w then 0 else min n (1 + (b - 1 - first - w) / max p 1)
      (max act (if second then k + 1 else k) - if second then k + 1 else k) + (max ina k - k)
    let all := match limit with | some l => below l | none => (n - if second then k + 1 else k) + (n - k)
    all - min all (below x)

/-- The Pan-miss event (R214). -/
def missEvent (ch : Fin 64) (at_ : TE) (t : Target) (saltern resumed : Bool) (policy cancelled : Nat) (s : State) : State :=
  s.raiseAt (startOf at_) (ch.val * 4) (BitVec.ofNat 32
    (targetCode t + (if saltern then 2 ^ 20 else 0) + policy % 2 * 2 ^ 21 + (if resumed then 2 ^ 22 else 0)
      + min cancelled 255 * 2 ^ 24))

/-- The Saltern copy of an instruction word is poisoned. -/
def State.salternBad (s : State) (t : Target) : Bool :=
  (List.range 2).any (fun k => s.badWord (salternWord (t.pan.toNat * 1024 + 2 * t.word.toNat + k)))

/-- A repair of the frame of a Pan is asked for (R208). -/
def askRepair (cl : Fin 4) (ch pan : Nat) (s : State) : State :=
  if s.store[cl].work.any (fun f => f.repair && f.pan = pan) then s
  else s.updStore cl (fun t => { t with work := t.work ++ [{ pan := pan, asked := s.now, ch := ch, repair := true }] })

/-- Stop and park at T_E m (R209): edges from m + 4 T_E on are cancelled and counted in the event, which names the policy in
force for the miss; t_p is the first instant from there at least 1,000 fu after the last placed edge. -/
def stopAndPark (ch : Fin 64) (m : TE) (t : Target) (saltern : Bool) (policy : Nat) (s : State) : State :=
  let x := startOf (m + 4)
  let gone := (s.edge[ch].fifo.map (FifoEntry.countFrom x)).foldl (· + ·) 0
  let s := missEvent ch m t saltern false policy gone s
  let s := s.updEdge ch (fun g => { g with fifo := cancelFifo x g.fifo })
  s.updSeq ch (fun q => { q with pstate := 5, wait := .none, parkAt := some x })

/-- PAN_MISS: the sequencer needs a poisoned word in T_E m, its next issue (R207 to R210). -/
def panMiss (ch : Fin 64) (s : State) : State :=
  match s.missAt ch with
  | none => s
  | some t =>
    if s.ready ch && s.hasRoom ch then
      let m := s.issueAt ch
      let s := s.reach m
      let cl := clusterOf ch
      let s := match s.frameOf cl t.pan.toNat with
        | some f => each (frameWords cl f.slot t.word.toNat) readWord s
        | none => s
      let s := askRepair cl ch.val t.pan.toNat s
      if s.nat (chIdx ch) 0x1E = 0 then stopAndPark ch m t (s.salternBad t) 0 s
      else
        missEvent ch m t (s.salternBad t) false 1 0
          (s.updSeq ch (fun q => { q with pstate := 3, wait := .repair t m }))
    else s

/-- PAN_MISS (R207 to R210, R214). -/
def execPanMiss (ch : Fin 64) (s : State) : Host.Outcome State Fault Refusal := .next (panMiss ch s)

/-- MISS_PARK: at t_p the ball parks (R209). -/
def missPark (ch : Fin 64) (s : State) : State :=
  match s.seq[ch].parkAt with
  | none => s
  | some x =>
    let x := match s.edge[ch].lastPlaced with | some y => max x (y + 1000) | none => x
    let s := s.reach (teOf x)
    setProgrammed ch (teCeil x) .park (s.updSeq ch (fun q => { q with parkAt := none }))

/-- MISS_PARK (R209). -/
def execMissPark (ch : Fin 64) (s : State) : Host.Outcome State Fault Refusal := .next (missPark ch s)

/-- A channel that waits for the repaired word under policy 1 resumes, or stops when the Saltern copy is poisoned (R210); a
policy written meanwhile applies from the next miss (R211). -/
def afterRepair (pan : Nat) (ch : Fin 64) (s : State) : State :=
  match s.seq[ch].wait with
  | .repair t _ =>
    if t.pan.toNat = pan then
      if s.salternBad t then stopAndPark ch s.now t true 1 s
      else
        missEvent ch s.now t false true 1 0
          (s.updSeq ch (fun q => { q with pstate := 2, wait := .none, nextIssue := max q.nextIssue s.now }))
    else s
  | _ => s

/-- The repair of a Pan's frame ends (R208, R210); a poisoned Saltern copy freezes the Pan. -/
def repairFrame (cl : Fin 4) (pan : Nat) (s : State) : State :=
  let s := s.updStore cl (fun t => { t with repairCount := t.repairCount + 1 })
  let s := match s.frameOf cl pan with | some g => copyWords cl g.slot pan s | none => s
  let s := if s.panPoisoned pan then freezeProgramPan pan s else s
  each (clusterChannels cl) (afterRepair pan) s

/-- What a pin load or a repair has to wait for ends first: hint fetches asked for at least 16 T_E ago, in their order
(R195). -/
def hintsFirst (cl : Fin 4) (s : State) : State :=
  each (s.store[cl].hints.takeWhile (fun f => f.asked + 16 ≤ s.now)) (fun _ t => hintFetchComplete cl t) s

/-- The first pin load or repair of a cluster ends (R195). -/
def serveWork (cl : Fin 4) (s : State) : State :=
  match s.store[cl].work with
  | [] => s
  | f :: rest =>
    let s := s.updStore cl (fun t => { t with work := rest })
    if f.repair then repairFrame cl f.pan s else bringIn cl f.pan 0 s

/-- Pin loads and repairs end in the order of request, up to the last one that satisfies `p` (R195). -/
def serveUpTo (cl : Fin 4) (p : Fetch → Bool) (s : State) : State :=
  let n := s.store[cl].work.length - (s.store[cl].work.reverse.takeWhile (fun f => !p f)).length
  if n = 0 then s else each (List.range n) (fun _ t => serveWork cl t) (hintsFirst cl s)

/-- REPAIR_COMPLETE: the first repair of a cluster ends, and before it what the pager serves first (R195, R208, R210). -/
def repairComplete (cl : Fin 4) (s : State) : State :=
  match s.store[cl].work.find? (fun f => f.repair) with
  | none => s
  | some f => serveUpTo cl (fun g => g = f) s

/-- REPAIR_COMPLETE (R208, R210, R214). -/
def execRepairComplete (cl : Fin 4) (s : State) : Host.Outcome State Fault Refusal := .next (repairComplete cl s)

end Sys2Proof.Machine
end

