-- ==== Sys2Proof/Machine/Program.lean ====
section
/-!
DEFINITION. The instructions of edge programs (spec 06, R152 to R187): issue, the condition space, waits, actions.
-/
namespace Sys2Proof.Machine

/-! ## The condition space (R170 to R173) -/

/-- The T_E of the latest clear of a latched bit (R172). -/
def Sequencer.clearedAt (q : Sequencer) (b : Nat) : Option TE := assocFind q.cleared b

/-- A latch shows set in T_E t: a setting up to t that no clear has removed (R172). -/
def latchShown (q : Sequencer) (b : Nat) (l : List TE) (t : TE) : Bool :=
  l.any (fun u => decide (u ≤ t) && match q.clearedAt b with | some c => decide (c < u) | none => true)

/-- Bit b of the condition space of channel ch in the snapshot of T_E t (R170). -/
def snapBit (s : State) (ch : Fin 64) (t : TE) (b : Nat) : Bool :=
  let cl := clusterOf ch
  let q := s.seq[ch]
  if 60 ≤ b then s.extSample ⟨(b - 60) % 4, by omega⟩ (t - 8)
  else if 56 ≤ b then latchShown q b s.xbar[cl].matched[(b - 56) % 4] t
  else if 48 ≤ b then traceAt false s.xbar[cl].signals[(b - 48) % 8] t
  else if 32 ≤ b then condTrue s cl ⟨(b - 32) % 16, by omega⟩ (t - 2)
  else if 16 ≤ b then
    let c := s.classAt (unitOf8 cl ⟨(b - 16) / 2 % 8, by omega⟩) (t - 5)
    c == .unresolved || c == (if b % 2 = 0 then .above else .below)
  else
    let g := s.grp[unitOf8 cl ⟨b / 2 % 8, by omega⟩]
    if b % 2 = 0 then latchShown q b g.readySet t else traceAt false g.passHist t

/-- The snapshot of T_E t (R170). -/
def snapshot (s : State) (ch : Fin 64) (t : TE) : W64 :=
  (List.range 64).foldl (fun m b => if snapBit s ch t b then m ||| BitVec.ofNat 64 (2 ^ b) else m) 0

/-- The latched bits of R170: ready latches and fabric matchers. -/
def isLatched (b : Nat) : Bool := (b < 16 && b % 2 = 0) || (56 ≤ b && b < 60)

/-- A condition on a snapshot (R174). -/
def condHolds (c : Cond) (v : W64) : Bool :=
  let r := match c.test with
    | .bit b => v.toNat.testBit b.val
    | .mask m all => if all then v &&& m == m else v &&& m != 0
  r != c.sense

/-- The bits a condition tests. -/
def condTests (c : Cond) (b : Nat) : Bool :=
  match c.test with | .bit i => i.val = b | .mask m _ => m.toNat.testBit b

/-- Latches are cleared at T_E a (R172): every setting up to a goes. -/
def clearBits (ch : Fin 64) (bs : List Nat) (a : TE) (s : State) : State :=
  s.updSeq ch (fun q => { q with
    cleared := bs.foldl (fun l b => assocPut l b (some (match assocFind l b with | some c => max c a | none => a))) q.cleared })

/-- The consume of a condition on the snapshot of T_E a (R174). -/
def consumeCond (ch : Fin 64) (c : Cond) (v : W64) (a : TE) (s : State) : State :=
  if c.consume then clearBits ch ((List.range 64).filter (fun b => isLatched b && condTests c b && v.toNat.testBit b)) a s else s

/-- The oldest T_E in the history of a sequencer whose present is `t` (R173). -/
def State.oldest (s : State) (t : TE) : TE := max (t - 16) s.time.histFrom

/-- One action counts as late (R168). -/
def countLate (ch : Fin 64) (s : State) : State := s.updSeq ch (fun q => { q with late := q.late + 1 })

/-- The T_E at which a sample or a clear at T_E `a` is taken when the present is `t` (R173): further back than the history
it is the oldest stored one, and late. -/
def historyAt (ch : Fin 64) (a t : TE) (s : State) : TE × State :=
  if a < s.oldest t then (s.oldest t, countLate ch s) else (a, s)

/-! ## Actions (R168, R180 to R184) -/

/-- A latch mask of SETREG CLEAR as bits of the condition space (R163). -/
def latchBits (l : BitVec 12) : List Nat :=
  (List.range 12).filter (fun i => l.toNat.testBit i) |>.map (fun i => if i < 8 then 2 * i else 48 + i)

/-- A program-stamp record joins the channel's capture queue (R180, R205). -/
def presentStamp (ch : Fin 64) (tag : W32) (cursor : Instant) (late : Bool) (s : State) : State :=
  let cl := clusterOf ch
  let j := ch.val % 16
  if !s.ownsCapture cl j then s
  else if 4 ≤ (s.cap[cl].stamps.filter (fun p => p.1 = j)).length then
    loseAtQueue cl j 1 cursor (s.lullAt cursor) (s.updStore cl (fun t => { t with stampsLost := t.stampsLost + 1 }))
  else
    let r := record 0x08 ((if late then 64 else 0) + if s.lullAt cursor then 1 else 0) ch.val s.edge[ch].calGen.toNat
      tag.toNat (ztime cursor).toNat
    s.updCap cl (fun c => { c with stamps := c.stamps ++ [(j, r)] })

/-- An action takes place at instant x; `late` when its cursor had passed (R168). -/
def doAction (ch : Fin 64) (cursor x : Instant) (late : Bool) (a : SeqAction) (s : State) : State :=
  match a with
  | .stamp tag => presentStamp ch tag cursor late s
  | .signal cl sig v => setSignal cl sig (teOf x + if cl = clusterOf ch then 0 else 4) v s
  | .period => periodBoundary ch x s
  | .clear l => clearBits ch (latchBits l) (teOf x) s
  | .gustLocal g => executeGust (x + 16 * fuPerTE) g false s
  | .gustFabric g => fireGust ch g x s

/-- An action of an instruction that issues in T_E t (R168): now, late, or at its cursor. -/
def act (ch : Fin 64) (a : SeqAction) (t : TE) (s : State) : State :=
  let c := s.seq[ch].cursor
  if t < teOf c then s.updSeq ch (fun q => { q with actions := q.actions ++ [(c, a)] })
  else if teOf c < t then doAction ch c (startOf t) true a (countLate ch s)
  else doAction ch c c false a s

/-- The waiting action with the earliest cursor, the first issued of equal ones. -/
def firstAction : List (Instant × SeqAction) → Option (Instant × SeqAction)
  | [] => none
  | p :: rest => match firstAction rest with
    | some q => if q.1 < p.1 then some q else some p
    | none => some p

/-- ACTION_AT_CURSOR: the cursor T_E of the earliest action issued ahead of it arrives (R168). -/
def actionAtCursor (ch : Fin 64) (s : State) : State :=
  match firstAction s.seq[ch].actions with
  | none => s
  | some (c, a) =>
    let s := s.reach (teOf c)
    doAction ch c c false a (s.updSeq ch (fun q => { q with actions := q.actions.erase (c, a) }))

/-- ACTION_AT_CURSOR (R168, R172, R180, R182 to R184, R297). -/
def execActionAtCursor (ch : Fin 64) (s : State) : Host.Outcome State Fault Refusal := .next (actionAtCursor ch s)

/-! ## Issue (R165, R167) -/

/-- The sequencer of channel ch issues instruction i: it is running, waits for nothing and fetches exactly i, and there is
room where i needs it (R165). In the issue T_E t the count of instructions rises, the program counter moves past the words
and the next issue lies 2 T_E later; cursor and origin stand for the times nearest to t (R46); then `body t` is what i does.
Otherwise nothing happens. -/
def issue (ch : Fin 64) (i : Instr) (room : Bool) (body : TE → State → State) (s : State) : State :=
  match s.fetch ch with
  | none => s
  | some (j, n) =>
    if j = i ∧ s.ready ch = true ∧ room = true then
      let t := s.issueAt ch
      let p := s.seq[ch].pc.pan.toNat
      let s := touchFrame (clusterOf ch) p t (readFetched ch n (s.reach t))
      let s := s.updSeq ch (fun q => { q with
        cursor := nearCoarse t q.cursor, origin := nearCoarse t q.origin
        issued := q.issued + 1, nextIssue := t + 2, pc := ⟨q.pc.pan, q.pc.word + BitVec.ofNat 9 n⟩ })
      body t s
    else s

/-! ## Control (R175 to R179, R186) -/

/-- The base of a placement (R175). -/
def State.base (s : State) (ch : Fin 64) (b : TimeBase) : Instant :=
  match b with | .cursor => s.seq[ch].cursor | .origin => s.seq[ch].origin

/-- With advance set, the cursor becomes the later of itself and the last edge (R175). -/
def advanceTo (ch : Fin 64) (adv : Bool) (x : Instant) (s : State) : State :=
  if adv then s.updSeq ch (fun q => { q with cursor := max q.cursor x }) else s

/-- The edge FIFO has room for n entries (R128, R165). -/
def State.fifoRoom (s : State) (ch : Fin 64) (n : Nat) : Bool := decide (s.edge[ch].fifo.length + n ≤ fifoDepth)

/-- NOP. -/
def execNop (ch : Fin 64) (s : State) : Host.Outcome State Fault Refusal :=
  .next (issue ch (.nop ch) true (fun _ s => s) s)

/-- EDGE writes one edge entry at base + T (R175). -/
def placeEdge (ch : Fin 64) (st : OutState) (base : TimeBase) (adv : Bool) (t : Nat) (i : TE) (s : State) : State :=
  let x := s.base ch base + t
  advanceTo ch adv x (pushEntry ch (.edge x st i) s)

/-- EDGE (R128, R129, R165, R175). -/
def execEdge (ch : Fin 64) (st : OutState) (base : TimeBase) (adv : Bool) (t : Nat) (s : State) :
    Host.Outcome State Fault Refusal :=
  .next (issue ch (.edge ch st base adv t) (s.fifoRoom ch 1) (placeEdge ch st base adv t) s)

/-- PULSE writes two edge entries (R175). -/
def placePulse (ch : Fin 64) (low : Bool) (base : TimeBase) (adv : Bool) (t w : Nat) (i : TE) (s : State) : State :=
  let x := s.base ch base + t
  advanceTo ch adv (x + w)
    (pushEntry ch (.edge (x + w) (pulseState low true) i) (pushEntry ch (.edge x (pulseState low false) i) s))

/-- PULSE (R128, R129, R165, R175). -/
def execPulse (ch : Fin 64) (activeLow : Bool) (base : TimeBase) (adv : Bool) (t w : Nat) (s : State) :
    Host.Outcome State Fault Refusal :=
  .next (issue ch (.pulse ch activeLow base adv t w) (s.fifoRoom ch 2) (placePulse ch activeLow base adv t w) s)

/-- BURST writes one train entry (R175). -/
def placeBurst (ch : Fin 64) (low : Bool) (base : TimeBase) (adv : Bool) (t n w p : Nat) (i : TE) (s : State) : State :=
  let x := s.base ch base + t
  advanceTo ch adv (x + (n - 1) * p + w) (pushEntry ch (.train x n p w low 0 false none i) s)

/-- BURST (R128, R129, R165, R175). -/
def execBurst (ch : Fin 64) (activeLow : Bool) (base : TimeBase) (adv : Bool) (t n w p : Nat) (s : State) :
    Host.Outcome State Fault Refusal :=
  .next (issue ch (.burst ch activeLow base adv t n w p) (s.fifoRoom ch 1) (placeBurst ch activeLow base adv t n w p) s)

/-- WAIT moves the cursor (R176). -/
def moveCursor (ch : Fin 64) (base : TimeBase) (t : Nat) (s : State) : State :=
  s.updSeq ch (fun q => { q with
    cursor := match base with | .cursor => q.cursor + t | .origin => max q.cursor (q.origin + t) })

/-- WAIT (R165, R167, R176). -/
def execWait (ch : Fin 64) (base : TimeBase) (t : Nat) (s : State) : Host.Outcome State Fault Refusal :=
  .next (issue ch (.wait ch base t) true (fun _ s => moveCursor ch base t s) s)

/-- A register of a sequencer takes a value. -/
def setReg (ch : Fin 64) (r : Fin 8) (v : W32) (s : State) : State :=
  s.updSeq ch (fun q => { q with regs := upd q.regs r (fun _ => v) })

/-- LOOP (R178). -/
def loopBack (ch : Fin 64) (r : Fin 8) (target : Target) (s : State) : State :=
  let v := s.seq[ch].regs[r]
  if v = 0 then s else setPc ch target (setReg ch r (v - 1) s)

/-- LOOP (R165, R178). -/
def execLoop (ch : Fin 64) (reg : Fin 8) (target : Target) (s : State) : Host.Outcome State Fault Refusal :=
  .next (issue ch (.loop ch reg target) true (fun _ s => loopBack ch reg target s) s)

/-- JUMP (R165, R178, R193). -/
def execJump (ch : Fin 64) (target : Target) (s : State) : Host.Outcome State Fault Refusal :=
  .next (issue ch (.jump ch target) true (fun _ s => setPc ch target s) s)

/-- SETREG LOAD (R163, R179). -/
def execSetregLoad (ch : Fin 64) (reg : Fin 8) (value : W32) (s : State) : Host.Outcome State Fault Refusal :=
  .next (issue ch (.setregLoad ch reg value) true (fun _ s => setReg ch reg value s) s)

/-- SETREG ADD, modulo 2^32 (R163, R179). -/
def execSetregAdd (ch : Fin 64) (reg : Fin 8) (value : W32) (s : State) : Host.Outcome State Fault Refusal :=
  .next (issue ch (.setregAdd ch reg value) true (fun _ s => setReg ch reg (s.seq[ch].regs[reg] + value) s) s)

/-- SETREG COPY (R163, R179). -/
def execSetregCopy (ch : Fin 64) (reg src : Fin 8) (s : State) : Host.Outcome State Fault Refusal :=
  .next (issue ch (.setregCopy ch reg src) true (fun _ s => setReg ch reg s.seq[ch].regs[src] s) s)

/-- SETREG ORIGIN: origin = cursor (R163). -/
def execSetregOrigin (ch : Fin 64) (s : State) : Host.Outcome State Fault Refusal :=
  .next (issue ch (.setregOrigin ch) true (fun _ s => s.updSeq ch (fun q => { q with origin := q.cursor })) s)

/-- SETREG CLEAR that issues in T_E t: at its cursor, waiting for it or going back to it within the history (R172, R173). -/
def clearAtCursor (ch : Fin 64) (l : BitVec 12) (t : TE) (s : State) : State :=
  let c := s.seq[ch].cursor
  if t < teOf c then s.updSeq ch (fun q => { q with actions := q.actions ++ [(c, .clear l)] })
  else
    let (a, s) := historyAt ch (teOf c) t s
    clearBits ch (latchBits l) a s

/-- SETREG CLEAR (R163, R172, R173). -/
def execSetregClear (ch : Fin 64) (latches : BitVec 12) (s : State) : Host.Outcome State Fault Refusal :=
  .next (issue ch (.setregClear ch latches) true (clearAtCursor ch latches) s)

/-- PANHINT (R186, R193, R194). -/
def execPanhint (ch : Fin 64) (pan : BitVec 11) (s : State) : Host.Outcome State Fault Refusal :=
  .next (issue ch (.panhint ch pan) true (fun t s => hintPan ch pan.toNat t s) s)

/-- HALT ends the program (R157). -/
def execHalt (ch : Fin 64) (s : State) : Host.Outcome State Fault Refusal :=
  .next (issue ch (.halt ch) true (fun _ s => s.updSeq ch (fun q => { q with pstate := 4 })) s)

/-! ## Actions on the node (R180 to R184) -/

/-- STAMP (R168, R180). -/
def execStamp (ch : Fin 64) (tag : TagSource) (s : State) : Host.Outcome State Fault Refusal :=
  .next (issue ch (.stamp ch tag) true (fun t s =>
    act ch (.stamp (match tag with | .operand v => v | .reg r => s.seq[ch].regs[r])) t s) s)

/-- LEVEL that issues in T_E t (R168, R181): a tagged entry carries the cursor, and is late when the cursor has passed. -/
def queueLevel (ch : Fin 64) (tagged : Bool) (e : W32) (t : TE) (s : State) : State :=
  let c := s.seq[ch].cursor
  let s := if tagged && decide (teOf c < t) then countLate ch s else s
  s.updDrv ch (fun d => { d with queue := d.queue ++ [{ entry := e, tag := if tagged then some c else none, at_ := t }] })

/-- LEVEL (R165, R168, R181, R220, R221). -/
def execLevel (ch : Fin 64) (tagged : Bool) (entry : W32) (s : State) : Host.Outcome State Fault Refusal :=
  .next (issue ch (.level ch tagged entry) (!s.levelFull ch) (queueLevel ch tagged entry) s)

/-- GUST, local (R168, R182). -/
def execGustLocal (ch : Fin 64) (group : Fin 16) (s : State) : Host.Outcome State Fault Refusal :=
  .next (issue ch (.gustLocal ch group) true (act ch (.gustLocal group)) s)

/-- GUST, fabric (R168, R182, R355). -/
def execGustFabric (ch : Fin 64) (group : Fin 16) (s : State) : Host.Outcome State Fault Refusal :=
  .next (issue ch (.gustFabric ch group) true (act ch (.gustFabric group)) s)

/-- SIGNAL (R168, R183). -/
def execSignal (ch : Fin 64) (cluster : Fin 4) (sig : Fin 8) (value : Bool) (s : State) :
    Host.Outcome State Fault Refusal :=
  .next (issue ch (.signal ch cluster sig value) true (act ch (.signal cluster sig value)) s)

/-- PERIOD (R168, R184, R297). -/
def execPeriod (ch : Fin 64) (s : State) : Host.Outcome State Fault Refusal :=
  .next (issue ch (.period ch) true (act ch .period) s)

/-! ## BRANCH (R166, R174, R178) -/

/-- A BRANCH samples its condition in T_E a (R174, R178); it consumes whatever its outcome. -/
def branchAt (ch : Fin 64) (c : Cond) (target : Target) (a : TE) (s : State) : State :=
  let v := snapshot s ch a
  let s := consumeCond ch c v a (s.updSeq ch (fun q => { q with sample := v }))
  if condHolds c v then setPc ch target s else s

/-- BRANCH that issues in T_E t: d = max(cursor, t) (R166); a cursor that has begun is sampled at once (R173). -/
def branch (ch : Fin 64) (c : Cond) (target : Target) (t : TE) (s : State) : State :=
  let a := teOf s.seq[ch].cursor
  if a ≤ t then
    let (a, s) := historyAt ch a t s
    branchAt ch c target a s
  else s.updSeq ch (fun q => { q with pstate := 3, wait := .branch c target })

/-- BRANCH (R165, R166, R178). -/
def execBranch (ch : Fin 64) (c : Cond) (target : Target) (s : State) : Host.Outcome State Fault Refusal :=
  .next (issue ch (.branch ch c target) true (branch ch c target) s)

/-- BRANCH_DECISION: the decision T_E d of a waiting BRANCH arrives: that of its cursor, or the first of a new count that has
passed it (R166, R173, R178, R187). -/
def branchDecision (ch : Fin 64) (s : State) : State :=
  match s.seq[ch].wait with
  | .branch c target =>
    let a := teOf s.seq[ch].cursor
    let s := s.reach a
    let d := max a s.time.histFrom
    let s := s.updSeq ch (fun q => { q with pstate := 2, wait := .none, nextIssue := max q.nextIssue (d + 2) })
    let (a, s) := historyAt ch a d s
    branchAt ch c target a s
  | _ => s

/-- BRANCH_DECISION (R166, R172 to R174, R178). -/
def execBranchDecision (ch : Fin 64) (s : State) : Host.Outcome State Fault Refusal := .next (branchDecision ch s)

/-! ## WAITCOND (R155, R166, R174, R177) -/

/-- WAITCOND that issues in T_E t: it evaluates from the T_E of its cursor, at most as far back as the history. -/
def waitFor (ch : Fin 64) (c : Cond) (timeout : Nat) (target : Target) (t : TE) (s : State) : State :=
  let x := s.seq[ch].cursor
  let (a, s) := historyAt ch (teOf x) t s
  s.updSeq ch (fun q => { q with pstate := 3, wait := .cond c a timeout x target })

/-- WAITCOND (R165, R173, R177). -/
def execWaitcond (ch : Fin 64) (c : Cond) (timeout : Nat) (target : Target) (s : State) :
    Host.Outcome State Fault Refusal :=
  .next (issue ch (.waitcond ch c timeout target) true (waitFor ch c timeout target) s)

/-- The first T_E from `a` on, before `stop` and not after the present, in which a condition holds (R177). -/
def firstMet (s : State) (ch : Fin 64) (c : Cond) (a : TE) (stop : Option Instant) : Option TE :=
  let a := max a (s.now - (keepTE - 1))
  (List.range (s.now + 1 - a)).map (fun k => a + k) |>.find? (fun t =>
    (match stop with | some e => decide (startOf t < e) | none => true) && condHolds c (snapshot s ch t))

/-- The instant c + T at which a WAITCOND times out; none without a timeout (R177). -/
def timeoutAt (x : Instant) (timeout : Nat) : Option Instant := if timeout = 0 then none else some (x + timeout)

/-- The later of two times of a sequencer, compared by their coarse difference (R46). -/
def laterTime (a b : Instant) : Instant := max a (nearCoarse (teOf a) b)

/-- A WAITCOND is met in T_E t (R166, R177). -/
def metAt (ch : Fin 64) (c : Cond) (t : TE) (s : State) : State :=
  let v := snapshot s ch t
  let s := consumeCond ch c v t s
  s.updSeq ch (fun q => { q with
    pstate := 2, wait := .none, sample := v, origin := startOf t, cursor := laterTime (startOf t) q.cursor,
    nextIssue := max q.nextIssue (t + 2) })

/-- WAITCOND_MET: the condition has held in some T_E by now (R177); not while the device is in HOLD (R155). -/
def waitcondMet (ch : Fin 64) (s : State) : State :=
  match s.seq[ch].wait with
  | .cond c a timeout x _ =>
    if s.dev.st == .hold then s
    else
      let s := s.settle
      match firstMet s ch c a (timeoutAt x timeout) with
      | some t => metAt ch c t s
      | none => s
  | _ => s

/-- WAITCOND_MET (R155, R166, R172, R174, R177). -/
def execWaitcondMet (ch : Fin 64) (s : State) : Host.Outcome State Fault Refusal := .next (waitcondMet ch s)

/-- WAITCOND_TIMEOUT: the T_E d that holds c + T is reached without the condition, or the first of a new count that has passed
it (R177, R187). Had it held before, it is met instead. -/
def waitcondTimeout (ch : Fin 64) (s : State) : State :=
  match s.seq[ch].wait with
  | .cond c a timeout x target =>
    match timeoutAt x timeout with
    | none => s
    | some e =>
      if s.dev.st == .hold then s
      else
        let s := s.reach (teOf e)
        match firstMet s ch c a (some e) with
        | some t => metAt ch c t s
        | none =>
          setPc ch target (s.updSeq ch (fun q => { q with
            pstate := 2, wait := .none, cursor := laterTime e q.cursor
            nextIssue := max q.nextIssue (max (teOf e) s.time.histFrom + 2) }))
  | _ => s

/-- WAITCOND_TIMEOUT (R155, R166, R177). -/
def execWaitcondTimeout (ch : Fin 64) (s : State) : Host.Outcome State Fault Refusal := .next (waitcondTimeout ch s)

/-! ## SYNC (R155, R166, R185) -/

/-- A SYNC waits (R185). -/
def syncOn (ch : Fin 64) (w : SeqWait) (s : State) : State :=
  s.updSeq ch (fun q => { q with pstate := 3, wait := w, resumeAt := none })

/-- The trigger that a waiting SYNC kind 3 takes leaves the queue; those found too early are discarded (R185). -/
def takeTrigger (ch : Fin 64) (s : State) : State :=
  match s.seq[ch].wait with
  | .trigger =>
    let s := dropStale ch s
    if s.seq[ch].trigQ.isEmpty then s
    else (s.updDelay ch (fun d => { d with accepted := d.accepted + 1 })).updSeq ch (fun q => { q with trigQ := q.trigQ.drop 1 })
  | _ => s

/-- SYNC kind 0 (R185). -/
def execSyncTide (ch : Fin 64) (m : Nat) (s : State) : Host.Outcome State Fault Refusal :=
  .next (issue ch (.syncTide ch m) true (fun _ s => syncOn ch (.tide m) s) s)
/-- SYNC kind 1 (R185). -/
def execSyncFront (ch : Fin 64) (mask : W16) (s : State) : Host.Outcome State Fault Refusal :=
  .next (issue ch (.syncFront ch mask) true (fun _ s => syncOn ch (.front mask) s) s)
/-- SYNC kind 2 (R185). -/
def execSyncGust (ch : Fin 64) (mask : W16) (s : State) : Host.Outcome State Fault Refusal :=
  .next (issue ch (.syncGust ch mask) true (fun _ s => syncOn ch (.gust mask) s) s)
/-- SYNC kind 3 (R185). -/
def execSyncTrigger (ch : Fin 64) (s : State) : Host.Outcome State Fault Refusal :=
  .next (issue ch (.syncTrigger ch) true (fun _ s => dropStale ch (syncOn ch .trigger s)) s)

/-- The earliest of some (instant, visibility) pairs by visibility. -/
def earliestVis : List (Instant × Instant) → Option (Instant × Instant)
  | [] => none
  | p :: rest => match earliestVis rest with
    | some q => if q.2 < p.2 then some q else some p
    | none => some p

/-- The first Tide from Tide n on whose number is a multiple of m; the number goes from 2^64 − 1 to 0 (R49). -/
def multipleTide (m n : Nat) : Nat :=
  let w := n % 2 ^ 64
  n - w + min ((w + (max m 1 - 1)) / max m 1 * max m 1) (2 ^ 64)

/-- The first Tide boundary whose number is a multiple of m with visibility at or after `x` and not taken (R185); one that lies before
T_E `a`, the first of the count since the last set, never fell (R50, R187). -/
def tideEvent (q : Sequencer) (m : Nat) (a : TE) (x : Instant) : Instant × Instant :=
  let n := multipleTide m ((max (teCeil x + 6) a + (tideLen - 1)) / tideLen)
  let event (n : Nat) : Instant × Instant := (startOf (n * tideLen), startOf (n * tideLen) - sixTE)
  if q.taken.contains (0, (event n).2) then event (multipleTide m (n + 1)) else event n

/-- The Gusts a SYNC kind 2 can see: those executed, and a candidate whose contest is closed (R185, R356). -/
def State.gustInstants (s : State) (mask : W16) : List Instant :=
  (s.fab.gustRuns.filter (fun e => bit mask.toNat e.2.1.val)).map (fun e => e.1)
    ++ s.closedGusts mask

/-- The event a waiting SYNC takes: SYNC kind, instant, visibility (R185). -/
def syncEvent (s : State) (ch : Fin 64) : Option (Nat × Instant × Instant) :=
  let q := s.seq[ch]
  let x := nearCoarse s.now q.syncFrom
  let pick (k : Nat) (l : List (Instant × Instant)) : Option (Nat × Instant × Instant) :=
    match earliestVis (l.filter (fun p => decide (x ≤ p.2) && !q.taken.contains (k, p.2))) with
    | some p => some (k, p.1, p.2)
    | none => none
  match q.wait with
  | .tide m => let e := tideEvent q m s.time.histFrom x; some (0, e.1, e.2)
  | .front mask =>
    pick 1 ((s.fab.fronts.filter (fun f => f.2 &&& mask != 0)).map (fun f => (startOf f.1, startOf f.1)))
  | .gust mask => pick 2 ((s.gustInstants mask).map (fun g => (g, g - sixTE)))
  | .trigger => match q.trigQ.filter (fun t => x ≤ s.triggerVis ch t) with
    | t :: _ => some (3, t, s.triggerVis ch t)
    | [] => none
  | _ => none

/-- SYNC_COMPLETE: the waiting SYNC takes its qualifying event (R185): origin = instant, cursor = visibility v, d = max(v,
issue); not while the device is in HOLD (R155). -/
def syncComplete (ch : Fin 64) (s : State) : State :=
  if s.dev.st == .hold then s
  else
    match syncEvent s ch with
    | none => takeTrigger ch s
    | some (k, inst, v) =>
      let s := takeTrigger ch (s.reach (teOf v))
      s.updSeq ch (fun q => { q with
        pstate := 2, wait := .none, origin := inst, cursor := v, taken := (k, v) :: q.taken,
        nextIssue := max q.nextIssue (teOf v + 2), resumeAt := none })

/-- SYNC_COMPLETE (R155, R166, R185). -/
def execSyncComplete (ch : Fin 64) (s : State) : Host.Outcome State Fault Refusal := .next (syncComplete ch s)

/-! ## Starts (R154, R155) -/

/-- An admitted program starts at boundary b (R154). -/
def startProgram (b : TE) (ch : Fin 64) (s : State) : State :=
  let i := seqIdx ch
  let e := s.nat i 1
  let s := setProgrammed ch b .low s
  let s := s.updSeq ch (fun q => { q with
    pstate := 2, pc := targetOf e, cursor := startOf (b + 16), origin := startOf (b + 16),
    regs := Vector.ofFn (fun r => BitVec.ofNat 32 (s.nat i (7 + r.val))), trigQ := [], wait := .none, actions := [],
    nextIssue := b, started := b, resumeAt := none, taken := [], pendHints := [], parkAt := none })
  clearBits ch ((List.range 64).filter isLatched) b s

/-- A waiting SYNC or WAITCOND after RESUME at boundary b (R155). -/
def resumeProgram (b : TE) (ch : Fin 64) (s : State) : State :=
  s.updSeq ch (fun q => match q.wait with
    | .cond c a t x target => { q with wait := .cond c (max a b) t (max x (startOf b)) target }
    | .tide _ => { q with resumeAt := some b }
    | .front _ => { q with resumeAt := some b }
    | .gust _ => { q with resumeAt := some b }
    | .trigger => { q with resumeAt := some b }
    | _ => q)

end Sys2Proof.Machine
end

