-- ==== Sys2Proof/Machine/TimeSet.lean ====
section
/-!
DEFINITION. A set of ZTIME (R41): everything the rules that look at a set do (R50, R62, R173, R187, R219, R248, R289, R414,
R504). Records of past instants move with the count, so that elapsed time is kept; targets keep their values.
-/
namespace Sys2Proof.Machine

/-- A T_E moved by the change of the count. -/
def moveTE (d : Int) (a : TE) : TE := ((a : Int) + d).toNat
/-- An instant moved by the change of the count. -/
def moveAt (d : Int) (x : Instant) : Instant := ((x : Int) + d * fuPerTE).toNat
/-- A trace moved by the change of the count. -/
def moveTrace {α : Type} (d : Int) (t : Trace α) : Trace α := t.map (fun e => (moveTE d e.1, e.2))

/-- A sequencer at a set (R46, R173, R187): cursor, origin, targets and waits for times keep their coarse values and are
compared with the new count. Events that have been met move with the count. -/
def Sequencer.timeSet (q : Sequencer) (old new : TE) (d : Int) : Sequencer :=
  { q with
    cursor := nearCoarse new q.cursor
    origin := nearCoarse new q.origin
    actions := q.actions.map (fun a => (nearCoarse new a.1, a.2))
    trigQ := q.trigQ.map (moveAt d)
    cleared := q.cleared.map (fun e => (e.1, moveTE d e.2))
    nextIssue := moveTE d q.nextIssue
    started := moveTE d q.started
    resumeAt := q.resumeAt.map (moveTE d)
    parkAt := q.parkAt.map (moveAt d)
    taken := q.taken.map (fun e => (e.1, moveAt d e.2))
    lastCycle := none
    wait := match q.wait with
      | .cond c f n x t =>
        .cond c (if f ≤ old then new else max (teOf (nearCoarse new (startOf f))) new) n (nearCoarse new x) t
      | .repair t a => .repair t (moveTE d a)
      | w => w }

/-- A driver at a set (R226, R228): what it counts in elapsed time runs on; tags keep their values (R219). A FAULT that has not
ended yet ends at a tick of the new count. -/
def Driver.timeSet (v : Driver) (old : TE) (d : Int) : Driver :=
  let ended := v.releaseAt.any (fun x => decide (tickFrom x < old))
  { v with
    queue := v.queue.map (fun e => { e with at_ := moveTE d e.at_ })
    ranging := v.ranging.map (fun p => (moveTE d p.1, moveTE d p.2))
    fault := if ended then none else v.fault.map (moveTE d)
    releaseAt := if ended then none else v.releaseAt.map (moveTE d)
    roomAt := moveTE d v.roomAt }

/-- A monitor at a set (R289: sample ticks follow the new count). -/
def Monitor.timeSet (m : Monitor) (d : Int) : Monitor :=
  { m with
    hist := moveTrace d m.hist
    rawHist := moveTrace d m.rawHist
    due := m.due.map (fun e => (moveTE d e.1, e.2))
    blank := m.blank.map (moveAt d)
    sampled := none
    phase := match m.phase with
      | .settling u => .settling (moveTE d u)
      | .selfCheck k u => .selfCheck k (moveTE d u)
      | p => p }

/-- Something due at a set: it stays as far off. An edge whose ZTIME begins the next T_E is stamped under the new count. -/
def LineDue.timeSet (d : Int) (p : TE × LineDue) : TE × LineDue :=
  (moveTE d p.1, match p.2 with 
    | .edge i rising x taps => .edge i rising (moveAt d x) taps
    | .interval g m h v tmo => .interval g { m with close := moveAt d m.close } h v tmo
    | e => e)

/-- A crossbar at a set. -/
def Crossbar.timeSet (x : Crossbar) (d : Int) : Crossbar :=
  { x with
    signals := x.signals.map (moveTrace d)
    matched := x.matched.map (fun l => l.map (moveTE d))
    stamps := x.stamps.map (fun e => (moveTE d e.1, e.2))
    ready := x.ready.map (fun e => (moveTE d e.1, e.2)) }

/-- A capture engine at a set: the capture continues (R323); frames follow the new count (R203). -/
def Capture.timeSet (c : Capture) (d : Int) : Capture :=
  { c with
    armAt := c.armAt.map (moveTE d)
    fire := c.fire.map (fun f => { f with f := moveTE d f.f })
    freezeAt := c.freezeAt.map (moveTE d)
    written := c.written.map (fun e => { e with since := moveTE d e.since })
    slotAt := none }

/-- A local store at a set: uses and requests keep their elapsed time (R194, R212); frames of the slot tables follow the new
count (R203). -/
def Store.timeSet (t : Store) (d : Int) : Store :=
  let move (f : Fetch) : Fetch := { f with asked := moveTE d f.asked, used := moveTE d f.used }
  { t with
    frames := t.frames.map (fun f => { f with used := moveTE d f.used })
    hints := t.hints.map move, work := t.work.map move, statAt := none, egressAt := none }

/-- A stamp input at a set: dead time and blanking run on (R236, R238). -/
def StampInput.timeSet (u : StampInput) (d : Int) : StampInput :=
  { u with
    dead := moveAt d u.dead
    blankUntil := moveTE d u.blankUntil
    lastOut := u.lastOut.map (moveTE d)
    gate := moveTrace d u.gate
    cal := { u.cal with calSince := moveTE d u.cal.calSince } }

/-- A group at a set (R248): the open measurement is abandoned elsewhere; t_c is forgotten; timeouts of windows that have closed
run on. -/
def Group.timeSet (q : Group) (d : Int) : Group :=
  { q with
    tc := none, cut := 0, closing := q.closing.map (fun m => { m with close := moveAt d m.close }), readySet := q.readySet.map (moveTE d), passHist := moveTrace d q.passHist }

/-- The delay-mode logic at a set to T_E `new`: the hold-off and triggers on their way run on in elapsed time; sequences keep
the coarse values of their edges (R504). -/
def Delay.timeSet (v : Delay) (new : TE) (d : Int) : Delay :=
  { v with
    lastAcc := v.lastAcc.map (moveAt d), lastCycle := none, transit := v.transit.map (moveAt d)
    ahead := v.ahead.map (fun p => (p.1, moveAt d p.2))
    pending := v.pending.map (Sequence.timeSet new) }

/-- A cluster's Drizzle at a set: steps and sweeps keep their distance in Tides (R269). -/
def Drizzle.timeSet (z : Drizzle) (d tides : Int) : Drizzle :=
  { z with
    stepFrom := moveTE tides z.stepFrom, sweepFrom := moveTE tides z.sweepFrom
    slices := z.slices.map (fun c => { c with calSince := moveTE d c.calSince }) }

/-! ## The Tide averages (R109, R110) -/

/-- The kind a CSU state gives the Tide in progress (R109). -/
def Csu.kindNow (c : Csu) : TideKind :=
  if c.st.isLocked then .locked else if c.st = .bypass then .bypass c.bypLocked else .mixed

/-- Two parts of one Tide (R109). -/
def TideKind.join (a b : TideKind) : TideKind :=
  match a, b with
  | .locked, .locked => .locked
  | .bypass x, .bypass y => .bypass (x && y)
  | _, _ => .mixed

/-- The kind of the Tide in progress takes the CSU's present state in. -/
def noteKind (c : Csu) : Csu :=
  { c with hold := { c.hold with tideKind := some (match c.hold.tideKind with
      | some k => k.join c.kindNow
      | none => c.kindNow) } }

/-- One more Tide has ended, with its average and its kind: ten are kept, and a Tide of BYPASS locked on BYPCLK counts for
source 3 once two younger ones lie behind it (R109, R110). -/
def HoldDac.push (h : HoldDac) (code : Nat) (temp : Int) (kind : TideKind) : HoldDac :=
  let h := { h with avgs := ((TideAvg.mk code temp kind) :: h.avgs).take 10, tideKind := none }
  match h.avgs[2]? with
  | some t => match t.kind with
    | .bypass true => { h with bypSum := h.bypSum + t.code, bypTemp := h.bypTemp + t.temp, bypCount := h.bypCount + 1 }
    | _ => h
  | none => h

/-- A Tide that a set of ZTIME ends counts as one Tide (R110); its averages are free values. A set on a boundary that has been
served ends none. -/
def tideCutShort (s : State) : State :=
  if s.time.lastTide = some s.now then s
  else
    let (k, s) := s.fresh
    let c := noteKind s.csu
    { s with csu := { c with
      hold := c.hold.push (Config.tideCode k % 2 ^ 28) (Config.tideTemp k) (c.hold.tideKind.getD .mixed) } }

/-- The CSU at a set: durations run on; a named action time keeps its value. -/
def Csu.timeSet (c : Csu) (d : Int) : Csu :=
  { c with
    since := moveTE d c.since
    presentFrom := moveTE d c.presentFrom
    returnFrom := moveTE d c.returnFrom
    lullStart := c.lullStart.map (moveTE d)
    align := c.align.map (fun a => { a with
      accepted := moveTE d a.accepted, deadline := moveTE d a.deadline
      mark := a.mark.map (fun e => (moveAt d e.1, e.2)) })
    action := match c.action with | .slewing a r f => .slewing (moveTE d a) r f | a => a }

/-- A clock output at a set: its edges keep their elapsed time. -/
def ClkOut.timeSet (o : ClkOut) (d : Int) : ClkOut := { o with edge0 := o.edge0.map (moveAt d), fall := moveAt d o.fall }

/-- Pending sets at a set of ZTIME (R414): the next set (up to Tide u) and every set up to the first boundary of the new
count, Tide n, are applied together there. -/
def Commits.timeSet (c : Commits) (u n : Nat) : Commits :=
  let now := c.sets.filter (fun p => p.1 ≤ max u n)
  let later := c.sets.filter (fun p => max u n < p.1)
  { c with
    sets := if now.isEmpty then later
      else (n, now.flatMap (fun p => p.2.map (fun e => { e with moved := e.moved || p.1 != n }))) :: later
    restart := c.restart.map (fun p => (p.1, n * tideLen))
    moved := c.moved || c.restart.any (fun p => p.2 != n * tideLen) }

/-- Commands at a set of ZTIME (R414): the pending one takes the first boundary of the new count; a scheduled one whose
Tide has been passed is dropped with 491 kind 3. -/
def commandsSet (n : Nat) (s : State) : State :=
  let s := match s.dev.pendCmd with
    | some (c, b) => { s with
        dev := { s.dev with pendCmd := some (c, n * tideLen), pendMoved := s.dev.pendMoved || b != n * tideLen } }
    | none => s
  match s.dev.sched with
  | some (c, t) =>
    if tideNamed s.now t.toNat < n then
      { s with dev := { s.dev with sched := none } }.raise 491 (3 + c.toNat * 2 ^ 4 + 0x1300 * 2 ^ 16)
    else s
  | none => s

/-- A port at a set (R335, R344): the frames of the ended Tide leave the sums, measured arrivals move with the count. -/
def Port.atSet (p : Port) (new : TE) (d : Int) : Port :=
  { p with
    sumRtt := 0, sumDiff := 0, frames := 0
    arrived := p.arrived.map (fun e => (e.1, moveAt d e.2))
    out := { p.out with frame := p.out.frame.map (moveTE d), countSet := some new } }

/-- The timers of KPP, commits and fabric at a set run on. -/
def timersSet (new : TE) (d : Int) (s : State) : State :=
  { s with
    commits := { s.commits with
      held := s.commits.held.map (fun h => { h with touched := moveTE d h.touched }) }
    kpp := { s.kpp with
      memory := s.kpp.memory.map (fun m => { m with at_ := moveTE d m.at_ })
      readSegs := s.kpp.readSegs.map (fun m => { m with at_ := moveTE d m.at_ })
      writeSegs := s.kpp.writeSegs.map (fun m => { m with at_ := moveTE d m.at_ })
      subs := s.kpp.subs.map (fun m => { m with renewed := moveTE d m.renewed }) }
    port := s.port.map (fun p => p.atSet new d)
    fab := { s.fab with
      txBase := moveTE d s.fab.txBase
      leases := s.fab.leases.map (fun l => { l with ends := moveTE d l.ends })
      gustRuns := s.fab.gustRuns.map (fun g => (moveAt d g.1, g.2))
      fronts := s.fab.fronts.map (fun f => (moveTE d f.1, f.2))
      outstanding := s.fab.outstanding.map (fun o => (o.1, o.2.1, o.2.2.1, moveTE d o.2.2.2)) }
    dev := { s.dev with resetAt := s.dev.resetAt.map (moveTE d) }
    boot := { s.boot with fabricAlign := s.boot.fabricAlign.map (moveTE d) } }

/-- Waiting actions whose cursor the new count has passed take place at once and are late (R168, R187). -/
def passedActions (ch : Fin 64) (s : State) : State :=
  let q := s.seq[ch]
  let gone (a : Instant × SeqAction) : Bool := decide (teOf a.1 < s.now)
  each (q.actions.filter gone) (fun a t => doAction ch a.1 t.nowAt true a.2 (countLate ch t))
    (s.updSeq ch (fun q => { q with actions := q.actions.filter (fun a => !gone a) }))

/-- Measurements of every group are abandoned, stops stamped before the set belong to none (R248). -/
def abandonMeasurements (s : State) : State :=
  each s.units8 (fun g t => emptyPool g t.now (abandonMeasurement t.nowAt g t))
    (each s.units8 (judgeGroup (startOf (s.now + 2))) s)

/-- A STEP as a set (R41, R121): the count does not jump and no boundary moves. Measurements are abandoned, streams get an anchor
of cause 3; pending sets and commands take the next boundary (R414). -/
def stepAsSet (s : State) : State :=
  let s := abandonMeasurements s.settle
  let first := tideOf s.nextBoundary
  commandsSet first (anchorAll 3 s.nowAt { s with
    grp := s.grp.map (fun q => { q with tc := none })
    port := s.port.map (fun p => { p with out := { p.out with countSet := some s.now } })
    commits := s.commits.timeSet s.nextTide first })

/-- ZTIME and the epoch are set at the start of the present T_E by ALIGN (anchor cause 2) or by time transfer (cause 4):
the present T_E becomes `new` (R41, R50, R62). -/
def setTime (cause : Nat) (new : TE) (s : State) : State :=
  let new := turnsOf s.now + new % countMod
  let s := tideCutShort (abandonMeasurements (drainTriggers s.nowAt s.settle))
  let old := s.now
  let d : Int := new - old
  let tides : Int := (tideOf new : Int) - tideOf old
  let u := s.nextTide
  let first := (new + (tideLen - 1)) / tideLen
  let s := s.endTideAt (tideWord (old - 1))
  let s := timersSet new d { s with
    time := { s.time with
      count := new, lastTide := none, lastTick := none, marked := moveAt d s.time.marked
      flagged := moveTrace d s.time.flagged, histFrom := new }
    csu := s.csu.timeSet d
    clkout := s.clkout.map (fun o => o.timeSet d)
    edge := s.edge.map (fun g => g.timeSet new d)
    delay := s.delay.map (fun v => v.timeSet new d)
    seq := s.seq.map (fun q => q.timeSet old new d)
    drv := s.drv.map (fun v => v.timeSet old d)
    trip := s.trip.map (fun t => { t with setAt := moveTE d t.setAt })
    store := s.store.map (fun t => t.timeSet d)
    sti := s.sti.map (fun u => u.timeSet d)
    grp := s.grp.map (fun q => q.timeSet d)
    stat := s.stat.map (fun r => { r with since := moveTE d r.since, earlyAt := moveTE d r.earlyAt })
    line := s.line.map (LineDue.timeSet d)
    mon := s.mon.map (fun m => m.timeSet d)
    xbar := s.xbar.map (fun x => x.timeSet d)
    trig := s.trig.map (fun t => { t with
      evaluated := none, applied := t.applied.map (moveTE d), words := t.words.map (moveTrace d) })
    cap := s.cap.map (fun c => c.timeSet d)
    drz := s.drz.map (fun z => z.timeSet d tides)
    pins := { s.pins with ext := s.pins.ext.map (moveTrace d) }
    persist := { s.persist with
      idleTide := moveTE tides s.persist.idleTide, lastAppend := moveTE tides s.persist.lastAppend
      appendEnd := moveTE d s.persist.appendEnd }
    health := { s.health with passFrom := moveTE d s.health.passFrom, hourAt := none }
    merger := { s.merger with
      open_ := s.merger.open_.map (fun e => { e with at_ := moveAt d e.at_ })
      sums := s.merger.sums.map (fun u => { u with at_ := moveAt d u.at_ })
      ended := s.merger.ended.map (fun b => { b with at_ := moveTE d b.at_ }) }
    own := s.own.map (fun p => (p.1, { p.2 with changed := p.2.changed.map (moveTE d) }))
    ring := { s.ring with since := 0 } }
  let s := each s.channels passedActions s
  let s := each s.channels (releaseAhead s.nextBoundary) { s with commits := s.commits.timeSet u first }
  commandsSet first (anchorAll cause (startOf new) { s with commits := { s.commits with priorEnd := 0 } })

end Sys2Proof.Machine
end

