-- ==== Sys2Proof/Machine/Clock.lean ====
section
/-!
DEFINITION. Clock synthesis and alignment (spec 03, R73 to R105; spec 04, R107 to R113 where leaving the locked states is
shared).
-/
namespace Sys2Proof.Machine

/-! ## Frequencies (R53, R73) -/

/-- Twice f_root in Hz, a whole number (R73): N × P × f_ref; the prescaler code is 0 = ÷2, 1 = ×1, 2 = ×2. -/
def CsuConfig.rootTwice (c : CsuConfig) : Nat :=
  match c.presc with | 0 => c.n * c.fref | 1 => 2 * (c.n * c.fref) | _ => 4 * (c.n * c.fref)

/-- f_root in whole Hz (R53, R73; log entry 99). -/
def CsuConfig.rootHz (c : CsuConfig) : Nat := c.rootTwice / 2

/-- One reference period P_ref in fu (R118): R_ref × 400. -/
def CsuConfig.pref (c : CsuConfig) : Nat := match c.presc with | 0 => c.n * 200 | 1 => c.n * 400 | _ => c.n * 800

/-- Every limit of R73 holds. -/
def CsuConfig.valid (c : CsuConfig) : Bool :=
  let pOk := match c.presc with
    | 0 => decide (20000000 ≤ c.fref) && decide (c.fref ≤ 500000000)
    | 1 => decide (10000000 ≤ c.fref) && decide (c.fref ≤ 250000000)
    | _ => decide (10000000 ≤ c.fref) && decide (c.fref ≤ 125000000)
  let twice := match c.presc with | 0 => c.n | 1 => 2 * c.n | _ => 4 * c.n   -- 2 × N × P
  pOk && decide (36 ≤ c.n) && decide (c.n ≤ 1100)
    && decide (2 * 9000000000 ≤ twice * c.fref) && decide (twice * c.fref ≤ 2 * 11000000000)
    && (c.src = 0 || twice = 80)

/-- The staged configuration of 0x2000 (R74). -/
def stagedCsu (o : Settings) : CsuConfig where
  src := o.nat 0x2000 1
  fref := o.nat 0x2000 2
  presc := o.nat 0x2000 3
  n := o.nat 0x2000 4
  icp := o.nat 0x2000 5
  rz := o.nat 0x2000 6
  c2 := o.nat 0x2000 7
  win := o.nat 0x2000 8
  qtime := o.nat 0x2000 9
  mode := o.nat 0x2000 0x0A

/-- The port an upstream reference comes from (R73, R338). -/
def State.upPort (s : State) : Option (Fin 8) :=
  let k := s.csu.act.src
  if h : 1 ≤ k ∧ k ≤ 8 then some ⟨k - 1, by omega⟩ else none

/-! ## Loop and loop filter (R80, R81) -/

/-- 2^(k/3) in units of 10^-24. -/
def cubeRoot2Pow (k : Nat) : Nat :=
  2 ^ (k / 3) * match k % 3 with
    | 0 => 1000000000000000000000000 | 1 => 1259921049894873164767211 | _ => 1587401051968199474751706

/-- π in units of 10^-24. -/
abbrev piScaled : Nat := 3141592653589793238462643

/-- The charge-pump current of a code in µA (R80): 0.1 mA × 2^(k/3), to the nearest. -/
def chargePumpMicroAmps (k : Nat) : Nat := (roundDiv (100 * cubeRoot2Pow k) 1000000000000000000000000).toNat

/-- The series resistor of a code in Ω (R80). -/
def seriesOhms (k : Nat) : Nat := 125 * 2 ^ k

/-- The shunt capacitor of a code in pF (R80). -/
def shuntPicofarads (k : Nat) : Nat := 10 + 20 * k

/-- f_c in Hz, rounded down (R81): 0.1 mA × 2^(k/3) × R_Z × K_VCO / (2π × N), with K_VCO in kHz/V. -/
def loopBandwidth (kvco icp rz n : Nat) : Nat := cubeRoot2Pow icp * seriesOhms rz * kvco / (20 * piScaled * n)

/-- f_p in Hz, rounded down (R81). -/
def poleHz (rz c2 : Nat) : Nat :=
  10 ^ 12 * 1000000000000000000000000 / (2 * piScaled * seriesOhms rz * shuntPicofarads c2)

/-- f_z in Hz, rounded down (R81), for the C1 that the board fits, in pF. -/
def zeroHz (rz c1 : Nat) : Nat := 10 ^ 12 * 1000000000000000000000000 / (2 * piScaled * seriesOhms rz * c1)

/-- The value of 0x2003:07 (R82, R87). -/
def State.bandwidthHz (s : State) : Nat :=
  let c := s.csu
  let k := c.kvco.toNat
  loopBandwidth k c.act.icp c.act.rz c.act.n + if k ≠ 0 ∧ Config.bandwidthUp k c.act.icp c.act.rz c.act.n then 1 else 0

/-! ## The factory tuning word (R113, R448) -/

/-- The hold code that a band's line gives for a root in half hertz, as (numerator, denominator): the line through the band's
two points, rising or falling, extended (R448). Two equal points give none. -/
def bandCode (b : List Byte) (band root2 : Nat) : Option (Int × Nat) :=
  let f1 : Int := field b (8 * band) 4
  let f2 : Int := field b (8 * band + 4) 4
  if f2 = f1 then none
  else
    let den := 2000 * (f2 - f1)
    let num := 67108864 * den + ((root2 : Int) - 2000 * f1) * 134217728
    some (if den < 0 then -num else num, den.natAbs)

/-- The nearer to the centre of two bands' lines; the first at equal distance. -/
def nearerBand (a b : Int × Nat) : Int × Nat :=
  let d (x : Int × Nat) : Nat := (x.1 - 134217728 * x.2).natAbs
  if d b * a.2 < d a * b.2 then b else a

/-- The factory tuning word for a target root in half hertz (R448); without a factory tuning section the band centre (R113). -/
def factoryWord (tuning : Option (List Byte)) (root2 : Nat) : Nat :=
  match tuning with
  | none => 134217728
  | some b =>
    match (List.range 64).filterMap (fun k => bandCode b k root2) with
    | [] => 134217728
    | x :: rest => let y := rest.foldl nearerBand x; (clampInt 0 268435455 (roundDiv y.1 y.2)).toNat

/-! ## States and the Lull flag (R86, R108) -/

/-- The CSU states of the first condition of R108. -/
def CsuSt.flagged : CsuSt → Bool
  | .freerun => true | .acquire => true | .lull => true | .ret => true | .bypass => true | _ => false

/-- Whether records carry the Lull flag now (R108). -/
def State.flagNow (s : State) : Bool :=
  s.csu.st.flagged || match s.upPort with | some p => s.port[p].timeLull | none => false

/-- The Lull flag follows the CSU and the time words from the present T_E on (R108). -/
def refreshFlag (s : State) : State :=
  { s with time := { s.time with flagged := tracePut false s.time.flagged s.now s.flagNow } }

/-- At the start of ACQUIRE a band is selected and its K_VCO measured (R82): free values within the bounds of the rule. -/
def selectBand (s : State) : State :=
  let (k, s) := s.fresh
  { s with csu := { s.csu with
    band := Config.vcoBand k % 64, kvco := BitVec.ofNat 32 (120000 + Config.vcoGain k % 60001) } }

/-- The CSU enters a state in the present T_E (R86). A Lull ends on entry into LOCKED or FREERUN (R506). -/
def enterCsu (st : CsuSt) (s : State) : State :=
  let s := if st = .acquire then selectBand s else s
  let c := noteKind s.csu
  let c := { c with
    st := st, since := s.now, bypLocked := false, returnFrom := s.now
    run := if c.st.isLocked && st.isLocked then c.run else 0 }
  let c := match c.lullStart, st with
    | some a, .locked => { c with lullStart := none, lullLen := s.now - a }
    | some a, .freerun => { c with lullStart := none, lullLen := s.now - a }
    | _, _ => c
  let c := match st with
    | .freerun => { c with noBypass := false, hold := { c.hold with code := c.hold.factory } }
    | _ => c
  refreshFlag { s with csu := noteKind c }

/-! ## Hold values (R110) -/

/-- The mean of a list of averages: code and temperature, rounded. -/
def meanAvg (l : List TideAvg) : Nat × Int :=
  ((roundDiv (l.foldl (fun a t => a + (t.code : Int)) 0) l.length).toNat,
   roundDiv (l.foldl (fun a t => a + t.temp) 0) l.length)

/-- Source 1 (R110): Tides n−10 to n−3 all wholly in the locked states. The newest average is that of Tide n−1. -/
def HoldDac.window (h : HoldDac) : Option (Nat × Int) :=
  let l := (h.avgs.drop 2).take 8
  if l.length = 8 ∧ l.all (fun t => t.kind = .locked) then some (meanAvg l) else none

/-- Sources 1 and 2, on leaving a locked state: value, T_w, source. -/
def HoldDac.fromLocked (h : HoldDac) : Option (Nat × Int × Nat) :=
  match h.window with
  | some (v, t) => some (v, t, 0)
  | none => h.full.map (fun p => (p.1, p.2, 1))

/-- Source 3, on leaving BYPASS. -/
def HoldDac.fromBypass (h : HoldDac) (temp : Int) : Option (Nat × Int) :=
  if 0 < h.bypCount then some ((roundDiv h.bypSum h.bypCount).toNat, roundDiv h.bypTemp h.bypCount)
  else match h.avgs.find? (fun t => match t.kind with | .bypass _ => true | _ => false) with
    | some t => some (t.code, t.temp)
    | none => h.bypEntry.map (fun c => (c, temp))

/-- The hold DAC takes a hold value (R111). -/
def HoldDac.take (h : HoldDac) (v : Nat) (tw : Int) (src : Nat) : HoldDac :=
  { h with code := v, value := v, tw := tw, src := src, full := if src = 0 then some (v, tw) else h.full }

/-- Event 482 (R126): the temperature model is in use in LULL (R112). -/
def lullEvent (cause src : Nat) (s : State) : State :=
  s.raise 482 (cause + src * 16 + if s.csu.st == .lull && s.csu.hold.model != 0 then 64 else 0)

/-! ## Phase offset Δ and its actions (R118 to R122) -/

/-- fu that a slew of `code` × 0.1 ppm has removed after n T_E (R120): 3.2 × 10^−4 × code fu per T_E. -/
def slewMoved (code n : Nat) : Nat := code * n * 32 / 100000

/-- Δ in the present T_E (0x2006:01): a slew that runs has removed its part. -/
def State.deltaNow (s : State) : Int :=
  match s.csu.action with
  | .slewing a code d => d - d.sign * (min (slewMoved code (s.now - a)) d.natAbs : Nat)
  | _ => s.csu.delta

/-- Event 484 (R126). -/
def phaseEvent (kind : Nat) (s : State) : State :=
  s.raise 484 (kind + signedCode 24 (clampInt (-8388607) 8388607 s.deltaNow) * 2 ^ 8)

/-- An action stops; Δ keeps what remains (R122). -/
def stopAction (s : State) : State := { s with csu := { s.csu with delta := s.deltaNow, action := .none } }

/-- A pending or running action is cancelled with 484 kind 4 (R122). -/
def cancelAction (s : State) : State :=
  match s.csu.action with
  | .none => s
  | _ => phaseEvent 4 (stopAction s)

/-- A loss cancels a slew that runs and a scheduled step (R122). -/
def lossCancels (s : State) : State :=
  match s.csu.action with
  | .slewing _ _ _ => cancelAction s
  | .stepAt _ => cancelAction s
  | _ => s

/-! ## Start-up stage 6 (R434, R435) -/

/-- Stage 5 of start-up is over: raw calibration begins, or IDLE follows at the next boundary (R434, R263). -/
def stageSix (s : State) : State :=
  if s.dev.st = .load ∧ !s.boot.alignDone then
    let s := { s with boot := { s.boot with alignDone := true, calStage := s.on 0x7F70 1 } }
    if s.boot.calStage then startRaw 1 20 s else s
  else s

/-- R89's rule on the preset: with marker source 0 or 1 the fine field of 0x2202:01 is 0. -/
def State.presetOk (s : State) : Bool := s.nat 0x2002 1 == 2 || s.nat 0x2202 1 % 4096 == 0

/-- The start-up ALIGN of LOAD is to be made (R98, R436): R89 but for its device-state condition holds for it. -/
def State.startUpAligns (s : State) : Bool := s.on 0x2002 3 && s.nat 0x2002 1 != 2 && s.presetOk

/-! ## Clock outputs (R99 to R104) -/

/-- A fine delay moves towards its new value by at most 4 fu per output period (R102): the delay `periods` later. -/
def fineAfter (from_ to_ periods : Nat) : Nat :=
  if from_ ≤ to_ then min to_ (from_ + 4 * periods) else max to_ (from_ - 4 * periods)

/-- One period of output n in fu (R100). -/
def ClkOut.period (o : ClkOut) : Nat := 400 * o.div

/-- Rising edge j at the ball, counted from `e0` = `edge0` (R100, R102): the fine delay has moved on by one step an edge. -/
def ClkOut.rising (o : ClkOut) (e0 : Instant) (j : Nat) : Instant := e0 + j * o.period + fineAfter o.fine o.slewTo (j + 1)

/-- How many rising edges from `e0` on come before instant x. -/
def ClkOut.risen (o : ClkOut) (e0 x : Instant) : Nat :=
  if x ≤ e0 then 0
  else
    let k := (x - e0) / o.period
    if o.rising e0 k < x then k + 1 else k

/-- The end of the last high phase begun before x (R100: half a period, whatever the divider). -/
def ClkOut.highTo (o : ClkOut) (x : Instant) : Instant :=
  match o.edge0 with
  | none => o.fall
  | some e0 => match o.risen e0 x with | 0 => o.fall | j + 1 => o.rising e0 j + o.period / 2

/-- The fine delay that the edges before x have reached. -/
def ClkOut.fineReached (o : ClkOut) (e0 x : Instant) : Nat :=
  match o.risen e0 x with | 0 => o.fine | j => fineAfter o.fine o.slewTo j

/-- The output stops at x (R101, R103): a high phase begun before is completed. -/
def ClkOut.stop (o : ClkOut) (x : Instant) : ClkOut := { o with fall := o.highTo x, edge0 := none, fresh := false }

/-- The output starts at boundary x (R100, R101) with the divider and the delays given: at the first rising edge of the grid that
`base` belongs to, at or after x. -/
def ClkOut.start (o : ClkOut) (x base : Instant) (div coarse fine : Nat) : ClkOut :=
  let y := x - fine
  { o with
    div := div, coarse := coarse, fine := fine, slewTo := fine, fresh := true
    edge0 := some (y + (((base : Int) - y) % (400 * div : Nat)).toNat) }

/-- New delays at boundary x (R102): one low phase lasts (c′ − c) mod D root periods longer, the fine delay sets out. -/
def ClkOut.delays (o : ClkOut) (x : Instant) (coarse fine : Nat) : ClkOut :=
  match o.edge0 with
  | none => { o with coarse := coarse, fine := fine, slewTo := fine }
  | some e0 =>
    let j := o.risen e0 x
    { o with
      fall := o.highTo x, fresh := o.fresh && j == 0
      edge0 := some (e0 + j * o.period + (coarse + o.div - o.coarse) % o.div * 400)
      fine := o.fineReached e0 x, coarse := coarse, slewTo := fine }

/-- The divider restarts at the marked edge x on the grid of `base` (R92, R100): the phase in progress is lengthened. -/
def ClkOut.restart (o : ClkOut) (x base : Instant) : ClkOut :=
  match o.edge0 with
  | none => o
  | some e0 =>
    let j := o.risen e0 x
    let next := e0 + j * o.period
    let hold := (((base : Int) - next) % (o.period : Int)).toNat
    let high := o.highTo x
    { o with
      edge0 := some (next + hold), fall := if x < high then high + hold else high
      fine := o.fineReached e0 x, fresh := o.fresh && j == 0 }

/-- An instant of the grid of output n at a coarse delay, the fine delay left out (R100). -/
def State.clkBase (s : State) (n : Fin 8) (coarse : Nat) : Instant :=
  s.time.marked + coarse * 400 + (Config.pathOffset n.val).toNat

/-- The rising edge k of output n crosses its ball at this instant (R100). -/
def State.clkEdge (s : State) (n : Fin 8) (k : Nat) : Instant :=
  let o := s.clkout[n]
  s.clkBase n o.coarse + k * s.nat (clkIdx n) 2 * 400 + o.fine

/-- Every clock-output divider restarts at the marked edge that begins the present T_E (R92). -/
def restartOutputs (s : State) : State :=
  each (List.finRange 8) (fun n t => t.updClk n (fun o => o.restart t.nowAt (t.clkBase n o.coarse))) s

/-- Event 487 with the cleared bit (R104, R105). -/
def clkCleared (n : Fin 8) (s : State) : State := s.raise 487 (n.val + 256)

/-- Output n stops at instant x and shows the state given; a FAULT is left (R101, R103, R104). -/
def clkStop (n : Fin 8) (x : Instant) (st : Nat) (s : State) : State :=
  let s := if s.clkout[n].st = 3 then clkCleared n s else s
  s.updClk n (fun o => { o.stop x with st := st })

/-- CLKOUT_OVERCURRENT: the output of number n, which runs, exceeds its limit (R104). -/
def clkoutOvercurrent (n : Fin 8) (s : State) : State :=
  let o := s.clkout[n]
  if o.st = 2 then (s.updClk n (fun o => { o with st := 3, before := o.st })).raise 487 n.val else s

/-- CLKOUT_OVERCURRENT (R104, R105). -/
def execClkoutOvercurrent (n : Fin 8) (s : State) : Host.Outcome State Fault Refusal := .next (clkoutOvercurrent n s)

/-- CLKOUT_FAULT_CLEAR: within the limit for 1 ms (R104). -/
def clkoutFaultClear (n : Fin 8) (s : State) : State :=
  if s.clkout[n].st = 3 then clkCleared n (s.updClk n (fun o => { o with st := o.before })) else s

/-- CLKOUT_FAULT_CLEAR (R104, R105). -/
def execClkoutFaultClear (n : Fin 8) (s : State) : Host.Outcome State Fault Refusal := .next (clkoutFaultClear n s)

/-- The clock of output n is commensurate (R95): R_ref / D is an integer. -/
def State.commensurate (s : State) (n : Fin 8) : Bool :=
  let p := s.csu.act.pref
  let d := 400 * s.nat (clkIdx n) 2
  d != 0 && p % d = 0

/-- Output n at Tide boundary b after the commit set (R101 to R104): it stops, waits, starts, or goes on with its new delays.
`safe`: the device was or is in SAFE. -/
def clkAtBoundary (safe : Bool) (b : TE) (n : Fin 8) (s : State) : State :=
  let idx := clkIdx n
  let c := s.nat idx 3
  let f := s.nat idx 4
  let st := s.clkout[n].st
  if !s.on idx 1 then (clkStop n (startOf b) 0 s).updClk n (fun o => o.delays (startOf b) c f)
  else if safe && s.on idx 0x0B then
    (clkStop n (startOf b) 1 s).updClk n (fun o => { o.delays (startOf b) c f with started := true })
  else if st = 2 ∨ st = 3 then s.updClk n (fun o => o.delays (startOf b) c f)
  else if s.csu.everAligned || s.on idx 7 then
    s.updClk n (fun o => { o.start (startOf b) (s.clkBase n c) (s.nat idx 2) c f with st := 2, started := true })
  else s.updClk n (fun o => { o.delays (startOf b) c f with st := 1, started := true })

/-- The device enters SAFE, or the stop bit becomes 1 in SAFE (R103): outputs with their stop bit complete their high phase and
read WAITING. -/
def clkEnterSafe (s : State) : State :=
  each (List.finRange 8) (fun n t =>
    if t.on (clkIdx n) 0x0B && decide (2 ≤ t.clkout[n].st) then clkStop n t.nowAt 1 t else t) s

/-- What the ball CLKOUTn shows (R99, R101): P high, P low, or Z. -/
inductive ClkBall where
  | high | low | z
deriving DecidableEq, Repr

/-- The ball of output n in its disabled state (R99, R101): Z until first enabled. -/
def State.clkOff (s : State) (n : Fin 8) : ClkBall :=
  if s.clkout[n].started && s.nat (clkIdx n) 5 = 1 then .low else .z

/-- The ball of output n at an instant (R99 to R104). -/
def State.clkBall (s : State) (n : Fin 8) (x : Instant) : ClkBall :=
  let o := s.clkout[n]
  if x < o.highTo (x + 1) then .high
  else match o.edge0 with
    | some e0 => if o.fresh && o.risen e0 (x + 1) == 0 then s.clkOff n else .low
    | none => s.clkOff n

/-! ## ALIGN (R89 to R98) -/

/-- Event 486 (R105). -/
def alignedEvent (result : Nat) (residual : Int) (s : State) : State :=
  s.raise 486 (result + signedCode 16 residual * 2 ^ 16)

/-- ALIGN ends as failed (R93, R98, R436); one of start-up shows in 0x1300:07 [1] (R431). -/
def failAlign (result : Nat) (s : State) : State :=
  match s.csu.align with
  | none => s
  | some a =>
    let s := alignedEvent result 0 { s with csu := { s.csu with align := none } }
    let s := if a.startUp then { s with boot := { s.boot with status := s.boot.status ||| 2 } } else s
    if a.startUp then stageSix s else s

/-- ALIGN is accepted (R86, R90, R122): marker and timeout are latched, the timeout counted from T_E `a`. -/
def acceptAlignFrom (a : TE) (startUp : Bool) (s : State) : State :=
  let s := cancelAction s
  let s := enterCsu .aligning s
  { s with csu := { s.csu with align := some {
      accepted := s.now, deadline := a + msTE (s.nat 0x2002 2), marker := s.nat 0x2002 1, startUp := startUp } } }

/-- ALIGN is accepted in the present T_E. -/
def acceptAlign (startUp : Bool) (s : State) : State := acceptAlignFrom s.now startUp s

/-- START_UP_ALIGN: in LOAD, as soon as the CSU reaches LOCKED, when 0x2002:03 is 1 and R89 permits it (R98). -/
def startUpAlign (s : State) : State :=
  if s.dev.st = .load ∧ s.csu.st = .locked ∧ !s.boot.alignDone ∧ s.startUpAligns then acceptAlign true s else s

/-- START_UP_ALIGN (R98, R434). -/
def execStartUpAlign (s : State) : Host.Outcome State Fault Refusal := .next (startUpAlign s)

/-- FABRIC_START_UP_ALIGN: in IDLE, once the upstream port has a Tide average (R436). -/
def fabricStartUpAlign (s : State) : State :=
  match s.boot.fabricAlign, s.upPort with
  | some a, some p =>
    if s.dev.st = .idle ∧ s.port[p].haveAvg ∧ (s.csu.st = .locked ∨ s.csu.st = .aligned) then
      acceptAlignFrom a true { s with boot := { s.boot with fabricAlign := none } }
    else s
  | _, _ => s

/-- FABRIC_START_UP_ALIGN (R436). -/
def execFabricStartUpAlign (s : State) : Host.Outcome State Fault Refusal := .next (fabricStartUpAlign s)

/-- The count that the marked edge in T_E t begins, as it stands in the present T_E (R41, R92, R347): the preset, or with the
fabric marker t3 + d of the frame to the nearest T_E; none where time transfer sets the count. -/
def State.markedCount (s : State) (a : AlignRun) (t : TE) : Option TE :=
  match s.upPort with
  | none => some (instantOf (s.nat 0x2202 2) (s.nat 0x2202 1) / fuPerTE)
  | some _ => if a.marker = 2 then a.mark.map (fun e => (e.2 + 1600) / fuPerTE + (s.now - t)) else none

/-- T_E that `n` reference periods last, the last one begun counted whole. -/
def State.refPeriods (s : State) (n : Nat) : Nat := (n * s.csu.act.pref + (fuPerTE - 1)) / fuPerTE

/-- The number of the reference edge t_S among the samples of ALIGN_IN at the reference edges since acceptance: the first H
after an L (R91, R96). -/
def alignInEdge (l : List Bool) : Option Nat :=
  let high := (l.takeWhile id).length
  let low := ((l.drop high).takeWhile (!·)).length
  if high + low < l.length then some (high + low + 1) else none

/-- The T_E from which the marked edge can come (R91, R347): 2 reference periods after acceptance, the edge after t_S, or the
arrival of the frame that the fabric marker takes; none where ALIGN_IN was not sampled H after L, or no such frame has come. -/
def State.markedFrom (s : State) (a : AlignRun) (samples : List Bool) : Option TE :=
  match a.marker with
  | 0 => some (a.accepted + s.refPeriods 2)
  | 1 => (alignInEdge samples).map (fun k => a.accepted + s.refPeriods k)
  | _ => a.mark.map (fun e => teOf e.1)

/-- The marked edge in the present T_E: the dividers restart, ZTIME takes its value, the Tide ends, streams get an anchor of
cause 2 (R92). -/
def atMarkedEdge (a : AlignRun) (t : TE) (s : State) : State :=
  let s := match s.markedCount a t with | some n => setTime 2 n s | none => s
  restartOutputs { s with
    time := { s.time with marked := s.nowAt }
    fab := { s.fab with txBase := s.now }
    csu := { s.csu with delta := 0, align := s.csu.align.map (fun a => { a with restarted := true }) } }

/-- MARKED_EDGE, with what ALIGN_IN showed at the reference edges since acceptance (R91): but for the internal marker the edge
comes within the timeout. -/
def markedEdge (samples : List Bool) (s : State) : State :=
  match s.csu.align with
  | none => s
  | some a =>
    match s.markedFrom a samples with
    | some t =>
      if a.restarted || (a.marker != 0 && decide (a.deadline < max s.now t)) then s else atMarkedEdge a t (s.reach t)
    | none => s

/-- MARKED_EDGE (R41, R50, R62, R91, R92, R96, R248, R347). -/
def execMarkedEdge (s : State) (samples : List Bool := []) : Host.Outcome State Fault Refusal := .next (markedEdge samples s)

/-- ALIGN_TRIM_COMPLETE: the measured offset lies within one root period and is removed, or ALIGN fails with code 3; the trim
goes on while more than 8 fu remain (R93). -/
def alignTrimComplete (offset residual : Int) (s : State) : State :=
  match s.csu.align with
  | none => s
  | some a =>
    if !a.restarted then s
    else if 400 < offset.natAbs then failAlign 3 (enterCsu .locked s)
    else if 8 < residual.natAbs then s
    else
      let s := enterCsu .aligned s
      let s := { s with
        csu := { s.csu with align := none, residual := residual, everAligned := true }
        fab := { s.fab with steerOk := s.fab.steerOk || a.marker = 2 } }
      let s := alignedEvent 0 residual s
      if a.startUp then stageSix s else s

/-- ALIGN_TRIM_COMPLETE (R93, R94, R98, R263). -/
def execAlignTrimComplete (offset residual : Int) (s : State) : Host.Outcome State Fault Refusal :=
  .next (alignTrimComplete offset residual s)

/-- ALIGN_IN_TIMEOUT: no marked edge within 0x2002:02 of acceptance; for the fabric start-up ALIGN, no completion within it of
IDLE (R91, R347, R436). -/
def alignInTimeout (s : State) : State :=
  match s.csu.align with
  | none => match s.boot.fabricAlign with
    | none => s
    | some a =>
      let s := s.reach (a + msTE (s.nat 0x2002 2))
      alignedEvent 1 0 { s with boot := { s.boot with fabricAlign := none, status := s.boot.status ||| 2 } }
  | some a =>
    if (a.restarted && !(a.startUp && a.marker = 2)) || a.marker = 0 then s
    else failAlign 1 (enterCsu .locked (s.reach a.deadline))

/-- ALIGN_IN_TIMEOUT (R91, R93, R347, R436). -/
def execAlignInTimeout (s : State) : Host.Outcome State Fault Refusal := .next (alignInTimeout s)

/-! ## Lock (R82, R85, R86) -/

/-- Event 480 and the lock count (R87, R105). -/
def countLock (s : State) : State :=
  { s with csu := { s.csu with locks := s.csu.locks + 1 } }.raise 480 (s.csu.band % 64)

/-- Comparisons run by run, each a phase error in fu and how often it came in a row: how many consecutive ones hold `p` at the
end, and whether `n` of them did on the way (R85). -/
def countRun (p : Int → Bool) (n : Nat) : Nat → List (Int × Nat) → Nat × Bool
  | c, [] => (c, false)
  | c, (e, k) :: rest =>
    if p e then if n ≤ c + k then (c + k, true) else countRun p n (c + k) rest
    else countRun p n (if k = 0 then c else 0) rest

/-- |phase error| ≤ W_lock (R84, R85): a window code is 20 ps, 80 fu. -/
def State.withinLock (s : State) (e : Int) : Bool := decide (e.natAbs ≤ 80 * s.nat 0x2001 1)

/-- |phase error| > W_unlock (R84, R85). -/
def State.beyondUnlock (s : State) (e : Int) : Bool := decide (80 * s.nat 0x2001 3 < e.natAbs)

/-- LOCK_DECLARED in ACQUIRE, with the comparisons since the last such command (R85, R86): at N_lock in a row within W_lock, lock
is declared. In LOAD without a start-up ALIGN, stage 6 follows. -/
def lockDeclared (seen : List (Int × Nat)) (s : State) : State :=
  if s.csu.st = .acquire then
    let (c, met) := countRun s.withinLock (s.nat 0x2001 2) s.csu.run seen
    let s := { s with csu := { s.csu with run := c } }
    if met then
      let s := countLock (enterCsu .locked s)
      if s.startUpAligns then s else stageSix s
    else s
  else s

/-- LOCK_DECLARED (R82, R84, R85, R86, R105). -/
def execLockDeclared (earlier : List (Int × Nat)) (last : Int × Nat) (s : State) : Host.Outcome State Fault Refusal :=
  .next (lockDeclared (earlier ++ [last]) s)

/-- LULL with the reference still present passes into RETURN (R107). -/
def passToReturn (s : State) : State :=
  if s.csu.st = .lull ∧ s.csu.present then
    enterCsu .ret { s with csu := { s.csu with afterBypass := false } }
  else s

/-- The CSU leaves a locked state by loss (cause 1) or unlock (cause 2): LULL or FREERUN with 481 and 482, whose records carry
the Lull flag of that T_E (R107, R108, R110, R111); an ALIGN fails with code 2 (R86); actions are cancelled (R122); steering ends (R345). -/
def leaveLocked (cause : Nat) (s : State) : State :=
  let s := { s with fab := { s.fab with steerOk := false } }
  let left (s : State) : State := lossCancels (s.raise 481 (if cause = 1 then 2 else 1))
  let s := match s.csu.hold.fromLocked with
    | some (v, tw, src) =>
      let s := left (enterCsu .lull { s with csu := { s.csu with hold := s.csu.hold.take v tw src } })
      lullEvent cause src { s with csu := { s.csu with lullStart := some s.now, noBypass := false } }
    | none =>
      lullEvent cause 2 (left (enterCsu .freerun { s with csu := { s.csu with hold := { s.csu.hold with src := 2 } } }))
  passToReturn (failAlign 2 s)

/-- UNLOCK_DECLARED in a locked state, with the comparisons since the last such command (R85, R107): M in a row beyond
W_unlock. -/
def unlockDeclared (seen : List (Int × Nat)) (s : State) : State :=
  if s.csu.st.isLocked then
    let (c, met) := countRun s.beyondUnlock (s.nat 0x2001 4) s.csu.run seen
    let s := { s with csu := { s.csu with run := c } }
    if met then leaveLocked 2 s else s
  else s

/-- UNLOCK_DECLARED (R84, R85, R107, R110, R111, R122). -/
def execUnlockDeclared (s : State) (seen : List (Int × Nat) := []) : Host.Outcome State Fault Refusal := .next (unlockDeclared seen s)

/-- ACQUIRE_TIMEOUT: 481 detail 3, to FREERUN; the reference is qualified afresh (R85, R107). -/
def acquireTimeout (s : State) : State :=
  if s.csu.st = .acquire then
    let s := s.reach (s.csu.since + msTE (s.nat 0x2001 5))
    let s := { s with csu := { s.csu with qualified := false } }
    enterCsu .freerun (s.raise 481 3)
  else s

/-- ACQUIRE_TIMEOUT (R85, R107). -/
def execAcquireTimeout (s : State) : Host.Outcome State Fault Refusal := .next (acquireTimeout s)

/-- A configuration becomes active (R75, R110, R112, R122): its root, the factory tuning word, no averages, no action,
Δ = 0. -/
def activate (cfg : CsuConfig) (s : State) : State :=
  let h := s.csu.hold
  let root := cfg.rootHz
  { s with csu := { s.csu with
      act := cfg, delta := 0, action := .none, root := root,
      fuLen := (roundDiv 2000000000000000000 (400 * cfg.rootTwice)).toNat,
      hold := { h with
        avgs := [], full := none, bypSum := 0, bypTemp := 0, bypCount := 0, tideKind := some .mixed,
        fitN := 0, fitT := 0, fitV := 0, fitTT := 0, fitTV := 0,
        model := if h.model = 1 then 0 else h.model, factory := factoryWord s.persist.tuning cfg.rootTwice } } }

/-- A configuration is applied by the host (R75): ALIGN fails with code 4, ACQUIRE follows. -/
def applyCsu (cfg : CsuConfig) (s : State) : State :=
  let s := { activate cfg s with fab := { s.fab with steerOk := false } }
  failAlign 4 (enterCsu .acquire s)

end Sys2Proof.Machine
end

