-- ==== Sys2Proof/Machine/Condition.lean ====
section
/-!
DEFINITION. The firing of trigger conditions (spec 12, R309, R310).
-/
namespace Sys2Proof.Machine

/-- CONDITION_FIRE: the present T_E is evaluated; the lowest condition that rises fires, the others are shadowed (R309). -/
def conditionFire (cl : Fin 4) (s : State) : State :=
  let s := s.settle
  let f := s.now
  if s.trig[cl].evaluated = some f then s
  else
    let ts := trueConds s cl f
    match ts.filter (fun c => !condBefore s cl c f) with
    | [] => s
    | c :: rest =>
      let s := s.updTrig cl (fun t => { t with
        evaluated := some f, firings := t.firings + 1, shadowed := t.shadowed + BitVec.ofNat 64 rest.length })
      fire cl c.val (condMask ts) f s

/-- CONDITION_FIRE (R306 to R310, R322, R328). -/
def execConditionFire (cl : Fin 4) (s : State) : Host.Outcome State Fault Refusal := .next (conditionFire cl s)

end Sys2Proof.Machine
end

