-- ==== Sys2Proof/Machine/Return.lean ====
section
/-!
DEFINITION. Lull, return, bypass and what the host does with the phase offset (spec 04, R107 to R126).
-/
namespace Sys2Proof.Machine

/-- No reference edge reaches the PFD (R79). -/
def dropReference (s : State) : State := { s with csu := { s.csu with present := false, qualified := false } }

/-- REFERENCE_LOST (R79, R107). -/
def referenceLost (s : State) : State :=
  let s := dropReference s
  match s.csu.st with
  | .locked => leaveLocked 1 s
  | .aligning => leaveLocked 1 s
  | .aligned => leaveLocked 1 s
  | .acquire => enterCsu .freerun (s.raise 481 2)
  | .ret => lullEvent 4 s.csu.hold.src (enterCsu .lull s)
  | _ => s

/-- REFERENCE_LOST (R79, R107, R110, R111, R122). -/
def execReferenceLost (s : State) : Host.Outcome State Fault Refusal := .next (referenceLost s)

/-- REFERENCE_PRESENT: edges arrive again; from LULL into RETURN (R107). -/
def referencePresent (s : State) : State :=
  passToReturn { s with csu := { s.csu with
    present := true, presentFrom := if s.csu.present then s.csu.presentFrom else s.now } }

/-- REFERENCE_PRESENT (R79, R107). -/
def execReferencePresent (s : State) : Host.Outcome State Fault Refusal := .next (referencePresent s)

/-- The temperature of sensor 0 over the last Tide. -/
def State.temp0 (s : State) : Int := s.health.temps[0]

/-- BYPASS is left for RETURN (R107, R110): the hold value of source 3, or the factory tuning word. -/
def bypassToReturn (s : State) : State :=
  let h := s.csu.hold
  let h := match h.fromBypass s.temp0 with
    | some (v, tw) => h.take v tw 3
    | none => { h with code := h.factory, value := h.factory, tw := s.temp0, src := 2 }
  (enterCsu .ret { s with csu := { s.csu with hold := h, afterBypass := true } }).raise 485 4

/-- The qualification window now in ppb (R78): 30 ppm wider in FREERUN. -/
def State.windowPpb (s : State) : Nat := 1000 * (s.csu.act.win + if s.csu.st = .freerun then 30 else 0)

/-- The T_E from which the reference can be qualified (R78): no edge has been missing, and the CSU has been in the state that
qualifies it, for the qualification time. -/
def State.qualifiedFrom (s : State) : TE := max s.csu.since s.csu.presentFrom + msTE s.csu.act.qtime

/-- REFERENCE_QUALIFIED with the largest deviation from the declared frequency over the qualification time, in ppb (R78): FREERUN
goes to ACQUIRE, BYPASS to RETURN. -/
def referenceQualified (diffPpb : Int) (s : State) : State :=
  if s.csu.present ∧ diffPpb.natAbs ≤ s.windowPpb then
    let q (s : State) : State :=
      let s := s.reach s.qualifiedFrom
      { s with csu := { s.csu with qualified := true } }
    match s.csu.st with
    | .freerun => enterCsu .acquire (q s)
    | .bypass => bypassToReturn (q s)
    | _ => s
  else s

/-- REFERENCE_QUALIFIED (R78, R82, R86, R107, R110, R124). -/
def execReferenceQualified (s : State) (diffPpb : Int := 0) : Host.Outcome State Fault Refusal :=
  .next (referenceQualified diffPpb s)

/-- A jump added to Δ (R118): for REFIN within half a reference period. For a port source Δ is the full θ̄ of the port's latest
Tide average, and before it has one the full difference measured (R346). -/
def State.absorb (s : State) (jump : Int) : Int :=
  let full := clampInt (-9223372036854775808) 9223372036854775807
  match s.upPort with
  | none =>
    let p : Int := s.csu.act.pref
    let x := (s.csu.delta + jump) % p
    if p < 2 * x then x - p else x
  | some n => full (if s.port[n].haveAvg then s.port[n].theta.getD jump else jump)

/-- The acceptance window of RETURN in ppb and its time in ms (R117). -/
def State.acceptance (s : State) : Nat × Nat :=
  if s.csu.afterBypass then (1000 * s.csu.act.win, s.csu.act.qtime) else (2000, 100)

/-- A measurement of RETURN (R117): 0x2006:08 reports it; one outside the window restarts the acceptance time. -/
def returnMeasured (diffPpb : Int) (s : State) : State :=
  { s with csu := { s.csu with
    retDiff := diffPpb, returnFrom := if s.acceptance.1 < diffPpb.natAbs then s.now else s.csu.returnFrom } }

/-- RETURN_ACCEPT: the reference has met acceptance for the acceptance time; it is accepted with a jump measured against the
aligned relation, and lock is declared once N_lock comparisons in a row lie within W_lock (R85, R107, R117, R118). A difference
outside the window leaves the CSU in RETURN. -/
def returnAccept (jump diffPpb : Int) (seen : List (Int × Nat)) (s : State) : State :=
  if s.csu.st = .ret ∧ s.csu.present then
    if s.acceptance.1 < diffPpb.natAbs then returnMeasured diffPpb s
    else
      let (c, met) := countRun s.withinLock (s.nat 0x2001 2) s.csu.run seen
      let s := returnMeasured diffPpb (s.reach (s.csu.returnFrom + msTE s.acceptance.2))
      if met then
        let d := s.absorb jump
        let s := { s with csu := { s.csu with delta := d, qualified := true } }
        let s := countLock (enterCsu .locked s)
        let s := s.raise 483 (signedCode 32 (clampInt (-2147483647) 2147483647 d))
        let t := s.nat 0x2006 2
        if t = 0 ∨ t < d.natAbs then phaseEvent 0 s else s
      else { s with csu := { s.csu with run := c } }
  else s

/-- RETURN_ACCEPT (R107, R117, R118, R346, R506). -/
def execReturnAccept (jump diffPpb : Int) (s : State) (seen : List (Int × Nat) := []) : Host.Outcome State Fault Refusal :=
  .next (returnAccept jump diffPpb seen s)

/-! ## Bypass (R123, R124) -/

/-- LULL or FREERUN under the loss policy BYPASS, and when the bypass delay elapses (R107, R506). -/
def State.bypassAt (s : State) : Option TE :=
  if s.nat 0x2004 1 = 1 ∧ (s.csu.st = .lull ∨ s.csu.st = .freerun) then
    some (s.csu.lullStart.getD s.csu.since + msTE (s.nat 0x2004 2))
  else none

/-- The CSU retargets to BYPCLK (R123): 485 kind 1, the accumulator cleared. A slew scheduled before the loss waits for its named
time (R122). -/
def enterBypass (s : State) : State :=
  let h := s.csu.hold
  let h := { h with
    bypEntry := if s.csu.st = .freerun then none else some h.code, bypSum := 0, bypTemp := 0, bypCount := 0,
    avgs := h.avgs.map (fun t => match t.kind with | .bypass _ => { t with kind := .mixed } | _ => t) }
  let s := enterCsu .bypass { s with csu := { s.csu with hold := h, bypclk := true } }
  { s with csu := { s.csu with delta := 0 } }.raise 485 1

/-- A frequency of BYPCLK, measured over 1 ms against the held root, lies within 0x2004:03 ppm of f_root / 8 (R123). -/
def State.bypclkOk (s : State) (freqHz : Nat) : Bool :=
  decide (((16 * freqHz : Int) - s.csu.act.rootTwice).natAbs * 1000000 ≤ s.nat 0x2004 3 * s.csu.act.rootTwice)

/-- BYPCLK_NOT_QUALIFIED: the delay elapses without BYPCLK; 485 kind 3 once per Lull (R124, R506). -/
def bypclkNotQualified (s : State) : State :=
  match s.bypassAt with
  | some t =>
    let s := s.reach t
    let s := { s with csu := { s.csu with bypclk := false } }
    if s.csu.noBypass then s else { s with csu := { s.csu with noBypass := true } }.raise 485 3
  | none => s

/-- BYPASS_ENTRY: the bypass delay elapses, with BYPCLK qualified or not (R107, R123, R124). -/
def bypassEntry (freqHz : Nat) (s : State) : State :=
  match s.bypassAt with
  | some t => if s.bypclkOk freqHz then enterBypass (s.reach t) else bypclkNotQualified s
  | none => s

/-- BYPASS_ENTRY (R107, R110, R123, R124). -/
def execBypassEntry (s : State) (freqHz : Nat := 1250000000) : Host.Outcome State Fault Refusal :=
  .next (bypassEntry freqHz s)

/-- BYPCLK_NOT_QUALIFIED (R124, R506). -/
def execBypclkNotQualified (s : State) : Host.Outcome State Fault Refusal := .next (bypclkNotQualified s)

/-- BYPCLK_QUALIFIED: after the delay has elapsed the CSU enters BYPASS (R124); outside the window BYPCLK is not qualified
(R123). -/
def bypclkQualified (freqHz : Nat) (s : State) : State :=
  if s.bypclkOk freqHz then
    match s.bypassAt with
    | some t => if t ≤ s.now then enterBypass s else { s with csu := { s.csu with bypclk := true } }
    | none => { s with csu := { s.csu with bypclk := true } }
  else { s with csu := { s.csu with bypclk := false } }

/-- BYPCLK_QUALIFIED (R123, R124). -/
def execBypclkQualified (s : State) (freqHz : Nat := 1250000000) : Host.Outcome State Fault Refusal :=
  .next (bypclkQualified freqHz s)

/-- BYPASS_LOCK: N_lock comparisons in a row within W_lock declare lock on BYPCLK; 485 kind 2 reports the phase step (R85,
R123). -/
def bypassLock (phaseStep : Int) (seen : List (Int × Nat)) (s : State) : State :=
  if s.csu.st = .bypass ∧ !s.csu.bypLocked then
    let (c, met) := countRun s.withinLock (s.nat 0x2001 2) s.csu.run seen
    let s := { s with csu := { s.csu with run := c } }
    if met then
      let c := noteKind { noteKind s.csu with bypLocked := true, locks := s.csu.locks + 1 }
      { s with csu := c }.raise 485 (2 + signedCode 24 (clampInt (-8388608) 8388607 phaseStep) * 2 ^ 8)
    else s
  else s

/-- BYPASS_LOCK (R85, R123). -/
def execBypassLock (phaseStep : Int) (s : State) (seen : List (Int × Nat) := []) : Host.Outcome State Fault Refusal :=
  .next (bypassLock phaseStep seen s)

/-- BYPCLK_LOST in BYPASS: LULL on the hold value of source 3, or FREERUN (R107, R110). -/
def bypclkLost (s : State) : State :=
  let s := { s with csu := { s.csu with bypclk := false } }
  if s.csu.st = .bypass then
    match s.csu.hold.fromBypass s.temp0 with
    | some (v, tw) =>
      passToReturn (lullEvent 3 3 (enterCsu .lull { s with csu := { s.csu with hold := s.csu.hold.take v tw 3 } }))
    | none => lullEvent 3 2 (enterCsu .freerun { s with csu := { s.csu with hold := { s.csu.hold with src := 2 } } })
  else s

/-- BYPCLK_LOST (R107, R110, R126). -/
def execBypclkLost (s : State) : Host.Outcome State Fault Refusal := .next (bypclkLost s)

/-! ## Actions on Δ (R119 to R122) -/

/-- The instant named by 0x2006:05 and :06. -/
def State.actionTime (s : State) : Instant := s.named (s.nat 0x2006 5) (s.nat 0x2006 6)

/-- A named time lies within R48 and at least 12,500 T_E ahead (R119): the action takes effect at the T_E that begins
there. -/
def State.actionTimeOk (s : State) : Bool :=
  decide (startOf (s.now + 12500) ≤ s.actionTime) && decide (teOf s.actionTime ≤ s.now + 2 ^ 51)

/-- A write of 0x2006:03 (R119, R122): a running slew stops, a scheduled step is replaced. -/
def writeAction (r : Requester) (a : TE → CsuAction) (timed : Bool) (s : State) : State :=
  s.request r 0x2006 3 .wo [need (!timed || s.actionTimeOk) 0x03020000] [need (!timed || s.csu.st == .locked) 0x04020000]
    (fun s =>
      let s := stopAction s
      { s with csu := { s.csu with action := a (teCeil s.actionTime) } }.ok)

/-- ACTION_LEAVE (R119, R122). -/
def execActionLeave (r : Requester) (s : State) : Host.Outcome State Fault Refusal :=
  .next (writeAction r (fun _ => .none) false s)

/-- ACTION_SLEW (R119, R122): at the rate held in 0x2006:04. -/
def execActionSlew (r : Requester) (s : State) : Host.Outcome State Fault Refusal :=
  .next (writeAction r (fun t => .slewAt t (s.nat 0x2006 4)) true s)

/-- ACTION_STEP (R119, R122). -/
def execActionStep (r : Requester) (s : State) : Host.Outcome State Fault Refusal :=
  .next (writeAction r .stepAt true s)

/-- SLEW_START at the named time (R120, R122). -/
def slewStart (s : State) : State :=
  match s.csu.action with
  | .slewAt t code =>
    let s := s.reach t
    if s.csu.st ≠ .locked then cancelAction s
    else if s.csu.delta = 0 then phaseEvent 2 { s with csu := { s.csu with action := .none } }
    else phaseEvent 1 { s with csu := { s.csu with action := .slewing s.now code s.csu.delta } }
  | _ => s

/-- SLEW_START (R119, R120, R122). -/
def execSlewStart (s : State) : Host.Outcome State Fault Refusal := .next (slewStart s)

/-- T_E after which a slew has brought |Δ| to 8 fu or below (R120). -/
def slewLength (code : Nat) (d : Int) : Nat :=
  if code = 0 then 0 else ((d.natAbs - 8) * 100000 + (32 * code - 1)) / (32 * code)

/-- SLEW_COMPLETE: |Δ| ≤ 8 fu (R120). -/
def slewComplete (s : State) : State :=
  match s.csu.action with
  | .slewing a code d => phaseEvent 2 (stopAction (s.reach (a + slewLength code d)))
  | _ => s

/-- SLEW_COMPLETE (R120). -/
def execSlewComplete (s : State) : Host.Outcome State Fault Refusal := .next (slewComplete s)

/-- STEP_EXECUTE at the named T_E (R121): h root periods are held, Δ is gone, the step counts as a set without a jump; a
node on a port takes the count from the next valid frame (R346). -/
def stepExecute (s : State) : State :=
  match s.csu.action with
  | .stepAt t =>
    let s := s.reach t
    if s.csu.st ≠ .locked then cancelAction s
    else
      let d := s.csu.delta
      let s := { s with csu := { s.csu with action := .none } }
      if d = 0 then phaseEvent 3 s
      else
        let h := ((d % (s.csu.act.pref : Int)) / 400).toNat
        let s := stepAsSet s
        let s := { s with
          csu := { s.csu with delta := 0, lastHold := BitVec.ofNat 32 h }
          fab := { s.fab with setPending := s.fab.setPending || s.upPort.isSome } }
        phaseEvent 3 s
  | _ => s

/-- STEP_EXECUTE (R41, R62, R121, R122, R248). -/
def execStepExecute (s : State) : Host.Outcome State Fault Refusal := .next (stepExecute s)

/-! ## The Tide average (R109, R112) -/

/-- The temperature model after one more complete locked Tide (R112): the slope in ppb/°C, Q16.16, from the measured
K_VCO; one hold code is 1.8 V / 2^28. -/
def HoldDac.learn (h : HoldDac) (code : Nat) (temp : Int) (kvco root : Nat) : HoldDac :=
  let h := { h with
    fitN := h.fitN + 1, fitT := h.fitT + temp, fitV := h.fitV + code, fitTT := h.fitTT + temp * temp,
    fitTV := h.fitTV + temp * code,
    fitMin := if h.fitN = 0 then temp else min h.fitMin temp, fitMax := if h.fitN = 0 then temp else max h.fitMax temp }
  let den : Int := h.fitN * h.fitTT - h.fitT * h.fitT
  if 1000 ≤ h.fitN ∧ 131072 ≤ h.fitMax - h.fitMin ∧ 0 < den ∧ root ≠ 0 then
    let num : Int := h.fitN * h.fitTV - h.fitT * h.fitV
    { h with
      model := 1, modelRef := roundDiv h.fitT h.fitN,
      coef := roundDiv (num * 288 * kvco * 100000000000) (den.toNat * root) }
  else h

/-- The hold code of LULL (R112): the hold value plus the coefficient times (T − T_w). -/
def HoldDac.lullCode (h : HoldDac) (temp : Int) (kvco root : Nat) : Nat :=
  if h.model = 0 ∨ kvco = 0 then h.value
  else (clampInt 0 268435455 (h.value + roundDiv (h.coef * (temp - h.tw) * root * 10) (288 * kvco * 1000000000000))).toNat

/-- The hold DAC at a boundary, with the tuning node's average over the Tide that ended and sensor 0's (R109, R110, R112): a Tide
shortened by a set counts as one Tide, but the temperature model learns from complete Tides alone. -/
def holdAtBoundary (whole : Bool) (code uv : Nat) (temp : Int) (s : State) : State :=
  let c := noteKind s.csu
  let kind := c.hold.tideKind.getD .mixed
  let kvco := c.kvco.toNat
  let h := { c.hold.push code temp kind with uv := uv }
  let h := if whole && kind == .locked then h.learn code temp kvco c.root else h
  let h :=
    if c.st.isLocked ∨ c.st = .bypass then { h with code := code }
    else if c.st = .lull then { h with code := h.lullCode temp kvco c.root }
    else h
  { s with csu := { c with hold := h } }

/-- 0x2005:03 (R110): a hold value is available. -/
def State.holdAvailable (s : State) : Bool :=
  if s.csu.st = .bypass then (s.csu.hold.fromBypass s.temp0).isSome else s.csu.hold.fromLocked.isSome

/-- 0x2005:08 (R506): the Lull in progress up to now, else the length of the last. -/
def State.lullTE (s : State) : Nat :=
  match s.csu.lullStart with | some a => s.now - a | none => s.csu.lullLen

/-- 0x2006:07 (R125). -/
def CsuAction.code : CsuAction → Nat
  | .none => 0 | .slewAt _ _ => 1 | .slewing _ _ _ => 2 | .stepAt _ => 3

end Sys2Proof.Machine
end

