-- ==== Sys2Proof/Machine/Link.lean ====
section
/-!
DEFINITION. The words, frames and items of a Brynline link as they leave a port (spec 13, R330, R333 to R337, R343, R345, R360).
-/
namespace Sys2Proof.Machine

/-! ## CRC codes (R333, R335) -/

/-- One bit of a CRC of width w, most significant bit first. -/
def crcShift {w : Nat} (poly c : BitVec w) : BitVec w := if c.getMsbD 0 then (c <<< 1) ^^^ poly else c <<< 1

/-- One byte more of such a CRC. -/
def crcNext {w : Nat} (poly : BitVec w) (c : BitVec w) (b : Byte) : BitVec w :=
  let f := crcShift poly
  f (f (f (f (f (f (f (f (c ^^^ (b.setWidth w <<< (w - 8))))))))))

/-- The CRC-8 of an item (R335). -/
def crc8 (l : List Byte) : Byte := l.foldl (crcNext 0x07) 0

/-- The CRC-16 of a frame (R333). -/
def crc16 (l : List Byte) : W16 := l.foldl (crcNext 0x1021) 0xFFFF

/-! ## Words (R333, R334) -/

/-- The four characters of a word, C0 first (R333, R334); C0 of the comma word is K28.5. -/
def LinkWord.chars : LinkWord → List Byte
  | .comma frame crc => [0xBC, frame] ++ toBytes 2 crc.toNat
  | .data cls index bits => toBytes 1 (cls.toNat * 16 + index.toNat) ++ toBytes 3 bits.toNat

/-- The idle word. -/
def LinkWord.idle : LinkWord := .data 0 0 0

/-- The class of a word that carries item bits. -/
def LinkWord.cls : LinkWord → Nat
  | .comma _ _ => 0
  | .data cls _ _ => cls.toNat

/-- The words of an item of a class from its bits: word i carries bits [24i+23:24i] (R334). -/
def itemWords (cls n bits : Nat) : List LinkWord :=
  (List.range n).map (fun i => .data (BitVec.ofNat 4 cls) (BitVec.ofNat 4 i) (BitVec.ofNat 24 (bits / 2 ^ (24 * i))))

/-- Fields given as (width, value), the least significant first. -/
def packBits : List (Nat × Nat) → Nat
  | [] => 0
  | (w, v) :: rest => v % 2 ^ w + 2 ^ w * packBits rest

/-- The bits of a fixed item of n words: its fields, and the CRC-8 of them in the top 8 bits (R335). -/
def sealItem (n : Nat) (l : List (Nat × Nat)) : Nat :=
  let body := packBits l
  body + 2 ^ (24 * n - 8) * (crc8 (toBytes (3 * n - 1) body)).toNat

/-! ## The items (R335, R360) -/

/-- A control item (R335): kind, path, the 64 bits of kinds 1 to 3, node ID, depth or reason. -/
def controlBits (kind : Nat) (path : List (Fin 8)) (uid node extra : Nat) : Nat :=
  sealItem 6 [(4, kind), (4, path.length), (45, packBits (path.map (fun p => (3, p.val)))), (64, uid), (14, node), (4, extra), (1, 0)]

/-- The words of a tunnel or bulk item (R360): two header words, the data and a CRC-32 over both, three bytes a word. An item
that is marked so leaves with a failing CRC-32. -/
def dataWords (cls : Nat) (i : DataItem) : List LinkWord :=
  let head := toBytes 6 (packBits [(14, i.dest.toNat), (14, i.src.toNat), (11, i.offset.toNat), (1, if i.last then 1 else 0), (8, 0)])
  let crc := crc32 (head ++ i.data)
  let l := head ++ i.data ++ toBytes 4 (if i.crcOk then crc else ~~~crc).toNat
  (List.range ((l.length + 2) / 3)).map (fun k =>
    .data (BitVec.ofNat 4 cls) (BitVec.ofNat 4 k) (BitVec.ofNat 24 (field l (3 * k) 3)))

/-- The words of an item (R334, R335); a Front or Gust is sent twice. -/
def TxItem.words : TxItem → List LinkWord
  | .code i => itemWords 3 3 (sealItem 3 [(16, i.code.toNat), (20, i.due.toNat), (14, i.origin.toNat), (4, i.hopsLeft.toNat),
      (4, i.travelled.toNat), (6, 0)])
  | .front i =>
    let l := itemWords 4 4 (sealItem 4 [(8, i.sequence.toNat), (16, i.mask.toNat), (16, i.latency.toNat), (32, i.armAt.toNat), (16, 0)])
    l ++ l
  | .gust i =>
    let l := itemWords 5 4 (sealItem 4 [(8, i.sequence.toNat), (4, i.group.val), (14, i.node.toNat), (32, i.fireTE.toNat),
      (12, i.fireFine.val), (18, 0)])
    l ++ l
  | .joinRequest i => itemWords 6 6 (controlBits 1 i.path i.uid.toNat 0 0)
  | .joinReply i => itemWords 6 6 (controlBits 2 i.path i.uid.toNat i.nodeId.toNat i.extra.toNat)
  | .joinRefused i => itemWords 6 6 (controlBits 3 i.path i.uid.toNat 0 i.extra.toNat)
  | .leave node port => itemWords 6 6 (controlBits 4 [] (packBits [(14, node.toNat), (3, port.val)]) 0 0)
  | .detach => itemWords 6 6 (controlBits 5 [] 0 0 0)
  | .bulkResult dest src offset failed =>
    itemWords 6 6 (controlBits 6 [] (packBits [(14, dest.toNat), (14, src.toNat), (11, offset.toNat), (1, if failed then 1 else 0)]) 0 0)
  | .tunnel i => dataWords 7 i
  | .bulk i => dataWords 8 i

/-- The words of a HELLO of port n (R335, R339). -/
def State.helloWords (s : State) (n : Fin 8) : List LinkWord :=
  itemWords 2 5 (sealItem 5 [(64, Config.uniqueId.toNat), (1, if s.upstream == some n then 1 else 0),
    (1, if s.port[n].peerSeen then 1 else 0), (2, s.fab.state), (14, s.fab.nodeId.toNat), (4, s.fab.depth.toNat),
    (16, s.nat (portIdx n) 7), (10, 0)])

/-- The node steers (R345). -/
def State.steers (s : State) : Bool :=
  match s.upPort with
  | some p => (s.csu.st == .locked || s.csu.st == .aligned) && s.port[p].st == .up && s.port[p].timeValid && s.fab.steerOk
  | none => false

/-- A slew runs. -/
def State.slewing (s : State) : Bool := match s.csu.action with | .slewing _ _ _ => true | _ => false

/-- The node is following (R345): it steers on an average with Δ = 0, no slew running and |θ̄| ≤ 8 fu. -/
def State.following (s : State) : Bool :=
  s.steers && s.upPort.any (fun p => s.port[p].haveAvg) && s.deltaNow = 0 && !s.slewing && decide (s.fab.offset.natAbs ≤ 8)

/-- The time-valid bit of the node's own time items (R345). -/
def State.sendsValid (s : State) : Bool := if s.fab.state = 3 then s.csu.everAligned else s.following

/-- T_E in a frame: 64 words of 5 T_E. -/
abbrev frameTE : Nat := 320

/-- The words of the time item of the frame that port n begins in T_E `a` (R335, R343): the node's count, its Lull flag (R108,
R114, R116), whether the count was set since the previous frame began, and the latest arrival measured before this one. -/
def State.timeWords (s : State) (n : Fin 8) (a : TE) : List LinkWord :=
  let one (b : Bool) : Nat × Nat := (1, if b then 1 else 0)
  let (frame, off, fine) := match s.port[n].arrived.find? (fun e => decide (e.2 < startOf a)) with
    | some (f, x) => (f.toNat, signedCode 16 ((teOf x : Int) - a), x % fuPerTE)
    | none => (0, 0, 0)
  itemWords 1 6 (sealItem 6 [(52, coarseOf a), (32, (epochOf a).toNat), one (s.lullAt (startOf a)), one (s.port[n].out.countSet.any (fun t => decide (a < t + frameTE))),
    one s.sendsValid, (1, 0), (8, frame), (16, off), (12, fine), (12, 0)])

/-! ## Frames (R333, R343) -/

/-- The number of the own frame that holds T_E `a`, counted from the latest restart of the transmit word clock (R92, R333). -/
def State.frameAt (s : State) (a : TE) : Nat := (a - s.fab.txBase) / frameTE

/-- t1 of R343: the departure of the own frame of a number, the latest that has left by instant x; none before the restart of the
word clock. -/
def State.departure (s : State) (frame : Byte) (x : Instant) : Option Instant :=
  let k := s.frameAt (teOf x)
  let back := (k % 256 + 256 - frame.toNat) % 256
  if teOf x < s.fab.txBase ∨ k < back then none else some (startOf (s.fab.txBase + (k - back) * frameTE))

/-- The characters of words 1 to 63 of a frame of which some words were recorded; the others were idle. -/
def frameChars (l : List LinkWord) : List Byte := ((l ++ List.replicate (63 - l.length) LinkWord.idle).take 63).flatMap LinkWord.chars

/-- Port n begins the frame of T_E `a` (R330, R333, R334): the CRC-16 of the frame before, of idle words where no step sent any of
it, the time item of a port that is UP, and a HELLO
in the states that send one. -/
def beginFrame (n : Fin 8) (a : TE) (s : State) : State :=
  let st := s.port[n].st
  let time := if st = .up then s.timeWords n a else []
  let hello := if st = .hello ∨ st = .up ∨ st = .mismatch then s.helloWords n else []
  s.updPort n (fun p => { p with out := { p.out with
    frame := some a, crc := crc16 (frameChars (if p.out.frame = some (a - frameTE) then p.out.sent else []))
    sent := [], time := time, hello := hello } })

/-! ## Free words (R336) -/

/-- The order in which a port serves the classes (R336); HELLO stands between control and tunnel items. -/
def TxItem.rank : TxItem → Nat
  | .gust _ => 0 | .front _ => 1 | .code _ => 2
  | .joinRequest _ => 3 | .joinReply _ => 3 | .joinRefused _ => 3 | .leave _ _ => 3 | .detach => 3
  | .bulkResult _ _ _ _ => 3
  | .tunnel _ => 5 | .bulk _ => 6

/-- The first item of the highest class that has one ready (R336). -/
def nextItem : List TxItem → Option TxItem
  | [] => none
  | i :: rest => match nextItem rest with
    | some j => if j.rank < i.rank then some j else some i
    | none => some i

/-- The next word of a tunnel or bulk item (R336): of the one in progress, else of the first that waits. -/
def LinkTx.dataWord (o : LinkTx) (rank : Nat) (tx : List TxItem) : Option (LinkWord × LinkTx × List TxItem) :=
  let keep (l : List LinkWord) : LinkTx := if rank = 5 then { o with tunnel := l } else { o with bulk := l }
  match if rank = 5 then o.tunnel else o.bulk with
  | w :: rest => some (w, keep rest, tx)
  | [] => match tx.find? (fun i => i.rank = rank) with
    | some i => match i.words with
      | w :: rest => some (w, keep rest, tx.erase i)
      | [] => none
    | none => none

/-- What a port sends in a free word (R336): the fixed item in progress, else the highest class that has an item ready; tunnel and
bulk items give way between their words. -/
def LinkTx.freeWord (o : LinkTx) (tx : List TxItem) : LinkWord × LinkTx × List TxItem :=
  match o.fixed with
  | w :: rest => (w, { o with fixed := rest }, tx)
  | [] => match nextItem (tx.filter (fun i => decide (i.rank ≤ 3))) with
    | some i => match i.words with
      | w :: rest => (w, { o with fixed := rest }, tx.erase i)
      | [] => (.idle, o, tx.erase i)
    | none => match o.hello with
      | w :: rest => (w, { o with fixed := rest, hello := [] }, tx)
      | [] => match o.dataWord 5 tx with
        | some r => r
        | none => match o.dataWord 6 tx with
          | some r => r
          | none => (.idle, o, tx)

/-- What a port sends at position `pos` of its frame (R330, R333, R334, R336): the comma word, a word of the time item, or a free
word; only comma and idle words while it is DOWN or in TRAINING. -/
def Port.wordAt (p : Port) (frame : Byte) (pos : Nat) : LinkWord × LinkTx × List TxItem :=
  if pos = 0 then (.comma frame p.out.crc, p.out, p.tx)
  else match if pos % 10 = 1 then p.out.time[pos / 10]? else none with
    | some w => (w, p.out, p.tx)
    | none => p.out.freeWord p.tx

/-- Port n sends the word that begins in the present T_E (R333): words that T_E without a step would have carried were idle. -/
def sendWord (n : Fin 8) (s : State) : State :=
  let off := s.now - s.fab.txBase
  if s.port[n].st = .disabled ∨ s.dev.st = .boot ∨ s.dev.st = .load ∨ s.boot.power ≠ .running ∨ off % 5 ≠ 0 then s
  else
    let pos := off / 5 % 64
    let a := s.now - 5 * pos
    let s := if s.port[n].out.frame = some a then s else beginFrame n a s
    s.updPort n (fun p =>
      let (w, o, tx) := p.wordAt (BitVec.ofNat 8 (s.frameAt a)) pos
      let sent := if pos = 0 then [] else o.sent ++ List.replicate (pos - 1 - o.sent.length) LinkWord.idle ++ [w]
      { p with tx := tx, out := { o with sent := sent, line := some w } })

/-! ## What a received frame shows (R333 to R335, R362, R363) -/

/-- The characters of words 1 to 63 that begin a word of a reserved class (R334). -/
def reservedWords (chars : List Byte) : Nat :=
  ((List.range (chars.length / 4)).filter (fun k => decide (0x90 ≤ field chars (4 * k) 1))).length

/-- Counts in bits [15:0] and [31:16] go up, each saturating (R363). -/
def bumpBoth (low high : Nat) (d : W32) : W32 :=
  BitVec.ofNat 32 (satNat 0xFFFF (d.toNat % 2 ^ 16 + low) + satNat 0xFFFF (d.toNat / 2 ^ 16 + high) * 2 ^ 16)

/-- The comma word of a frame on port n closes the check of the frame before it (R333, R334, R362): code violations and a failing
CRC-16 are counted, and reported once a Tide (R363). -/
def checkFrame (n : Fin 8) (f : FrameSeen) (s : State) : State :=
  let bad := f.broken + reservedWords f.chars
  let err := if f.chars.length = 252 ∧ crc16 f.chars ≠ f.crc then 1 else 0
  if bad + err = 0 then s
  else
    let s := s.updPort n (fun p => { p with
      violations := p.violations + BitVec.ofNat 64 bad, crcErrs := p.crcErrs + BitVec.ofNat 64 err })
    s.raiseSumAt s.nowAt (448 + 4 * n.val + 3) 0 (bumpBoth bad err 0) (bumpBoth bad err)

end Sys2Proof.Machine
end

