-- ==== Sys2Proof/Machine/Fabric.lean ====
section
/-!
DEFINITION. Brynline: ports, the tree, time transfer, fabric items and bulk transfer (spec 13, R329 to R349, R351, R353 to
R356, R358, R361 to R363).
-/
namespace Sys2Proof.Machine

/-! ## Events (R363) -/

/-- Event 496: kind, node, port, and reason or count. -/
def fabricEvent (kind node port high : Nat) (s : State) : State :=
  s.raise 496 (kind + node % 2 ^ 14 * 2 ^ 4 + port % 8 * 2 ^ 18 + min high 2047 * 2 ^ 21)

/-- Event 448 + 4n + k of port n. -/
def portEvent (n : Fin 8) (k : Nat) (detail : Nat) (s : State) : State := s.raise (448 + 4 * n.val + k) detail

/-! ## Roles and routes (R332, R339, R360) -/

/-- The port is the upstream port. -/
def State.isUp (s : State) (n : Fin 8) : Bool := s.upstream == some n

/-- The UP ports that lead down (R332). -/
def State.downPorts (s : State) : List (Fin 8) := s.upPorts.filter (fun n => !s.isUp n)

/-- The port towards a node (R360): the downstream port it was learned behind, else the upstream port. -/
def State.routeTo (s : State) (node : BitVec 14) : Option (Fin 8) :=
  match s.downPorts.find? (fun n => s.port[n].behind.contains node) with
  | some n => some n
  | none => s.upstream.filter (fun n => s.port[n].st == .up)

/-- The item is addressed to this node. -/
def State.isMine (s : State) (node : BitVec 14) : Bool := s.fab.nodeId.toNat = node.toNat

/-! ## ALONE, and ports that leave UP (R331, R341, R348) -/

/-- A group becomes unarmed without execution (R354, R358). -/
def disarm (g : Fin 16) (s : State) : State := (dropCandidate g s).updArm g (fun a => { a with armed := false })

/-- A tunnel message is discarded: counted and reported as 496 kind 10 with the node and port concerned (R360, R363). -/
def lostTunnel (node port : Nat) (s : State) : State :=
  ({ s with fab := { s.fab with tunnelLost := s.fab.tunnelLost + 1 } }).raiseSumAt s.nowAt 496 10
    (BitVec.ofNat 32 (10 + node % 2 ^ 14 * 2 ^ 4 + port % 8 * 2 ^ 18 + 2 ^ 21)) bumpEleven

/-- An item that an ALONE node does not send (R341). -/
def TxItem.inTreeOnly : TxItem → Bool
  | .code _ => true | .gust _ => true | .tunnel _ => true | .bulk _ => true | _ => false

/-- What an ALONE node does not send leaves port n; tunnel messages among it are discarded and counted (R341, R360). -/
def silencePort (n : Fin 8) (s : State) : State :=
  let gone := s.port[n].tx.filter TxItem.inTreeOnly
  let s := s.updPort n (fun p => { p with
    tx := p.tx.filter (fun i => !i.inTreeOnly)
    out := { p.out with
      fixed := p.out.fixed.filter (fun w => w.cls != 3 && w.cls != 5), tunnel := [], bulk := [] } })
  each gone (fun i t => match i with | .tunnel d => lostTunnel d.dest.toNat n.val t | _ => t) s

/-- The node enters ALONE: candidates drop, groups are unarmed, items it may no longer send go, DETACH goes down (R341, R354,
R358). -/
def enterAlone (s : State) : State :=
  if s.fab.state = 0 then s
  else
    let s := { s with fab := { s.fab with state := 0 } }
    let s := each s.ports silencePort (each (List.finRange 16) disarm s)
    let s := each s.downPorts (sendOn .detach) s
    fabricEvent 2 s.fab.nodeId.toNat (match s.upstream with | some p => p.val | none => 0) 0 s

/-- The deepest node present (0x6000:0C). -/
def deepest (l : List Member) : Nat := l.foldl (fun d m => max d m.route.length) 0

/-- The root's roster changes. -/
def setRoster (l : List Member) (s : State) : State :=
  { s with fab := { s.fab with roster := l, maxDepth := BitVec.ofNat 4 (deepest l) } }

/-- Seconds as T_E at the nominal root. -/
abbrev secTE (n : Nat) : Nat := n * 1250000000

/-- The members behind a port of a node (R341): those whose way down begins with the node's own and then that port. -/
def membersBehind (l : List Member) (route : List (Fin 8)) (n : Fin 8) : List Member :=
  l.filter (fun m => (route ++ [n]).isPrefixOf m.route)

/-- The root marks the nodes behind a port absent and starts a lease for each ID (R341); 496 kind 5. -/
def markAbsent (node : Nat) (route : List (Fin 8)) (n : Fin 8) (s : State) : State :=
  let gone := membersBehind s.fab.roster route n
  if gone.isEmpty then s
  else
    let ends := s.now + secTE (s.nat 0x6000 6)
    let s := setRoster (s.fab.roster.filter (fun m => !gone.contains m)) s
    let s := { s with
      fab := { s.fab with
        leases := s.fab.leases.filter (fun l => !gone.any (fun m => m.node == l.node)) ++
          gone.map (fun m => { node := m.node, uid := m.uid, ends := ends }) }
      port := s.port.map (fun p => { p with behind := p.behind.filter (fun i => !gone.any (fun m => m.node == i)) }) }
    fabricEvent 5 node n.val gone.length s

/-- What follows when port n has left UP (R331, R341, R348). -/
def linkLost (n : Fin 8) (s : State) : State :=
  if s.isUp n then enterAlone (referenceLost s)
  else if s.fab.state = 3 then markAbsent 0 [] n s
  else if s.fab.state = 2 then
    match s.upstream with
    | some p => if s.port[p].st = .up then sendOn (.leave (BitVec.ofNat 14 s.fab.nodeId.toNat) n) p s else s
    | none => s
  else s

/-- What a port forgets when its link ends. -/
def Port.closed (p : Port) (st : PortSt) : Port :=
  { p with
    st := st, peerSeen := false, peerUp := false, peerUid := 0, peerNode := 0xFFFF, peerState := 0, peerDepth := 0,
    arrived := [], tx := [], out := {}, behind := [], lastFront := none, lastGust := none, haveAvg := false, lastT3d := none, timeLull := false,
    timeValid := false, timeSet := false, sumRtt := 0, sumDiff := 0, frames := 0 }

/-- Port n leaves its state for one that is not UP, with a cause of R363: the link-down event of a port that was UP, or
that becomes MISMATCH. -/
def portLeaves (n : Fin 8) (st : PortSt) (cause : Nat) (s : State) : State :=
  let p := s.port[n]
  let wasUp := p.st == .up
  let absent := if s.fab.state = 3 then (membersBehind s.fab.roster [] n).length else 0
  let s := s.updPort n (fun p => p.closed st)
  let s := refreshFlag s
  if wasUp then linkLost n (portEvent n 1 (cause + min absent 65535 * 2 ^ 16) s)
  else if st = .mismatch then portEvent n 1 cause s
  else s

/-- The cause codes of R363. -/
def DownCause.eventCode : DownCause → Nat
  | .los => 1 | .modabs => 2 | .comma => 3 | .helloTimeout => 6

/-- The sideband ball a cause shows on (R329). -/
def setSideband (n : Fin 8) (c : DownCause) (v : Bool) (s : State) : State :=
  match c with
  | .los => { s with pins := { s.pins with los := upd s.pins.los n (fun _ => v) } }
  | .modabs => { s with pins := { s.pins with modabs := upd s.pins.modabs n (fun _ => v) } }
  | _ => s

/-- The port seeks, exchanges or carries items: TRAINING, HELLO, UP, MISMATCH. -/
def PortSt.active : PortSt → Bool
  | .disabled => false | .down => false | _ => true

/-- LINK_DOWN: a down cause appears (R331). LOS and MODABS show at their balls in every state. -/
def linkDown (n : Fin 8) (cause : DownCause) (s : State) : State :=
  if !s.ports.contains n then s
  else
    let sticky := cause == .los || cause == .modabs
    let s := setSideband n cause true s
    let add (p : Port) : Port := if p.causes.contains cause then p else { p with causes := p.causes ++ [cause] }
    if s.port[n].st.active then portLeaves n .down (DownCause.eventCode cause) (s.updPort n add)
    else if sticky then s.updPort n add
    else s

/-- LINK_DOWN (R331, R332, R341, R347, R348, R363). -/
def execLinkDown (n : Fin 8) (cause : DownCause) (s : State) : Host.Outcome State Fault Refusal :=
  .next (linkDown n cause s)

/-- DOWN_CAUSES_CLEARED: every down cause has cleared; a port that is DOWN returns to TRAINING (R331). -/
def downCausesCleared (n : Fin 8) (s : State) : State :=
  let s := setSideband n .los false (setSideband n .modabs false s)
  s.updPort n (fun p => { p with causes := [], st := if p.st = .down then .training else p.st })

/-- DOWN_CAUSES_CLEARED (R331). -/
def execDownCausesCleared (n : Fin 8) (s : State) : Host.Outcome State Fault Refusal := .next (downCausesCleared n s)

/-- COMMA_ALIGNED: comma alignment has held for 4 frames (R330). -/
def commaAligned (n : Fin 8) (s : State) : State :=
  s.updPort n (fun p => { p with st := if p.st = .training then .hello else p.st })

/-- COMMA_ALIGNED (R330). -/
def execCommaAligned (n : Fin 8) (s : State) : Host.Outcome State Fault Refusal := .next (commaAligned n s)

/-- The enable of port n takes effect (R330, R363 cause 4). -/
def portEnabled (n : Fin 8) (on : Bool) (s : State) : State :=
  if on then
    s.updPort n (fun p => if p.st = .disabled then { p with st := if p.causes.isEmpty then .training else .down } else p)
  else if s.port[n].st = .disabled then s
  else
    let s := portLeaves n .disabled 4 s
    s.updPort n (fun p => { p with causes := p.causes.filter (fun c => c == .los || c == .modabs) })

/-- TXDISn: H while the port is disabled, in BOOT and LOAD and under R15 (R329); Z before t_P, pulled up by the board (R439,
R499). -/
def State.txdis (s : State) (n : Fin 8) : Pin :=
  match s.boot.power with
  | .unpowered => .z
  | .resetLow => .z
  | .running => if s.port[n].st = .disabled ∨ s.dev.st = .boot ∨ s.dev.st = .load then .high else .low
  | _ => .high

/-! ## HELLO (R330, R332, R335, R339) -/

/-- An item with a broken character, or whose CRC fails, is discarded whole and counted (R335). -/
def discardItem (n : Fin 8) (s : State) : State := s.updPort n (fun p => { p with discards := p.discards + 1 })

/-- The node's own place in the tree follows its upstream peer (R339). -/
def followPeer (n : Fin 8) (s : State) : State :=
  let p := s.port[n]
  if !s.isUp n || p.st != .up then s
  else if s.fab.state = 0 ∧ (p.peerState = 2 ∨ p.peerState = 3) then { s with fab := { s.fab with state := 1 } }
  else if s.fab.state = 2 then { s with fab := { s.fab with depth := p.peerDepth + 1 } }
  else s

/-- Port n becomes UP: counted and reported (R330, R363). -/
def linkUp (n : Fin 8) (s : State) : State :=
  let s := s.updPort n (fun p => { p with st := .up, linkUps := p.linkUps + 1 })
  let p := s.port[n]
  let id := if p.peerNode = 0xFFFF then 2 ^ 14 else p.peerNode.toNat % 2 ^ 14
  portEvent n 0 (id + (if s.isUp n then 2 ^ 15 else 0) + min p.linkUps.toNat 65535 * 2 ^ 16) s

/-- What a valid HELLO tells of the peer (R335, R362). -/
def noteHello (n : Fin 8) (i : HelloItem) (s : State) : State :=
  s.updPort n (fun p => { p with
    peerSeen := true, peerUp := i.upstream, peerUid := i.uid, peerState := i.nodeState, peerDepth := i.depth,
    peerNode := if i.nodeState = 2 ∨ i.nodeState = 3 then i.nodeId.setWidth 16 else 0xFFFF, peerExt := i.hopExt })

/-- A valid HELLO (R330, R332). -/
def helloValid (n : Fin 8) (i : HelloItem) (s : State) : State :=
  if s.isUp n = i.upstream then
    noteHello n i (if s.port[n].st = .mismatch then s else portLeaves n .mismatch 5 s)
  else
    let s := noteHello n i s
    followPeer n (if s.port[n].st ≠ .up ∧ i.peerSeen then linkUp n s else s)

/-- HELLO received on port n (R330, R332, R335, R339). -/
def hello (n : Fin 8) (i : HelloItem) (s : State) : State :=
  match s.port[n].st with
  | .disabled => s
  | .down => s
  | .training => s
  | _ => if i.crcOk then helloValid n i s else discardItem n s

/-- HELLO (R330, R332, R335, R339, R363). -/
def execHello (n : Fin 8) (item : HelloItem) (s : State) : Host.Outcome State Fault Refusal := .next (hello n item s)

/-- An item on a port that is UP: discarded and counted when its CRC fails (R330, R335). -/
def onItem (n : Fin 8) (crcOk : Bool) (f : State → State) (s : State) : State :=
  if s.port[n].st = .up then (if crcOk then f s else discardItem n s) else s

/-! ## Joining (R339, R340) -/

/-- The pin table (0x6001:02): node ID of each pinned unique ID. -/
def State.pinned (s : State) : List (Nat × Nat) :=
  let b := s.od.bytes 0x6001 2
  (List.range (b.length / 10)).map (fun i => (field b (10 * i) 8, field b (10 * i + 8) 2))

/-- An ID that rule 3 of R340 can give. -/
def State.idFree (s : State) (pins : List (Nat × Nat)) (i : Nat) : Bool :=
  !pins.any (fun p => p.2 = i) && !s.fab.leases.any (fun l => l.node.toNat = i) &&
    !s.fab.roster.any (fun m => m.node.toNat = i)

/-- The ID the root gives to a unique ID (R340). -/
def State.idFor (s : State) (uid : W64) : Option Nat :=
  let pins := s.pinned
  match pins.find? (fun p => p.1 = uid.toNat) with
  | some p => some p.2
  | none => match s.fab.leases.find? (fun l => l.uid = uid) with
    | some l => some l.node.toNat
    | none => ((List.range 16383).map (· + 1)).find? (s.idFree pins)

/-- The root's answer to a JOIN request that came up to it on port n with the recorded path (R340): an ID, or a
reason. -/
def State.joinAnswer (s : State) (i : JoinItem) : Nat ⊕ Nat :=
  match s.idFor i.uid with
  | none => .inr 1
  | some id =>
    if 15 < i.path.length + 1 then .inr 2
    else if i.uid = Config.uniqueId ∨ s.fab.roster.any (fun m => m.uid = i.uid) then .inr 3
    else .inl id

/-- A node ID is behind port n from now on, and behind no other (R339). -/
def learn (n : Fin 8) (node : BitVec 14) (s : State) : State :=
  let s : State := { s with port := s.port.map (fun (p : Port) => { p with behind := p.behind.filter (· ≠ node) }) }
  s.updPort n (fun p => { p with behind := p.behind ++ [node] })

/-- The root serves a JOIN request (R340, R363 kinds 4 and 6). -/
def rootJoin (n : Fin 8) (i : JoinItem) (s : State) : State :=
  match s.joinAnswer i with
  | .inl id =>
    let node := BitVec.ofNat 14 id
    let route := n :: i.path.reverse
    let s := setRoster (s.fab.roster ++ [{ node := node, uid := i.uid, route := route }]) s
    let s := { s with fab := { s.fab with leases := s.fab.leases.filter (fun l => l.node ≠ node) } }
    let s := learn n node s
    let s := sendOn (.joinReply { i with nodeId := node, extra := BitVec.ofNat 4 route.length }) n s
    fabricEvent 4 id n.val 0 s
  | .inr reason =>
    fabricEvent 6 0 n.val reason (sendOn (.joinRefused { i with nodeId := 0, extra := BitVec.ofNat 4 reason }) n s)

/-- JOIN_REQUEST received on port n: the root answers; a JOINED node appends the port and passes it up (R339). -/
def joinRequest (n : Fin 8) (i : JoinItem) (s : State) : State :=
  onItem n i.crcOk (fun s =>
    if s.isUp n then s
    else if s.fab.state = 3 then rootJoin n i s
    else if s.fab.state = 2 then
      match s.upstream with
      | some p => if s.port[p].st = .up then sendOn (.joinRequest { i with path := i.path ++ [n] }) p s else s
      | none => s
    else s) s

/-- JOIN_REQUEST (R339, R340, R363). -/
def execJoinRequest (n : Fin 8) (item : JoinItem) (s : State) : Host.Outcome State Fault Refusal :=
  .next (joinRequest n item s)

/-- The node joins (R339, R363 kind 1). -/
def joined (n : Fin 8) (i : JoinItem) (s : State) : State :=
  let s := { s with fab := { s.fab with
    state := 2, nodeId := i.nodeId.setWidth 16, depth := i.extra, frontFresh := true } }
  fabricEvent 1 i.nodeId.toNat n.val 0 s

/-- A JOIN reply travels down the recorded path; the nodes on it learn the way (R339). -/
def joinReply (n : Fin 8) (i : JoinItem) (s : State) : State :=
  onItem n i.crcOk (fun s =>
    if !s.isUp n then s
    else match i.path.getLast? with
      | some p =>
        let s := learn p i.nodeId s
        if s.port[p].st = .up then sendOn (.joinReply { i with path := i.path.dropLast }) p s else s
      | none => if s.fab.state = 1 ∧ i.uid = Config.uniqueId then joined n i s else s) s

/-- JOIN_REPLY (R339, R363). -/
def execJoinReply (n : Fin 8) (item : JoinItem) (s : State) : Host.Outcome State Fault Refusal :=
  .next (joinReply n item s)

/-- A JOIN refusal travels down the recorded path; the node it is for stays JOINING (R340, R363 kind 3). -/
def joinRefused (n : Fin 8) (i : JoinItem) (s : State) : State :=
  onItem n i.crcOk (fun s =>
    if !s.isUp n then s
    else match i.path.getLast? with
      | some p => if s.port[p].st = .up then sendOn (.joinRefused { i with path := i.path.dropLast }) p s else s
      | none => if s.fab.state = 1 ∧ i.uid = Config.uniqueId then fabricEvent 3 0 n.val i.extra.toNat s else s) s

/-- JOIN_REFUSED (R340, R363). -/
def execJoinRefused (n : Fin 8) (item : JoinItem) (s : State) : Host.Outcome State Fault Refusal :=
  .next (joinRefused n item s)

/-- JOIN_REQUEST_TIMER: a JOINING node sends its request every 1 ms (R339). -/
def joinRequestTimer (s : State) : State :=
  match s.upstream with
  | some p =>
    if s.fab.state = 1 ∧ s.port[p].st = .up then
      sendOn (.joinRequest { path := [], uid := Config.uniqueId, nodeId := 0, extra := 0, crcOk := true }) p s
    else s
  | none => s

/-- JOIN_REQUEST_TIMER (R339). -/
def execJoinRequestTimer (s : State) : Host.Outcome State Fault Refusal := .next (joinRequestTimer s)

/-- LEAVE received on port n: passed up; the root marks the nodes behind the named port absent (R341). -/
def leave (n : Fin 8) (node : BitVec 14) (port : Fin 8) (crcOk : Bool) (s : State) : State :=
  onItem n crcOk (fun s =>
    if s.isUp n then s
    else if s.fab.state = 3 then
      match s.fab.roster.find? (fun m => m.node = node) with
      | some m => markAbsent node.toNat m.route port s
      | none => s
    else if s.fab.state = 2 then
      match s.upstream with
      | some p => if s.port[p].st = .up then sendOn (.leave node port) p s else s
      | none => s
    else s) s

/-- LEAVE (R341, R363). -/
def execLeave (n : Fin 8) (node : BitVec 14) (port : Fin 8) (crcOk : Bool) (s : State) : Host.Outcome State Fault Refusal :=
  .next (leave n node port crcOk s)

/-- DETACH from the upstream port (R341). -/
def detach (n : Fin 8) (crcOk : Bool) (s : State) : State :=
  onItem n crcOk (fun s => if s.isUp n then enterAlone s else s) s

/-- DETACH (R341, R348, R354, R358). -/
def execDetach (n : Fin 8) (crcOk : Bool) (s : State) : Host.Outcome State Fault Refusal := .next (detach n crcOk s)

/-- LEASE_EXPIRY: the lease of an ID ends and the ID becomes free (R341). -/
def leaseExpiry (node : BitVec 14) (s : State) : State :=
  match s.fab.leases.find? (fun l => l.node = node) with
  | some l =>
    let s := s.reach l.ends
    { s with fab := { s.fab with leases := s.fab.leases.filter (fun l => l.node ≠ node) } }
  | none => s

/-- LEASE_EXPIRY (R341). -/
def execLeaseExpiry (node : BitVec 14) (s : State) : Host.Outcome State Fault Refusal := .next (leaseExpiry node s)

/-- A write of 0x6000:01 takes effect (R338): the node is the root, or is one no longer. -/
def rootWritten (on : Bool) (s : State) : State :=
  if on then
    if s.fab.state = 3 then s
    else { s with fab := { s.fab with state := 3, nodeId := 0, depth := 0 } }
  else if s.fab.state = 3 then setRoster [] (enterAlone { s with fab := { s.fab with leases := [] } })
  else s

/-- APPLY_CONFIGURATION: a write of 1 to 0x2000:0B (R75). Another upstream port makes the node ALONE until that port is
UP with a peer in the tree (R339, R348). -/
def applyConfiguration (r : Requester) (s : State) : State :=
  s.request r 0x2000 0x0B .wo [] [need (stagedCsu s.od).valid 0x03030000] (fun s =>
    let old := s.upstream
    let s := (applyCsu (stagedCsu s.od) s).confGen
    let s := if s.upstream = old ∨ s.fab.state = 3 then s else enterAlone s
    (match s.upstream with | some p => followPeer p s | none => s).ok)

/-- APPLY_CONFIGURATION (R53, R73, R75, R110, R112, R122, R332, R348). -/
def execApplyConfiguration (r : Requester) (s : State) : Host.Outcome State Fault Refusal :=
  .next (applyConfiguration r s)

/-! ## Time transfer (R343 to R349) -/

/-- An instant given as (epoch, ZTIME) alone, in the present turn of the count. -/
def State.inTurn (s : State) (x : Nat) : Instant := turnsOf s.now * fuPerTE + x

/-- RTT in fu of a frame that arrives at t4, from the departure t1 of the echoed frame (R343, R344): (t4 − t1) − (t3 − t2). -/
def TimeItem.rtt (i : TimeItem) (t1 t4 : Instant) : Int := (t4 : Int) - t1 + i.echoOff.toInt * fuPerTE + i.echoFine.val

/-- t3 of a frame: the departure with its epoch. -/
def TimeItem.t3 (i : TimeItem) : Instant := (i.epoch.toNat * 2 ^ 52 + i.departure.toNat) * fuPerTE

/-- The measures of a frame join the port's sums (R344); none where the echoed frame is not one this node sent. -/
def addFrame (n : Fin 8) (i : TimeItem) (s : State) : State :=
  let t4 := s.inTurn i.t4
  let t3 := s.inTurn (TimeItem.t3 i)
  match s.departure i.echoed t4 with
  | some t1 =>
    let rtt := TimeItem.rtt i t1 t4
    s.updPort n (fun p => { p with
      sumRtt := p.sumRtt + rtt, sumDiff := p.sumDiff + ((t4 : Int) - t3), frames := p.frames + 1
      lastT3d := some ((t3 : Int) + (rtt - p.alphaEff) / 2).toNat })
  | none => s.updPort n (fun p => { p with lastT3d := none })

/-- The frame is the marked edge of an ALIGN with the fabric marker (R347): the first one, at least 2 frames after acceptance, on
the upstream port with a Tide average, that carries the time-valid bit and gives t3 + d. -/
def markFrame (n : Fin 8) (i : TimeItem) (s : State) : State :=
  match s.csu.align, s.port[n].lastT3d with
  | some a, some y =>
    let t4 := s.inTurn i.t4
    if a.marker = 2 ∧ s.upPort = some n ∧ a.mark.isNone ∧ i.valid ∧ s.port[n].haveAvg ∧ a.accepted + 2 * frameTE ≤ teOf t4 then
      { s with csu := { s.csu with align := some { a with mark := some (t4, y) } } }
    else s
  | _, _ => s

/-- A valid time item on port n (R343, R344, R346 to R348). -/
def timeValidItem (n : Fin 8) (i : TimeItem) (s : State) : State :=
  let s := addFrame n i s
  let s := s.updPort n (fun p => { p with timeLull := i.lull, timeValid := i.valid, timeSet := i.timeSet })
  let s := markFrame n i s
  if s.isUp n then
    let s := refreshFlag s
    match s.fab.setPending, s.port[n].lastT3d with
    | true, some x =>
      let s := setTime 4 (teOf x) s
      { s with fab := { s.fab with setPending := false, steerOk := s.csu.st.isLocked } }
    | _, _ => s
  else s

/-- TIME_ITEM received on port n: the comma's arrival is measured and closes the check of the frame before (R333, R343),
in every state with comma alignment (R330, R362); then the item (R335). -/
def timeItem (n : Fin 8) (i : TimeItem) (s : State) : State :=
  match s.port[n].st with
  | .disabled => s
  | .down => s
  | .training => s
  | _ =>
    let t4 := s.inTurn i.t4
    let s := checkFrame n i.frame (s.reach (teOf t4))
    let s := s.updPort n (fun p => { p with arrived := ((i.frame.number, t4) :: p.arrived).take 4 })
    onItem n i.crcOk (timeValidItem n i) s

/-- TIME_ITEM (R41, R50, R62, R116, R248, R333 to R335, R343, R344, R346, R362, R363, R414). -/
def execTimeItem (n : Fin 8) (item : TimeItem) (s : State) : Host.Outcome State Fault Refusal :=
  .next (timeItem n item s)

/-- The correction of one Tide (R345): −clamp(θ̄ − Δ, −8 fu, +8 fu). -/
def steerBy (theta delta : Int) : Int := -clampInt (-8) 8 (theta - delta)

/-- 32-bit signed saturation of a detail code. -/
def signed32 (i : Int) : Nat := signedCode 32 (clampInt (-2147483648) 2147483647 i)

/-- The Tide average of port n (R344, R349, R351, R363). -/
def portAverage (n : Fin 8) (s : State) : State :=
  let p := s.port[n]
  let alpha := signedVal 32 (s.nat (portIdx n) 6)
  let f := p.frames
  if f < 1000 then s.updPort n (fun p => { p with sumRtt := 0, sumDiff := 0, frames := 0 })
  else
    let rtt := (roundDiv p.sumRtt f).toNat
    let d := (roundDiv (p.sumRtt - f * alpha) (2 * f)).toNat
    let theta := roundDiv (2 * p.sumDiff - p.sumRtt + f * alpha) (2 * f)
    let beyond := decide ((24 + s.linkExt n) * fuPerTE < d)
    let change := (rtt : Int) - p.rttRep.getD rtt
    let report := decide (s.nat (portIdx n) 0x0A < change.natAbs)
    let s := s.updPort n (fun p => { p with
      sumRtt := 0, sumDiff := 0, frames := 0, rtt := rtt, delay := d, theta := some theta, haveAvg := true,
      alphaEff := alpha, rttRep := some (if report then rtt else p.rttRep.getD rtt),
      rttBase := some (p.rttBase.getD rtt), overBudget := beyond })
    let s := noteMeasure (19 + n.val) ((rtt : Int) - (p.rttBase.getD rtt : Nat)).natAbs s
    let s := if s.isUp n then { s with fab := { s.fab with offset := theta } } else s
    let s := if report then portEvent n 2 (signed32 change) s else s
    if beyond && !p.overBudget then fabricEvent 7 s.fab.nodeId.toNat n.val 0 s else s

/-- The boundary that ends a Tide for the ports (R344 to R346): averages, unlock beyond 400 fu, steering. -/
def fabricAtBoundary (s : State) : State :=
  let full := match s.upPort with | some p => decide (1000 ≤ s.port[p].frames) | none => false
  let s := each (s.ports.filter (fun n => s.port[n].st == .up)) portAverage s
  let theta := s.fab.offset
  let delta := s.deltaNow
  let s :=
    if s.steers && full && decide (400 < (theta - delta).natAbs) then leaveLocked 2 s else s
  let moved := if s.steers then steerBy theta delta else 0
  { s with fab := { s.fab with steered := s.fab.steered + moved } }

/-! ## Event codes, Fronts, Gusts (R351, R353 to R356) -/

/-- An event-code item of which a further link carries the code (R351). -/
def forwardCode (i : CodeItem) (due : TE) (n : Fin 8) (s : State) : State :=
  sendOn (.code { i with
    due := BitVec.ofNat 20 (due + 60 + s.linkExt n), hopsLeft := i.hopsLeft - 1, travelled := i.travelled + 1 }) n s

/-- EVENT_CODE received on port n: held for its due T_E, or delivered late; passed on while hops are left (R351). -/
def eventCode (n : Fin 8) (i : CodeItem) (s : State) : State :=
  onItem n i.crcOk (fun s =>
    let due := expandTE s.now 20 i.due.toNat
    let late := decide (due < s.now)
    let s := { s with fab := { s.fab with
      codesDue := s.fab.codesDue ++ [(max due s.now, i.code)],
      lateCodes := if late then s.fab.lateCodes + 1 else s.fab.lateCodes } }
    let s := if late then
        s.raiseSumAt s.nowAt 496 11 (BitVec.ofNat 32 (11 + i.origin.toNat * 2 ^ 4 + n.val * 2 ^ 18 + 2 ^ 21)) bumpEleven
      else s
    if 2 ≤ i.hopsLeft.toNat ∧ s.inTree then each (s.upPorts.filter (· ≠ n)) (forwardCode i due) s else s) s

/-- EVENT_CODE (R335, R351, R363). -/
def execEventCode (n : Fin 8) (item : CodeItem) (s : State) : Host.Outcome State Fault Refusal :=
  .next (eventCode n item s)

/-- A Front reached the node later than T_arm − 16 T_E (R354): 497 kind 8. -/
def lateFront (f : FrontItem) (g : Fin 16) (s : State) : State := gustEvent 8 g 0 f.sequence.toNat s

/-- FRONT received on port n (R336, R353, R354): a JOINED node passes it down; it is accepted at T_arm, unless it came
too late. -/
def front (n : Fin 8) (f : FrontItem) (s : State) : State :=
  onItem n f.crcOk (fun s =>
    if s.port[n].lastFront = some f || !s.isUp n then s
    else
      let s := s.updPort n (fun p => { p with lastFront := some f })
      let s := if s.fab.state = 2 then sendFront f s.downPorts s else s
      let t := expandTE s.now 32 f.armAt.toNat
      if t < s.now + 16 then each (maskGroups f.mask) (lateFront f) s
      else { s with fab := { s.fab with frontWait := s.fab.frontWait ++ [(f, t)] } }) s

/-- FRONT (R55, R335, R336, R353, R354, R363). -/
def execFront (n : Fin 8) (item : FrontItem) (s : State) : Host.Outcome State Fault Refusal := .next (front n item s)

/-- GUST received on port n (R336, R356): the contest, and the item passed on once. -/
def gust (n : Fin 8) (i : GustItem) (s : State) : State :=
  onItem n i.crcOk (fun s =>
    if s.port[n].lastGust = some i then s
    else
      let s := s.updPort n (fun p => { p with lastGust := some i })
      let x := startOf (expandTE s.now 32 i.fireTE.toNat) + i.fireFine.val
      let stale := s.staleGust i.group i.sequence
      let s := contest i.group i.sequence (x, i.node.setWidth 16) s
      if stale || s.fab.seenGusts.contains i || s.fab.state = 0 then s
      else
        each (s.upPorts.filter (· ≠ n)) (sendOn (.gust i)) { s with fab := { s.fab with seenGusts := i :: s.fab.seenGusts } }) s

/-- GUST (R335, R336, R356, R358, R363). -/
def execGust (n : Fin 8) (item : GustItem) (s : State) : Host.Outcome State Fault Refusal := .next (gust n item s)

/-! ## Bulk transfer (R361) -/

/-- Every source Pan goes back to the host; the transfer ends (R361): state 2 with kind 8, or 3 with kind 9. -/
def bulkEnds (ok : Bool) (s : State) : State :=
  match s.fab.sendReq with
  | none => s
  | some (dest, first, count, _) =>
    let port := match s.routeTo dest with | some p => p.val | none => 0
    let s := each ((List.range count).map (first + ·)) (fun p t => t.givePan p) s
    let mine (i : TxItem) : Bool := match i with | .bulk d => s.isMine d.src | _ => false
    let s := { s with
      fab := { s.fab with sendSt := if ok then 2 else 3, sendReq := none }
      port := s.port.map (fun p => { p with tx := p.tx.filter (fun i => !mine i) }) }
    fabricEvent (if ok then 8 else 9) dest.toNat port 0 s

/-- One source Pan leaves as a bulk item, an offset beyond every window as 2,047, with a failing CRC-32 when it holds a poisoned word (R360, R361, R376). -/
def sendPan (dest : BitVec 14) (first count offset : Nat) (k : Nat) (s : State) : State :=
  match s.routeTo dest with
  | some n =>
    let s := readPan (first + k) s
    sendOn (.bulk { dest := dest, src := BitVec.ofNat 14 s.fab.nodeId.toNat, offset := BitVec.ofNat 11 (min 2047 (offset + k)),
                    last := decide (k + 1 = count), data := s.readBytes (4096 * (first + k)) 4096,
                    crcOk := !s.panPoisoned (first + k) }) n s
  | none => s

/-- BULK_SEND: a write of 0x6300:01 (R361). -/
def bulkSend (r : Requester) (dest first count offset : W16) (s : State) : State :=
  let f := first.toNat
  let c := count.toNat
  let pans := (List.range c).map (f + ·)
  s.request r 0x6300 1 .wo
    [need (decide (dest.toNat < 16384) && decide (1 ≤ c) && decide (c ≤ 2047)) 0x03020000]
    [need s.inTree 0x04020000, need (decide (f + c ≤ 2048)) 0x03030000, need (s.fab.sendSt != 1) 0x04030000,
     need (s.allHost pans) 0x06010000]
    (fun s =>
      let d := BitVec.ofNat 14 dest.toNat
      let s := each pans (fun p t => t.takePan p 0x21) s
      let s := { s with fab := { s.fab with sendSt := 1, sent := 0, sendReq := some (d, f, c, offset.toNat) } }
      if s.isMine d || (s.routeTo d).isNone then (bulkEnds false s).ok
      else (each (List.range c) (sendPan d f c offset.toNat) s).ok)

/-- BULK_SEND (R361, R371). -/
def execBulkSend (r : Requester) (dest firstPan count offset : W16) (s : State) : Host.Outcome State Fault Refusal :=
  .next (bulkSend r dest firstPan count offset s)

/-- The window closes: Pans still held go back (R361). -/
def closeWindow (s : State) : State :=
  let s := each s.fab.windowHeld (fun p t => t.givePan p) s
  { s with fab := { s.fab with windowOn := false, windowHeld := [] } }

/-- WINDOW_OPEN: a write of 0x6300:06 (R361). -/
def windowOpen (r : Requester) (opened : Bool) (s : State) : State :=
  let f := s.nat 0x6300 4
  let c := s.nat 0x6300 5
  let pans := (List.range c).map (f + ·)
  let opens := opened && !s.fab.windowOn
  s.request r 0x6300 6 .rwh []
    [need (!opens || decide (f + c ≤ 2048)) 0x03030000, need (!opens || s.allHost pans) 0x06010000]
    (fun s =>
      let s := (s.store1 0x6300 6 (.num (if opened then 1 else 0))).confGen
      let s :=
        if opens then
          let s := each pans (fun p t => t.takePan p 0x22) s
          { s with fab := { s.fab with windowOn := true, windowHeld := pans, winFirst := f, winCount := c } }
        else if opened then s
        else closeWindow s
      s.ok)

/-- WINDOW_OPEN (R361, R371). -/
def execWindowOpen (r : Requester) (opened : Bool) (s : State) : Host.Outcome State Fault Refusal :=
  .next (windowOpen r opened s)

/-- The window takes the Pan at an offset (R361): open, inside it, still held, still owned by the device. -/
def State.windowTakes (s : State) (offset : Nat) : Bool :=
  let p := s.fab.winFirst + offset
  s.fab.windowOn && decide (offset < s.fab.winCount) && s.fab.windowHeld.contains p && (s.flag p).owner == .device

/-- The answer of a destination to a bulk item. -/
def bulkAnswer (i : DataItem) (failed : Bool) (s : State) : State :=
  match s.routeTo i.src with
  | some n => sendOn (.bulkResult i.src (BitVec.ofNat 14 s.fab.nodeId.toNat) i.offset failed) n s
  | none => s

/-- A bulk item belongs to a transfer that has failed (R361): it is the Pan that follows in it. -/
def Fabric.ended (f : Fabric) (i : DataItem) : Bool := f.failed.contains (i.src, i.offset.toNat)

/-- The transfer from a source has failed up to the item, whose last Pan ends it; without an item it has not (R361). -/
def Fabric.noteFailed (f : Fabric) (src : BitVec 14) (i : Option DataItem) : Fabric :=
  let rest := f.failed.filter (fun p => p.1 ≠ src)
  { f with failed := match i with
    | some d => if d.last then rest else (src, d.offset.toNat + 1) :: rest
    | none => rest }

/-- A bulk item reaches its destination on port n (R361). Once a Pan has failed, its transfer has ended: what follows of it is
discarded. -/
def bulkArrives (n : Fin 8) (i : DataItem) (s : State) : State :=
  let p := s.fab.winFirst + i.offset.toNat
  if s.fab.ended i then { s with fab := s.fab.noteFailed i.src (some i) }
  else if i.crcOk && s.windowTakes i.offset.toNat then
    let s := s.writeBytes (4096 * p) (slice i.data 0 4096)
    let s := s.handOver p .host 0
    let s := { s with fab := { s.fab.noteFailed i.src none with
      windowHeld := s.fab.windowHeld.filter (· ≠ p), received := s.fab.received + 1 } }
    let s := bulkAnswer i false s
    if i.last then fabricEvent 8 i.src.toNat n.val 0 s else s
  else
    let s := { s with fab := s.fab.noteFailed i.src (some i) }
    fabricEvent 9 i.src.toNat n.val 0 (bulkAnswer i true s)

/-- BULK received on port n: for this node, or passed on towards its destination (R360, R361). -/
def bulk (n : Fin 8) (i : DataItem) (s : State) : State :=
  if s.port[n].st = .up then
    if s.isMine i.dest then bulkArrives n i s
    else if s.inTree then
      match s.routeTo i.dest with
      | some p => if p = n then s else sendOn (.bulk i) p s
      | none => s
    else s
  else s

/-- BULK (R360, R361, R363, R371). -/
def execBulk (n : Fin 8) (item : DataItem) (s : State) : Host.Outcome State Fault Refusal := .next (bulk n item s)

/-- A result for the transfer in progress (R361). -/
def bulkResultMine (src : BitVec 14) (offset : Nat) (failed : Bool) (s : State) : State :=
  match s.fab.sendReq with
  | some (dest, _, count, off) =>
    if dest = src ∧ min 2047 off ≤ offset ∧ offset < off + count then
      if failed then bulkEnds false s
      else
        let s := { s with fab := { s.fab with sent := s.fab.sent + 1 } }
        if s.fab.sent.toNat = count then bulkEnds true s else s
    else s
  | none => s

/-- BULK_RESULT received on port n (R361). -/
def bulkResult (n : Fin 8) (dest src : BitVec 14) (offset : BitVec 11) (failed crcOk : Bool) (s : State) : State :=
  onItem n crcOk (fun s =>
    if s.isMine dest then bulkResultMine src offset.toNat failed s
    else if s.inTree then
      match s.routeTo dest with
      | some p => if p = n then s else sendOn (.bulkResult dest src offset failed) p s
      | none => s
    else s) s

/-- BULK_RESULT (R335, R361, R363, R371). -/
def execBulkResult (n : Fin 8) (dest src : BitVec 14) (offset : BitVec 11) (failed crcOk : Bool) (s : State) :
    Host.Outcome State Fault Refusal := .next (bulkResult n dest src offset failed crcOk s)

end Sys2Proof.Machine
end

