-- ==== Sys2Proof/Machine/Message.lean ====
section
/-!
DEFINITION. KPP messages as bytes (spec 15, R417, R418).
-/
namespace Sys2Proof.Machine

/-- The flag byte of the header (R417). -/
def flagByte (m : KppMsg) : Nat :=
  (if m.response then 1 else 0) + (if m.hold then 2 else 0) + (if m.staged then 4 else 0) + (if m.descriptor then 8 else 0)
    + (if m.lastSeg then 16 else 0) + m.resvHi.toNat * 32

/-- The bytes of a message (R417). -/
def encodeMsg (m : KppMsg) : List Byte :=
  toBytes 2 m.magic.toNat ++ toBytes 1 (m.version.toNat + 16 * m.resv.toNat) ++ [m.opcode] ++ toBytes 1 (flagByte m)
    ++ [m.session] ++ toBytes 2 m.destination.toNat ++ toBytes 2 m.transaction.toNat ++ toBytes 2 m.length.toNat
    ++ toBytes 4 m.status.toNat ++ m.payload

/-- The message that bytes spell (R417). -/
def decodeMsg (b : List Byte) : KppMsg where
  magic := BitVec.ofNat 16 (field b 0 2)
  version := BitVec.ofNat 4 (field b 2 1)
  resv := BitVec.ofNat 4 (field b 2 1 / 16)
  opcode := BitVec.ofNat 8 (field b 3 1)
  response := bit (field b 4 1) 0
  hold := bit (field b 4 1) 1
  staged := bit (field b 4 1) 2
  descriptor := bit (field b 4 1) 3
  lastSeg := bit (field b 4 1) 4
  resvHi := BitVec.ofNat 3 (field b 4 1 / 32)
  session := BitVec.ofNat 8 (field b 5 1)
  destination := BitVec.ofNat 16 (field b 6 2)
  transaction := BitVec.ofNat 16 (field b 8 2)
  length := BitVec.ofNat 16 (field b 10 2)
  status := BitVec.ofNat 32 (field b 12 4)
  payload := b.drop 16

/-- The response to a request (R418): its header with the response bit, the status and the new payload. -/
def responseTo (m : KppMsg) (status : W32) (payload : List Byte) : KppMsg :=
  { m with response := true, status := status, payload := payload, length := BitVec.ofNat 16 payload.length }

/-- An EVENT message of a subscription (R417, R425). -/
def eventMsg (node : W16) (session : Byte) (count : W16) (payload : List Byte) : KppMsg where
  magic := 0x5A4B
  version := 1
  resv := 0
  opcode := 0x06
  response := true
  hold := false
  staged := false
  descriptor := false
  lastSeg := false
  resvHi := 0
  session := session
  destination := node
  transaction := count
  length := BitVec.ofNat 16 payload.length
  status := 0
  payload := payload

end Sys2Proof.Machine
end

