-- ==== Sys2Proof/Machine/Saltern.lean ====
section
/-!
DEFINITION. The Saltern's host side, the event merger's batches, the event ring and the BAR0 registers (spec 14, R365 to
R394; spec 02, R65 to R69).
-/
namespace Sys2Proof.Machine

/-! ## Flag writes (R370) -/

/-- The engine whose spill ring a Pan belongs to while the engine stores or drains (R318, R370; log entry 31). -/
def State.spillEngine (s : State) (pan : Nat) : Option (Fin 4) :=
  s.clusters.find? (fun cl => let c := s.cap[cl]
    c.cfg.spill && (c.storing || c.st == .draining) && c.cfg.pans.contains pan)

/-- The outcome of a flag write (R370). -/
inductive FlagOutcome where
  | unchanged | accepted (f : PanFlag) | violates (kind : Nat)
deriving DecidableEq, Repr

/-- The device has changed the flag in the present CLK_C cycle, of 2 T_E (R374). -/
def State.justChanged (s : State) (pan : Nat) : Bool := (s.flag pan).changed.any (fun t => t / 2 == s.now / 2)

/-- A flag write is judged against the flag in force (R370); behind a change by the device in the same cycle it is stale (R374). -/
def State.judgeFlag (s : State) (pan : Nat) (value : Byte) : FlagOutcome :=
  let f := s.flag pan
  let o := Owner.ofCode value.toNat
  let next := decide (value.toNat / 4 = (f.gen.toNat + 1) % 64)
  if value = f.byte then .unchanged
  else if s.justChanged pan then .violates 3
  else match f.owner, o with
    | .free, .host => if next then .accepted { f with owner := .host, gen := f.gen + 1, changed := none } else .violates 3
    | .host, .free => if next then .accepted { f with owner := .free, gen := f.gen + 1, changed := none } else .violates 3
    | .host, .device =>
      match s.spillEngine pan with
      | some cl =>
        if next then .accepted { owner := .device, gen := f.gen + 1, use := BitVec.ofNat 8 (0x10 + cl.val) }
        else .violates 3
      | none => .violates 2
    | _, _ => .violates 2

/-- One flag byte written by the host on a path (R370, R375). -/
def writeFlag (path : Path) (pan : Nat) (value : Byte) (s : State) : State :=
  match s.judgeFlag pan value with
  | .unchanged => s
  | .accepted f => s.setFlag pan f
  | .violates k => s.violation path pan k

/-- FLAG_WRITE through 0x7001:03 on Pan `pan` (R370, R391). -/
def flagWrite (r : Requester) (pan : BitVec 11) (value : Byte) (s : State) : State :=
  s.request r 0x7001 3 .wo [] [need (pan != 0) 0x06010000] (fun s =>
    match s.judgeFlag pan.toNat value with
    | .violates _ => (writeFlag r.path pan.toNat value s).reply 0x06010000
    | _ => (writeFlag r.path pan.toNat value s).ok)

/-- FLAG_WRITE (R55, R369, R370, R391, R393). -/
def execFlagWrite (r : Requester) (pan : BitVec 11) (value : Byte) (s : State) : Host.Outcome State Fault Refusal :=
  .next (flagWrite r pan value s)

/-! ## Host data (R372, R375, R376) -/

/-- The flag bytes of a block of Pan 0, each judged in address order (R370). -/
def writeFlags (path : Path) : Nat → List (Option Byte) → State → State
  | _, [], s => s
  | pan, none :: rest, s => writeFlags path (pan + 1) rest s
  | pan, some b :: rest, s => writeFlags path (pan + 1) rest (writeFlag path pan b s)

/-- A host block of 64 bytes, some of them enabled (R372, R375). -/
def hostBlock (path : Path) (block : Nat) (bytes : List (Option Byte)) (s : State) : State :=
  let pan := block / 64
  if bytes.all Option.isNone then s
  else if pan = 0 then
    if block < 32 then writeFlags path (64 * block) bytes s else s.violation path 0 4
  else match (s.flag pan).owner with
    | .device => s.violation path pan 0
    | .frozen => s.violation path pan 1
    | _ => s.putWords (16 * block) 16 bytes

/-- The host reaches BAR0 and BAR2 once the device has left LOAD (R380, R402), in D0 (R379; log entry 92). -/
def State.pcieOpen (s : State) : Bool := s.dev.st != .boot && s.dev.st != .load && !s.host.config.d3hot

/-- Event 499 (R393). -/
def pcieEvent (kind : Nat) (s : State) : State :=
  s.raiseOnce 499 kind (kind + s.host.width.toNat * 2 ^ 4 + s.host.speed.toNat * 2 ^ 8)

/-- An unsupported or malformed request is reported (R393) and noted in the error status (R379), with its bit there: 20
unsupported, 18 malformed (log entry 92). -/
def badRequest (bit : Nat) (s : State) : State :=
  pcieEvent 4 { s with host := { s.host with config := { s.host.config with
    aerStatus := s.host.config.aerStatus ||| BitVec.ofNat 32 (2 ^ bit) } } }

/-- A request for BAR0 or BAR2 that is not served: in D3hot it is unsupported, before IDLE nothing happens (log entries 25,
92). -/
def notServed (s : State) : State :=
  if s.dev.st = .boot ∨ s.dev.st = .load then s else badRequest 20 s

/-- HOST_BLOCK_WRITE: a BAR2 block (R372, R382). A write beyond the 8 MiB of BAR2 is no request of this endpoint's, so it is
unsupported (R393; log entry 88). -/
def execHostBlockWrite (block : Nat) (bytes : List (Option Byte)) (s : State) : Host.Outcome State Fault Refusal :=
  .next (if !s.pcieOpen then notServed s else if 131072 ≤ block then badRequest 20 s else hostBlock .pcie block bytes s)

/-- Blocks of an object's write of a Pan, in order (R372). -/
def hostBlocks (path : Path) : Nat → Nat → List Byte → State → State
  | 0, _, _, s => s
  | n + 1, block, bs, s =>
    hostBlocks path n (block + 1) (bs.drop 64) (hostBlock path block ((slice bs 0 64).map some) s)

/-- The host may write the data of a Pan (R369): it is free or the host's. -/
def State.hostWritable (s : State) (pan : Nat) : Bool :=
  match (s.flag pan).owner with | .free => true | .host => true | _ => false

/-- PAN_DATA: a write of 0x7001:02 (R375, R391): 64 blocks at the Saltern port. -/
def panData (r : Requester) (data : List Byte) (s : State) : State :=
  let pan := s.nat 0x7001 1
  s.request r 0x7001 2 .rw [need (decide (data.length = 4096)) 0x03010000] [need (pan != 0) 0x06010000] (fun s =>
    let code : W32 := if s.hostWritable pan then 0 else 0x06010000
    (hostBlocks r.path 64 (64 * pan) data s).reply code)

/-- PAN_DATA (R375, R376, R391, R393). -/
def execPanData (r : Requester) (data : List Byte) (s : State) : Host.Outcome State Fault Refusal :=
  .next (panData r data s)

/-- THAW: a write of 1 to 0x7001:04 on the selected Pan (R378). -/
def thaw (r : Requester) (s : State) : State :=
  let pan := s.nat 0x7001 1
  s.request r 0x7001 4 .wo []
    [need ((s.flag pan).owner == .frozen && pan != 0 && !s.heldByProgram pan) 0x04020000]
    (fun s => ((s.writeBytes (4096 * pan) (List.replicate 4096 0)).handOver pan .host 0).ok)

/-- THAW (R371, R378). -/
def execThaw (r : Requester) (s : State) : Host.Outcome State Fault Refusal := .next (thaw r s)

/-! ## BAR2 reads (R377) -/

/-- The words that an access touches. -/
def wordsOf (addr n : Nat) : List Nat := (List.range ((addr + n + 3) / 4 - addr / 4)).map (addr / 4 + ·)

/-- A byte as a PCIe completion carries it: of a poisoned word, 0xBAD0_BAD0 (R377). -/
def State.tlpByte (s : State) (a : Nat) : Byte :=
  if s.isPoisoned (salternWord (a / 4)) then (if a % 2 = 0 then 0xD0 else 0xBA) else s.byte a

/-- The completions of a read: it is split at 64-byte boundaries (R377). -/
def State.completionsOf (s : State) : Nat → Nat → Nat → List Completion
  | 0, _, _ => []
  | fuel + 1, addr, n =>
    let k := min n (64 - addr % 64)
    if n = 0 then []
    else { bytes := (List.range k).map (fun i => s.tlpByte (addr + i))
           poisoned := (wordsOf addr k).any (fun w => s.isPoisoned (salternWord w)) } ::
      State.completionsOf s fuel (addr + k) (n - k)

/-- The data of the last read of BAR2 (R377). -/
def HostIf.lastRead (h : HostIf) : List Byte := h.completions.flatMap Completion.bytes

/-- Some completion of the last read of BAR2 was sent as a poisoned TLP (R377). -/
def HostIf.poisonedTlp (h : HostIf) : Bool := h.completions.any Completion.poisoned

/-- BAR2_READ: the words are read; a completion with a poisoned one is a poisoned TLP (R377, R382, R462, R463). A read beyond the
8 MiB is unsupported; one of more than 4,096 bytes or across a 4 KiB boundary is malformed (R379, R393; log entry 88). -/
def bar2Read (addr length : Nat) (s : State) : State :=
  if 4096 < length ∨ 4096 < addr % 4096 + length then badRequest 18 s
  else if 8388608 < addr + length then badRequest 20 s
  else
    let s := each (wordsOf addr length) (fun w t => readWord (salternWord w) t) s
    let s := { s with host := { s.host with completions := s.completionsOf length addr length } }
    if s.host.poisonedTlp then pcieEvent 7 s else s

/-- BAR2_READ (R377, R382, R393). -/
def execBar2Read (addr length : Nat) (s : State) : Host.Outcome State Fault Refusal :=
  .next (if s.pcieOpen then bar2Read addr length s else notServed s)

/-! ## The event ring (R385 to R390) -/

/-- The ring's capacity in records (R385). -/
def Ring.cap (q : Ring) : Nat := 256 * q.pans

/-- Records free for writing (R386, R389). -/
def Ring.freeCount (q : Ring) : Nat := q.cap - (q.wr - q.cons).toNat

/-- The byte address of index i (R386). -/
def Ring.slot (q : Ring) (i : W32) : Nat :=
  let k := i.toNat % q.cap
  4096 * (q.first + k / 256) + 16 * (k % 256)

/-- A record at the next index. -/
def ringPut (r : W128) (s : State) : State :=
  let s := s.writeRecord (s.ring.slot s.ring.wr) r
  { s with ring := { s.ring with wr := s.ring.wr + 1 } }

/-- A record that finds fewer than 2 records free is lost (R389): counted, ALERT_STATUS [1], 500 kind 1. -/
def ringLose (x : Instant) (s : State) : State :=
  let q := s.ring
  let s := { s with ring := { q with
    lost := q.lost + 1, gap := some (match q.gap with | some (n, f) => (n + 1, f) | none => (1, x)) } }
  (s.raiseCount 500 1 1).setAlert 2

/-- The gap record that stands for the run of lost records (R389). -/
def ringGap (s : State) : State :=
  match s.ring.gap with
  | some (n, f) =>
    let s := { s with ring := { s.ring with gap := none } }
    ringPut (record 0x06 (if s.lullAt f then 1 else 0) 0 0 (min n 0xFFFFFFFF) (ztime f).toNat) s
  | none => s

/-- The record of an event or anchor (R56, R58). -/
def Event.toRecord (e : Event) : W128 :=
  record (if e.anchor then 0x07 else 0x05) e.flags.toNat e.source 0 e.detail.toNat (ztime e.at_).toNat

/-- The merger has taken an event: its record goes to the ring (R387, R389). -/
def ringWrite (e : Event) (s : State) : State :=
  if s.ring.on && decide (s.ring.since ≤ e.at_) then
    if s.ring.freeCount < 2 then ringLose e.at_ s
    else
      let s := ringGap s
      if s.ring.freeCount < 2 then ringLose e.at_ s else ringPut e.toRecord s
  else s

/-! ## Taking events and closing batches (R66, R68) -/

/-- The order of the merger's key: instant, then anchors first, then source number (R66). -/
def Event.before (a b : Event) : Bool :=
  decide (a.at_ < b.at_) || (a.at_ = b.at_ && ((a.anchor && !b.anchor) || (a.anchor = b.anchor && decide (a.source < b.source))))

/-- Insert an event by the key, behind its equals. -/
def insertEvent (e : Event) : List Event → List Event
  | [] => [e]
  | f :: rest => if e.before f then e :: f :: rest else f :: insertEvent e rest

/-- Events in the order of the key. -/
def sortEvents (l : List Event) : List Event := l.foldl (fun a e => insertEvent e a) []

/-- A summary event as its Tide ends (R65). -/
def Summary.event (u : Summary) : Event := { at_ := u.at_, source := u.source, detail := u.detail, flags := u.flags }

/-- The merger takes events of the oldest open batch in order; their records go to the ring. -/
def takeAll (l : List Event) (s : State) : State :=
  each l ringWrite { s with merger := { s.merger with taken := s.merger.taken ++ l } }

/-- How many events stand in the oldest open batch. -/
def Merger.waiting (m : Merger) : Nat := match m.ended with | b :: _ => b.events.length | [] => m.open_.length

/-- The merger takes every immediate event of the oldest open batch that is pending (R66). -/
def takePending (s : State) : State :=
  let s := readMerger s.merger.waiting s
  match s.merger.ended with
  | b :: rest => takeAll (sortEvents b.events) { s with merger := { s.merger with ended := { b with events := [] } :: rest } }
  | [] =>
    let ready (e : Event) : Bool := decide (teOf e.at_ < s.nextBoundary)
    takeAll (sortEvents (s.merger.open_.filter ready))
      { s with merger := { s.merger with open_ := s.merger.open_.filter (fun e => !ready e) } }

/-- The summary events of an ended Tide become pending, as the last of its events (R65, R66). -/
def EndedTide.close (b : EndedTide) : EndedTide :=
  { b with events := b.events ++ sortEvents (b.sums.map Summary.event), sums := [] }

/-- BATCH_CLOSE: every event of the oldest ended Tide is taken, summary events last; the batch closes, at the earliest
80 T_E after the boundary (R66, R68). -/
def batchClose (s : State) : State :=
  match s.merger.ended with
  | [] => s
  | b :: _ =>
    let s := takePending (s.reach (b.at_ + 80))
    let s := takePending { s with merger := { s.merger with ended := s.merger.ended.modifyHead EndedTide.close } }
    match s.merger.ended with
    | [] => s
    | b :: rest =>
      let last := match s.merger.closed.getLast? with | some c => c.past | none => s.ring.prod
      let past := if s.ring.since < startOf b.at_ then s.ring.wr else last
      { s with merger := { s.merger with
        ended := rest, taken := []
        closed := s.merger.closed ++ [{ tide := b.tide, events := s.merger.taken, past := past }] } }

/-- BATCH_CLOSE (R14, R32, R65, R66, R68). -/
def execBatchClose (s : State) : Host.Outcome State Fault Refusal := .next (batchClose s)

/-! ## Publication (R383, R387, R425) -/

/-- The payload of one EVENT message (R425). -/
def eventPayload (tide : W64) (part : Nat) (lastPart empty : Bool) (lost : W16) (rs : List W128) : List Byte :=
  toBytes 8 tide.toNat ++ toBytes 2 part ++ toBytes 2 rs.length ++
    toBytes 1 ((if lastPart then 1 else 0) + if empty then 2 else 0) ++ [0] ++ toBytes 2 lost.toNat ++
    (rs.map (fun r => toBytes 16 r.toNat)).flatten

/-- Records in messages of at most 86 (R425); an empty batch is one message. -/
def parts86 : Nat → List W128 → List (List W128)
  | 0, _ => []
  | n + 1, rs => if rs.length ≤ 86 then [rs] else rs.take 86 :: parts86 n (rs.drop 86)

/-- How many more EVENT messages a subscription can have waiting (R425); those on the SPI target share its queue (R427). -/
def State.eventRoom (s : State) (u : Subscription) : Nat :=
  match u.by_.path with
  | .spi => 32 - s.spi.events.length
  | _ => 256 - u.unsent.length

/-- The destination an EVENT names (R417): the subscriber's node on the tunnel. -/
def Requester.node (r : Requester) : W16 := match r.path with | .tunnel => BitVec.ofNat 16 r.addr | _ => 0xFFFF

/-- The EVENT messages of one batch for one subscription: the subscription, the messages made, how many were dropped. -/
structure Events where
  sub     : Subscription
  made    : List (List Byte) := []
  dropped : Nat := 0

/-- One EVENT message is made while there is room for it, else dropped and counted (R425). -/
def queueEvent (room : Nat) (tide : W64) (empty : Bool) (e : Events) (x : Nat × Bool × List W128) : Events :=
  let u := e.sub
  if e.made.length < room then
    let m := eventMsg (Requester.node u.by_) u.by_.session u.count (eventPayload tide x.1 x.2.1 empty u.lost x.2.2)
    { e with sub := { u with count := u.count + 1, lost := 0, first := u.first && x.1 != 0 }, made := e.made ++ [encodeMsg m] }
  else { e with sub := { u with count := u.count + 1, lost := u.lost + 1 }, dropped := e.dropped + 1 }

/-- A published batch for one subscription (R425). -/
def subscriptionBatch (room : Nat) (b : Batch) (start : W128) (u : Subscription) : Events :=
  let evs := b.events.filter (fun e => e.anchor || u.mask.toNat.testBit e.source)
  if evs.isEmpty && !u.empty then { sub := u }
  else
    let rs := (if u.first then [start] else []) ++ evs.map Event.toRecord
    let ps := parts86 (rs.length + 1) rs
    let xs := (List.range ps.length).zip ps |>.map (fun p => (p.1, decide (p.1 + 1 = ps.length), p.2))
    xs.foldl (queueEvent room b.tide evs.isEmpty) { sub := u }

/-- EVENT messages to one subscription: on the SPI target into its queue, else into the subscription's own (R425, R427);
dropped ones raise 494 kind 7. -/
def sendToSub (b : Batch) (u : Subscription) (s : State) : State :=
  let e := subscriptionBatch (s.eventRoom u) b (anchor 0 (if s.lullAt (startOf u.renewed) then 1 else 0) (startOf u.renewed)) u
  let v := if u.by_.path = .spi then e.sub else { e.sub with unsent := u.unsent ++ e.made }
  let s := if u.by_.path = .spi then { s with spi := { s.spi with events := s.spi.events ++ e.made } } else s
  let s := { s with kpp := { s.kpp with
    subs := s.kpp.subs.map (fun w => if Requester.sameHost w.by_ u.by_ then v else w), dropped := s.kpp.dropped + BitVec.ofNat 64 e.dropped } }
  each (List.range e.dropped) (fun _ t => t.raiseCount 494 7 7) s

/-- EVENT messages to every subscription (R69, R425). -/
def sendBatch (b : Batch) (s : State) : State :=
  each s.kpp.subs (sendToSub b) s

/-- The vectors from 2 on that a batch signals, by 0x1401:01 (R383). -/
def batchVectors (map : List Byte) (b : Batch) : List Nat :=
  (List.range 32).filter (fun v => decide (2 ≤ v) && b.events.any (fun e => !e.anchor && field map e.source 1 = v))

/-- The signals of a published batch (R383). -/
def signalBatch (b : Batch) (s : State) : State :=
  let mask := ofBytes (s.od.bytes 0x1401 2)
  let s := if b.events.isEmpty then s else s.msix 1
  let s := each (batchVectors (s.od.bytes 0x1401 1) b) (fun v t => t.msix v) s
  if b.events.any (fun e => !e.anchor && mask.testBit e.source) then s.setAlert 1 else s

/-- BATCH_PUBLISH: the oldest closed batch is published (R387), signalled (R383) and sent to subscribers (R425). -/
def batchPublish (s : State) : State :=
  match s.merger.closed with
  | [] => s
  | b :: rest =>
    let s := { s with merger := { s.merger with closed := rest } }
    let s := if s.ring.on then { s with ring := { s.ring with prod := b.past, tide := b.tide } } else s
    sendBatch b (signalBatch b s)

/-- BATCH_PUBLISH (R14, R69, R383, R387, R389, R393, R425). -/
def execBatchPublish (s : State) : Host.Outcome State Fault Refusal := .next (batchPublish s)

/-- Batches that are closed already hold no record of the ring that follows: their records end at index `i` (R385, R390). -/
def closedEnd (i : W32) (s : State) : State :=
  { s with merger := { s.merger with closed := s.merger.closed.map (fun c => { c with past := i }) } }

/-- The Tide boundary at which the ring's enable becomes 1 (R385): Pans taken, indices 0, the start anchor at index 0;
or the take is refused. -/
def ringOn (b : TE) (s : State) : State :=
  let f := s.nat 0x1400 1
  let k := s.nat 0x1400 2
  let pans := (List.range k).map (f + ·)
  if f + k ≤ 2048 ∧ s.allHost pans then
    let s := each pans (fun p t => t.takePan p 0x20) s
    let s := { s with ring := { s.ring with
      on := true, st := 1, first := f, pans := k, prod := 0, cons := 0, wr := 0, capacity := BitVec.ofNat 32 (256 * k),
      gap := none, since := startOf b } }
    let s := closedEnd 0 s
    (ringPut (anchor 0 (if s.lullAt (startOf b) then 1 else 0) (startOf b)) s).raiseOnce 500 2 2
  else { s with ring := { s.ring with st := 2 } }.raiseOnce 500 4 4

/-- The Tide boundary at which the enable becomes 0 (R390). -/
def ringOff (s : State) : State :=
  if s.ring.on then
    let pans := (List.range s.ring.pans).map (s.ring.first + ·)
    let s := each pans (fun p t => t.givePan p) s
    (closedEnd s.ring.prod { s with ring := { s.ring with on := false, st := 0, gap := none, wr := s.ring.prod } }).raiseOnce 500 3 3
  else { s with ring := { s.ring with st := 0 } }

/-! ## BAR0 (R381, R383, R384, R388) -/

/-- EVR_CONS: the host frees records (R388). -/
def evrCons (v : W32) (s : State) : State :=
  let s := takePending s
  let q := s.ring
  if (v - q.cons).toNat ≤ (q.prod - q.cons).toNat then { s with ring := { q with cons := v } } else pcieEvent 6 s

/-- EVR_CONS (R388, R389, R393). -/
def execEvrCons (value : W32) (s : State) : Host.Outcome State Fault Refusal :=
  .next (if s.pcieOpen then evrCons value s else notServed s)

/-- EVR_PROD: a read latches EVR_TIDE_LO and EVR_TIDE_HI (R381). -/
def execEvrProd (s : State) : Host.Outcome State Fault Refusal :=
  .next (if s.pcieOpen then { s with ring := { s.ring with latchTide := some s.ring.tide } } else notServed s)

/-- What EVR_TIDE_LO and EVR_TIDE_HI read (R381). -/
def Ring.tideRead (q : Ring) : W64 := q.latchTide.getD q.tide

/-- ALERT_STATUS: bits written 1 are cleared (R381). -/
def execAlertStatus (value : W32) (s : State) : Host.Outcome State Fault Refusal :=
  .next (if s.pcieOpen then
    { s with host := { s.host with alertStatus := s.host.alertStatus &&& ~~~(value.setWidth 4) } }.refreshAlert else notServed s)

/-- A write of a word of the MSI-X table (R381): vectors that it unmasks are sent if they are pending (R383). -/
def msixWrite (offset : Nat) (value : W32) (h : HostIf) : HostIf :=
  let v : Fin 32 := Fin.ofNat 32 (offset / 16)
  let k := 8 * (offset % 16)
  let e := h.msixTable[v]
  let e := (e &&& ~~~((0xFFFFFFFF : W128) <<< k)) ||| (value.setWidth 128 <<< k)
  { h with msixTable := h.msixTable.set v e }.sendPending

/-- A write of an aligned word of BAR0 that no other command makes: ALERT_ENABLE, the MSI-X table; any other is discarded
(R381; log entry 92). -/
def bar0Write (offset : Nat) (value : W32) (s : State) : State :=
  if offset = 0x14 then { s with host := { s.host with alertEnable := value.setWidth 4 } }.refreshAlert
  else if 0x2000 ≤ offset ∧ offset < 0x2200 ∧ offset % 4 = 0 then { s with host := msixWrite (offset - 0x2000) value s.host }
  else s

/-- ALERT_ENABLE is written, or another word of BAR0 (R381, R383). -/
def execAlertEnable (value : W32) (s : State) (offset : Nat := 0x14) : Host.Outcome State Fault Refusal :=
  .next (if s.pcieOpen then bar0Write offset value s else notServed s)

/-- MBX_ACK: a write of 1 releases the response (R381, R384). -/
def execMbxAck (s : State) : Host.Outcome State Fault Refusal :=
  .next (if s.pcieOpen then { s with host := { s.host with mbxReady := false, mbxResponse := [] } } else notServed s)

/-- MBX_STATUS (R381). -/
def HostIf.mbxStatus (h : HostIf) : W32 :=
  BitVec.ofNat 32 ((if h.mbxBusy then 1 else 0) + (if h.mbxReady then 2 else 0) + h.mbxResponse.length * 2 ^ 16)

/-! ## The endpoint (R379, R380, R393) -/

/-- PERST_N: the endpoint, its configuration space and the MSI-X table are reset, nothing else (R380). -/
def execPerstN (s : State) : Host.Outcome State Fault Refusal :=
  .next (pcieEvent 3 { s with host := { s.host with
    msixPending := 0, msixTable := Vector.replicate 32 (BitVec.ofNat 128 (2 ^ 96)), crs := false, config := {} } })

/-- PCIE_LINK_CHANGE (R393): without t_P the link is down (R439, R499). -/
def execPcieLinkChange (up : Bool) (width speed : BitVec 4) (s : State) : Host.Outcome State Fault Refusal :=
  .next (match s.boot.power with
    | .running =>
      let h : HostIf := { s.host with linkUp := up, width := width, speed := speed }
      pcieEvent (if up then 1 else 2) { s with host := h.sendPending }
    | _ => s)

/-- What a register of the configuration space reads (R379; log entry 92). -/
def State.configWord (s : State) (r : ConfigReg) : W32 :=
  let c := s.host.config
  match r with
  | .deviceId => s.part.product
  | .classCode => 0x118000
  | .maxPayload => BitVec.ofNat 32 c.maxPayload
  | .maxRead => BitVec.ofNat 32 c.maxRead
  | .power => if c.d3hot then 3 else 0
  | .msixControl => BitVec.ofNat 32 ((if c.msixOn then 2 ^ 15 else 0) + (if c.msixMask then 2 ^ 14 else 0) + 31)
  | .aerStatus => c.aerStatus

/-- A register of the configuration space is written; a value that the endpoint does not support changes nothing (R379; log
entry 92). -/
def PcieConfig.write (c : PcieConfig) (r : ConfigReg) (v : W32) : PcieConfig :=
  match r with
  | .deviceId => c
  | .classCode => c
  | .maxPayload => if [128, 256, 512].contains v.toNat then { c with maxPayload := v.toNat } else c
  | .maxRead => if [128, 256, 512, 1024, 2048, 4096].contains v.toNat then { c with maxRead := v.toNat } else c
  | .power => if v = 0 then { c with d3hot := false } else if v = 3 then { c with d3hot := true } else c
  | .msixControl => { c with msixOn := v.toNat.testBit 15, msixMask := v.toNat.testBit 14 }
  | .aerStatus => { c with aerStatus := c.aerStatus &&& ~~~v }

/-- CONFIGURATION_REQUEST: Configuration Request Retry Status until the device leaves LOAD (R380); then the request is served, a
read or a write of the configuration space (R379). -/
def configurationRequest (reg : ConfigReg) (value : Option W32) (s : State) : State :=
  if s.dev.st = .boot ∨ s.dev.st = .load then { s with host := { s.host with crs := true } }
  else match value with
    | none => { s with host := { s.host with crs := false, configRead := s.configWord reg } }
    | some v =>
      let h : HostIf := { s.host with crs := false, config := s.host.config.write reg v }
      { s with host := h.sendPending }

/-- CONFIGURATION_REQUEST (R379, R380). -/
def execConfigurationRequest (s : State) (reg : ConfigReg := .deviceId) (value : Option W32 := none) :
    Host.Outcome State Fault Refusal := .next (configurationRequest reg value s)

end Sys2Proof.Machine
end

