-- ==== Sys2Proof/Machine/Check.lean ====
section
/-!
DEFINITION. The checks of a written value (R397, R399 steps 7, 8, 10 and 11): type and length, range, unit state, and what
must hold between the objects of a unit.
-/
namespace Sys2Proof.Machine

/-! ## Type and length (R396, R397) -/

/-- The value has the length of its type or object (R397, and R342 for the pin table). -/
def lengthOk (idx sub : Nat) (t : OdType) (v : List Byte) : Bool :=
  match t with
  | .string => decide (v.length ≤ 64)
  | .domainUpTo n => decide (v.length ≤ n) && !(idx = 0x6001 && sub = 2 && v.length % 10 != 0)
  | _ => v.length = t.len

/-- The stored form of a value. -/
def odVal (t : OdType) (v : List Byte) : OdVal :=
  match t with
  | .string => .bytes v
  | .domain _ => .bytes v
  | .domainUpTo _ => .bytes v
  | _ => .num (ofBytes v)

/-- The number a stored value holds. -/
def OdVal.nat : OdVal → Nat
  | .num n => n
  | .bytes b => ofBytes b

/-- The bytes of a stored value. -/
def OdVal.raw (t : OdType) : OdVal → List Byte
  | .num n => toBytes t.len n
  | .bytes b => b

/-! ## Ranges (R397) -/

/-- A trigger source of channel ch (R143): class, operand, reserved bits, units present. -/
def sourceOk (p : Part) (ch src : Nat) : Bool :=
  let op := src % 2 ^ 24
  let in8 (n : Nat) : Bool := decide (n < 8 * p.clusters)
  match src / 2 ^ 24 with
  | 0 => op = 0
  | 1 => decide (op < 32) && in8 op
  | 2 => decide (op % 256 < 32) && decide (op / 256 < 4) && in8 (op % 256)
  | 3 => decide (op % 256 < 4) && decide (op / 256 < 2)
  | 4 => decide (op / 16 < p.clusters)
  | 5 => decide (op % 256 < 16 * p.clusters) && decide (op / 256 < 2) && op % 256 != ch
  | 6 => decide (op < 2 ^ 16)
  | 7 => decide (op < 2 ^ 16)
  | 8 => decide (1 ≤ op) && decide (op < 2 ^ 20)
  | 9 => op = 0
  | _ => false

/-- The source of an event-code sender (R352): class 0x00, 0x01, 0x02 or 0x04 in its own cluster. -/
def senderSourceOk (p : Part) (i src : Nat) : Bool :=
  let op := src % 2 ^ 24
  sourceOk p 64 src &&
    match src / 2 ^ 24 with
    | 0 => true
    | 1 => op / 8 = i / 8
    | 2 => op % 256 / 8 = i / 8
    | 4 => op / 16 = i / 8
    | _ => false

/-- One term of a condition word (R307). -/
def termOk (t : Nat) : Bool :=
  let q := t / 2 ^ 12
  let c := bits t 8 4
  let op := t % 256
  let level := decide (1 ≤ q) && decide (q ≤ 4)
  if q = 0 then t = 0
  else match c with
    | 1 => q = 5 && decide (op < 24)
    | 2 => q = 5 && decide (op < 24)
    | 3 => level && decide (op < 32)
    | 4 => level && decide (op < 4)
    | 5 => level && decide (op < 8)
    | 6 => level && decide (op < 16)
    | 7 => q = 5 && decide (op < 4)
    | 8 => q = 5 && decide (op < 16)
    | _ => false

/-- A condition word of four terms (R307). -/
def conditionOk (w : Nat) : Bool := (List.range 4).all (fun i => termOk (bits w (16 * i) 16))

/-- A requester code of a slot table (R204): 1 capture, 2 statistics, 3 egress. -/
def slotCodeOk (table c : Nat) : Bool :=
  c = 0xFF || match table with
    | 1 => decide (c ≤ 0x19)
    | 2 => decide (c ≤ 7)
    | _ => decide (c ≤ 0x17) || c = 0x20

/-- The entries of a pin table (R342): no ID 0 or above 16,383, nothing repeated. -/
def pinsOk (b : List Byte) : Bool :=
  let l := (List.range (b.length / 10)).map (fun i => (field b (10 * i) 8, field b (10 * i + 8) 2))
  l.all (fun p => decide (1 ≤ p.2) && decide (p.2 ≤ 16383)) &&
    decide (l.map (fun p => p.1)).Nodup && decide (l.map (fun p => p.2)).Nodup

/-- A centre of a bin table (R261, R270). -/
def centreOk (c : Nat) : Bool := decide (c < 51200) || c = 65535

/-- Words of each memory (R461). -/
def memoryWords : Nat → Nat
  | 0 => 2097152 | 1 => 65536 | 2 => 262144 | 3 => 102400 | 4 => 7700 | 5 => 8192 | _ => 0

/-- An injection target (R466): 8 bytes with memory, cluster, two reserved bytes and word address. -/
def injectionOk (p : Part) (b : List Byte) : Bool :=
  decide (field b 1 1 < p.clusters) && field b 2 2 = 0 && decide (field b 4 4 < memoryWords (field b 0 1))

/-- A unit template's unit number. -/
def unitIn (base stride count idx : Nat) : Option Nat :=
  if base ≤ idx ∧ idx < base + stride * count ∧ (idx - base) % stride = 0 then some ((idx - base) / stride) else none

/-- Ranges with a rule of their own, against the settings `o` that will hold. -/
def customOk (p : Part) (o : Settings) (idx sub : Nat) (v : List Byte) : Bool :=
  let n := ofBytes v
  match unitIn 0x3000 0x20 64 idx, unitIn 0x4400 0x20 32 idx, unitIn 0x4800 0x10 32 idx, unitIn 0x2100 0x10 8 idx with
  | some ch, _, _, _ =>
    if sub = 3 then sourceOk p ch n
    else if sub = 0x16 then entryOk n && entryKind n = 3
    else if sub = 0x1B then decide (n % 2 ^ 32 < 2 ^ (8 * p.clusters))
    else true
  | _, some g, _, _ => if sub = 2 then n / 8 = g / 8 else true
  | _, _, some _, _ => if sub = 6 then decide (n < 16) || n = 255 else true
  | _, _, _, some k => if sub = 3 then decide (n < o.nat (clkIdx k) 2) else true
  | _, _, _, _ =>
    if idx = 0x2000 && sub = 1 then decide (n ≤ 2 * p.clusters)
    else if idx = 0x1401 && sub = 1 then v.all (fun b => b.toNat != 1 && decide (b.toNat ≤ 31))
    else if idx = 0x6001 && sub = 2 then pinsOk v
    else if 0x6100 ≤ idx && idx < 0x6120 && sub = 1 then senderSourceOk p (idx - 0x6100) n
    else if idx = 0x7804 && sub = 1 then injectionOk p v
    else if 0x7820 ≤ idx && idx ≤ 0x783A && sub = 2 then n = 0 || decide (idx ≤ 0x7821)
    else if idx = 0x7820 && sub = 3 then decide (1 ≤ n) && decide (n ≤ 65535)
    else if idx = 0x7821 && sub = 3 then decide (256 ≤ n) && decide (n ≤ 65535)
    else if 0x7F00 ≤ idx && idx < 0x7F40 && sub = 1 then (chunks 4 3200 v).all correctionOk
    else if 0x7F40 ≤ idx && idx < 0x7F60 && sub = 1 then (chunks 2 1536 v).all centreOk
    else if 0x5000 ≤ idx && idx < 0x5400 && idx % 0x100 = 2 then v.all (fun b => slotCodeOk sub b.toNat)
    else if 0x5000 ≤ idx && idx < 0x5400 && idx % 0x100 = 3 && decide (1 ≤ sub) && decide (sub ≤ 0x10) then conditionOk n
    else true

/-- The value lies in the object's range and breaks neither R10 nor R39 (R397). -/
def rangeOk (p : Part) (o : Settings) (idx sub : Nat) (e : OdEntry) (v : List Byte) : Bool :=
  let n := ofBytes v
  let typed := match e.type with
    | .bool => decide (n ≤ 1)
    | .ztime => fineOk n
    | .zdelta => fineOk n
    | _ => true
  let listed := match e.range with
    | .any => true
    | .span lo hi => decide (lo ≤ e.type.value n) && decide (e.type.value n ≤ hi)
    | .codes l => l.contains n
    | .mask m => n &&& m = n
    | .custom => true
  typed && listed && customOk p o idx sub v

/-! ## Dependencies (0x0303_0000) -/

/-- The delay-mode objects of a channel fit together (R146). -/
def delayOk (o : Settings) (i : Nat) : Bool :=
  let n := o.nat i 7
  let w := zdeltaVal (o.nat i 5)
  let p := zdeltaVal (o.nat i 8)
  let d := zdeltaVal (o.nat i 4)
  (decide (n < 2) || decide (w + 1000 ≤ p)) && decide ((n - 1 : Nat) * p + w + d < 2 ^ 40 * 3200)

/-- The inputs that a stop mask names (R241). -/
def maskInputs (m : Nat) : List Nat := (List.range 8).filter (fun j => bit m (2 * j) || bit m (2 * j + 1))

/-- V_U − V_L ≥ h (R282): 3,500 mV / 4,096 a threshold step, 8/3 mV a hysteresis step. -/
def windowOk (o : Settings) (i : Nat) : Bool :=
  decide ((o.nat i 3 : Int) * 10500 + o.nat i 4 * 32768 ≤ o.nat i 2 * 10500)

/-- The check that an object has on the settings that will hold, its own new value among them (0x0303_0000: R84, R99, R141,
R146, R189, R233, R242, R278, R282, R286, R325, R326, R338, R390). -/
def depOk (o : Settings) (idx sub : Nat) : Bool :=
  match unitIn 0x3000 0x20 64 idx, unitIn 0x4000 0x20 32 idx, unitIn 0x4400 0x20 32 idx, unitIn 0x4800 0x10 32 idx,
      unitIn 0x2100 0x10 8 idx with
  | some _, _, _, _, _ =>
    if sub = 2 then o.nat idx 2 = 0 || o.nat idx 1 != 0
    else if sub = 4 || sub = 5 || sub = 7 || sub = 8 then delayOk o idx
    else true
  | _, some _, _, _, _ => if sub = 2 || sub = 3 then o.nat idx 2 != 0 || decide (o.nat idx 3 ≤ 2730) else true
  | _, _, some _, _, _ =>
    let m := o.nat idx 5
    if sub = 1 then o.nat idx 1 = 0 || m != 0
    else if sub = 4 then o.nat idx 4 != 0 || decide ((maskInputs m).length ≤ 1)
    else if sub = 5 then (o.nat idx 1 = 0 || m != 0) && (o.nat idx 4 != 0 || decide ((maskInputs m).length ≤ 1))
    else if sub = 0x10 || sub = 0x13 then o.nat idx 0x10 = 0 || o.nat idx 0x13 != 0
    else true
  | _, _, _, some _, _ =>
    let f := o.nat idx 8
    if sub = 2 || sub = 3 || sub = 4 then windowOk o idx
    else if sub = 6 then f = 0 || o.nat idx 6 = 255
    else if sub = 8 then f = 0 || (o.nat idx 6 = 255 && o.nat idx 9 = 0)
    else true
  | _, _, _, _, some _ => if sub = 2 || sub = 3 then decide (o.nat idx 3 < o.nat idx 2) else true
  | _, _, _, _, _ =>
    if idx = 0x1400 then decide (o.nat 0x1400 1 + o.nat 0x1400 2 ≤ 2048)
    else if idx = 0x2001 && (sub = 1 || sub = 3) then decide (o.nat 0x2001 1 ≤ o.nat 0x2001 3)
    else if idx = 0x6000 && sub = 1 then o.nat 0x6000 1 = 0 || o.nat 0x2000 1 = 0
    else if 0x5000 ≤ idx && idx < 0x5400 then
      match idx % 0x100 with
      | 5 =>
        if sub = 5 then decide (o.nat idx 5 < 2 ^ 26)
        else if sub = 7 || sub = 8 then decide (o.nat idx 7 + o.nat idx 8 ≤ 2048)
        else true
      | 6 =>
        if 1 ≤ sub ∧ sub ≤ 0x18 then
          let j := (sub - 1) % 8
          !bit (o.nat idx (0x11 + j)) 0 || decide (signedVal 64 (o.nat idx (1 + j)) ≤ signedVal 64 (o.nat idx (9 + j)))
        else true
      | 8 =>
        if 1 ≤ sub ∧ sub ≤ 0x10 then
          let j := (sub - 1) % 8
          decide (signedVal 64 (o.nat idx (1 + j)) ≤ signedVal 64 (o.nat idx (9 + j)))
        else true
      | _ => true
    else true

/-- What a dependency asks of the device beside its settings: a channel in mode 2 is enabled only with a program (R153), a
clock divider exceeds the coarse delay in force too (R99). -/
def depState (s : State) (idx sub n : Nat) : Bool :=
  match unitIn 0x3000 0x20 64 idx, unitIn 0x2100 0x10 8 idx with
  | some ch, _ =>
    if h : ch < 64 then !(sub = 2 && n = 1 && s.nat idx 1 = 2 && s.seq[(⟨ch, h⟩ : Fin 64)].pstate = 0) else true
  | _, some _ => !(sub = 2 && decide (n ≤ s.nat idx 3))
  | _, _ => true

/-! ## Unit state (0x0402_0000) -/

/-- The engine of a cluster stores or drains (R312, R320). -/
def Capture.held (c : Capture) : Bool := c.storing || c.st == .draining

/-- The unit permits a write of the object now (R99, R141, R188, R230, R263, R312, R320, R390, R476). -/
def unitOk (s : State) (idx sub n : Nat) : Bool :=
  match unitIn 0x3000 0x20 64 idx, unitIn 0x4000 0x20 32 idx, unitIn 0x2100 0x10 8 idx with
  | some _, _, _ =>
    if sub = 1 then !s.onOrStaged idx 2
    else if sub = 0x15 then n % 2 = s.staged.nat idx 0x15 % 2 || !s.onOrStaged idx 2
    else true
  | _, some i, _ =>
    if h : i < 32 then
      let c := s.sti[(⟨i, h⟩ : Fin 32)].cal
      !(sub = 1 && n = 1 && c.calState = 5 && c.calOrigin = 6)
    else true
  | _, _, some _ => !(sub = 2 && s.on idx 1)
  | _, _, _ =>
    if idx = 0x1400 && (sub = 1 || sub = 2) then !s.onOrStaged 0x1400 3
    else if 0x7820 ≤ idx && idx ≤ 0x7821 && sub = 3 then !s.onOrStaged idx 2
    else if h : 0x5000 ≤ idx ∧ idx < 0x5400 then
      let cl : Fin 4 := ⟨(idx - 0x5000) / 0x100, by omega⟩
      let r := idx % 0x100
      if r = 5 && decide (2 ≤ sub) && decide (sub ≤ 8) then !s.cap[cl].held
      else if r = 7 then !s.cap[cl].held
      else if 0x10 ≤ r && r < 0x20 && sub = 1 then !s.onOrStaged (0x3000 + 0x20 * (16 * cl.val + (r - 0x10))) 2
      else true
    else true

end Sys2Proof.Machine
end

