-- ==== Sys2Proof/Machine/Image.lean ====
section
/-!
DEFINITION. Flash images (spec 16, R442 to R449, R455, R456): their bytes, when one is valid, what LOAD reads from one,
and the margin-history log.
-/
namespace Sys2Proof.Machine

/-! ## The bytes of an image (R443, R445) -/

/-- Bytes padded with zeros to a multiple of 4 (R445). -/
def pad4 (l : List Byte) : List Byte := l ++ List.replicate ((4 - l.length % 4) % 4) 0

/-- The header of a section of `n` value bytes (R445). -/
def sectionHead (type : W16) (critical log : Bool) (n : Nat) : List Byte :=
  toBytes 2 type.toNat ++ toBytes 2 ((if critical then 1 else 0) + if log then 2 else 0) ++ toBytes 4 n

/-- A section's bytes (R445). -/
def Section.toBytes (c : Section) : List Byte := sectionHead c.type c.critical c.log c.value.length ++ pad4 c.value

/-- The bytes of the sections before the log's value. -/
def Image.front (m : Image) : List Byte :=
  (m.sections.map Section.toBytes).flatten ++
    match m.log with | some a => sectionHead 6 false true a.length | none => []

/-- The section area without the log's value bytes; the log's padding is part of it (R444). -/
def Image.area (m : Image) : List Byte :=
  m.front ++ match m.log with | some a => List.replicate ((4 - a.length % 4) % 4) 0 | none => []

/-- The bytes the sections take, the log's value among them. -/
def Image.size (m : Image) : Nat := m.area.length + match m.log with | some a => a.length | none => 0

/-- Where the log's value begins in its slot (R442). -/
def Image.logStart (m : Image) : Nat := 32 + m.front.length

/-- The header with its CRC field taken as 0 (R443, R444). -/
def Image.header (m : Image) : List Byte :=
  toBytes 4 m.magic.toNat ++ toBytes 2 m.gen.toNat ++ toBytes 2 m.format.toNat ++ toBytes 4 m.length.toNat ++ toBytes 4 0
    ++ toBytes 4 m.product.toNat ++ toBytes 2 m.count.toNat ++ toBytes 2 m.savedBy.toNat ++ toBytes 8 m.resv.toNat

/-- The CRC-32 an image should have (R444). -/
def Image.crcNow (m : Image) : W32 := crc32 (m.header ++ m.area)

/-! ## Validity and the boot slot (R444, R449) -/

/-- A section type that R446 defines. -/
def knownType (t : W16) : Bool := decide (1 ≤ t.toNat) && decide (t.toNat ≤ 7)

/-- The sections fill the area as R444 asks: length, count, no known type twice, the log last and alone with its bit, no
critical section of a reserved type. -/
def Image.sectionsOk (m : Image) : Bool :=
  let known := (m.sections.map (fun c => c.type)).filter knownType
  let n := m.sections.length + match m.log with | some _ => 1 | none => 0
  decide (m.length.toNat = m.size) && m.length.toNat % 4 = 0 && decide (8 ≤ m.length.toNat)
    && decide (m.length.toNat ≤ 8388576) && decide (m.count.toNat = n) && decide (1 ≤ n) && decide (n ≤ 7)
    && decide known.Nodup && m.sections.all (fun c => !c.log && c.type != 6 && (knownType c.type || !c.critical))

/-- The state of a slot (0x1200:03): the checks of R444 in their order. -/
def slotState (p : Part) : Option Image → Nat
  | none => 1
  | some m =>
    if m.magic ≠ 0x5A54494D ∨ m.format ≠ 1 ∨ m.resv ≠ 0 then 2
    else if m.product ≠ p.product then 5
    else if !m.sectionsOk then 4
    else if m.crc ≠ m.crcNow then 3
    else 0

/-- The generation of a slot's header; 0 of an erased slot. -/
def slotGen : Option Image → W16
  | none => 0 | some m => m.gen

/-- The slot the device boots from (R449): 0 none, 1 A, 2 B. -/
def bootSlot (p : Part) (a b : Option Image) : Nat :=
  match slotState p a, slotState p b with
  | 0, 0 => if newer 16 (slotGen b).toNat (slotGen a).toNat then 2 else 1
  | 0, _ => 1
  | _, 0 => 2
  | _, _ => 0

/-- The other slot holds a newer image that is not valid (490 kind 4): its header could be read. -/
def newerInvalid (p : Part) (boot : Nat) (a b : Option Image) : Option (Nat × W16) :=
  let look (k : Nat) (x y : Option Image) : Option (Nat × W16) :=
    if 3 ≤ slotState p x ∧ newer 16 (slotGen x).toNat (slotGen y).toNat then some (k, slotGen x) else none
  match boot with | 1 => look 2 b a | 2 => look 1 a b | _ => none

/-- The value of the section of a type. -/
def Image.value (m : Image) (t : W16) : Option (List Byte) := (m.sections.find? (fun c => c.type == t)).map (fun c => c.value)

/-! ## OD defaults (R447, R449) -/

/-- An OD-default entry (R447). -/
structure DefaultEntry where
  idx   : Nat
  sub   : Nat
  code  : Nat
  resv  : Nat
  value : List Byte
deriving DecidableEq, Repr

/-- The entries that a section's value holds (R447). -/
def defaultEntries : Nat → List Byte → List DefaultEntry
  | 0, _ => []
  | n + 1, b =>
    if b.length < 8 then []
    else
      let l := field b 4 2
      { idx := field b 0 2, sub := field b 2 1, code := field b 3 1, resv := field b 6 2, value := slice b 8 l } ::
        defaultEntries n (b.drop (8 + (l + 3) / 4 * 4))

/-- The check of an entry against its object (R397 to R399, R449 step 2): the abort code that refuses it. A write-only
object takes no default. -/
def DefaultEntry.check (p : Part) (o : Settings) (d : DefaultEntry) : Option W32 :=
  match odRecord p d.idx with
  | none => some 0x01010000
  | some _ =>
    match odEntry p d.idx d.sub with
    | none => some 0x01020000
    | some e =>
      firstFail [
        need (!(p = .zt3216 && decide (0x4800 ≤ d.idx) && decide (d.idx < 0x4A00) && d.sub = 0x0E)) 0x01010000,
        match e.acc with | .const => some 0x02010000 | .ro => some 0x02010000 | .wo => some 0x02020000 | _ => none,
        need (d.code = e.type.code && lengthOk d.idx d.sub e.type d.value) 0x03010000,
        need (d.resv = 0 && rangeOk p o d.idx d.sub e d.value) 0x03020000]

/-- What applying entries gives: the settings, the keys applied, the refusals in order. -/
structure Applied where
  od      : Settings := []
  keys    : List Nat := []
  refused : List (Nat × W32) := []
deriving DecidableEq, Repr

/-- One entry is applied or refused (R449 step 2). -/
def Applied.take (p : Part) (a : Applied) (d : DefaultEntry) : Applied :=
  match d.check p a.od with
  | some c => { a with refused := a.refused ++ [(odKey d.idx d.sub, c)] }
  | none =>
    match odEntry p d.idx d.sub with
    | some e => { a with od := a.od.set d.idx d.sub (odVal e.type d.value), keys := a.keys ++ [odKey d.idx d.sub] }
    | none => a

/-- The check that an object has on the whole set (R449 step 3): its dependencies, and R153's on a channel's enable. -/
def setOk (o : Settings) (key : Nat) : Bool :=
  let idx := key / 256
  let sub := key % 256
  depOk o idx sub &&
    match unitIn 0x3000 0x20 64 idx with
    | some _ => !(sub = 2 && o.nat idx 2 = 1 && o.nat idx 1 = 2)
    | none => true

/-- Objects whose check fails return to their defaults until the set passes (R449 step 3); `fuel` is at least the number
of listed settings. -/
def settleSet : Nat → Settings → List Nat → Settings × List Nat
  | 0, o, bad => (o, bad)
  | n + 1, o, bad =>
    let f := (o.map (fun e => e.1)).filter (fun k => !setOk o k)
    if f.isEmpty then (o, bad) else settleSet n (o.filter (fun e => !f.contains e.1)) (bad ++ f)

/-- The OD defaults of an image, checked (R449 steps 2 and 3). -/
def applyDefaults (p : Part) (b : List Byte) : Applied :=
  let a := (defaultEntries (b.length / 8) b).foldl (Applied.take p) {}
  let (o, bad) := settleSet a.od.length a.od []
  { od := o, keys := a.keys.filter (fun k => !bad.contains k)
    refused := a.refused ++ (bad.filter (fun k => a.keys.contains k)).map (fun k => (k, (0x03030000 : W32))) }

/-- The access class of a stored setting. -/
def isRwt (p : Part) (key : Nat) : Bool :=
  match odEntry p (key / 256) (key % 256) with
  | some e => e.acc = .rwt
  | none => false

/-! ## Calibration tables and fabric constants (R446) -/

/-- The calibration of a unit from 3,080 bytes: the table of R261, then the entry offsets. -/
def LineCal.loaded (c : LineCal) (b : List Byte) : LineCal :=
  { c with
    table := some (slice b 0 3072), origins := Vector.replicate 4 0
    offsets := Vector.ofFn (fun l : Fin 4 => signedVal 16 (field b (3072 + 2 * l.val) 2)) }

/-- One calibration record is installed, at generation 0 and origin 0 (R446, R449 step 5). -/
def loadTable (kind unit : Nat) (b : List Byte) (s : State) : State :=
  match kind with
  | 0 => if h : unit < 64 then
      if unit < 16 * s.part.clusters ∧ b.length = 12800 then
        s.updEdge ⟨unit, h⟩ (fun g => { g with table := some b, origin := 0 }) else s
    else s
  | 1 => if h : unit < 32 then
      if unit < 8 * s.part.clusters ∧ b.length = 3080 then s.updCal (.input ⟨unit, h⟩) (fun c => c.loaded b) else s
    else s
  | 2 => if h : unit < 8 then
      if unit < 2 * s.part.clusters ∧ b.length = 3080 then s.updCal (.slice ⟨unit, h⟩) (fun c => c.loaded b) else s
    else s
  | _ => s

/-- Every calibration record of a section's value (R446). -/
def loadTables : Nat → List Byte → State → State
  | 0, _, s => s
  | n + 1, b, s =>
    if b.length < 8 then s
    else
      let l := field b 4 4
      loadTables n (b.drop (8 + l)) (loadTable (field b 0 1) (field b 1 1) (slice b 8 l) s)

/-- The fabric constants of the ports (R446). -/
def loadConstants (b : List Byte) (s : State) : State :=
  each s.ports (fun n t =>
    let o := t.od.set (portIdx n.val) 6 (.num (field b (8 * n.val) 4))
    { t with od := o.set (portIdx n.val) 7 (.num (field b (8 * n.val + 4) 2)) }) s

/-! ## The margin-history log (R455, R456) -/

/-- Bytes of the log from an offset; what nothing has written reads as erased flash. -/
def LogArea.slice (a : LogArea) (off n : Nat) : List Byte :=
  let t := (a.bytes.drop off).take n
  t ++ List.replicate (n - t.length) 0xFF

/-- The records of a log from an offset on, and where the next one is written (R456). `start` is where the log begins in
its slot. -/
def scanLog (start : Nat) (a : LogArea) : Nat → Nat → List (List Byte) × Nat
  | 0, off => ([], off)
  | n + 1, off =>
    let marker := ofBytes (a.slice off 2)
    let len := ofBytes (a.slice (off + 2) 2)
    let b := a.slice off len
    if a.length ≤ off ∨ marker = 0xFFFF then ([], off)
    else if marker = 0x4C4D ∧ 32 ≤ len ∧ len ≤ 4096 ∧ len % 4 = 0 ∧ off + len ≤ a.length
        ∧ field b (len - 4) 4 = (crc32 (b.take (len - 4))).toNat then
      let r := scanLog start a n (off + len)
      (b :: r.1, r.2)
    else ([], (start + off) / 4096 * 4096 + 4096 - start)

/-- The records of an image's log, and where the next one is written. -/
def Image.logRecords (m : Image) : List (List Byte) × Nat :=
  match m.log with
  | some a => scanLog m.logStart a (a.length / 32 + 1) 0
  | none => ([], 0)

/-- The item records of a log record's body (R455, R473). -/
def recordItems (b : List Byte) : List (List Byte) :=
  (List.range ((b.length - 20) / 32)).map (fun k => slice b (16 + 32 * k) 32)

/-- A point of the margin plan from a log record (R472, R473); items 6–9 resume their measurement (R474). -/
def loadItem (tide : Nat) (b : List Byte) (s : State) : State :=
  let i := field b 0 1 % 32
  if h : i < 27 then
    s.updItem ⟨i, h⟩ (fun m => { m with
      points := (some (tide, signedVal 32 (field b 8 4)) :: m.points).take 720,
      measurement := if 6 ≤ i ∧ i ≤ 9 then signedVal 32 (field b 4 4) else m.measurement })
  else s

/-- The records scanned at LOAD give the margin plan its points, oldest first (R472). -/
def loadRecords (l : List (List Byte)) (s : State) : State :=
  each l (fun b t => each (recordItems b) (loadItem (field b 8 8)) t) s

end Sys2Proof.Machine
end

