-- ==== Sys2Proof/Machine/Save.lean ====
section
/-!
DEFINITION. SAVE (spec 16, R450 to R452, R458) and the records of the margin-history log (R455, R457).
-/
namespace Sys2Proof.Machine

/-! ## The objects that SAVE stores (R450) -/

/-- The indices a template names on a part. -/
def Tmpl.indices (p : Part) : Tmpl → List Nat
  | .one b => [b]
  | .per b st n64 n32 => (List.range (match p with | .zt6432 => n64 | .zt3216 => n32)).map (fun k => b + st * k)
  | .seqs => (List.range (16 * p.clusters)).map seqIdx

/-- Every object of the part with its entry. -/
def allObjects (p : Part) : List (Nat × Nat × OdEntry) :=
  (odRecords.map (fun r =>
    ((r.tmpl.indices p).filter (fun i => !(itemAbsent p (i - 0x7820) && decide (0x7820 ≤ i) && decide (i < 0x783B)))).map (fun i =>
      (r.entries.map (fun e =>
        ((List.range (e.hi + 1 - e.lo)).filter (fun k => (odEntry p i (e.lo + k)).isSome)).map
          (fun k => (i, e.lo + k, e)))).flatten) |>.flatten)).flatten

/-- Objects that R450 does not store, or stores in other sections. -/
def notStored (idx sub : Nat) : Bool :=
  (idx = 0x1300 && sub = 3) || (idx = 0x2006 && (sub = 5 || sub = 6))
    || (decide (0x3000 ≤ idx) && decide (idx < 0x4000) && sub = 0x1D)
    || (decide (0x4800 ≤ idx) && decide (idx < 0x4A00) && sub = 0x0E)
    || (decide (0x5000 ≤ idx) && decide (idx < 0x5400) && idx % 0x100 = 5 && sub = 0x12)
    || (idx = 0x7001 && sub = 1) || (idx = 0x6001 && sub = 2)
    || (decide (0x6010 ≤ idx) && decide (idx < 0x6090) && (sub = 6 || sub = 7))
    || (decide (0x7F00 ≤ idx) && decide (idx < 0x7F60) && sub = 1)

/-- The object stands in SAVE's OD-defaults section (R450). -/
def isStored (idx sub : Nat) (e : OdEntry) : Bool :=
  (match e.acc with | .rw => true | .rwi => true | .rwh => true | .rwt => true | _ => false) && !notStored idx sub

/-- The bytes of a setting of a type. -/
def Settings.raw (o : Settings) (idx sub : Nat) (t : OdType) : List Byte :=
  match t with
  | .string => o.bytes idx sub
  | .domain _ => o.bytes idx sub
  | .domainUpTo _ => o.bytes idx sub
  | _ => toBytes t.len (o.nat idx sub)

/-- The value in force of a CSU configuration object, which is the active one (R74, R450). -/
def CsuConfig.nat (c : CsuConfig) (sub : Nat) : Nat :=
  match sub with
  | 1 => c.src | 2 => c.fref | 3 => c.presc | 4 => c.n | 5 => c.icp | 6 => c.rz | 7 => c.c2 | 8 => c.win | 9 => c.qtime
  | _ => c.mode

/-- The bytes SAVE stores of an object: its value in force (R450). -/
def State.saved (s : State) (idx sub : Nat) (e : OdEntry) : List Byte :=
  let zero := (idx = 0x1400 && sub = 3) || (idx = 0x6300 && sub = 6) ||
    ((unitIn 0x3000 0x20 64 idx).isSome && sub = 2 && s.nat idx 1 = 2)
  if zero then [0]
  else if idx = 0x7804 ∧ sub = 3 then [if s.health.injArmed then 1 else 0]
  else if idx = 0x2000 then toBytes e.type.len (s.csu.act.nat sub)
  else if idx = 0x7001 then s.readBytes (4096 * s.nat 0x7001 1) 4096
  else if idx = 0x2005 ∧ sub = 4 then toBytes 4 (signedCode 32 s.csu.hold.coef)
  else s.od.raw idx sub e.type

/-- The OD-defaults section (R447, R450). -/
def State.savedDefaults (s : State) : List Byte :=
  ((allObjects s.part).filter (fun x => isStored x.1 x.2.1 x.2.2)).flatMap (fun x =>
    let v := s.saved x.1 x.2.1 x.2.2
    toBytes 2 x.1 ++ toBytes 1 x.2.1 ++ toBytes 1 x.2.2.type.code ++ toBytes 2 v.length ++ [0, 0] ++ pad4 v)

/-- One calibration record (R446). -/
def tableRecord (kind unit : Nat) (b : List Byte) : List Byte :=
  toBytes 1 kind ++ toBytes 1 unit ++ [0, 0] ++ toBytes 4 b.length ++ b

/-- The bytes of a channel's table in force (R134, R135). -/
def EdgeEngine.bytes (g : EdgeEngine) : List Byte :=
  match g.table with
  | some b => b
  | none => (List.range 3200).flatMap (fun f => toBytes 4 (f / 400 * 512 + f % 400))

/-- The entry offsets as 0x7F40+in:05 (R270). -/
def LineCal.offsetBytes (c : LineCal) : List Byte := c.offsets.toList.flatMap (fun o => toBytes 2 (signedCode 16 o))

/-- The bytes of words as they are read, with the wrong bits of those that are poisoned (R463). -/
def State.asRead (s : State) (place : Nat → MemWord) (b : List Byte) : List Byte :=
  if s.health.poisoned.isEmpty then b
  else b.zipIdx.map (fun p =>
    let w := place (p.2 / 4)
    if s.isPoisoned w then p.1 ^^^ (Config.errorMask (wordPlace w).toNat >>> (8 * (p.2 % 4))).setWidth 8 else p.1)

/-- Word k of a channel's table in force (R461). -/
def State.tablePlace (s : State) (ch : Fin 64) (k : Nat) : MemWord :=
  { mem := 3, cl := (clusterOf ch).val, addr := pathPlace ch s.edge[ch].spareIsA + k }

/-- Word k of a unit's bin tables (R461; log entry 30). -/
def binPlace (u : CalUnit) (k : Nat) : MemWord := { mem := 4, cl := (unitCluster u).val, addr := 768 * unitPlace u + k }

/-- Word k of a unit's entry offsets (R461; log entry 128). -/
def offsetWord (u : CalUnit) (k : Nat) : MemWord := { mem := 4, cl := (unitCluster u).val, addr := offsetPlace u + k }

/-- The calibration-tables section: the tables and offsets in force, as they are read (R446, R450, R463). -/
def State.savedTables (s : State) : List Byte :=
  s.channels.flatMap (fun ch => tableRecord 0 ch.val (s.asRead (s.tablePlace ch) s.edge[ch].bytes)) ++
    s.calUnits.flatMap (fun u =>
      let b := s.asRead (binPlace u) (s.cal u).bytes ++ s.asRead (offsetWord u) (s.cal u).offsetBytes
      match u with | .input i => tableRecord 1 i.val b | .slice k => tableRecord 2 k.val b)

/-- SAVE reads a word: one of a live placement path, of a bin table or of the entry offsets (R450, R462). -/
def State.savesWord (s : State) (w : MemWord) : Bool :=
  w.mem = 4 || (w.mem = 3 && s.channels.any (fun ch =>
    decide ((clusterOf ch).val = w.cl) && decide ((s.tablePlace ch 0).addr ≤ w.addr) &&
      decide (w.addr < (s.tablePlace ch 0).addr + 3200)))

/-- SAVE reads the tables: every word of them with an error is met (R450, R462, R463). -/
def readTables (s : State) : State :=
  each (s.health.errs.filter (fun e => s.savesWord e.1)) (fun e t => readWord e.1 t) s

/-- The fabric-constants section (R446). -/
def State.savedConstants (s : State) : List Byte :=
  (List.range 8).flatMap (fun n =>
    if n < 2 * s.part.clusters then
      toBytes 4 (s.nat (portIdx n) 6) ++ toBytes 2 (s.nat (portIdx n) 7) ++ [0, 0]
    else List.replicate 8 0)

/-! ## The new image (R451) -/

/-- The slot content with a number: 1 A, 2 B. -/
def Flash.slot (f : Flash) (k : Nat) : Option Image := match k with | 1 => f.slotA | 2 => f.slotB | _ => none

/-- A slot takes a content. -/
def Flash.put (f : Flash) (k : Nat) (m : Option Image) : Flash :=
  match k with | 1 => { f with slotA := m } | 2 => { f with slotB := m } | _ => f

/-- The newest records whose bytes together take at most `room`, in sequence order (R451). `l` is newest first. -/
def newestRecords : Nat → List (List Byte) → List (List Byte)
  | _, [] => []
  | room, b :: rest => if b.length ≤ room then newestRecords (room - b.length) rest ++ [b] else []

/-- The image that SAVE writes (R450, R451), its CRC-32 in place. -/
def State.newImage (s : State) : Image :=
  let p := s.persist
  let crit (t : W16) (v : List Byte) : Section := { type := t, critical := true, log := false, value := v }
  let opt (t : W16) : Option (List Byte) → List Section | some v => [crit t v] | none => []
  let secs := [crit 1 s.savedDefaults, crit 2 s.savedTables, crit 3 s.savedConstants, crit 4 (s.od.bytes 0x6001 2)]
    ++ opt 5 p.tuning ++ opt 7 p.patch
  let m : Image := {
    gen := if p.bootedFrom = 0 then 1 else p.bootedGen + 1, length := 0, crc := 0, product := s.part.product
    count := BitVec.ofNat 16 (secs.length + 1), savedBy := Config.romVersion, sections := secs }
  let left := 8388608 - (m.logStart + 8)
  let n := min 2097152 left / 4096 * 4096
  let old := match s.flash.slot p.bootedFrom with | some b => b.logRecords.1 | none => []
  let m := { m with log := some { length := n, bytes := (newestRecords (n / 2) old.reverse).flatten } }
  let m := { m with length := BitVec.ofNat 32 m.size }
  { m with crc := m.crcNow }

/-! ## Log records (R455, R457) -/

/-- A log record (R455). -/
def logRecord (seq : W32) (tide : W64) (body : List Byte) : List Byte :=
  let b := toBytes 2 0x4C4D ++ toBytes 2 (20 + body.length) ++ toBytes 4 seq.toNat ++ toBytes 8 tide.toNat ++ body
  b ++ toBytes 4 (crc32 b).toNat

/-- Bytes written at an offset of a log; what lies between stays erased. -/
def LogArea.write (a : LogArea) (off : Nat) (b : List Byte) : LogArea :=
  { a with bytes := a.bytes.take off ++ List.replicate (off - a.bytes.length) 0xFF ++ b ++ a.bytes.drop (off + b.length) }

/-- The margin-plan items present, as bytes: item 0 in the low bits of byte 0 (R473). -/
def marginClass (s : State) (i : Fin 27) : Nat := s.nat (0x7820 + i.val) 2

/-- The item record of R473. -/
def itemRecord (s : State) (i : Fin 27) : List Byte :=
  let m := s.margin[i]
  let b (x : Bool) (n : Nat) : Nat := if x then n else 0
  toBytes 1 i.val ++ toBytes 1 (marginClass s i % 2 + b m.stale 2 + b m.changed 4) ++ toBytes 2 (s.nat (0x7820 + i.val) 4)
    ++ toBytes 4 (signedCode 32 m.measurement) ++ toBytes 4 (signedCode 32 m.margin) ++ toBytes 4 (signedCode 32 m.rate)
    ++ toBytes 8 m.exhaustion.toNat ++ toBytes 4 m.age ++ toBytes 4 m.recommended

/-- The items present on the part (R474). -/
def State.items (s : State) : List (Fin 27) := (List.finRange 27).filter (fun i => !itemAbsent s.part i.val)

/-- The flash event (R460). -/
def flashEvent (kind slot high : Nat) (s : State) : State := s.raise 490 (kind + slot * 16 + high % 2 ^ 16 * 2 ^ 16)

/-- A log is kept (R454, R459). -/
def State.keepsLog (s : State) : Bool :=
  match s.flash.slot s.persist.logSlot with | some m => m.log.isSome | none => false

/-- How the device reads the flash (R441): 1-4-4 where it is offered, else 1-1-4. -/
inductive ReadMode where
  | quadIo (command : Byte) | quadOutput
deriving DecidableEq, Repr

/-- The read mode for a discovered flash (R441). -/
def FlashChip.readMode (c : FlashChip) : ReadMode := match c.read144 with | some x => .quadIo x | none => .quadOutput

/-- T_E that programming n bytes from an offset takes at most, page by page of 256 bytes (R441). -/
def FlashChip.programTE (c : FlashChip) (off n : Nat) : Nat := ((off + n + 255) / 256 - off / 256) * c.pageUs * 1250

/-- A record is appended to the log (R455, R457); one that does not fit is not written, 490 kind 7 once a boot. -/
def appendRecord (s : State) : State :=
  let p := s.persist
  match s.flash.slot p.logSlot with
  | none => s
  | some m =>
    match m.log with
    | none => s
    | some a =>
      let b := logRecord p.logSeq s.tideNow (s.items.flatMap (itemRecord s))
      if a.length < p.logNext + b.length then
        if p.logFull then s else flashEvent 7 p.logSlot 0 { s with persist := { p with logFull := true } }
      else
        { s with
          flash := s.flash.put p.logSlot (some { m with log := some (a.write p.logNext b) })
          persist := { p with
            logNext := p.logNext + b.length, logCount := p.logCount + 1, logSeq := p.logSeq + 1, lastRecord := p.logNext
            appendEnd := s.now + match s.flash.chip with
              | some c => FlashChip.programTE c (m.logStart + p.logNext) b.length
              | none => 0 } }

/-- The supply fails while a record is programmed: a part of it that nothing constrains stands in the log, without its last
byte, and the rest is erased (R458). -/
def cutAppend (s : State) : State :=
  let p := s.persist
  match s.flash.slot p.logSlot with
  | none => s
  | some m =>
    match m.log with
    | none => s
    | some a =>
      if s.now < p.appendEnd then
        let (k, s) := s.fresh
        let n := p.lastRecord + Config.bytesProgrammed k % (p.logNext - p.lastRecord)
        { s with flash := s.flash.put p.logSlot (some { m with log := some { a with bytes := a.bytes.take n } }) }
      else s

/-- An append that falls while SAVE runs waits for its end (R458). -/
def appendOrDefer (s : State) : State :=
  if s.dev.saving then { s with persist := { s.persist with deferred := s.persist.deferred + 1 } } else appendRecord s

/-- The appends that waited for SAVE are made (R458). -/
def deferredAppends : Nat → State → State
  | 0, s => s
  | n + 1, s => deferredAppends n (appendRecord s)

/-- The log of a slot is the one in use: its records counted, its end found (R456). -/
def useLog (slot : Nat) (s : State) : State :=
  match s.flash.slot slot with
  | none => s
  | some m =>
    let r := m.logRecords
    let last := match r.1.reverse with | b :: _ => field b 4 4 + 1 | [] => 0
    { s with persist := { s.persist with
        logSlot := if m.log.isSome then slot else 0, logNext := r.2, logCount := r.1.length, logSeq := BitVec.ofNat 32 last } }

end Sys2Proof.Machine
end

