-- ==== Sys2Proof/Machine/Startup.lean ====
section
/-!
DEFINITION. Start-up and the state commands (spec 15, R402 to R406; spec 16, R434 to R440, R449 to R452, R454; spec 01,
R15 to R19).
-/
namespace Sys2Proof.Machine

/-! ## Changes of the device state (R149, R155, R183, R406) -/

/-- Event 491 kind 6 (R406, R433). -/
def stateEvent (s : State) : State := s.raise 491 (6 + s.dev.st.code * 2 ^ 4 + 0x1300 * 2 ^ 16)

/-- What a channel does as the device enters IDLE or SAFE (R149, R155): unplaced edges are cancelled, its program stops; in
IDLE the programmed state of delay mode takes the idle level. -/
def channelRests (ch : Fin 64) (s : State) : State :=
  let s := stopProgram ch (cancelAll ch s)
  if s.dev.st = .idle ∧ s.nat (chIdx ch) 1 = 1 then setProgrammed ch s.now (s.idleLevel ch) s else s

/-- The device enters a state (R103, R149, R155, R183, R402, R406). -/
def enterState (d : DevState) (s : State) : State :=
  let s := { s with dev := { s.dev with st := d } }
  let s := match d with
    | .idle => clearSignals s.now (each s.channels channelRests s)
    | .safe => clkEnterSafe (each s.channels channelRests s)
    | _ => s
  stateEvent s

/-! ## Restart (R416, R440) -/

/-- An accepted RESET takes effect by T_E `a` (R403). -/
def State.resetBy (s : State) (a : TE) : Bool := match s.dev.resetAt with | some x => decide (x ≤ a) | none => false

/-- What stays through a restart: the part, the queue, the flash content, the shutdown record, and the levels that come
from outside. Everything else is as at t_P (R440, R485), every link down (R439). A change to BOOT raises 491 kind 6 (R406),
which waits for IDLE (R438). -/
def restart (s : State) : State :=
  let z := State.reset
  let t := { z with
    part := s.part
    pending := s.pending
    mon := s.mon.map (fun m => { vin := m.vin })
    tripin := { level := s.tripin.level }
    port := Vector.ofFn (fun n : Fin 8 => { causes :=
      (if s.pins.los[n] then [.los] else []) ++ (if s.pins.modabs[n] then [.modabs] else []) })
    flash := { s.flash with chip := none }
    health := { causes := s.health.causes, sensor := s.health.sensor, regulator := s.health.regulator
                shutTemp := s.health.shutTemp, shutdowns := s.health.shutdowns, unreported := s.health.unreported }
    pins := { los := s.pins.los, modabs := s.pins.modabs, ext := s.pins.ext.map (fun t => t.take 1)
              tapInstr := s.pins.tapInstr, tapData := s.pins.tapData, preload := s.pins.preload }
    answer := s.answer
    free := s.free }
  if s.dev.st = .boot then t else stateEvent t

/-! ## BOOT and LOAD (R434, R441, R449) -/

/-- BOOT_COMPLETE: stage 2 ends; a flash below 128 Mbit is not discovered (R434, R441). -/
def bootComplete (chip : Option FlashChip) (s : State) : State :=
  if s.boot.power = .running ∧ s.dev.st = .boot then
    enterState .load { s with flash := { s.flash with chip := chip.filter (fun c => decide (128 ≤ c.density)) } }
  else s

/-- BOOT_COMPLETE (R366, R434, R439, R441). -/
def execBootComplete (flash : Option FlashChip) (s : State) : Host.Outcome State Fault Refusal :=
  .next (bootComplete flash s)

/-- Records of an input that owns no capture entry leave its FIFO (R205, R250). -/
def dropRecords (i : Fin 32) (s : State) : State :=
  s.updSti i (fun u => { u with fifo := u.fifo.filterMap (fun e => match e with
    | .stamp _ _ _ _ _ _ _ _ => none
    | .interval g h v tmo st gen l _ stat => if stat then some (.interval g h v tmo st gen l false true) else none) })

/-- Records and items of requesters that own no entry go (R205); egress items are counted. -/
def slotsWritten (cl : Fin 4) (s : State) : State :=
  let s := each ((List.finRange 8).map (unitOf8 cl)) (fun i t => if t.inputOwns i then t else dropRecords i t) s
  let s := s.updCap cl (fun c => { c with
    stamps := c.stamps.filter (fun p => s.ownsCapture cl p.1)
    results := if s.ownsCapture cl 0x18 then c.results else [] })
  let s := if s.ownsCapture cl 0x19 then s else s.updTrig cl (fun t => { t with queue := [] })
  let s := each ((List.finRange 8).map (unitOf8 cl)) (fun i t =>
    if t.ownsEgress cl (0x10 + i.val % 8) then t
    else
      let n := t.sender[i].items.length
      each (List.range n) (fun _ u => loseEgress cl u) (t.updSender i (fun e => { e with items := [] }))) s
  each (clusterChannels cl) (fun ch t =>
    if t.ownsGust ch then t
    else
      let n := t.gustq[ch].items.length
      each (List.range n) (fun _ u => loseEgress cl u) (t.updGustq ch (fun e => { e with items := [] }))) s

/-- What a setting does at once when it takes a new value (R75, R153, R205, R329, R338, R349, R466, R477): settings without a
line here act where they are read. -/
def settingTakes (idx sub : Nat) (s : State) : State :=
  if idx = 0x6000 ∧ sub = 1 then rootWritten (s.on 0x6000 1) s
  else if idx = 0x2005 ∧ sub = 4 then
    { s with csu := { s.csu with hold := { s.csu.hold with coef := signedVal 32 (s.nat 0x2005 4), model := 2 } } }
  else if h : 0x5000 ≤ idx ∧ idx < 0x5400 ∧ idx % 0x100 = 2 then slotsWritten ⟨(idx - 0x5000) / 0x100, by omega⟩ s
  else match unitIn 0x6010 0x10 8 idx with
    | some n => if h : n < 8 then
        if sub = 1 then portEnabled ⟨n, h⟩ (s.on idx 1) s
        else if sub = 6 then s.updPort ⟨n, h⟩ (fun p => { p with rttBase := none })
        else s
      else s
    | none =>
      if (unitIn 0x2100 0x10 8 idx).isSome ∧ sub = 0x0B ∧ s.dev.st = .safe then clkEnterSafe s
      else if idx = 0x6300 ∧ sub = 6 then (if s.fab.windowOn && !s.on 0x6300 6 then closeWindow s else s)
      else if idx = 0x7804 ∧ sub = 3 then
        { s with health := { s.health with injArmed := s.on 0x7804 3 }, od := s.od.set 0x7804 3 (.num 0) }
      else s

/-- The settings of an image take effect (R437): those of class RWT wait for IDLE, and the data of a Pan (R391, R450) goes to the
Pan selected after reset. -/
def takeDefaults (a : Applied) (s : State) : State :=
  let now := a.od.filter (fun e => !isRwt s.part e.1)
  let later := a.od.filter (fun e => isRwt s.part e.1)
  let s := { s with
    od := now
    commits := { s.commits with image := if a.keys.any (isRwt s.part) then some later else none }
    persist := { s.persist with
      applied := BitVec.ofNat 16 a.keys.length, refused := BitVec.ofNat 16 a.refused.length
      firstRef := match a.refused with | (k, _) :: _ => BitVec.ofNat 32 (k / 256 + k % 256 * 2 ^ 16) | [] => 0xFFFFFFFF
      firstCode := match a.refused with | (_, c) :: _ => c | [] => 0 } }
  let s := each (now.map (fun e => e.1)) (fun k t => settingTakes (k / 256) (k % 256) t) s
  let s := if a.keys.contains (odKey 0x7001 2) then
      let t := if s.nat 0x7001 1 = 0 then s else s.writeBytes (4096 * s.nat 0x7001 1) (Settings.bytes now 0x7001 2)
      { t with od := s.od.filter (fun e => e.1 != odKey 0x7001 2) }
    else s
  if a.refused.isEmpty then s else flashEvent 5 s.persist.bootedFrom a.refused.length s

/-- The image of the boot slot is applied, in the order of R449. -/
def applyImage (slot : Nat) (m : Image) (s : State) : State :=
  let s := { s with persist := { s.persist with
    bootedFrom := slot, bootedGen := m.gen, tuning := m.value 5, patch := m.value 7 } }
  let s := match m.value 7 with
    | some b => if field b 0 2 = Config.romVersion.toNat then s else flashEvent 6 slot 0 s
    | none => s
  let s := match m.value 1 with | some b => takeDefaults (applyDefaults s.part b) s | none => s
  let cfg := stagedCsu s.od
  let s := activate (if cfg.valid then cfg else {}) s
  let s := match m.value 2 with | some b => loadTables (b.length / 8) b s | none => s
  let s := match m.value 3 with | some b => loadConstants b s | none => s
  let s := match m.value 4 with | some b => { s with od := s.od.set 0x6001 2 (.bytes b) } | none => s
  useLog slot (loadRecords m.logRecords.1 s)

/-- The shutdown causes recorded since the last LOAD are reported (R19). -/
def reportShutdown (s : State) : State :=
  let h := s.health
  let s := if h.causes = 0 then s else { s with boot := { s.boot with status := s.boot.status ||| 8 } }
  if h.unreported then
    let s := { s with health := { s.health with unreported := false } }
    let s := if h.causes.getLsbD 0 then
        s.raise 488 (3 + h.sensor.toNat % 8 * 2 ^ 4 + h.shutTemp.toNat * 2 ^ 16) else s
    if h.causes.getLsbD 1 then s.raise 489 (4 + h.regulator.toNat % 64 * 2 ^ 4) else s
  else s

/-- The level DACs take the preset (R223). -/
def presetLevels (s : State) : State :=
  each s.channels (fun ch t => t.updDrv ch (fun d => d.preset (t.nat (chIdx ch) 0x16))) s

/-- IMAGE_LOAD: stage 3 (R434, R449, R454): the boot slot is chosen, its image applied, CLK_E begins in FREERUN. -/
def imageLoad (s : State) : State :=
  if s.dev.st = .load ∧ s.csu.st = .off then
    let f := s.flash
    let boot := if f.chip.isSome then bootSlot s.part f.slotA f.slotB else 0
    let state (m : Option Image) : Nat := if f.chip.isSome then slotState s.part m else 6
    let gen (m : Option Image) : W16 := if f.chip.isSome then slotGen m else 0
    let s := { s with persist := { s.persist with
      stateA := state f.slotA, genA := gen f.slotA, stateB := state f.slotB, genB := gen f.slotB } }
    let s := match f.slot boot with
      | some m =>
        let s := match newerInvalid s.part boot f.slotA f.slotB with
          | some (k, g) => flashEvent 4 k g.toNat s
          | none => s
        applyImage boot m s
      | none =>
        let s := activate {} { s with boot := { s.boot with status := s.boot.status ||| 1 } }
        flashEvent (if f.chip.isSome then 3 else 8) 0 0 s
    let s := presetLevels (reportShutdown s)
    enterCsu .freerun { s with time := { s.time with running := true, lastTide := some s.now } }
  else s

/-- IMAGE_LOAD (R19, R75, R113, R223, R434, R437, R444, R448, R449, R454, R456, R460). -/
def execImageLoad (s : State) : Host.Outcome State Fault Refusal := .next (imageLoad s)

/-- START_UP_LOCK_WAIT_EXPIRY: no lock within 0x1202:01 of the end of stage 3, at which the count began (R41,
R435). -/
def lockWaitExpiry (s : State) : State :=
  if s.dev.st = .load ∧ s.csu.st ≠ .off ∧ !s.csu.st.isLocked ∧ !s.boot.alignDone then
    let s := s.reach (bigTurn + msTE (s.nat 0x1202 1))
    stageSix { s with boot := { s.boot with status := s.boot.status ||| if s.on 0x2002 3 then 2 else 0 } }
  else s

/-- START_UP_LOCK_WAIT_EXPIRY (R263, R434, R435). -/
def execStartUpLockWaitExpiry (s : State) : Host.Outcome State Fault Refusal := .next (lockWaitExpiry s)

/-! ## Commands (R403, R404) -/

/-- The states in which a command is permitted (R403). -/
def commandPermits (code : Nat) (d : DevState) : Bool :=
  let served := match d with | .boot => false | .load => false | _ => true
  match code with
  | 1 => d == .idle
  | 2 => d == .run
  | 3 => d == .hold
  | 4 => d == .run || d == .hold
  | 6 => d == .safe
  | 8 => d == .idle
  | 9 => d == .idle
  | 10 => d == .idle
  | 5 => served
  | 7 => served
  | 11 => served
  | _ => false

/-- The state after a command's boundary (R403). -/
def stateAfter : Nat → DevState
  | 1 => .run | 2 => .hold | 3 => .run | _ => .idle

/-- The result of a command (0x1300:08). -/
def State.result (s : State) (c : W32) : State := { s with dev := { s.dev with lastResult := c } }

/-- A write of a command code to 0x1300:01 (R399, R402 to R404): refused outside its states, then for the checks in
`late`; in BOOT no request is served. -/
def command (r : Requester) (code : Nat) (late : List (Option W32)) (effect : State → State) (s : State) : State :=
  match s.dev.st with
  | .boot => s
  | d =>
    if commandPermits code d then
      match firstFail late with
      | some c => (s.refuse r 0x1300 code c).result c
      | none => effect (s.ok.result 0)
    else (s.refuse r 0x1300 code 0x04010000).result 0x04010000

/-- No command is pending (R404). -/
def State.notPending (s : State) : Option W32 := need s.dev.pendCmd.isNone 0x04030000
/-- CALIBRATE does not run (R404). -/
def State.notCalibrating (s : State) : Option W32 := need (!s.dev.calibrating) 0x04030000

/-- The command is pending until its boundary (R403, R404). -/
def pend (code : Nat) (s : State) : State :=
  { s with dev := { s.dev with pendCmd := some (BitVec.ofNat 8 code, usableBoundary s.now), pendMoved := false } }

/-- GO (R403, R404). -/
def execGo (r : Requester) (s : State) : Host.Outcome State Fault Refusal :=
  .next (command r 1 [s.notPending, s.notCalibrating] (pend 1) s)
/-- HOLD (R25, R155, R403, R404). -/
def execHold (r : Requester) (s : State) : Host.Outcome State Fault Refusal := .next (command r 2 [s.notPending] (pend 2) s)
/-- RESUME (R155, R403, R404). -/
def execResume (r : Requester) (s : State) : Host.Outcome State Fault Refusal := .next (command r 3 [s.notPending] (pend 3) s)
/-- STOP (R149, R155, R403, R404). -/
def execStop (r : Requester) (s : State) : Host.Outcome State Fault Refusal := .next (command r 4 [s.notPending] (pend 4) s)
/-- LEAVE_SAFE (R103, R403, R404). -/
def execLeaveSafe (r : Requester) (s : State) : Host.Outcome State Fault Refusal :=
  .next (command r 6 [s.notPending] (pend 6) s)
/-- RESTORE_DEFAULTS (R403, R404, R453). -/
def execRestoreDefaults (r : Requester) (s : State) : Host.Outcome State Fault Refusal :=
  .next (command r 8 [s.notPending] (pend 8) s)
/-- CALIBRATE (R263, R403, R404). -/
def execCalibrate (r : Requester) (s : State) : Host.Outcome State Fault Refusal :=
  .next (command r 9 [s.notPending, s.notCalibrating] (pend 9) s)

/-- SAFE takes effect in T_E w + 4 (R222, R403, R404): it cancels a pending command and abandons CALIBRATE. What lies before
that T_E is done: triggers are considered, edges are placed. -/
def enterSafe (s : State) : State :=
  let s := s.reach (s.now + 4)
  let s := abandonCalibrate { s with dev := { s.dev with pendCmd := none } }
  if s.dev.st = .safe then s else enterState .safe (placeEdges s.nowAt (drainTriggers s.nowAt s))

/-- SAFE (R103, R149, R155, R222, R403, R404, R406). -/
def execSafe (r : Requester) (s : State) : Host.Outcome State Fault Refusal := .next (command r 5 [] enterSafe s)

/-- SAVE: the snapshot is taken, the target slot erased, the sections and the header without its magic written (R450, R451).
How far that has come when SAVE is cut off or fails is a free value: the slot is erased, or its header has no magic. -/
def startSave (s : State) : State :=
  let s := readTables s
  let m := s.newImage
  let k := if s.persist.bootedFrom = 1 then 2 else 1
  let (i, s) := s.fresh
  { s with
    dev := { s.dev with saving := true }
    flash := s.flash.put k (if Config.headerWritten i then some { m with magic := 0xFFFFFFFF } else none)
    persist := { s.persist with target := some (k, m) } }

/-- SAVE (R55, R403, R404, R450, R451). -/
def execSave (r : Requester) (s : State) : Host.Outcome State Fault Refusal :=
  .next (command r 7 [need (!s.dev.saving) 0x04030000, need s.flash.chip.isSome 0x07010000] startSave s)

/-- SAVE_COMPLETE: the image's magic stands, or a flash operation or the read-back failed (R451, R452, R458). -/
def saveComplete (ok : Bool) (s : State) : State :=
  match s.dev.saving, s.persist.target with
  | true, some (k, m) =>
    let s := { s with dev := { s.dev with saving := false }, persist := { s.persist with target := none } }
    let s := if ok then
        flashEvent 1 k m.gen.toNat ((useLog k { s with flash := s.flash.put k (some m) }).result 0)
      else flashEvent 2 k m.gen.toNat ((useLog s.persist.bootedFrom s).result 0x07010000)
    deferredAppends s.persist.deferred { s with persist := { s.persist with deferred := 0 } }
  | _, _ => s

/-- SAVE_COMPLETE (R451, R452, R458, R460). -/
def execSaveComplete (ok : Bool) (s : State) : Host.Outcome State Fault Refusal := .next (saveComplete ok s)

/-- ALIGN: the conditions of R89, then ALIGNING. -/
def execAlign (r : Requester) (s : State) : Host.Outcome State Fault Refusal :=
  let marker := s.nat 0x2002 1
  .next (command r 10 [
    need (s.csu.st == .locked || s.csu.st == .aligned) 0x04020000,
    need (!(marker = 2 && s.csu.act.src = 0)) 0x03030000,
    need s.presetOk 0x03030000,
    s.notPending, s.notCalibrating] (acceptAlign false) s)

/-- RESET: BOOT follows 1 ms after the response (R403, R440). -/
def execReset (r : Requester) (s : State) : Host.Outcome State Fault Refusal :=
  .next (command r 11 [] (fun s => { s with dev := { s.dev with resetAt := s.dev.resetAt.or (some (s.now + msTE 1)) } }) s)

/-- A command that 0x1300:03 can schedule (R405). -/
def schedulable (c : Nat) : Bool := c = 1 || c = 2 || c = 3 || c = 4 || c = 6

/-- SCHEDULED_COMMAND: a write of 0x1300:03 schedules, replaces or cancels (R405). -/
def scheduledCommand (r : Requester) (c : Byte) (tide : W64) (s : State) : State :=
  let n := tideNamed s.now tide.toNat
  s.request r 0x1300 3 .rw
    [need (c = 0 || (schedulable c.toNat && decide (s.now + 25000 ≤ n * tideLen) && decide (n ≤ tideOf s.now + 2 ^ 20))) 0x03020000]
    [need (c = 0 || commandPermits c.toNat s.dev.st) 0x04010000]
    (fun s => { s with dev := { s.dev with sched := if c = 0 then none else some (c, tide) } }.repaired 0x1300 3 |>.reply 0 (if c = 0 then 0 else tide))

/-- SCHEDULED_COMMAND (R403, R405). -/
def execScheduledCommand (r : Requester) (cmd : Byte) (tide : W64) (s : State) : Host.Outcome State Fault Refusal :=
  .next (scheduledCommand r cmd tide s)

end Sys2Proof.Machine
end

