-- ==== Sys2Proof/Machine/Health.lean ====
section
/-!
DEFINITION. Health (spec 17, R461 to R479): the patrol scrub, error injection, the shutdown record, the margin plan and its
log (spec 16, R457); the wrap of the coarse count (spec 02, R44).
-/
namespace Sys2Proof.Machine

/-! ## The scrub (R461 to R465) -/

/-- The place of a word: the centre memories have one instance (R461). -/
def placeOf (mem : Fin 6) (cl : Fin 4) (addr : Nat) : MemWord :=
  { mem := mem.val, cl := if mem.val = 0 ∨ mem.val = 5 then 0 else cl.val, addr := addr }

/-- The frame of a local store that holds an uncorrectable word is repaired, without a miss (R208, R464). -/
def scrubRepair (w : MemWord) (cl : Fin 4) (s : State) : State :=
  if w.mem = 1 then
    match s.store[cl].frames.find? (fun f => f.slot = w.addr / 1024) with
    | some f => askRepair cl 0 f.pan s
    | none => s
  else s

/-- The scrub meets an error: a single-bit error is corrected, an uncorrectable word poisoned, and its frame repaired (R464). -/
def scrubMeets (w : MemWord) (cl : Fin 4) (uncorrectable : Bool) (s : State) : State :=
  if uncorrectable then scrubRepair w cl (poisonWord w true s) else correctWord w true s

/-- SCRUB_READ: the scrub reads a word (R462 to R464). An error known at the word counts before what the command says; a
word that is poisoned already is no new error (R463), but its frame is repaired. -/
def scrubRead (mem : Fin 6) (cl : Fin 4) (addr : Nat) (found : ScrubFinding) (s : State) : State :=
  let w := placeOf mem cl addr
  if memoryWords mem.val ≤ addr ∨ s.part.clusters ≤ w.cl then s
  else if s.isPoisoned w then scrubRepair w cl s
  else
    match s.health.errs.find? (fun e => e.1 = w), found with
    | some (_, two), _ => scrubMeets w cl two s
    | none, .clean => s
    | none, .singleBit => scrubMeets w cl false s
    | none, .uncorrectable => scrubMeets w cl true s

/-- SCRUB_READ (R208, R371, R376, R462 to R464, R479). -/
def execScrubRead (mem : Fin 6) (cluster : Fin 4) (addr : Nat) (found : ScrubFinding) (s : State) :
    Host.Outcome State Fault Refusal := .next (scrubRead mem cluster addr found s)

/-- T_E in which the scrub reads every word of the longest memory, one word in every 64 CLK_C cycles (R24, R461, R464; log entry
129). -/
def scrubSpan : Nat := 2097152 * 64 * 2

/-- The boundary that begins Tide n with T_E `b`: a pass begins at multiples of 12,500. The one before it is over when it had
time to read every word: it has met every error that stood as it began (R464, R465; log entry 129). -/
def scrubAtBoundary (n : Nat) (b : TE) (s : State) : State :=
  if n % 12500 = 0 then
    let done := decide (s.health.passFrom + scrubSpan ≤ b)
    let left := if done then s.health.passErrs.filter (fun e => s.health.errs.contains e) else []
    let s := each left (fun e t => scrubMeets e.1 (Fin.ofNat 4 e.1.cl) e.2 t) s
    let h := s.health
    { s with health := { h with
        lastPass := if done then BitVec.ofNat 64 h.passStart else h.lastPass
        passStart := n, passFrom := b, passErrs := h.errs } }
  else s

/-- ARM_INJECTION: a write of 1 to 0x7804:03 (R466). -/
def execArmInjection (r : Requester) (s : State) : Host.Outcome State Fault Refusal :=
  .next (s.request r 0x7804 3 .rwi [] [] (fun s => { s with health := { s.health with injArmed := true } }.confGen.repaired 0x7804 3 |>.ok))

/-- CLEAR_SHUTDOWN_RECORD: a write of 1 to 0x7801:06 (R470). -/
def execClearShutdownRecord (r : Requester) (s : State) : Host.Outcome State Fault Refusal :=
  .next (s.request r 0x7801 6 .wo [] [] (fun s =>
    { s with
      health := { s.health with causes := 0, sensor := 0xFF, regulator := 0xFF, shutTemp := 0 }
      boot := { s.boot with status := s.boot.status &&& ~~~8 } }.ok))

/-! ## The wrap of the coarse count (R44, R62) -/

/-- EPOCH_WRAP: the epoch increments, wrap anchors are written, 492 is raised (R44, R62, R63, R479). -/
def epochWrap (s : State) : State :=
  let s := s.reach ((s.now + (2 ^ 52 - 1)) / 2 ^ 52 * 2 ^ 52)
  (anchorAll 1 s.nowAt s).raise 492 (epochOf s.now).toNat

/-- EPOCH_WRAP (R41, R44, R62, R63, R479). -/
def execEpochWrap (s : State) : Host.Outcome State Fault Refusal := .next (epochWrap s)

/-! ## The margin plan (R472 to R475) -/

/-- The least-squares sums over points: n, Σx, Σy, Σx², Σxy. -/
def lineSums (l : List (Nat × Int)) : Int × Int × Int × Int × Int :=
  l.foldl (fun a p => (a.1 + 1, a.2.1 + p.1, a.2.2.1 + p.2, a.2.2.2.1 + (p.1 : Int) * p.1, a.2.2.2.2 + p.1 * p.2)) (0, 0, 0, 0, 0)

/-- The slope of the line through points as a quotient with a positive denominator; none under 24 points or when they lie
in one Tide (R472). -/
def slopeOf (l : List (Nat × Int)) : Option (Int × Nat) :=
  let (n, x, y, xx, xy) := lineSums l
  let den := n * xx - x * x
  if n < 24 ∨ den ≤ 0 then none else some (n * xy - x * y, den.toNat)

/-- A slope in margin units per day as Q16.16, to the nearest code (R472: 108,000,000 Tides a day). -/
def rateOf (num : Int) (den : Nat) : Int :=
  clampInt (-2147483648) 2147483647 (roundDiv (num * 108000000 * 65536) den)

/-- The Tide at which a falling line reaches 0 (R472), the first whole one. -/
def zeroTide (l : List (Nat × Int)) (num : Int) (den : Nat) : W64 :=
  let (n, x, y, _, _) := lineSums l
  let top := y * den - x * num        -- zero at (x·num − y·den) / (n·num), num < 0
  let bot := n * -num
  BitVec.ofNat 64 (min ((top + bot - 1) / bot).toNat 0xFFFFFFFFFFFFFFFF)

/-- No exhaustion (R472). -/
abbrev noExhaustion : W64 := 0xFFFFFFFFFFFFFFFF

/-- The lower limit and the default of the setting of items 0 and 1 (R475). -/
def settingSpan (i : Nat) : Nat × Nat := if i = 0 then (1, 800) else (256, 1875)

/-- The setting that R475 chooses, and the count of good updates after it. -/
def chooseSetting (i setting budget good : Nat) (margin : Int) : Nat × Nat :=
  let (lo, dflt) := settingSpan i
  if 2 * margin < budget then (max (setting / 2) lo, 0)
  else if 3 * (budget : Int) ≤ 4 * margin then
    if 24 ≤ good + 1 then (min (setting * 2) dflt, 0) else (setting, good + 1)
  else (setting, 0)

/-- Event 495 for an item (R479). -/
def itemEvent (kind : Nat) (i : Fin 27) (high : Nat) (s : State) : State :=
  s.raise 495 (kind + i.val * 2 ^ 4 + high % 2 ^ 16 * 2 ^ 16)

/-- The slowdown of a cluster's ring oscillators in ppm (R471): the ratio of the reference count to the stressed one, less 1, to
the nearest; log entry 131. -/
def HourMeas.slowdown (m : HourMeas) (c : Nat) : Option Int :=
  match m.counts[c]? with
  | some (a, b) => if b = 0 then none else some (roundDiv ((a : Int) * 1000000) b - 1000000)
  | none => m.ring.getD c none

/-- The widest run of places free of errors, in places. -/
def widestRun : Nat → Nat → List Bool → Nat
  | best, _, [] => best
  | best, run, true :: rest => widestRun (max best (run + 1)) (run + 1) rest
  | best, _, false :: rest => widestRun best 0 rest

/-- The eye opening of a port in mUI (R471): the widest span free of errors between places of the scan, to the nearest; only an UP
port has one. -/
def HourMeas.opening (m : HourMeas) (s : State) (n : Nat) : Option Int :=
  if (s.ports.filter (fun p => p.val = n && s.port[p].st == .up)).isEmpty then none
  else match m.scans[n]? with
    | some l => some (roundDiv (1000 * ((widestRun 0 0 l - 1 : Nat) : Int)) 64)
    | none => m.eye.getD n none

/-- The measurement of an item over the hour that ended (R474). -/
def measured (m : HourMeas) (s : State) (i : Fin 27) : Option Int :=
  let k := s.margin[i]
  if i.val = 10 then k.hour.map (fun v => -v)
  else if 6 ≤ i.val ∧ i.val ≤ 9 then
    (HourMeas.slowdown m (i.val - 6)).map (fun v => k.measurement + (v - k.hour.getD v))
  else if 11 ≤ i.val ∧ i.val ≤ 18 then HourMeas.opening m s (i.val - 11)
  else k.hour

/-- What the next hour starts with: items 6–9 keep the ratio last counted (R474). -/
def nextHour (m : HourMeas) (s : State) (i : Fin 27) : Option Int :=
  if 6 ≤ i.val ∧ i.val ≤ 9 then
    match HourMeas.slowdown m (i.val - 6) with | some v => some v | none => s.margin[i].hour
  else none

/-- The recommended value of an item (R474). -/
def recommendedOf (i budget setting : Nat) (measurement margin : Int) : Nat :=
  if i ≤ 1 then setting
  else if i ≤ 5 then (max 4 (2 * measurement)).toNat
  else if i ≤ 9 then (if (budget : Int) ≤ 2 * margin then 105 else 95)
  else if margin ≤ 0 then 1 else 0

/-- An item with its new measurement (R472, R474, R475); the setting that R475 chooses for items 0 and 1. -/
def MarginItem.update (k : MarginItem) (i budget setting tide : Nat) (v : Int) : MarginItem × Nat :=
  let margin := if 10 ≤ i ∧ i ≤ 18 then v - budget else budget - v
  let kept := (some (tide, margin) :: k.points).take 720
  let points := kept.filterMap id
  let fit := slopeOf points
  let choice := if i ≤ 1 then chooseSetting i setting budget k.good margin else (0, 0)
  let ex := if margin ≤ 0 then BitVec.ofNat 64 tide else match fit with
    | some (num, den) => if num < 0 then zeroTide points num den else noExhaustion
    | none => noExhaustion
  ({ k with
      measurement := v, margin := margin, points := kept, known := true, age := 0, stale := false, exhaustion := ex, good := choice.2
      rate := match fit with | some (num, den) => rateOf num den | none => k.rate
      recommended := recommendedOf i budget choice.1 v margin }, choice.1)

/-- The conditions of 495 kinds 1 and 2 are judged anew: each raised as it begins (R479). -/
def judgeItem (i : Fin 27) (tide : Nat) (s : State) : State :=
  let k := s.margin[i]
  let low := k.known && decide (k.margin ≤ 0)
  let soon := k.exhaustion != noExhaustion && decide (k.exhaustion.toNat ≤ tide + 108000000 * s.nat (0x7820 + i.val) 5)
  let s := if low && !k.low then itemEvent 1 i 0 s else s
  let s := if soon && !k.soon then itemEvent 2 i 0 s else s
  s.updItem i (fun m => { m with low := low, soon := soon })

/-- One item at an hourly update (R472, R475). -/
def updateItem (m : HourMeas) (tide : Nat) (i : Fin 27) (s : State) : State :=
  let idx := 0x7820 + i.val
  let hour := nextHour m s i
  match measured m s i with
  | some v =>
    let setting := if i.val ≤ 1 then s.nat idx 3 else 0
    let (k, new) := s.margin[i].update i.val (s.nat idx 4) setting tide v
    let auto := decide (i.val ≤ 1) && marginClass s i = 1 && decide (new ≠ setting)
    let s := s.updItem i (fun _ => { k with hour := hour, changed := auto, next := if auto then some new else none })
    let s := judgeItem i tide s
    if auto then itemEvent 3 i new s else s
  | none =>
    let k := s.margin[i]
    let stale := decide (3 ≤ k.age + 1)
    let s := s.updItem i (fun k => { k with
      hour := hour, changed := false, points := (none :: k.points).take 720, age := min (k.age + 1) 0xFFFFFFFF, stale := stale
      exhaustion := if stale then noExhaustion else k.exhaustion })
    let s := judgeItem i tide s
    if stale && !k.stale then itemEvent 4 i 0 s else s

/-- HOURLY_UPDATE: at the boundary of a Tide whose number is a multiple of 4,500,000, once the boundary has been served
(R472, R477). -/
def hourlyUpdate (m : HourMeas) (s : State) : State :=
  if s.time.lastTide = some s.now ∧ s.tideNow.toNat % 4500000 = 0 ∧ s.health.hourAt ≠ some s.now then
    each s.items (updateItem m s.tideNow.toNat) { s with health := { s.health with hourAt := some s.now } }
  else s

/-- HOURLY_UPDATE (R471 to R475, R477, R479). -/
def execHourlyUpdate (m : HourMeas) (s : State) : Host.Outcome State Fault Refusal := .next (hourlyUpdate m s)

/-- The settings that the autonomous class chose take effect at the boundary, unless the item is advisory now (R475,
R477). -/
def autonomousAtBoundary (s : State) : State :=
  each ((List.finRange 27).take 2) (fun i t =>
    match t.margin[i].next with
    | some v =>
      let t' := t.updItem i (fun k => { k with next := none })
      if marginClass t i = 1 then { t' with od := t'.od.set (0x7820 + i.val) 3 (.num v) } else t'
    | none => t) s

/-! ## Appends to the log (R457, R459) -/

/-- Hours between cadence appends as Tides (R457). -/
def State.cadence (s : State) : Nat := s.nat 0x1201 1 * 4500000

/-- The Tide of the next cadence append (R457): a whole number of cadences from entry into IDLE. -/
def State.nextAppend (s : State) : Nat :=
  let p := s.persist
  p.idleTide + ((p.lastAppend - p.idleTide) / s.cadence + 1) * s.cadence

/-- MARGIN_APPEND: the cadence has run out since the last cadence append, or since IDLE (R457). -/
def marginAppend (s : State) : State :=
  if s.cadence ≠ 0 ∧ s.served then
    let n := s.nextAppend
    let s := s.reach (n * tideLen)
    let s := { s with persist := { s.persist with lastAppend := n } }
    if s.keepsLog || s.dev.saving then appendOrDefer s else s
  else s

/-- MARGIN_APPEND (R455, R457, R458, R460). -/
def execMarginAppend (s : State) : Host.Outcome State Fault Refusal := .next (marginAppend s)

/-- APPEND_NOW: a write of 1 to 0x1201:05 (R457, R459). -/
def execAppendNow (r : Requester) (s : State) : Host.Outcome State Fault Refusal :=
  .next (s.request r 0x1201 5 .wo [] [need (s.keepsLog || (s.dev.saving && s.persist.logSlot != 0)) 0x07010000]
    (fun s => (appendOrDefer s).ok))


end Sys2Proof.Machine
end

