-- ==== Sys2Proof/Machine/Deliver.lean ====
section
/-!
DEFINITION. Tunnel messages and the delivery of KPP responses on the four host paths (spec 13, R360; spec 14, R384; spec 15,
R418, R423, R426, R427).
-/
namespace Sys2Proof.Machine

/-! ## The tunnel (R360) -/

/-- A tunnel item goes on towards its destination; without a route it is discarded (R360). -/
def forwardTunnel (i : DataItem) (s : State) : State :=
  match s.routeTo i.dest with
  | some n => if s.inTree then sendOn (.tunnel i) n s else lostTunnel i.dest.toNat 0 s
  | none => lostTunnel i.dest.toNat 0 s

/-- A KPP message leaves this node through the tunnel (R360). -/
def sendTunnel (dest : BitVec 14) (data : List Byte) (s : State) : State :=
  forwardTunnel { dest := dest, src := BitVec.ofNat 14 s.fab.nodeId.toNat, offset := BitVec.ofNat 11 data.length, last := false
                  data := data, crcOk := true } s

/-! ## Responses -/

/-- The IPv4 address in use (R426, 0x1100:06): the static one, or the DHCP lease; 0 when none. -/
def State.address (s : State) : Nat :=
  if s.nat 0x1100 2 = 0 then s.nat 0x1100 3 else (s.eth.lease.getD 0).toNat

/-- A response reaches its requester (R360, R384, R426, R427): on the mailbox it raises vector 0 and ALERT_STATUS [2]. -/
def deliver (r : Requester) (m : KppMsg) (s : State) : State :=
  let b := encodeMsg m
  match r.path with
  | .ethernet => { s with eth := { s.eth with reply := b, replyTo := r.addr, replyFrom := s.eth.reached * 2 ^ 16 + 52170 } }
  | .pcie =>
    (({ s with host := { s.host with mbxBusy := false, mbxReady := true, mbxResponse := b } }).msix 0).setAlert 4
  | .spi => { s with spi := { s.spi with busy := false, ready := true, response := b } }
  | .tunnel => sendTunnel (BitVec.ofNat 14 r.addr) b s

/-- The last 32 responses of each requester are remembered (R423). -/
def remember (r : Requester) (m : KppMsg) (s : State) : State :=
  let new : Remembered :=
    { by_ := r, transaction := m.transaction, opcode := m.opcode, ans := { status := m.status, payload := m.payload }
      lastSeg := m.lastSeg, at_ := s.now }
  let mine := new :: s.kpp.memory.filter (fun x => Requester.sameHost x.by_ r)
  { s with kpp := { s.kpp with memory := mine.take 32 ++ s.kpp.memory.filter (fun x => !Requester.sameHost x.by_ r) } }

/-- A request has been served: its response is remembered, counted and delivered. -/
def finish (r : Requester) (resp : KppMsg) (s : State) : State :=
  let s := remember r resp s
  deliver r resp { s with kpp := { s.kpp with served := s.kpp.served + 1 } }

/-- The payload of a refusal (R418): the first 4 bytes of a request that addresses an object. -/
def refusalPayload (m : KppMsg) : List Byte :=
  if decide (1 ≤ m.opcode.toNat) && decide (m.opcode.toNat ≤ 4) then m.payload.take 4 else []

/-- The response to a WRITE or to the last WRITE_SEG (R418, R419): address, for a segment the next offset, applied Tide. -/
def writeResponse (m : KppMsg) (a : Answer) : KppMsg :=
  let next := if m.opcode = 4 then toBytes 4 (field m.payload 4 4 + (m.payload.length - 12)) else []
  responseTo m a.status (if a.status = 0 then m.payload.take 4 ++ next ++ toBytes 8 a.tide.toNat else refusalPayload m)

/-- The Load of a channel is answered at last: the WRITE that carried it gets its response (R153, R197). -/
def answerLoad (ch : Fin 64) (r : Requester) (s : State) : State :=
  match s.kpp.loads.find? (fun x => x.1 = ch && x.2.1 = r) with
  | some (c, q, m) =>
    finish q (writeResponse m s.answer) { s with
      kpp := { s.kpp with loads := s.kpp.loads.erase (c, q, m) }, eth := { s.eth with reached := s.address } }
  | none => s

end Sys2Proof.Machine
end

