-- ==== Sys2Proof/Machine/Sluice.lean ====
section
/-!
DEFINITION. The Sluice (spec 06, R153, R164; spec 07, R191, R192, R197 to R202, R214): the check of a Load, admission, pin
loads, release of Pans.
-/
namespace Sys2Proof.Machine

/-! ## The walk over reachable instructions (R164, R191) -/

/-- A reachable instruction: the code of its target (R160), the instruction, its words. -/
structure Node where
  code  : Nat
  instr : Instr
  words : Nat
deriving DecidableEq, Repr

/-- The target and the timeout target of an instruction (R164). -/
def targetsOf (i : Instr) : List Nat :=
  match i with
  | .waitcond _ _ timeout t => if timeout = 0 then [] else [targetCode t]
  | .branch _ _ t => [targetCode t]
  | .loop _ _ t => [targetCode t]
  | .jump _ t => [targetCode t]
  | _ => []

/-- The instruction has a fall-through successor. -/
def fallsThrough (i : Instr) : Bool :=
  match i with | .jump _ _ => false | .halt _ => false | _ => true

/-- The successors of a node: fall-through, target, timeout target (R164). -/
def Node.next (n : Node) : List Nat := (if fallsThrough n.instr then [n.code + n.words] else []) ++ targetsOf n.instr

/-- The Pan a PANHINT names. -/
def hintOf (i : Instr) : Option Nat := match i with | .panhint _ p => some p.toNat | _ => none

/-- The checks of R164 that the words alone do not show: place in the Pan, clusters of the part, the LEVEL entry (R218). -/
def nodeOk (p : Part) (n : Node) : Bool :=
  let o := n.code % 512
  decide (o + n.words ≤ 512) && (!fallsThrough n.instr || decide (o + n.words < 512))
    && match n.instr with
      | .level _ _ e => entryOk e.toNat
      | .signal _ cl _ _ => decide (cl.val < p.clusters)
      | _ => true

/-- A list with an element at its end unless it is there. -/
def addNew (l : List Nat) (n : Nat) : List Nat := if l.contains n then l else l ++ [n]

/-- What the walk has found: nodes and Pans in the order reached, and the first failing word. -/
structure Walk where
  nodes : List Node := []
  pans  : List Nat := []
  bad   : Option Nat := none

/-- Breadth-first walk (R164): a Pan counts as reached before any word of it is decoded (R192), a hinted Pan with its
PANHINT (R191). -/
def walk (s : State) (ch : Fin 64) : Nat → List Nat → Walk → Walk
  | 0, _, w => w
  | _ + 1, [], w => w
  | fuel + 1, c :: rest, w =>
    if w.nodes.any (fun n => n.code = c) then walk s ch fuel rest w
    else
      let w := { w with pans := addNew w.pans (c / 512) }
      match s.instrAt ch (targetOf c) with
      | none => { w with bad := some c }
      | some (i, k) =>
        let n : Node := ⟨c, i, k⟩
        if nodeOk s.part n then
          let w := { w with
            nodes := w.nodes ++ [n], pans := match hintOf i with | some p => addNew w.pans p | none => w.pans }
          walk s ch fuel (rest ++ n.next) w
        else { w with bad := some c }

/-- The walk from an entry point; an entry in Pan 0 fails with no word examined (R164). -/
def walkFrom (s : State) (ch : Fin 64) (entry : Nat) : Walk :=
  if entry / 512 = 0 then { bad := some entry } else walk s ch (3 * 2 ^ 20) [entry] {}

/-! ## Counted loops and program time (R198) -/

/-- An instruction writes a register (R198). -/
def writesReg (r : Fin 8) (i : Instr) : Bool :=
  match i with
  | .setregLoad _ x _ => x = r
  | .setregAdd _ x _ => x = r
  | .setregCopy _ x _ => x = r
  | .loop _ x _ => x = r
  | _ => false

/-- A LOOP names a register. -/
def loopNames (r : Fin 8) (i : Instr) : Bool := match i with | .loop _ x _ => x = r | _ => false

/-- The last write of a register on a path: none, something other than a LOAD, or a LOAD of k. -/
inductive LastWrite where
  | none | other | load (k : Nat)
deriving DecidableEq, Repr

/-- The last write after an instruction. -/
def afterWrite (r : Fin 8) (i : Instr) (l : LastWrite) : LastWrite :=
  match i with
  | .setregLoad _ x v => if x = r then .load v.toNat else l
  | _ => if writesReg r i then .other else l

/-- The last writes of register r with which paths from the entry that stay outside u..w reach u (R198). -/
def reaching (ns : List Node) (r : Fin 8) (u w : Nat) : Nat → List (Nat × LastWrite) → List (Nat × LastWrite) →
    List LastWrite → List LastWrite
  | 0, _, _, out => out
  | _ + 1, [], _, out => out
  | fuel + 1, p :: rest, seen, out =>
    if p.1 = u then reaching ns r u w fuel rest seen (p.2 :: out)
    else if (u < p.1 ∧ p.1 ≤ w) ∨ seen.contains p then reaching ns r u w fuel rest seen out
    else
      match ns.find? (fun n => n.code = p.1) with
      | none => reaching ns r u w fuel rest (p :: seen) out
      | some n =>
        let l := afterWrite r n.instr p.2
        reaching ns r u w fuel (n.next.map (fun c => (c, l)) ++ rest) (p :: seen) out

/-- k of a counted loop (R198): the LOOP node at w with register r and target u in the same Pan. -/
def countOf (ns : List Node) (entry : Nat) (r : Fin 8) (u w : Nat) : Option Nat :=
  let inBody (c : Nat) : Bool := decide (u ≤ c) && decide (c ≤ w)
  let own := ns.all (fun n => n.code = w || !(loopNames r n.instr || (inBody n.code && writesReg r n.instr)))
  let single := ns.all (fun n => inBody n.code || (targetsOf n.instr).all (fun c => !(u < c && c ≤ w)))
  if u / 512 = w / 512 ∧ u ≤ w ∧ own = true ∧ single = true ∧ inBody entry = false then
    match reaching ns r u w (4 * ns.length * (ns.length + 3) + 4) [(entry, .none)] [] [] with
    | .load k :: rest => if rest.all (· = .load k) then some k else none
    | _ => none
  else none

/-- A counted loop: the code u of its first instruction, w of its LOOP, k, and b of one pass. -/
structure Counted where
  u : Nat
  w : Nat
  k : Nat
  b : Nat

/-- The program time of the step from node n to a successor on a path that began at `start` (R198): 2 T_E for the
instruction, and at a counted loop's fall-through the rest of its (k + 1) passes unless the path began inside the loop. -/
def stepTime (ls : List Counted) (start : Nat) (n : Node) (c : Nat) : Nat :=
  match ls.find? (fun l => l.w = n.code) with
  | some l => if c = n.code + n.words ∧ !(l.u ≤ start ∧ start ≤ l.w) then 2 + l.k * l.b else 2
  | none => 2

/-- One round of shortening the distances along permitted steps. -/
def relax (ns : List Node) (time : Node → Nat → Nat) (ok : Node → Nat → Bool) (d : List (Nat × Nat)) : List (Nat × Nat) :=
  ns.foldl (fun d n =>
    match assocFind d n.code with
    | none => d
    | some x => (n.next.filter (ok n)).foldl (fun d c =>
        match assocFind d c with
        | some y => if x + time n c < y then assocPut d c (some (x + time n c)) else d
        | none => assocPut d c (some (x + time n c))) d) d

/-- The least program times from given starting distances, over all permitted paths. -/
def distances (ns : List Node) (time : Node → Nat → Nat) (ok : Node → Nat → Bool) : Nat → List (Nat × Nat) → List (Nat × Nat)
  | 0, d => d
  | k + 1, d =>
    let e := relax ns time ok d
    if e = d then d else distances ns time ok k e

/-- b of a loop (R198): the least program time of one pass from u through w that stays within the range. -/
def passTime (ns : List Node) (ls : List Counted) (u w : Nat) : Nat :=
  let inBody (c : Nat) : Bool := decide (u ≤ c) && decide (c ≤ w)
  let d := distances ns (stepTime ls (w + 1)) (fun n c => inBody n.code && n.code != w && inBody c) ns.length [(u, 0)]
  (assocFind d w).getD 0 + 2

/-- LOOPs in the order of the length of their ranges. -/
def insertLoop (x : Fin 8 × Nat × Nat) : List (Fin 8 × Nat × Nat) → List (Fin 8 × Nat × Nat)
  | [] => [x]
  | y :: rest => if x.2.2 - x.2.1 ≤ y.2.2 - y.2.1 then x :: y :: rest else y :: insertLoop x rest

/-- The counted loops of a program (R198), inner ones before outer ones. -/
def countedLoops (ns : List Node) (entry : Nat) : List Counted :=
  let loops := ns.filterMap (fun n => match n.instr with
    | .loop _ r t => some (r, targetCode t, n.code) | _ => none)
  (loops.foldl (fun l x => insertLoop x l) []).foldl (fun ls x =>
    match countOf ns entry x.1 x.2.1 x.2.2 with
    | some k => ls ++ [{ u := x.2.1, w := x.2.2, k := k, b := passTime ns ls x.2.1 x.2.2 }]
    | none => ls) []

/-! ## Hints (R199) -/

/-- A step from node n to code c enters Pan q from outside. -/
def enters (q : Nat) (n : Node) (c : Nat) : Bool := n.code / 512 != q && c / 512 = q

/-- The node is a PANHINT of a Pan. -/
def hints (q : Nat) (n : Node) : Bool := hintOf n.instr = some q

/-- The (node, hinted) pairs that paths from the entry reach (R199 `unhinted_path`): hinted means that a PANHINT of q has
issued since the last entry into q. -/
def hintedStates (ns : List Node) (q : Nat) : Nat → List (Nat × Bool) → List (Nat × Bool) → List (Nat × Bool)
  | 0, _, seen => seen
  | _ + 1, [], seen => seen
  | fuel + 1, p :: rest, seen =>
    if seen.contains p then hintedStates ns q fuel rest seen
    else
      match ns.find? (fun n => n.code = p.1) with
      | none => hintedStates ns q fuel rest (p :: seen)
      | some n =>
        hintedStates ns q fuel (n.next.map (fun c => (c, (p.2 || hints q n) && !enters q n c)) ++ rest) (p :: seen)

/-- The (node, count) pairs that paths reach after a PANHINT of q, with the PANHINTs of other Pans issued since, 3 meaning
more than two (R199 `max_other_hints`). -/
def otherHints (ns : List Node) (q : Nat) : Nat → List (Nat × Nat) → List (Nat × Nat) → List (Nat × Nat)
  | 0, _, seen => seen
  | _ + 1, [], seen => seen
  | fuel + 1, p :: rest, seen =>
    if seen.contains p then otherHints ns q fuel rest seen
    else
      match ns.find? (fun n => n.code = p.1) with
      | none => otherHints ns q fuel rest (p :: seen)
      | some n =>
        if hints q n then otherHints ns q fuel rest (p :: seen)
        else
          let k := if (hintOf n.instr).isSome then min 3 (p.2 + 1) else p.2
          otherHints ns q fuel ((n.next.filter (fun c => !enters q n c)).map (fun c => (c, k)) ++ rest) (p :: seen)

/-- The least program time from a PANHINT of q, the latest before x, to the instruction x enters (R199): x itself counts. -/
def leadTime (ns : List Node) (ls : List Counted) (q : Nat) (x : Node) : Option Nat :=
  ((ns.filter (hints q)).filterMap (fun h =>
    let d0 := (h.next.filter (fun c => !enters q h c)).foldl (fun d c => assocPut d c (some 2)) []
    let d := distances ns (stepTime ls h.code) (fun n c => !hints q n && !enters q n c) ns.length d0
    (assocFind d x.code).map (· + 2))).min?

/-- The entries into a streamed Pan that fail (R199): the first instruction outside q with a target in q that breaks
reason 0x03, 0x04 or 0x05, with its reason. -/
def entryFault (ns : List Node) (ls : List Counted) (entry q : Nat) : Option (Nat × Nat) :=
  let fuel := 12 * (ns.length + 1) * (ns.length + 1)
  let hs := hintedStates ns q fuel [(entry, false)] []
  let os := otherHints ns q fuel
    ((ns.filter (hints q)).flatMap (fun h => (h.next.filter (fun c => !enters q h c)).map (fun c => (c, 0)))) []
  (ns.filter (fun x => x.code / 512 != q && (targetsOf x.instr).any (fun c => c / 512 = q))).findSome? (fun x =>
    if hs.contains (x.code, false) then some (0x03, x.code)
    else if (match leadTime ns ls q x with | some t => decide (t < 8448) | none => false) then some (0x04, x.code)
    else if os.contains (x.code, 3) then some (0x05, x.code)
    else none)

/-- The least program time from any PANHINT to the next PANHINT (R199); none when none follows. -/
def hintGap (ns : List Node) (ls : List Counted) : Option Nat :=
  ((ns.filter (fun n => (hintOf n.instr).isSome)).filterMap (fun h =>
    let d := distances ns (stepTime ls h.code) (fun n _ => (hintOf n.instr).isNone) ns.length
      (h.next.foldl (fun d c => assocPut d c (some 2)) [])
    (d.filterMap (fun p =>
      if ns.any (fun n => n.code = p.1 && (hintOf n.instr).isSome) then some p.2 else none)).min?)).min?

/-! ## Admission (R199, R200) -/

/-- What an admitted program holds (R191, R199). -/
structure Admission where
  set      : List Nat
  streamed : List Nat
  demand   : Nat

/-- The first node that refers to a Pan (R199 `first_ref`): the entry for its own Pan, else the first instruction that
names it. -/
def firstRef (ns : List Node) (entry p : Nat) : Nat :=
  if entry / 512 = p then entry
  else match ns.find? (fun n => hintOf n.instr = some p || n.next.any (fun c => c / 512 = p)) with
    | some n => n.code
    | none => entry

/-- The union of lists of Pans. -/
def unionOf (l : List (List Nat)) : List Nat := l.flatten.foldl addNew []

/-- The admission procedure of R199: the program's holds, or the reason and word of its first failure. A Pan of the set is the
host's, one that this check has taken, or one of an admitted program (R192). -/
def admissionOf (s : State) (ch : Fin 64) (entry : Nat) (taken : List Nat) (w : Walk) : Except (Nat × Nat) Admission :=
  let cl := clusterOf ch
  let others := otherChannels cl ch
  let streamed := (w.nodes.filterMap (fun n => hintOf n.instr)).foldl addNew [] |>.filter (· ≠ entry / 512)
  let notOwned := w.pans.find? (fun p => !((s.flag p).owner = .host ||
    ((s.flag p).owner = .device && (s.flag p).use = 0x01 && (taken.contains p || s.heldByProgram p))))
  let pins := (unionOf (w.pans.filter (fun p => !streamed.contains p) :: others.map (fun c => s.seq[c].pinned))).length
  let strm := (others.filter (fun c => !s.seq[c].streamed.isEmpty)).length + if streamed.isEmpty then 0 else 1
  let ls := countedLoops w.nodes entry
  let d := if streamed.isEmpty then 0 else
    match hintGap w.nodes ls with | none => 1 | some h => 9999 / h + 1
  let used := (others.map (fun c => s.seq[c].demand)).foldl (· + ·) 0
  if 1024 < w.pans.length then .error (0x07, entry)
  else match notOwned with
    | some p => .error (0x06, firstRef w.nodes entry p)
    | none =>
      if 64 < pins + 4 * strm then .error (0x02, entry)
      else match streamed.findSome? (entryFault w.nodes ls entry) with
        | some f => .error f
        | none => if 8 < d + used then .error (0x01, entry) else .ok { set := w.pans, streamed := streamed, demand := d }

/-! ## Release (R192, R202) -/

/-- Pans that no admitted program of the node holds any more go back to the host; a frozen Pan stays frozen (R192, R376). -/
def releasePans (l : List Nat) (s : State) : State :=
  each l (fun p t => if t.heldByProgram p || (t.flag p).use != 0x01 then t else t.givePan p) s

/-- Frames and pager work of a cluster for Pans that no admitted program of the cluster holds go (R193, R202). -/
def dropFrames (cl : Fin 4) (s : State) : State :=
  let held (p : Nat) : Bool := (clusterChannels cl).any (fun ch => s.seq[ch].panSet.contains p)
  s.updStore cl (fun t => { t with
    frames := t.frames.filter (fun f => held f.pan), hints := t.hints.filter (fun f => held f.pan),
    work := t.work.filter (fun f => held f.pan) })

/-- A Load whose program's pin loads still ran when the program left the channel: its check had passed, so it is answered
with 0 (R153; log entry 33). -/
def endLoading (ch : Fin 64) (s : State) : State :=
  match s.seq[ch].loading with
  | some r => answerLoad ch r (s.updSeq ch (fun q => { q with loading := none })).ok
  | none => s

/-- The channel holds no program any more (R153): state 0, frames and Pans released. -/
def discardProgram (ch : Fin 64) (also : List Nat) (s : State) : State :=
  let s := endLoading ch s
  let old := s.seq[ch].panSet
  let s := s.updSeq ch (fun q => { q with pstate := 0, panSet := [], streamed := [], demand := 0, loading := none })
  dropFrames (clusterOf ch) (releasePans (unionOf [old, also]) s)

/-! ## LOAD, the end of the check, pin loads (R153, R192, R197, R200) -/

/-- The entry point of a channel (R188). -/
def State.entryPoint (s : State) (ch : Fin 64) : Nat := s.nat (seqIdx ch) 1

/-- The check reaches Pans: it takes those that the host owns, and reads them (R192). -/
def reachPans (pans : List Nat) (s : State) : List Nat × State :=
  let taken := pans.filter (fun p => (s.flag p).owner = .host)
  let s := each pans readPan (each taken (fun p t => t.takePan p 0x01) s)
  (taken, each (pans.filter s.panPoisoned) freezeProgramPan s)

/-- LOAD: a write of 1 to the Load object submits the program (R153). The check reaches the Pan of the entry point at once, and of the
others a free number before the next command; it reaches the rest before it ends (R192, R374; log entry 124). -/
def load (r : Requester) (ch : Fin 64) (s : State) : State :=
  let cl := clusterOf ch
  s.request r (seqIdx ch) 2 .wo []
    [need (!s.onOrStaged (chIdx ch) 2 && s.nat (chIdx ch) 1 = 2) 0x04020000, need s.store[cl].check.isNone 0x04030000]
    (fun s =>
      let e := s.entryPoint ch
      let (k, s) := s.fresh
      let (taken, s) := reachPans ((walkFrom s ch e).pans.take (Config.checkReach k + 1)) s
      s.updStore cl (fun t => { t with check := some { ch := ch, entry := targetOf e, req := r, taken := taken } }))

/-- LOAD (R153, R188, R192). -/
def execLoad (r : Requester) (ch : Fin 64) (s : State) : Host.Outcome State Fault Refusal := .next (load r ch s)

/-- The Sluice refuses a program with a reason (R200, R212, R214). -/
def sluiceRefusal (c : LoadCheck) (reason word : Nat) (s : State) : State :=
  let cl := clusterOf c.ch
  let s := s.updStore cl (fun t => { t with
    reason := reason, refCh := c.ch.val, refWord := BitVec.ofNat 32 word, refusals := t.refusals + 1 })
  let s := s.raise (420 + 8 * cl.val) (reason + c.ch.val % 16 * 2 ^ 8 + word % 2 ^ 20 * 2 ^ 12)
  answerLoad c.ch c.req ((discardProgram c.ch c.taken s).reply 0x05010000)

/-- A program is admitted: it replaces the channel's program, Pans of its set that are the host's again are taken, and its
pinned Pans occupy frames and are to be loaded (R192, R193, R197). -/
def admitted (c : LoadCheck) (a : Admission) (s : State) : State :=
  let ch := c.ch
  let cl := clusterOf ch
  let s := endLoading ch s
  let old := s.seq[ch].panSet
  let s := s.updSeq ch (fun q => { q with
    pstate := 0, panSet := a.set, streamed := a.streamed, demand := a.demand, loading := some c.req, refused := 0xFFFFFFFF })
  let s := each (a.set.filter (fun p => (s.flag p).owner = .host)) (fun p t => t.takePan p 0x01) s
  let s := dropFrames cl (releasePans (unionOf [old, c.taken]) s)
  let pins := s.seq[ch].pinned.filter (fun p => (s.frameOf cl p).isNone)
  (each pins (reserveFrame cl) s).updStore cl (fun t => { t with
    work := t.work ++ pins.map (fun p => { pan := p, asked := s.now, ch := ch.val }) })

/-- SLUICE_CHECK_COMPLETE: the check of a cluster's Load has reached the rest of its Pans and ends (R153, R164, R188, R192, R199,
R200). -/
def sluiceCheckComplete (cl : Fin 4) (s : State) : State :=
  match s.store[cl].check with
  | none => s
  | some c =>
    let s := s.updStore cl (fun t => { t with check := none })
    let e := targetCode c.entry
    let w := walkFrom s c.ch e
    let (taken, s) := reachPans w.pans s
    let c := { c with taken := c.taken ++ taken }
    match w.bad with
    | some b =>
      let s := s.updSeq c.ch (fun q => { q with refused := BitVec.ofNat 32 b })
      answerLoad c.ch c.req ((discardProgram c.ch c.taken s).reply 0x03020000)
    | none =>
      let s := s.updSeq c.ch (fun q => { q with refused := 0xFFFFFFFF })
      match admissionOf s c.ch e c.taken w with
      | .error f => sluiceRefusal c f.1 f.2 s
      | .ok a => admitted c a s

/-- SLUICE_CHECK_COMPLETE (R153, R164, R192, R199, R200, R202, R214). -/
def execSluiceCheckComplete (cl : Fin 4) (s : State) : Host.Outcome State Fault Refusal :=
  .next (sluiceCheckComplete cl s)

/-- PIN_LOAD_COMPLETE: the pinned Pans of an admitted program are resident, after what the pager serves before them, and the
Load is answered (R153, R195, R197). -/
def pinLoadComplete (ch : Fin 64) (s : State) : State :=
  match s.seq[ch].loading with
  | none => s
  | some r =>
    let cl := clusterOf ch
    let s := each s.seq[ch].pinned (fun p t => bringIn cl p 0 t) (serveUpTo cl (fun f => !f.repair && f.ch = ch.val) s)
    answerLoad ch r (s.updSeq ch (fun q => { q with pstate := 1, gen := q.gen + 1, loading := none })).ok

/-- PIN_LOAD_COMPLETE (R153, R195, R197). -/
def execPinLoadComplete (ch : Fin 64) (s : State) : Host.Outcome State Fault Refusal := .next (pinLoadComplete ch s)

end Sys2Proof.Machine
end

