-- ==== Sys2Proof/Machine/Tide.lean ====
section
/-!
DEFINITION. The Tide boundary (spec 02, R49; spec 01, R26, R27; spec 15, R403 to R416): measurements of the ended Tide, the
commit set, the state change, and what every unit does as its settings or the device state change; and entry into IDLE
(spec 16, R434 to R438).
-/
namespace Sys2Proof.Machine

/-! ## What the ended Tide measured (R109, R139, R467 to R469, R27) -/

/-- A temperature in 0.1 °C from 1/65536 °C. -/
def deciDegrees (t : Int) : Int := roundDiv (10 * t) 65536

/-- Event 488 kinds 1 and 2 of a sensor (R479). -/
def thermalEvent (kind : Nat) (k : Fin 8) (t : Int) (s : State) : State :=
  s.raise 488 (kind + k.val * 2 ^ 4 + signedCode 16 (clampInt (-32768) 32767 (deciDegrees t)) * 2 ^ 16)

/-- The cluster whose channels a sensor's alarm concerns: sensors 1 to 4 (R227, R468). -/
def sensorChannels (s : State) (k : Fin 8) : List (Fin 64) :=
  s.channels.filter (fun ch => k.val = ch.val / 16 + 1)

/-- The Tide value of a sensor: its alarm becomes active, or clears 5 °C lower (R468, R227). -/
def sensorValue (k : Fin 8) (t : Int) (s : State) : State :=
  let limit : Int := s.nat 0x7802 (9 + k.val) * 65536
  let was := s.health.alarms[k]
  let s := { s with health := { s.health with temps := s.health.temps.set k.val t k.isLt } }
  let alarm (a : Bool) (s : State) : State :=
    { s with health := { s.health with alarms := s.health.alarms.set k.val a k.isLt } }
  if !was && decide (limit ≤ t) then each (sensorChannels s k) (causeOn 4) (thermalEvent 1 k t (alarm true s))
  else if was && decide (t ≤ limit - 5 * 65536) then each (sensorChannels s k) (causeOff 4) (thermalEvent 2 k t (alarm false s))
  else s

/-- The live error of the channel that a cluster's check slice followed (R139, R471): at least 256 edges make a result. -/
def liveResult (cl : Fin 4) (x : Nat × Int) (s : State) : State :=
  let j : Fin 16 := ⟨s.drz[cl].liveCh % 16, by omega⟩
  let ch := channelOf cl j
  let s := s.updDrz cl (fun d => { d with liveCh := (j.val + 1) % 16 })
  if x.1 < 256 then s
  else
    let was := s.edge[ch].drifting
    let out := decide (s.nat (chIdx ch) 0x13 < x.2.natAbs)
    let s := noteMeasure 0 x.2.natAbs (s.updEdge ch (fun g => { g with liveErr := x.2, drifting := out }))
    if out then driftEvent ch 0 s else if was then driftEvent ch (2 ^ 16) s else s

/-- Distance of the tuning voltage from the nearer of 0.3 V and 1.5 V in mV (R474). -/
def tuningDistance (uv : Nat) : Int :=
  roundDiv (min ((uv : Int) - 300000).natAbs ((uv : Int) - 1500000).natAbs : Nat) 1000

/-- The tuning node over the Tide that ended (R109, R110, R471 item 10: complete Tides). -/
def tuningValue (whole : Bool) (m : TideMeas) (s : State) : State :=
  let locked := (noteKind s.csu).hold.tideKind = some .locked
  let s := holdAtBoundary whole m.tuningCode m.tuningUv (m.temps.getD 0 s.temp0) s
  if whole && locked then noteMeasure 10 (-tuningDistance m.tuningUv) s else s

/-- Tides overrun in a row (R27, R433). -/
def overrunEvent (late : Bool) (s : State) : State :=
  if late then
    let n := satNat 0xFFFF (s.merger.overruns + 1)
    { s with merger := { s.merger with overruns := n } }.raise 493 n
  else { s with merger := { s.merger with overruns := 0 } }

/-- The mean of the samples of a Tide at the places `f` names, to the nearest; log entry 131 (R467). -/
def sampleMean (l : List Int) (f : Nat → Bool) : Int :=
  let m := (l.zipIdx.filter (fun p => f p.2)).map (fun p => p.1)
  roundDiv (m.foldl (· + ·) 0) (max m.length 1)

/-- The input that an odd sample takes (R467): sensors 0–7, rails 0–11 as 8–19, threshold readback as 20–24. -/
def sampleInput (k : Nat) : Nat := (k - 1) / 2 % 25

/-- The Tide values that a Tide's 800 samples give: each the mean of its input's (R467). -/
def TideMeas.averaged (m : TideMeas) : TideMeas :=
  if m.samples.length = 800 then
    let input (i : Nat) : Int := sampleMean m.samples (fun k => k % 2 = 1 && sampleInput k = i)
    { m with
      tuningCode := (sampleMean m.samples (fun k => k % 2 = 0)).toNat
      temps := (List.range 8).map input, rails := (List.range 12).map (fun r => (input (8 + r)).toNat) }
  else m

/-- What the boundary takes in of the Tide that ended. -/
def takeMeasures (whole : Bool) (m : TideMeas) (s : State) : State :=
  let m := TideMeas.averaged m
  let s := tuningValue whole m s
  let s := match s.csu.st, m.returnPpb with
    | .ret, some d => returnMeasured d s
    | _, _ => s
  let s := each (List.finRange 8) (fun k t => sensorValue k (m.temps.getD k.val t.health.temps[k]) t) s
  let s := { s with health := { s.health with
    rails := Vector.ofFn (fun r : Fin 12 => m.rails.getD r.val s.health.rails[r]) } }
  let s := fabricAtBoundary s
  let s :=
    if s.dev.calibrating || s.boot.calStage then s
    else each s.clusters (fun cl t => liveResult cl (m.live.getD cl.val (0, 0)) t) s
  overrunEvent m.overrun s

/-! ## The commit set (R408 to R416, R26) -/

/-- A table object: its value is installed, not kept as a setting (R135, R270). -/
def isTable (key : Nat) : Bool :=
  let idx := key / 256
  decide (0x7F00 ≤ idx) && decide (idx < 0x7F60) && key % 256 = 1

/-- The entries that the boundary of Tide n applies. -/
def State.due (s : State) (n : Nat) : List SetEntry := s.commits.upTo n

/-- The tables among entries, the last for each unit. -/
def tablesOf (l : List SetEntry) : List SetEntry :=
  l.reverse.foldl (fun a e => if isTable e.key && !a.any (fun f => f.key = e.key) then e :: a else a) []

/-- The sets that are due apply their settings (R412); tables and restarts are handled unit by unit. -/
def applySets (n : Nat) (b : TE) (s : State) : State :=
  let l := (s.due n).filter (fun e => !isTable e.key)
  let c := s.commits
  let moved := (s.due n).any (fun e => e.moved)
  let any := !(s.due n).isEmpty || c.restart.any (fun p => decide (p.2 ≤ b))
  let s := { s with
    od := Commits.overlay s.od l
    parity := s.parity.filter (fun p => !l.any (fun e => e.key = p.1))
    commits := { c with
      sets := c.sets.filter (fun p => n < p.1), restart := c.restart.filter (fun p => b < p.2), moved := false } }
  let s := if any then s.confGen else s
  let s := if c.moved || moved then s.raiseOnce 491 7 7 else s
  each (l.map (fun e => e.key)) (fun k t => settingTakes (k / 256) (k % 256) t) s

/-! ## Commands at a boundary (R403 to R405, R453) -/

/-- The objects that RESTORE_DEFAULTS leaves alone (R453). -/
def keptByRestore (p : Part) (key : Nat) : Bool :=
  let idx := key / 256
  (decide (0x1100 ≤ idx) && decide (idx ≤ 0x1102)) ||
    match odEntry p idx (key % 256) with | some e => !isStored idx (key % 256) e | none => true

/-- A stored setting that returned to its default acts (R153, R453). -/
def defaultTakes (key : Nat) (s : State) : State :=
  let idx := key / 256
  if key % 256 = 1 then
    match s.channels.find? (fun ch => seqIdx ch.val = idx) with
    | some ch => discardProgram ch [] s
    | none => settingTakes idx 1 s
  else if idx = 0x2005 then s
  else settingTakes idx (key % 256) s

/-- RESTORE_DEFAULTS at its boundary (R416, R453). -/
def restoreNow (s : State) : State :=
  let gone := (s.od.map (fun e => e.1)).filter (fun k => !keptByRestore s.part k)
  let h := s.csu.hold
  let s := { s with
    od := s.od.filter (fun e => keptByRestore s.part e.1)
    csu := { s.csu with hold := { h with coef := 0, model := if h.model = 2 then 0 else h.model } }
    health := { s.health with injArmed := false }
    commits := { s.commits with sets := [], restart := [] } }
  each gone defaultTakes s.confGen

/-- A command takes effect at its boundary (R403). -/
def commandActs (code : Nat) (s : State) : State :=
  if code = 8 then restoreNow s
  else if code = 9 then startRaw 3 (s.nat 0x7F70 2) { s with dev := { s.dev with calibrating := true } }
  else enterState (stateAfter code) s

/-- The pending command at boundary b, with 491 kind 7 where a set of ZTIME moved it there (R414). -/
def pendingActs (b : TE) (s : State) : State :=
  match s.dev.pendCmd with
  | some (c, t) =>
    if t ≤ b then
      let s := if s.dev.pendMoved then s.raiseOnce 491 7 7 else s
      commandActs c.toNat { s with dev := { s.dev with pendCmd := none } }
    else s
  | none => s

/-- The scheduled command at the boundary that begins Tide n: checked again, dropped with 491 kind 3 when no longer
permitted (R405). -/
def scheduledActs (n : Nat) (s : State) : State :=
  match s.dev.sched with
  | some (c, t) =>
    if tideNamed s.now t.toNat ≤ n then
      let s := { s with dev := { s.dev with sched := none } }
      if commandPermits c.toNat s.dev.st then commandActs c.toNat s
      else s.raiseOnce 491 3 (3 + c.toNat * 2 ^ 4 + 0x1300 * 2 ^ 16)
    else s
  | none => s

/-! ## Units at a boundary: `old` is the state before the set and the state change -/

/-- Some of a record's settings differ from before. -/
def changed (old s : State) (idx : Nat) (subs : List Nat) : Bool := subs.any (fun k => old.nat idx k != s.nat idx k)

/-- A BOOL setting has become 0. -/
def wentOff (old s : State) (idx sub : Nat) : Bool := old.on idx sub && !s.on idx sub
/-- A BOOL setting has become 1. -/
def wentOn (old s : State) (idx sub : Nat) : Bool := !old.on idx sub && s.on idx sub

/-- A channel (R141, R154, R155, R223, R227: an arm bit that becomes set while its cause is present). -/
def channelAtBoundary (old : State) (b : TE) (ch : Fin 64) (s : State) : State :=
  let s := faultCheck ch (s.armedCauses ch &&& ~~~(old.armedCauses ch)) s
  let was := old.chOn ch
  let is := s.chOn ch
  let mode := s.nat (chIdx ch) 1
  let s := if was && !is then stopProgram ch (cancelEdges ch (startOf b) s) else s
  let s := if !was && is && mode = 1 then setProgrammed ch b (s.idleLevel ch) s else s
  let s := if !was && is && mode = 2 then setProgrammed ch b .low s else s
  let s := if old.dev.st = .hold ∧ s.dev.st = .run then resumeProgram b ch s else s
  if is && mode = 2 && s.dev.st == .run && s.seq[ch].pstate = 1 then startProgram b ch s else s

/-- Route bits that become set while their source asserts set the latch (R291). -/
def routesAtBoundary (old : State) (b : TE) (ch : Fin 64) (s : State) : State :=
  let new := s.nat (chIdx ch) 0x1B
  let before := old.nat (chIdx ch) 0x1B
  each ((List.range 33).filter (fun k => bit new k && !bit before k && s.sourceAsserts k)) (fun k t => setLatch k b ch t) s

/-- A stamp input (R236, R248, R269). -/
def inputAtBoundary (old : State) (b : TE) (i : Fin 32) (s : State) : State :=
  let idx := inIdx i
  let analogue := changed old s idx [2, 3, 4, 6, 7]
  let stops := wentOff old s idx 1 || analogue
  let s := if stops then
      each (s.units8.filter (fun (g : Fin 32) => (old.groupCfg g).inp = i.val || s.grp[g].openM.any (fun m => m.inp = i)))
        (abandonFrom (startOf b)) s
    else s
  let s := if analogue then s.updSti i (fun u => { u with blankUntil := b + 2500 }) else s
  let s := s.updSti i (fun u => { u with
    gate := traceTrim (tracePut none u.gate b (if s.on idx 1 then some (s.nat idx 5) else none)) (b - keepTE) })
  if wentOff old s idx 0x10 then stepDisabled i s else s

/-- A measurement group and its statistics (R244, R247, R248, R273, R277). -/
def groupAtBoundary (old : State) (b : TE) (restarts : List Nat) (g : Fin 32) (s : State) : State :=
  let idx := grpIdx g
  let s := if wentOff old s idx 1 then emptyPool g b (abandonFrom (startOf b) g s)
    else if changed old s idx [8] then
      s.updGrp g (fun q => { q with pool := q.pool.map (fun e => e.window (s.nat idx 8) b) })
    else s
  runAtBoundary g b (s.on idx 0x10 && s.on idx 1) (restarts.contains g.val)
    (changed old s idx [2, 3, 4, 5, 6, 0x11, 0x12, 0x13]) s

/-- A new setting of the majority filter at boundary b (R288): without it the classification follows the comparators; a filter
that is turned on has seen nothing but the present classification; another filter works on the samples so far. -/
def filterAtBoundary (old : State) (b : TE) (wm : Fin 32) (s : State) : State :=
  if !s.watches wm then s
  else if !s.filtered wm then asyncClass wm b s.mon[wm].raw s
  else if !old.filtered wm then s.updMon wm (fun m => { m with rawHist := [(0, m.raw)] })
  else filterClass wm b s.mon[wm].raw s

/-- A monitor leaves the sampled mode at boundary b (R283): its comparators classify V_in as it stands, from the classification
of the last tick. -/
def continuousAgain (b : TE) (wm : Fin 32) (s : State) : State :=
  if !s.watches wm || s.blanked wm then s
  else
    let c := (s.bands wm).next s.mon[wm].vin s.mon[wm].cls
    let s := s.updMon wm (fun m => { m with raw := m.cls, rawHist := [(0, m.cls)] })
    if s.filtered wm then filterClass wm b c s else asyncClass wm b c s

/-- A window monitor (R283, R284, R285, R288, R290). -/
def monitorAtBoundary (old : State) (b : TE) (wm : Fin 32) (s : State) : State :=
  let idx := monIdx wm
  if wentOn old s idx 1 then startMonitor b wm s
  else if wentOff old s idx 1 then stopMonitor b wm s
  else if s.on idx 1 && changed old s idx [2, 3, 4] then startMonitor b wm s
  else
    let s := if wentOff old s idx 9 then continuousAgain b wm s
      else if changed old s idx [8] then filterAtBoundary old b wm s else s
    if changed old s idx [5] then followAssert wm b s else s

/-- TRIPIN under the polarity in force from boundary b on (R290, R292), once it is sensed (R439). -/
def tripinAtBoundary (b : TE) (s : State) : State :=
  if !s.served then s
  else if s.tripinLevel && !s.tripin.active then tripinOn b s
  else { s with tripin := { s.tripin with active := s.tripinLevel } }

/-- The conditions of a cluster whose word or window is applied, be its value the same or not (R309, R323): `keys` are the
objects that the set applies. -/
def conditionsAtBoundary (old : State) (b : TE) (keys : List Nat) (cl : Fin 4) (s : State) : State :=
  let idx := clIdx cl 3
  let new (c : Fin 16) : Bool := changed old s idx [1 + c.val, 0x11 + c.val]
    || keys.contains (odKey idx (1 + c.val)) || keys.contains (odKey idx (0x11 + c.val))
  s.updTrig cl (fun t => { t with
    applied := Vector.ofFn (fun c : Fin 16 => if new c then b else t.applied[c])
    words := Vector.ofFn (fun c : Fin 16 => traceTrim
      (tracePut (0, 0) t.words[c] b (s.nat idx (1 + c.val), s.nat idx (0x11 + c.val))) (b - keepTE)) })

/-- The event ring's enable (R385, R390). -/
def ringAtEnable (old : State) (b : TE) (s : State) : State :=
  if wentOn old s 0x1400 3 then ringOn b s else if wentOff old s 0x1400 3 then ringOff s else s

/-- Every unit at boundary b. Triggers on the boundary itself (R143 class 0x08) have t_ref B. -/
def unitsAtBoundary (old : State) (b : TE) (keys restarts : List Nat) (s : State) : State :=
  let s := ringAtEnable old b s
  let s := each s.channels (channelAtBoundary old b) s
  let s := each s.units8 (inputAtBoundary old b) s
  let s := each s.units8 (groupAtBoundary old b restarts) s
  let s := each s.units8 (monitorAtBoundary old b) s
  let s := tripinAtBoundary b s
  let s := each s.channels (routesAtBoundary old b) s
  let s := each s.clusters (conditionsAtBoundary old b keys) s
  let s := each s.channels (releaseAhead (b + tideLen)) s
  each s.channels (fun ch t => if (TrigEv.tide (tideWord b).toNat).meets (t.source ch) then sendTrigger (startOf b) ch t else t) s

/-! ## Calibration at a boundary (R137, R138, R263 to R270) -/

/-- A committed table is installed (R136, R270). -/
def tableAtBoundary (tide : W64) (e : SetEntry) (s : State) : State :=
  let idx := e.key / 256
  let b := match e.value with | .bytes b => b | .num _ => []
  if h : 0x7F00 ≤ idx ∧ idx < 0x7F40 then installCorrection ⟨idx - 0x7F00, by omega⟩ tide b s
  else if h : 0x7F40 ≤ idx ∧ idx < 0x7F60 then installHostTable tide ⟨idx - 0x7F40, by omega⟩ b s
  else s

/-- Calibration at the boundary that begins Tide n (R137, R138, R263 to R267, R434 stages 6 and 7). -/
def calibrateAtBoundary (n : Nat) (tables : List SetEntry) (s : State) : State :=
  let tide := BitVec.ofNat 64 n
  let s := each tables (tableAtBoundary tide) s
  let s := swapPaths s.now tide (drainTriggers (s.nowAt + 1) (each s.calUnits (installUnit tide) s))
  if s.boot.calStage then
    let (done, s) := sweepAtBoundary 1 s
    if done then { s with boot := { s.boot with calStage := false } } else s
  else if s.dev.calibrating then
    let (done, s) := sweepAtBoundary 3 s
    let s := if done then { s with dev := { s.dev with calibrating := false } } else s
    each s.clusters (ringAtBoundary n) s
  else if s.served then
    let interval := s.nat 0x7820 3
    each s.clusters (fun cl t => ringAtBoundary n cl (backgroundSweep n interval cl t)) s
  else s

/-! ## TIDE_BOUNDARY -/

/-- Everything with an instant before boundary b is done, under the settings before it (R145, R248). -/
def beforeBoundary (b : TE) (s : State) : State :=
  let s := (s.reach (b - 1)).arrive b
  drainTriggers (startOf b) s

/-- The set, the state change and the units at boundary b, which begins Tide n (R26, R403, R405, R408). -/
def settingsAtBoundary (n : Nat) (b : TE) (s : State) : State :=
  let old := s
  let keys := (s.due n).map (fun e => e.key)
  let restarts := (s.commits.restart.filter (fun p => p.2 ≤ b)).map (fun p => p.1)
  let s := autonomousAtBoundary (applySets n b s)
  let s := { s with
    commits := { s.commits with prior := old.od, priorEnd := b }
    sti := s.sti.map (fun u => { u with calBefore := u.cal }) }
  let s := scheduledActs n (pendingActs b s)
  let s := each (List.finRange 8) (clkAtBoundary (old.dev.st == .safe || s.dev.st == .safe) b) s
  unitsAtBoundary old b keys restarts s

/-- TIDE_BOUNDARY, with what was measured over the Tide that ends (R49). A boundary that a RESET forestalls does not come: the
device restarts (R403). -/
def tideBoundary (m : TideMeas) (s : State) : State :=
  if s.time.running then
    if s.resetBy s.nextBoundary then restart s else
    let b := s.nextBoundary
    let n := tideOf b
    let whole := decide (s.time.lastTide = some (b - tideLen))
    let s := beforeBoundary b s
    let s := if s.merger.ended.any (fun e => e.at_ = s.now) then s else s.endTideAt (tideWord (b - 1))
    let tables := tablesOf (s.due n)
    let s := takeMeasures whole m s
    let s := if s.served then settingsAtBoundary n b s else s
    let s := scrubAtBoundary (tideWord b).toNat b (calibrateAtBoundary n (if s.served then tables else []) s)
    { s with time := { s.time with lastTide := some b } }.settle
  else s

/-- TIDE_BOUNDARY (R26, R27, R49, R50, R65, R68, R84, R101 to R103, R109, R110, R112, R113, R136 to R139, R141, R143, R149,
R151, R154, R155, R205, R236, R248, R263 to R267, R273, R277, R284, R285, R290 to R292, R309, R344 to R346, R385, R390,
R403 to R405, R408, R410, R412, R414, R415, R453, R464, R467, R468, R471, R475, R477). -/
def execTideBoundary (m : TideMeas) (s : State) : Host.Outcome State Fault Refusal := .next (tideBoundary m s)

/-! ## IDLE_ENTRY (R434 to R438) -/

/-- The image's RWT values are applied as one set (R437). -/
def applyImageSet (s : State) : State :=
  match s.commits.image with
  | some (l : Settings) =>
    let s := { s with
      od := l.foldl (fun (o : Settings) (e : Nat × OdVal) => o.set (e.1 / 256) (e.1 % 256) e.2) s.od
      commits := { s.commits with image := none } }
    each (l.map (fun e => e.1)) (fun k t => settingTakes (k / 256) (k % 256) t) s.confGen
  | none => s

/-- Events held in BOOT and LOAD are presented with the present ZTIME (R438). -/
def presentHeld (s : State) : State :=
  let l := s.merger.held
  each l (fun e t => t.raiseAt t.nowAt e.1 e.2.1 e.2.2.toNat) { s with merger := { s.merger with held := [] } }

/-- IDLE is entered at a boundary that has been served, once start-up is over (R434, R437, R438). -/
def idleEntry (micros : W32) (s : State) : State :=
  if s.dev.st = .load ∧ s.boot.alignDone ∧ !s.boot.calStage ∧ s.time.lastTide = some s.now then
    let old := s
    let n := tideOf s.now
    let keys := match s.commits.image with | some (l : Settings) => l.map (fun e => e.1) | none => []
    let s := each (List.finRange 8) (clkAtBoundary false s.now) (applyImageSet s)
    let s := presentHeld (enterState .idle s)
    let s := unitsAtBoundary old s.now keys [] s
    { s with
      pins := { s.pins with ready := .high }
      boot := { s.boot with
        micros := micros
        fabricAlign := if s.on 0x2002 3 && s.nat 0x2002 1 = 2 then some s.now else none }
      drz := s.drz.map (fun z => { z with stepFrom := n, sweepFrom := n })
      persist := { s.persist with idleTide := n, lastAppend := n } }
  else s

/-- IDLE_ENTRY (R66, R98, R101, R103, R149, R183, R236, R284, R339, R406, R434 to R438, R457). -/
def execIdleEntry (micros : W32) (s : State) : Host.Outcome State Fault Refusal := .next (idleEntry micros s)

end Sys2Proof.Machine
end

