-- ==== Sys2Proof/Machine/Values.lean ====
section
/-!
DEFINITION. What an object of the dictionary reads as (the object tables of every section; spec 15, R395, R415, R429 to
R432): read-only values from the state they show, settings from the stored value in force or staged.
-/
namespace Sys2Proof.Machine

/-! ## Codes and counts -/

/-- 1 for true. -/
def flag01 (b : Bool) : Nat := if b then 1 else 0

/-- The capture states of R311. -/
def CapSt.code : CapSt → Nat
  | .idle => 0 | .armed => 1 | .triggered => 2 | .freezing => 3 | .draining => 4 | .done => 5

/-- The port states of R330. -/
def PortSt.code : PortSt → Nat
  | .disabled => 0 | .down => 1 | .training => 2 | .hello => 3 | .up => 4 | .mismatch => 5

/-- Pans with an owner (R391); a Pan without an entry in the ownership store is free. -/
def State.pansOwned (s : State) (o : Owner) : Nat :=
  let listed := (s.own.filter (fun p => p.2.owner = o)).length
  if o = .free then 2048 - s.own.length + listed else listed

/-- The channel states of R142, as shown now: the first of FAULT, TRIPPED, RANGING and PARKED, then OFF, ACTIVE, IDLE. -/
def State.channelState (s : State) (ch : Fin 64) : Nat :=
  let d := s.drv[ch]
  let p := s.seq[ch].pstate
  if d.faultAt s.now then 6
  else if s.trip[ch].trippedAt s.now then 3
  else if d.rangingAt s.nowAt then 4
  else if p = 5 then 5
  else if !s.chOn ch then 0
  else if s.delay[ch].pending.any (fun q => q.pendingAt s.nowAt) || p = 2 || p = 3 then 2
  else 1

/-- 0x3000+0x20·ch:1D (R293): the latch shows from t_j on (R295). -/
def State.tripStatus (s : State) (ch : Fin 64) : Nat :=
  let t := s.trip[ch]
  let on := t.trippedAt s.now
  flag01 on + 2 * flag01 (s.routedAsserts ch) + (if on then t.first else 63) * 2 ^ 8 + t.withheld * 2 ^ 16

/-- The widths of the bins of one line (R271): spacings of successive used centres, modulo 51,200 fu/16. -/
def spacings : List Nat → List Nat
  | a :: b :: rest => (b + 51200 - a) % 51200 :: spacings (b :: rest)
  | _ => []

/-- The used centres of a line in tap order (R261). -/
def LineCal.usedCentres (c : LineCal) (l : Nat) : List Nat := ((List.range 384).map (c.centre l)).filter (· ≠ 0xFFFF)

/-- 0x4000+0x20·in:17 (R271): used taps of the four lines. -/
def LineCal.usedTaps (c : LineCal) : Nat :=
  (List.range 4).foldl (fun a l => a + (c.usedCentres l).length * 2 ^ (16 * l)) 0

/-- The bins of all four lines (R271). -/
def LineCal.bins (c : LineCal) : List Nat := (List.range 4).flatMap (fun l => spacings (c.usedCentres l))

/-- 0x6001:01 (R342): the roster, bit i for node i; on other nodes zeros. -/
def State.rosterBytes (s : State) : List Byte :=
  if s.fab.state = 3 then
    (List.range 2048).map (fun i => BitVec.ofNat 8 ((List.range 8).foldl (fun a k =>
      let n := 8 * i + k
      if n = 0 || s.fab.roster.any (fun m => m.node.toNat = n) then a + 2 ^ k else a) 0))
  else List.replicate 2048 0

/-- The poisoned words of a Pan, by word offset (R391). -/
def State.poisonedIn (s : State) (pan : Nat) : List Nat :=
  (s.health.poisoned.filter (fun w => w.mem = 0 && w.addr / 1024 = pan)).map (fun w => w.addr % 1024)

/-- 0x7001:05 (R391): bit w for word w of the selected Pan. -/
def State.poisonMap (s : State) (pan : Nat) : List Byte :=
  let l := s.poisonedIn pan
  (List.range 128).map (fun i => BitVec.ofNat 8 ((List.range 8).foldl (fun a k =>
    if l.contains (8 * i + k) then a + 2 ^ k else a) 0))

/-- 0x1300:07 (R431). -/
def State.deviceStatus (s : State) : Nat :=
  s.boot.status.toNat % 16 + 16 * flag01 s.dev.calibrating + 32 * flag01 s.dev.saving

/-- 0x1300:03 (R431): command, three reserved bytes, Tide. -/
def State.schedBytes (s : State) : List Byte :=
  match s.dev.sched with | some (c, t) => [c, 0, 0, 0] ++ toBytes 8 t.toNat | none => List.replicate 12 0

/-- The epoch and Tide number that a host path reads (R52): latched by its last read of 0x2200:01, else current. -/
def State.timeLatch (s : State) (p : Path) : W32 × W64 :=
  match s.time.latched.find? (fun x => x.1 = p) with | some x => x.2 | none => (epochOf s.now, s.tideNow)

/-- The log area in use (R454). -/
def State.logLength (s : State) : Nat :=
  match s.flash.slot s.persist.logSlot with | some m => (match m.log with | some a => a.length | none => 0) | none => 0

/-! ## Numbers, record by record -/

/-- Numbers of the single records that are not settings; `none` for a setting. -/
def State.nodeNat (s : State) (p : Path) (idx sub : Nat) : Option Nat :=
  let c := s.csu
  let h := c.hold
  let f := s.fab
  let root := f.state = 3
  let big := match s.part with | .zt6432 => true | .zt3216 => false
  match idx, sub with
  | 0x1000, 2 => some s.part.product.toNat
  | 0x1000, 4 => some (flag01 Config.gradeC)
  | 0x1000, 5 => some (if big then 0x0F else 0x03)
  | 0x1000, 6 => some (if big then 0xFF else 0x0F)
  | 0x1000, 7 => some Config.romVersion.toNat
  | 0x1100, 1 => some Config.macAddress.toNat
  | 0x1100, 6 => some s.address
  | 0x1100, 8 => some (flag01 s.eth.linkUp)
  | 0x1101, 1 => some s.kpp.served.toNat
  | 0x1101, 2 => some s.kpp.replayed.toNat
  | 0x1101, 3 => some s.eth.discarded.toNat
  | 0x1101, 4 => some s.eth.queueFull.toNat
  | 0x1101, 5 => some s.spi.lost.toNat
  | 0x1102, 2 => some s.kpp.subs.length
  | 0x1102, 3 => some s.kpp.dropped.toNat
  | 0x1200, 1 => some s.persist.bootedFrom
  | 0x1200, 2 => some s.persist.bootedGen.toNat
  | 0x1200, 3 => some s.persist.stateA
  | 0x1200, 4 => some s.persist.genA.toNat
  | 0x1200, 5 => some s.persist.stateB
  | 0x1200, 6 => some s.persist.genB.toNat
  | 0x1200, 7 => some s.persist.applied.toNat
  | 0x1200, 8 => some s.persist.refused.toNat
  | 0x1200, 9 => some s.persist.firstRef.toNat
  | 0x1200, 0x0A => some s.persist.firstCode.toNat
  | 0x1200, 0x0B => some (match s.flash.chip with | some k => k.jedec.toNat | none => 0)
  | 0x1200, 0x0C => some (match s.flash.chip with | some k => k.density | none => 0)
  | 0x1201, 2 => some s.logLength
  | 0x1201, 3 => some s.persist.logNext
  | 0x1201, 4 => some s.persist.logCount
  | 0x1202, 2 => some s.boot.micros.toNat
  | 0x1300, 2 => some s.dev.st.code
  | 0x1300, 4 => some s.commits.confGen.toNat
  | 0x1300, 5 => some (match s.dev.pendCmd with | some (k, _) => k.toNat | none => 0)
  | 0x1300, 6 => some (match s.dev.pendCmd with | some (_, b) => tideOf b | none => 0)
  | 0x1300, 7 => some s.deviceStatus
  | 0x1300, 8 => some s.dev.lastResult.toNat
  | 0x1301, 1 => some s.nextTide
  | 0x1301, 2 => some (((s.commits.sets.filter (fun x => x.1 = s.nextTide)).map (fun x => x.2.length)).foldl (· + ·) 0
      + s.commits.restartsAt s.nextTide)
  | 0x1301, 3 => some (s.commits.sets.filter (fun x => s.nextTide < x.1)).length
  | 0x1301, 4 => some s.commits.held.length
  | 0x1301, 6 => some s.commits.carried.toNat
  | 0x1400, 4 => some s.ring.st
  | 0x1400, 5 => some s.ring.lost.toNat
  | 0x2003, 1 => some c.st.code
  | 0x2003, 2 => some (flag01 c.present)
  | 0x2003, 3 => some (flag01 c.qualified)
  | 0x2003, 4 => some (signedCode 32 (80 * clampInt (-26843545) 26843545 (Config.phaseError s.free)))
  | 0x2003, 5 => some c.band
  | 0x2003, 6 => some c.kvco.toNat
  | 0x2003, 7 => some s.bandwidthHz
  | 0x2003, 8 => some (signedCode 16 (clampInt (-32768) 32767 c.residual))
  | 0x2003, 9 => some (flag01 c.everAligned)
  | 0x2003, 0x0A => some c.locks.toNat
  | 0x2005, 1 => some h.code
  | 0x2005, 2 => some h.uv
  | 0x2005, 3 => some (flag01 s.holdAvailable)
  | 0x2005, 4 => some (signedCode 32 h.coef)
  | 0x2005, 5 => some h.model
  | 0x2005, 6 => some (signedCode 32 h.modelRef)
  | 0x2005, 7 => some h.factory
  | 0x2005, 8 => some s.lullTE
  | 0x2006, 1 => some (signedCode 64 s.deltaNow)
  | 0x2006, 7 => some (CsuAction.code c.action)
  | 0x2006, 8 => some (signedCode 32 (clampInt (-2147483648) 2147483647 c.retDiff))
  | 0x2006, 9 => some c.lastHold.toNat
  | 0x2200, 1 => some (ztimeTE s.now).toNat
  | 0x2200, 2 => some (s.timeLatch p).1.toNat
  | 0x2201, 1 => some (s.timeLatch p).2.toNat
  | 0x2203, 1 => some c.fuLen
  | 0x2203, 2 => some c.root
  | 0x4A00, 2 => some (flag01 s.tripin.active)
  | 0x4A00, 3 => some s.tripin.count.toNat
  | 0x6000, 2 => some Config.uniqueId.toNat
  | 0x6000, 3 => some f.state
  | 0x6000, 4 => some f.nodeId.toNat
  | 0x6000, 5 => some f.depth.toNat
  | 0x6000, 7 => some (flag01 s.following)
  | 0x6000, 8 => some (signedCode 64 f.offset)
  | 0x6000, 9 => some f.delivered.toNat
  | 0x6000, 0x0A => some f.lateCodes.toNat
  | 0x6000, 0x0B => some f.tunnelLost.toNat
  | 0x6000, 0x0C => some (if root then f.maxDepth.toNat else 0)
  | 0x6000, 0x0D => some (if root then f.roster.length + 1 else 0)
  | 0x6001, 3 => some (if root then f.leases.length else 0)
  | 0x6300, 2 => some f.sendSt
  | 0x6300, 3 => some f.sent.toNat
  | 0x6300, 7 => some f.received.toNat
  | 0x6400, 3 => some f.frontSeq.toNat
  | 0x6400, 4 => some ((List.finRange 16).foldl (fun a g => if s.armg[g].armed then a + 2 ^ g.val else a) 0)
  | 0x6400, 5 => some (ztime f.armAt).toNat
  | 0x7000, 2 => some (s.pansOwned .free)
  | 0x7000, 3 => some (s.pansOwned .host)
  | 0x7000, 4 => some (s.pansOwned .device)
  | 0x7000, 5 => some (s.pansOwned .frozen)
  | 0x7000, 6 => some s.host.violations.toNat
  | 0x7001, 6 => some (s.poisonedIn (s.nat 0x7001 1)).length
  | 0x7800, 2 => some s.health.lastPass.toNat
  | 0x7800, 3 => some s.health.corrected.toNat
  | 0x7800, 4 => some s.health.poisons.toNat
  | 0x7800, 5 => some (s.health.poisoned.filter (fun w => w.mem = 0)).length
  | 0x7800, 6 => some s.health.lastPoison.toNat
  | 0x7801, 1 => some s.health.causes.toNat
  | 0x7801, 2 => some s.health.sensor.toNat
  | 0x7801, 3 => some s.health.regulator.toNat
  | 0x7801, 4 => some s.health.shutTemp.toNat
  | 0x7801, 5 => some s.health.shutdowns.toNat
  | 0x7803, 0x0D => some ((List.finRange 12).foldl (fun a r => if s.health.outside[r] then a + 2 ^ r.val else a) 0)
  | 0x7804, 3 => some (flag01 s.health.injArmed)
  | 0x7F70, 3 => some s.lineInterval
  | _, _ => none

/-- Numbers of a channel's record (R142, R230, R293). -/
def State.channelNat (s : State) (ch : Fin 64) (sub : Nat) : Option Nat :=
  match sub with
  | 0x0C => some (s.channelState ch)
  | 0x0D => some s.edge[ch].placed.toNat
  | 0x0E => some s.edge[ch].suppressed.toNat
  | 0x0F => some s.delay[ch].accepted.toNat
  | 0x10 => some s.delay[ch].discarded.toNat
  | 0x11 => some s.delay[ch].delayed.toNat
  | 0x14 => some (signedCode 32 s.edge[ch].liveErr)
  | 0x19 => some (s.levelStatus ch)
  | 0x1D => some (s.tripStatus ch)
  | 0x1F => some (zdeltaCode (s.dIns ch))
  | _ => none

/-- Numbers of a sequencer's record (R188). -/
def State.seqNat (s : State) (ch : Fin 64) (sub : Nat) : Option Nat :=
  let q := s.seq[ch]
  match sub with
  | 0x03 => some q.pstate
  | 0x04 => some (targetCode q.pc)
  | 0x05 => some (ztime q.cursor).toNat
  | 0x06 => some (ztime q.origin).toNat
  | 0x17 => some q.sample.toNat
  | 0x18 => some (((List.range 64).filter (fun b => isLatched b && snapBit s ch s.now b)).foldl (fun a b => a + 2 ^ b) 0)
  | 0x19 => some q.issued.toNat
  | 0x1A => some q.late.toNat
  | 0x1B => some q.gen.toNat
  | 0x1C => some q.refused.toNat
  | _ => if h : 0x0F ≤ sub ∧ sub ≤ 0x16 then some (q.regs[(⟨sub - 0x0F, by omega⟩ : Fin 8)]).toNat else none

/-- Numbers of a stamp input's record (R235, R271). -/
def State.inputNat (s : State) (i : Fin 32) (sub : Nat) : Option Nat :=
  let u := s.sti[i]
  let c := u.cal
  match sub with
  | 0x09 => some u.converted.toNat
  | 0x0A => some u.merged.toNat
  | 0x0B => some u.blanked.toNat
  | 0x0C => some u.lost.toNat
  | 0x0D => some u.fifo.length
  | 0x0E => some u.peak
  | 0x0F => some (match u.last with | some x => (ztime x).toNat | none => 0)
  | 0x11 => some c.calState
  | 0x14 => some c.done.toNat
  | 0x15 => some c.failed.toNat
  | 0x16 => some c.lastFail.toNat
  | 0x17 => some c.usedTaps
  | 0x18 => some (c.bins.foldl max 0)
  | 0x19 => some (c.bins.min?.getD 0)
  | _ => none

/-- Numbers of a group's record (R242, R278). -/
def State.groupNat (s : State) (g : Fin 32) (sub : Nat) : Option Nat :=
  let q := s.grp[g]
  let r := s.stat[g]
  match sub with
  | 0x0A => some q.starts.toNat
  | 0x0B => some q.ignored.toNat
  | 0x0C => some q.abandoned.toNat
  | 0x0D => some q.missing.toNat
  | 0x0E => some q.early.toNat
  | 0x0F => some q.near.toNat
  | 0x15 => some (if r.complete then 2 else if r.running && r.opened then 1 else 0)
  | 0x16 => some (if r.opened then r.taken else 0)
  | 0x17 => some r.results.toNat
  | 0x18 => some r.abandoned.toNat
  | 0x19 => some r.unrecorded.toNat
  | _ => none

/-- Numbers of a monitor's record (R286). -/
def State.monitorNat (s : State) (w : Fin 32) (sub : Nat) : Option Nat :=
  match sub with
  | 0x0B => some (s.mon[w].state s.now)
  | 0x0D => some s.mon[w].result.toNat
  | 0x0E => some s.mon[w].rbValue.toNat
  | 0x0F => some s.mon[w].count.toNat
  | _ => none

/-- Numbers of a clock output's record (R99). -/
def State.clkNat (s : State) (n : Fin 8) (sub : Nat) : Option Nat :=
  match sub with
  | 0x08 => some s.clkout[n].st
  | 0x09 => some (flag01 (s.commensurate n))
  | 0x0A => some (Config.pathOffset n.val).toNat
  | _ => none

/-- Numbers of a port's record (R362). -/
def State.portNat (s : State) (n : Fin 8) (sub : Nat) : Option Nat :=
  let p := s.port[n]
  match sub with
  | 0x02 => some p.st.code
  | 0x03 => some (flag01 (s.isUp n))
  | 0x04 => some p.peerUid.toNat
  | 0x05 => some p.peerNode.toNat
  | 0x08 => some p.rtt
  | 0x09 => some p.delay
  | 0x0B => some p.violations.toNat
  | 0x0C => some p.crcErrs.toNat
  | 0x0D => some p.discards.toNat
  | 0x0E => some p.linkUps.toNat
  | 0x0F => some (flag01 p.overBudget)
  | _ => none

/-- Numbers of record r of a cluster (R189, R212, R324, R325, R327). -/
def State.clusterNat (s : State) (cl : Fin 4) (r sub : Nat) : Option Nat :=
  let t := s.store[cl]
  let c := s.cap[cl]
  let chs := clusterChannels cl
  let pinned := (t.frames.filter (fun f => s.pinnedIn cl f.pan)).length
  match r, sub with
  | 0, 1 => some pinned
  | 0, 2 => some (4 * (chs.filter (fun ch => !s.seq[ch].streamed.isEmpty)).length)
  | 0, 3 => some (64 - pinned)
  | 0, 4 => some t.hintCount.toNat
  | 0, 5 => some t.hitCount.toNat
  | 0, 6 => some t.repairCount.toNat
  | 0, 7 => some t.longest.toNat
  | 1, 1 => some ((chs.map (fun ch => s.seq[ch].demand)).foldl (· + ·) 0)
  | 1, 2 => some t.reason
  | 1, 3 => some t.refCh
  | 1, 4 => some t.refWord.toNat
  | 1, 5 => some t.refusals.toNat
  | 1, 6 => some t.stampsLost.toNat
  | 1, 7 => some t.egressLost.toNat
  | 4, 1 => some (condMask (trueConds s cl s.now)).toNat
  | 4, 2 => some s.trig[cl].firings.toNat
  | 4, 3 => some s.trig[cl].shadowed.toNat
  | 4, 4 => some s.trig[cl].lost.toNat
  | 5, 0x09 => some c.st.code
  | 5, 0x0A => some c.status.toNat
  | 5, 0x0B => some c.stored
  | 5, 0x0C => some c.trigPos.toNat
  | 5, 0x0D => some (ztimeTE c.trigAt).toNat
  | 5, 0x0E => some (epochOf c.trigAt).toNat
  | 5, 0x0F => some c.spillLost.toNat
  | 5, 0x10 => some c.violPos.toNat
  | 5, 0x11 => some c.violDet.toNat
  | 5, 0x14 => some c.handed.toNat
  | 5, 0x15 => some c.next
  | 7, 3 => some c.firesLost.toNat
  | 0x0A, 1 => some ((List.finRange 8).foldl (fun a k =>
      if traceAt false s.xbar[cl].signals[k] s.now then a + 2 ^ k.val else a) 0)
  | _, _ => none

/-- Numbers of an arm group's record (R359). -/
def State.armNat (s : State) (g : Fin 16) (sub : Nat) : Option Nat :=
  let a := s.armg[g]
  let shown := match a.cand with | some k => some k | none => a.winner
  match sub with
  | 1 => some (if a.executed then 3 else if a.cand.isSome then 2 else flag01 a.armed)
  | 2 => some a.seq.toNat
  | 3 => some (match shown with | some k => (ztime k.1).toNat | none => 0)
  | 4 => some (match shown with | some k => k.2.toNat | none => 0xFFFF)
  | 5 => some a.execs.toNat
  | 6 => some a.lost.toNat
  | 7 => some a.late.toNat
  | 8 => some a.unarmed.toNat
  | _ => none

/-- Numbers of a line unit's record (R270). -/
def LineCal.num (c : LineCal) (sub : Nat) : Option Nat :=
  match sub with
  | 2 => some c.gen.toNat
  | 3 => some (ofBytes (c.origins.toList.map (fun o => BitVec.ofNat 8 o)))
  | 4 => some c.installed.toNat
  | _ => none

/-- The number that an object shows when it is no setting. -/
def State.roNat (s : State) (p : Path) (idx sub : Nat) : Option Nat :=
  if idx < 0x2100 then s.nodeNat p idx sub
  else if h : idx < 0x2180 then s.clkNat ⟨(idx - 0x2100) / 0x10, by omega⟩ sub
  else if idx < 0x3000 then s.nodeNat p idx sub
  else if h : idx < 0x3800 then s.channelNat ⟨(idx - 0x3000) / 0x20, by omega⟩ sub
  else if h : 0x4000 ≤ idx ∧ idx < 0x4400 then s.inputNat ⟨(idx - 0x4000) / 0x20, by omega⟩ sub
  else if h : 0x4400 ≤ idx ∧ idx < 0x4800 then s.groupNat ⟨(idx - 0x4400) / 0x20, by omega⟩ sub
  else if h : 0x4800 ≤ idx ∧ idx < 0x4A00 then s.monitorNat ⟨(idx - 0x4800) / 0x10, by omega⟩ sub
  else if h : 0x5000 ≤ idx ∧ idx < 0x5400 then
    let cl : Fin 4 := ⟨(idx - 0x5000) / 0x100, by omega⟩
    let r := idx % 0x100
    if r < 0x10 then s.clusterNat cl r sub
    else s.seqNat (channelOf cl ⟨r % 16, by omega⟩) sub
  else if h : 0x6010 ≤ idx ∧ idx < 0x6090 then s.portNat ⟨(idx - 0x6010) / 0x10, by omega⟩ sub
  else if h : 0x6100 ≤ idx ∧ idx < 0x6120 then if sub = 4 then some s.sender[(⟨idx - 0x6100, by omega⟩ : Fin 32)].sent.toNat else none
  else if h : 0x6410 ≤ idx ∧ idx < 0x6420 then s.armNat ⟨idx - 0x6410, by omega⟩ sub
  else if h : idx = 0x7802 ∧ 1 ≤ sub ∧ sub ≤ 8 then
    some (signedCode 32 s.health.temps[(⟨sub - 1, by omega⟩ : Fin 8)])
  else if h : idx = 0x7803 ∧ 1 ≤ sub ∧ sub ≤ 12 then some s.health.rails[(⟨sub - 1, by omega⟩ : Fin 12)]
  else if h : 0x7F00 ≤ idx ∧ idx < 0x7F40 then
    let g := s.edge[(⟨idx - 0x7F00, by omega⟩ : Fin 64)]
    match sub with | 2 => some g.calGen.toNat | 3 => some g.origin | 4 => some g.installed.toNat | _ => none
  else if h : 0x7F40 ≤ idx ∧ idx < 0x7F60 then (s.cal (.input ⟨idx - 0x7F40, by omega⟩)).num sub
  else if h : 0x7F60 ≤ idx ∧ idx < 0x7F68 then (s.cal (.slice ⟨idx - 0x7F60, by omega⟩)).num sub
  else if h : 0x7F78 ≤ idx ∧ idx < 0x7F7C then
    let z := s.drz[(⟨idx - 0x7F78, by omega⟩ : Fin 4)]
    match sub with
    | 1 => some z.rate.toNat | 2 => some z.hits.toNat | 3 => some z.failed.toNat | 4 => some z.lastFail.toNat | _ => none
  else s.nodeNat p idx sub

/-! ## Byte strings -/

/-- "Vrelavo Microsystems" (R429). -/
def vendorName : List Byte :=
  [0x56, 0x72, 0x65, 0x6C, 0x61, 0x76, 0x6F, 0x20, 0x4D, 0x69, 0x63, 0x72, 0x6F, 0x73, 0x79, 0x73, 0x74, 0x65, 0x6D, 0x73]

/-- The bytes that an object shows when they are no setting. -/
def State.roBytes (s : State) (idx sub : Nat) : Option (List Byte) :=
  if idx = 0x1000 ∧ sub = 1 then some vendorName
  else if idx = 0x1300 ∧ sub = 3 then some s.schedBytes
  else if idx = 0x6001 ∧ sub = 1 then some s.rosterBytes
  else if idx = 0x7001 ∧ sub = 2 then some (s.readBytes (4096 * s.nat 0x7001 1) 4096)
  else if idx = 0x7001 ∧ sub = 5 then some (s.poisonMap (s.nat 0x7001 1))
  else if h : 0x4400 ≤ idx ∧ idx < 0x4800 ∧ sub = 0x1A then
    some (slice ((s.stat[(⟨(idx - 0x4400) / 0x20, by omega⟩ : Fin 32)].last.map (fun r => toBytes 16 r.toNat)).flatten) 0 64)
  else if h : 0x5000 ≤ idx ∧ idx < 0x5400 ∧ idx % 0x100 = 5 ∧ sub = 0x13 then
    some (windowBytes s ⟨(idx - 0x5000) / 0x100, by omega⟩ (s.nat idx 0x12))
  else if h : 0x7820 ≤ idx ∧ idx ≤ 0x783A ∧ sub = 1 then some (itemRecord s ⟨idx - 0x7820, by omega⟩)
  else if h : 0x7F00 ≤ idx ∧ idx < 0x7F40 ∧ sub = 1 then some s.edge[(⟨idx - 0x7F00, by omega⟩ : Fin 64)].bytes
  else if h : 0x7F40 ≤ idx ∧ idx < 0x7F60 then
    let c := s.cal (.input ⟨idx - 0x7F40, by omega⟩)
    if sub = 1 then some c.bytes else if sub = 5 then some c.offsetBytes else none
  else if h : 0x7F60 ≤ idx ∧ idx < 0x7F68 then
    let c := s.cal (.slice ⟨idx - 0x7F60, by omega⟩)
    if sub = 1 then some c.bytes else if sub = 5 then some c.offsetBytes else none
  else none

/-! ## Values -/

/-- The value of an object in force. -/
def State.value (s : State) (p : Path) (idx sub : Nat) (e : OdEntry) : List Byte :=
  match s.roBytes idx sub with
  | some b => b
  | none => match s.roNat p idx sub with
    | some n => toBytes e.type.len n
    | none => match e.acc with
      | .const => toBytes e.type.len e.dflt
      | _ => s.od.raw idx sub e.type

/-- The entries that the next boundary applies, with a session's held set after them (R415). -/
def State.entriesFor (s : State) (r : Requester) : List SetEntry :=
  s.commits.upTo s.nextTide ++ (s.commits.held.filter (fun h => h.by_ = r)).flatMap (fun h => h.entries)

/-- The value that an RWT object will hold at the next boundary (R415); a table that no entry replaces stays as it is. -/
def State.stagedValue (s : State) (r : Requester) (idx sub : Nat) (e : OdEntry) : List Byte :=
  let l := s.entriesFor r
  match s.roBytes idx sub with
  | some b => match l.reverse.find? (fun x => x.key = odKey idx sub) with
    | some x => x.value.raw e.type
    | none => b
  | none => (Commits.overlay s.od l).raw idx sub e.type

/-! ## BAR0 (R381) -/

/-- What an aligned word of BAR0 reads (R381); write-only and unlisted offsets read 0. -/
def State.bar0 (s : State) (offset : Nat) : W32 :=
  match offset with
  | 0x0000 => 0x5A540001
  | 0x0004 => s.part.product
  | 0x0008 => BitVec.ofNat 32 (s.dev.st.code + s.csu.st.code * 2 ^ 8 + flag01 (s.pins.ready == .high) * 2 ^ 16)
  | 0x0010 => s.host.alertStatus.setWidth 32
  | 0x0014 => s.host.alertEnable.setWidth 32
  | 0x0104 => s.host.mbxStatus
  | 0x0200 => s.ring.prod
  | 0x0204 => s.ring.cons
  | 0x0208 => s.ring.tideRead.setWidth 32
  | 0x020C => (s.ring.tideRead >>> 32).setWidth 32
  | 0x0210 => s.ring.capacity
  | 0x3000 => s.host.msixPending
  | _ =>
    if 0x1800 ≤ offset ∧ offset < 0x2000 then BitVec.ofNat 32 (field s.host.mbxResponse (offset - 0x1800) 4)
    else if h : 0x2000 ≤ offset ∧ offset < 0x2200 then
      ((s.host.msixTable[(offset - 0x2000) / 16]'(by omega)) >>> (8 * (offset % 16))).setWidth 32
    else 0

end Sys2Proof.Machine
end

