-- ==== Sys2Proof/Machine/Objects.lean ====
section
/-!
DEFINITION. Reading and writing objects (spec 15, R395 to R402, R408, R409, R411 to R413, R415, R422; spec 02, R52).
-/
namespace Sys2Proof.Machine

/-! ## Reading -/

/-- The words of ECC memory that the value of an object stands in (R317, R391, R461; log entry 30): of a correction table the
live path's, of a bin table and its offsets the unit's, of the window records the window's, of a Pan its words. -/
def State.objectWord (s : State) (idx sub : Nat) (w : MemWord) : Bool :=
  let span (mem cl lo n : Nat) : Bool := w.mem = mem && w.cl = cl && decide (lo ≤ w.addr) && decide (w.addr < lo + n)
  let line (cl u : Nat) : Bool :=
    if sub = 1 then span 4 cl (768 * u) 768 else sub = 5 && span 4 cl (7680 + 2 * u) 2
  if idx = 0x7001 ∧ sub = 2 then span 0 0 (1024 * s.nat 0x7001 1) 1024
  else if h : 0x5000 ≤ idx ∧ idx < 0x5400 ∧ idx % 0x100 = 5 ∧ sub = 0x13 then
    let cl : Fin 4 := ⟨(idx - 0x5000) / 0x100, by omega⟩
    let c := s.cap[cl]
    let n := 256 * s.nat idx 0x12
    (List.range (min 256 (c.stored - n))).any (fun i => (captureWords cl (c.total - c.stored + n + i)).contains w)
  else if h : 0x7F00 ≤ idx ∧ idx < 0x7F40 then
    let ch : Fin 64 := ⟨idx - 0x7F00, by omega⟩
    sub = 1 && span 3 (ch.val / 16) (pathPlace ch s.edge[ch].spareIsA) 3200
  else if 0x7F40 ≤ idx ∧ idx < 0x7F60 then line ((idx - 0x7F40) / 8) ((idx - 0x7F40) % 8)
  else if 0x7F60 ≤ idx ∧ idx < 0x7F68 then line ((idx - 0x7F60) / 2) (8 + (idx - 0x7F60) % 2)
  else false

/-- The words of the object are read: errors among them are met (R462, R463). -/
def meetObject (idx sub : Nat) (s : State) : State :=
  each (s.health.errs.filter (fun e => s.objectWord idx sub e.1)) (fun e t => readWord e.1 t) s

/-- A read cannot deliver the object for uncorrectable data (R377, R399). Window records carry the poisoned flag instead
(R463). -/
def State.objectBad (s : State) (idx sub : Nat) : Bool :=
  !(decide (0x5000 ≤ idx) && decide (idx < 0x5400)) && s.health.poisoned.any (fun w => s.objectWord idx sub w)

/-- A read of 0x2200:01 latches epoch and Tide number for its path (R52). -/
def latchTime (p : Path) (s : State) : State :=
  { s with time := { s.time with
    latched := (p, epochOf s.now, s.tideNow) :: s.time.latched.filter (fun x => x.1 ≠ p) } }

/-- The stored value of an object meets a parity error; of an RO object until the device updates it (R401; log entry 71). -/
def State.parityBad (s : State) (idx sub : Nat) (e : OdEntry) (v : List Byte) : Bool :=
  s.parity.any (fun p => p.1 = odKey idx sub && (e.acc != .ro || p.2 = v))

/-- A parity error comes up in the stored value of an object (R401; log entry 71). -/
def State.parityError (s : State) (r : Requester) (idx sub : Nat) : State :=
  match odEntry s.part idx sub with
  | some e => { s with parity := (odKey idx sub, s.value r.path idx sub e) :: (s.repaired idx sub).parity }
  | none => s

/-- The event of a read that meets a parity error (R401, R433). -/
def parityEvent (r : Requester) (idx sub : Nat) (s : State) : State :=
  s.raiseOnce 491 5 (5 + sub % 256 * 2 ^ 4 + pathCode r.path * 2 ^ 12 + idx % 2 ^ 16 * 2 ^ 16)

/-- The unit lets the object be read (R317): the window records of a capture that is neither being written nor spilled. -/
def State.unitReads (s : State) (idx sub : Nat) : Bool :=
  if h : 0x5000 ≤ idx ∧ idx < 0x5400 ∧ idx % 0x100 = 5 ∧ sub = 0x13 then
    let c := s.cap[(idx - 0x5000) / 0x100]
    !(c.storing || c.st == .draining || c.st == .done && c.cfg.spill)
  else true

/-- The checks of a read that do not depend on memory, in R399's order: existence, write-only, length, device state; then
the entry and value. -/
def State.readable (s : State) (r : Requester) (idx sub : Nat) (staged : Bool) (maxLen : Nat) :
    Except W32 (OdEntry × List Byte) :=
  match s.exists_ idx sub, odEntry s.part idx sub with
  | some c, _ => .error c
  | none, none => .error 0x01020000
  | none, some e =>
    if e.acc = .wo then .error 0x02020000
    else
      let v := if staged && e.acc == .rwt then s.stagedValue r idx sub e else s.value r.path idx sub e
      if maxLen < v.length then .error 0x03010000
      else if s.dev.st = .load ∧ idx ≠ 0x1000 ∧ idx ≠ 0x1300 then .error 0x04010000
      else if !s.unitReads idx sub then .error 0x04020000
      else .ok (e, v)

/-- A read of an object, of at most `maxLen` bytes (R395, R399, R401, R415, R420): its entry and value, or the abort code. -/
def readObject (r : Requester) (idx sub : Nat) (staged : Bool) (maxLen : Nat) (s : State) :
    Except W32 (OdEntry × List Byte) × State :=
  match s.readable r idx sub staged maxLen with
  | .error c => (.error c, s)
  | .ok (e, v) =>
    if s.parityBad idx sub e v then (.error 0x0F010000, parityEvent r idx sub s)
    else
      let s := meetObject idx sub s
      if s.objectBad idx sub then (.error 0x0F010000, s)
      else
        let s := if idx = 0x2200 ∧ sub = 1 then latchTime r.path s else s
        let v := if staged && e.acc == .rwt then s.stagedValue r idx sub e else s.value r.path idx sub e
        (.ok (e, v), if idx = 0x2003 ∧ sub = 4 then s.fresh.2 else s)

/-- The answer to a read. -/
def answerRead (x : Except W32 (OdEntry × List Byte) × State) : State :=
  match x with
  | (.ok (_, v), s) => s.reply 0 0 v
  | (.error c, s) => s.reply c

/-- ZTIME_READ: a read of 0x2200:01 on a host path (R52). -/
def ztimeRead (r : Requester) (s : State) : State :=
  match s.dev.st with
  | .boot => s
  | _ => answerRead (readObject r 0x2200 1 false 1396 s)

/-- ZTIME_READ (R52, R402). -/
def execZtimeRead (r : Requester) (s : State) : Host.Outcome State Fault Refusal := .next (ztimeRead r s)

/-! ## Writes with rows of their own -/

/-- The state that a row of the table leaves. -/
def outcomeState (o : Host.Outcome State Fault Refusal) (s : State) : State :=
  match o with | .next t => t | .fault _ => s | .refused _ => s

/-- A write of 0x1300:01 (R403). -/
def writeCommand (r : Requester) (code : Nat) (s : State) : State :=
  outcomeState (match code with
    | 1 => execGo r s | 2 => execHold r s | 3 => execResume r s | 4 => execStop r s | 5 => execSafe r s
    | 6 => execLeaveSafe r s | 7 => execSave r s | 8 => execRestoreDefaults r s | 9 => execCalibrate r s
    | 10 => execAlign r s | _ => execReset r s) s

/-- A write of a channel's command object (R142, R230, R297), if it is one. -/
def writeChannel (r : Requester) (ch : Fin 64) (sub : Nat) (v : List Byte) : Option (State → State) :=
  let n := ofBytes v
  let w : W32 := BitVec.ofNat 32 n
  match sub with
  | 0x0B => some (hostFire r ch)
  | 0x16 => some (levelEntry r ch true w)
  | 0x17 => some (levelEntry r ch false w)
  | 0x18 => some (taggedEntry r ch (BitVec.ofNat 32 (field v 0 4)) (BitVec.ofNat 32 (field v 4 4)) (BitVec.ofNat 64 (field v 8 8)))
  | 0x1A => some (if n = 1 then faultPark r ch else if n = 2 then release r ch else flush r ch)
  | 0x1D => some (tripClear r ch)
  | _ => none

/-- A write of a command object that has a row of its own: the row's effect. -/
def rowWrite (r : Requester) (idx sub : Nat) (v : List Byte) : Option (State → State) :=
  let n := ofBytes v
  if idx = 0x1300 ∧ sub = 1 then some (writeCommand r n)
  else if idx = 0x1300 ∧ sub = 3 then
    some (scheduledCommand r (BitVec.ofNat 8 (field v 0 1)) (BitVec.ofNat 64 (field v 4 8)))
  else if idx = 0x1201 ∧ sub = 5 then some (fun s => outcomeState (execAppendNow r s) s)
  else if idx = 0x2000 ∧ sub = 0x0B then some (applyConfiguration r)
  else if idx = 0x2006 ∧ sub = 3 then
    some (fun s => outcomeState (if n = 0 then execActionLeave r s else if n = 1 then execActionSlew r s else execActionStep r s) s)
  else if h : 0x3000 ≤ idx ∧ idx < 0x3800 then writeChannel r ⟨(idx - 0x3000) / 0x20, by omega⟩ sub v
  else if h : 0x4000 ≤ idx ∧ idx < 0x4400 then
    if sub = 0x12 then some (commandedCalibration r ⟨(idx - 0x4000) / 0x20, by omega⟩) else none
  else if h : 0x4400 ≤ idx ∧ idx < 0x4800 then
    if sub = 0x14 then some (statisticsRestart r ⟨(idx - 0x4400) / 0x20, by omega⟩) else none
  else if h : 0x4800 ≤ idx ∧ idx < 0x4A00 then
    let wm : Fin 32 := ⟨(idx - 0x4800) / 0x10, by omega⟩
    if sub = 0x0C then some (selfCheck r wm n) else if sub = 0x0E then some (readback r wm) else none
  else if h : 0x5000 ≤ idx ∧ idx < 0x5400 then
    let cl : Fin 4 := ⟨(idx - 0x5000) / 0x100, by omega⟩
    let o := idx % 0x100
    if o = 5 ∧ sub = 1 then some (if n = 1 then arm r cl else if n = 2 then forceTrigger r cl else stopCapture r cl)
    else if 0x10 ≤ o ∧ sub = 2 then some (load r (channelOf cl ⟨o % 16, by omega⟩))
    else none
  else if idx = 0x6300 ∧ sub = 1 then
    some (bulkSend r (BitVec.ofNat 16 (field v 0 2)) (BitVec.ofNat 16 (field v 2 2)) (BitVec.ofNat 16 (field v 4 2))
      (BitVec.ofNat 16 (field v 6 2)))
  else if idx = 0x6300 ∧ sub = 6 then some (windowOpen r (n != 0))
  else if idx = 0x6400 ∧ sub = 2 then some (issueFront r (BitVec.ofNat 16 n))
  else if idx = 0x7001 ∧ sub = 2 then some (panData r v)
  else if idx = 0x7001 ∧ sub = 3 then
    some (fun s => flagWrite r (BitVec.ofNat 11 (s.nat 0x7001 1)) (BitVec.ofNat 8 n) s)
  else if idx = 0x7001 ∧ sub = 4 then some (thaw r)
  else if idx = 0x7801 ∧ sub = 6 then some (fun s => outcomeState (execClearShutdownRecord r s) s)
  else if idx = 0x7804 ∧ sub = 3 ∧ n = 1 then some (fun s => outcomeState (execArmInjection r s) s)
  else none

/-- The written value is in range (R397): also a BOOL command takes only 1, TRIP and readback objects only 1, command codes
are those of R403, reserved bytes are 0. -/
def State.inRange (s : State) (idx sub : Nat) (e : OdEntry) (v : List Byte) : Bool :=
  let n := ofBytes v
  rangeOk s.part s.staged idx sub e v
    && !(e.type = .bool && e.acc = .wo && n = 0)
    && !(idx = 0x1300 && sub = 1 && (n = 0 || decide (11 < n)))
    && !(idx = 0x1300 && sub = 3 && field v 1 3 != 0)
    && !((unitIn 0x3000 0x20 64 idx).isSome && sub = 0x1D && n != 1)
    && !((unitIn 0x4800 0x10 32 idx).isSome && sub = 0x0E && n != 1)

/-! ## Sets (R408 to R413) -/

/-- The commit model with an entry at the end of the set of Tide n. -/
def Commits.add (c : Commits) (n : Nat) (l : List SetEntry) : Commits :=
  { c with sets := assocPut c.sets n (some (((assocFind c.sets n).getD []) ++ l)) }

/-- The DOMAIN bytes of entries (R413). -/
def domainBytes (p : Part) (l : List SetEntry) : Nat :=
  (l.map (fun e => match odEntry p (e.key / 256) (e.key % 256) with
    | some ⟨_, _, .domain n, _, _, _⟩ => n
    | some ⟨_, _, .domainUpTo _, _, _, _⟩ => (match e.value with | .bytes b => b.length | .num _ => 0)
    | _ => 0)).foldl (· + ·) 0

/-- A set of these entries and `k` restarts is within the limits of R413. -/
def setFits (p : Part) (l : List SetEntry) (k : Nat) : Bool :=
  decide (l.length + k ≤ 512) && decide (domainBytes p l ≤ 262144)

/-- An entry passes its own check against the settings that hold at its boundary (R411). -/
def entryOk411 (o : Settings) (e : SetEntry) : Bool := depOk o (e.key / 256) (e.key % 256)

/-- Every entry of the sets from Tide n on passes its check (R411). -/
def Commits.okFrom (c : Commits) (od : Settings) (n : Nat) : Bool :=
  c.sets.all (fun p => decide (p.1 < n) || p.2.all (entryOk411 (Commits.overlay od (c.upTo p.1))))

/-- An RWT write joins the set of the first usable boundary (R408). -/
def stageWrite (r : Requester) (idx sub : Nat) (v : OdVal) (s : State) : State :=
  let n := s.nextTide
  let c := s.commits.add n [{ key := odKey idx sub, value := v, by_ := r }]
  { s with commits := { c with carried := s.carriedNow } }.reply 0 (BitVec.ofNat 64 n)

/-- The held set of a session. -/
def State.heldSet (s : State) (r : Requester) : Option HeldSet := s.commits.held.find? (fun h => h.by_ = r)

/-- A held write joins its session's held set (R409). -/
def holdWrite (r : Requester) (idx sub : Nat) (v : OdVal) (s : State) : State :=
  let e : SetEntry := { key := odKey idx sub, value := v, by_ := r }
  let held := match s.heldSet r with
    | some _ => s.commits.held.map (fun h => if h.by_ = r then { h with entries := h.entries ++ [e], touched := s.now } else h)
    | none => s.commits.held ++ [{ by_ := r, entries := [e], touched := s.now }]
  { s with commits := { s.commits with held := held } }.reply 0 0xFFFFFFFFFFFFFFFF

/-- There is room for one more entry: in the held set (R409), or in the next set (R413). -/
def State.roomFor (s : State) (r : Requester) (hold : Bool) (e : SetEntry) : Bool :=
  if hold then
    match s.heldSet r with | some h => decide (h.entries.length < 256) | none => decide (s.commits.held.length < 8)
  else setFits s.part (((assocFind s.commits.sets s.nextTide).getD []) ++ [e]) (s.commits.restartsAt s.nextTide)

/-! ## Writing -/

/-- A setting that acts before its response takes a value (R398, R415): a new entry point discards the program (R153). -/
def writeNow (idx sub : Nat) (acc : Access) (v : OdVal) (s : State) : State :=
  let s := s.store1 idx sub v
  let s := if acc = .rwi ∨ acc = .rwh then s.confGen else s
  let s := match s.channels.find? (fun ch => seqIdx ch.val = idx && sub = 1) with
    | some ch => discardProgram ch [] s
    | none => settingTakes idx sub s
  s.ok

/-- A host write of a bin table abandons a step that runs (R269). -/
def tableWritten (idx sub : Nat) (s : State) : State :=
  if h : 0x7F40 ≤ idx ∧ idx < 0x7F60 then if sub = 1 then hostTableWritten ⟨idx - 0x7F40, by omega⟩ s else s else s

/-- A write of a setting after its type and range have been checked (R398, R399 steps 9 to 12, R411). -/
def writeSetting (r : Requester) (idx sub : Nat) (e : OdEntry) (v : List Byte) (hold : Bool) (s : State) : State :=
  let n := ofBytes v
  let x := odVal e.type v
  let entry : SetEntry := { key := odKey idx sub, value := x, by_ := r }
  let rwt := e.acc = .rwt
  let fits :=
    if rwt then
      let before := if hold then (match s.heldSet r with | some h => h.entries | none => []) else []
      let l := before ++ [entry]
      let c := s.commits.add s.nextTide l
      entryOk411 (Commits.overlay s.od (c.upTo s.nextTide)) entry && (hold || c.okFrom s.od (s.nextTide + 1))
    else depOk (s.staged.set idx sub x) idx sub
  if !e.acc.permits s.dev.st then s.refuse r idx sub 0x04010000
  else if !unitOk s idx sub n then s.refuse r idx sub 0x04020000
  else if !(fits && depState s idx sub n) then s.refuse r idx sub 0x03030000
  else if rwt && !s.roomFor r hold entry then s.refuse r idx sub 0x04030000
  else if rwt then
    if hold then holdWrite r idx sub x s else stageWrite r idx sub x (tableWritten idx sub s)
  else writeNow idx sub e.acc x s

/-- A write of any object but 0x1302:01 (R395 to R399). -/
def writeObject0 (r : Requester) (idx sub : Nat) (v : List Byte) (hold : Bool) (s : State) : State :=
  match s.dev.st with
  | .boot => s
  | _ =>
    match s.exists_ idx sub, odEntry s.part idx sub with
    | some c, _ => s.refuse r idx sub c
    | none, none => s.refuse r idx sub 0x01020000
    | none, some e =>
      if e.acc = .const ∨ e.acc = .ro then s.refuse r idx sub 0x02010000
      else if hold ∧ e.acc ≠ .rwt then s.refuse r idx sub 0x08010000
      else if !lengthOk idx sub e.type v then s.refuse r idx sub 0x03010000
      else if !s.inRange idx sub e v then s.refuse r idx sub 0x03020000
      else match rowWrite r idx sub v with
        | some f => f s
        | none => writeSetting r idx sub e v hold s

/-! ## The Saltern transfer (R422) -/

/-- The type is DOMAIN. -/
def OdType.isDomain : OdType → Bool
  | .domain _ => true | .domainUpTo _ => true | _ => false

/-- Direction 0: the Pans' bytes are written to the object as one WRITE. A poisoned word among them ends the transfer with
0x0F01_0000 (R376, R399). -/
def transferIn (r : Requester) (idx sub : Nat) (pans : List Nat) (first len : Nat) (s : State) : State :=
  let s := each pans (fun p t => t.takePan p 0) s
  let s := each pans readPan s
  let bad := pans.any s.panPoisoned
  let v := s.readBytes (4096 * first) len
  let s := each pans (fun p t => t.givePan p) s
  if bad then s.reply 0x0F010000
  else match odEntry s.part idx sub with
    | some e => if e.acc != .const && e.acc != .ro && !e.type.isDomain then s.refuse r idx sub 0x03010000
      else writeObject0 r idx sub v false s
    | none => writeObject0 r idx sub v false s

/-- Direction 1: the object's value is copied into the Pans; a value that is no DOMAIN, or longer than L, is refused
0x0301_0000. -/
def transferOut (r : Requester) (idx sub : Nat) (pans : List Nat) (first len : Nat) (s : State) : State :=
  match s.readable r idx sub false len with
  | .error c => s.refuse r 0x1302 1 c
  | .ok (e, _) =>
    if !e.type.isDomain then s.reply 0x03010000
    else if !s.allHost pans then s.reply 0x06010000
    else match readObject r idx sub false len s with
      | (.error c, s) => s.reply c
      | (.ok (_, v), s) =>
        let s := each pans (fun p t => t.takePan p 0) s
        let s := s.putWords (1024 * first) ((v.length + 3) / 4) (v.map some ++ [none, none, none])
        (each pans (fun p t => t.givePan p) s).ok

/-- SALTERN_TRANSFER: a write of 0x1302:01 (R422). The object itself, 0x1302:01, cannot be moved. -/
def salternTransfer (r : Requester) (idx sub dir first resv len : Nat) (s : State) : State :=
  let count := (len + 4095) / 4096
  let pans := (List.range count).map (first + ·)
  match s.dev.st with
  | .boot => s
  | .load =>
    if decide (dir ≤ 1) && decide (1 ≤ first) && decide (first ≤ 2047) && resv = 0 && idx != 0x1302 then
      s.refuse r 0x1302 1 0x04010000
    else s.refuse r 0x1302 1 0x03020000
  | _ =>
    if !(decide (dir ≤ 1) && decide (1 ≤ first) && decide (first ≤ 2047) && resv = 0 && idx != 0x1302) then
      s.refuse r 0x1302 1 0x03020000
    else if 2048 < first + count then s.refuse r 0x1302 1 0x03030000
    else if dir = 1 then transferOut r idx sub pans first len s
    else if !s.allHost pans then s.refuse r 0x1302 1 0x06010000
    else transferIn r idx sub pans first len s

/-- SALTERN_TRANSFER (R371, R422). -/
def execSalternTransfer (r : Requester) (index : W16) (sub dir : Byte) (firstPan : W16) (length : W32) (s : State) :
    Host.Outcome State Fault Refusal :=
  .next (salternTransfer r index.toNat sub.toNat dir.toNat firstPan.toNat 0 length.toNat s)

/-- A write of any object (R395 to R399, R422). -/
def writeObject (r : Requester) (idx sub : Nat) (v : List Byte) (hold : Bool) (s : State) : State :=
  if idx = 0x1302 ∧ sub = 1 ∧ hold = false ∧ v.length = 12 then
    salternTransfer r (field v 0 2) (field v 2 1) (field v 3 1) (field v 4 2) (field v 6 2) (field v 8 4) s
  else writeObject0 r idx sub v hold s

/-- OD_WRITE (R33, R395 to R400, R402, R406, R408, R409, R411 to R413, R415). -/
def execOdWrite (r : Requester) (index : W16) (sub : Byte) (value : List Byte) (hold : Bool) (s : State) :
    Host.Outcome State Fault Refusal := .next (writeObject r index.toNat sub.toNat value hold s)

end Sys2Proof.Machine
end

