-- ==== Sys2Proof/Machine/Kpp.lean ====
section
/-!
DEFINITION. KPP requests on the four host paths, the mailbox doorbell, the SPI target, the Ethernet lane and the tunnel (spec
15, R408 to R413, R417 to R428, R433; spec 14, R384; spec 13, R360).
-/
namespace Sys2Proof.Machine

/-! ## The header (R417, R418) -/

/-- The opcodes of requests (R419): READ, WRITE, READ_SEG, WRITE_SEG, SUBSCRIBE, COMMIT, ABORT. -/
def requestOpcode (o : Byte) : Bool := decide (1 ≤ o.toNat) && decide (o.toNat ≤ 8) && o != 6

/-- No flag is set on an opcode that does not use it (R417, R418). -/
def flagsOk (m : KppMsg) : Bool :=
  let o := m.opcode
  (!m.hold || o = 2 || o = 4) && (!m.staged || o = 1) && (!m.descriptor || o = 1) && (!m.lastSeg || o = 4)

/-- The payload has the form its opcode gives it, reserved bits 0 (R419, R425). -/
def payloadOk (m : KppMsg) : Bool :=
  let p := m.payload
  let addressed := field p 3 1 = 0
  match m.opcode.toNat with
  | 1 => p.length = 4 && addressed
  | 2 => decide (4 ≤ p.length) && addressed
  | 3 => p.length = 8 && addressed
  | 4 => decide (12 ≤ p.length) && addressed
  | 5 => p.length = 68 && decide (field p 64 1 < 4) && field p 65 3 = 0
  | 7 => p.length = 8
  | 8 => p.length = 8
  | _ => false

/-- The header is one of a request that the path permits (R417, R418, R428). -/
def headerOk (path : Path) (m : KppMsg) : Bool :=
  m.version = 1 && m.resv = 0 && m.resvHi = 0 && requestOpcode m.opcode && !m.response && flagsOk m
    && decide (m.length.toNat ≤ 1400) && m.length.toNat = m.payload.length
    && (m.destination = 0xFFFF || decide (m.destination.toNat ≤ 16383))
    && !(path == .pcie && m.opcode = 5) && payloadOk m

/-- The index and sub-index that a request addresses (R419). -/
def KppMsg.address (m : KppMsg) : Nat × Nat := (field m.payload 0 2, field m.payload 2 1)

/-! ## Answers -/

/-- What serving a request gives: its response, or none while a Load is under check (R153). -/
abbrev Served := Option KppMsg × State

/-- The request is refused. -/
def refused (m : KppMsg) (code : W32) (s : State) : Served := (some (responseTo m code (refusalPayload m)), s)

/-- The request is granted with a payload. -/
def granted (m : KppMsg) (payload : List Byte) (s : State) : Served := (some (responseTo m 0 payload), s)

/-- The device is in LOAD, where READ alone is served (R402). -/
def State.inLoad (s : State) : Bool := s.dev.st == .load

/-! ## READ and WRITE (R415, R419, R420) -/

/-- Address bytes with a type code (R419). -/
def typedAddress (m : KppMsg) (t : OdType) : List Byte := m.payload.take 3 ++ [BitVec.ofNat 8 t.code]

/-- The descriptor of an object (R419): its type, access class and length. -/
def serveDescriptor (m : KppMsg) (idx sub : Nat) (s : State) : Served :=
  match s.exists_ idx sub, odEntry s.part idx sub with
  | some c, _ => refused m c s
  | none, none => refused m 0x01020000 s
  | none, some e =>
    if s.inLoad && idx != 0x1000 && idx != 0x1300 then refused m 0x04010000 s
    else
      let n := match e.type with
        | .string => (s.value .pcie idx sub e).length
        | t => t.len
      granted m (typedAddress m e.type ++ [BitVec.ofNat 8 e.acc.code, 0, 0, 0] ++ toBytes 4 (if e.type = .string then max n 64 else n)) s

/-- READ (R415, R419, R420). -/
def serveRead (r : Requester) (m : KppMsg) (s : State) : Served :=
  let (idx, sub) := KppMsg.address m
  if m.descriptor then serveDescriptor m idx sub s
  else match readObject r idx sub m.staged 1396 s with
    | (.error c, s) => refused m c s
    | (.ok (e, v), s) => granted m (typedAddress m e.type ++ v) s

/-- A write of an object whose response is that of message m. A Load that passes its first checks is answered when its check
ends (R153). -/
def serveWriteOf (r : Requester) (m : KppMsg) (idx sub : Nat) (v : List Byte) (s : State) : Served :=
  let t := writeObject r idx sub v m.hold s
  match s.channels.find? (fun ch => seqIdx ch.val = idx && sub = 2) with
  | some ch =>
    if s.store[clusterOf ch].check.isNone && t.store[clusterOf ch].check.isSome then
      (none, { t with kpp := { t.kpp with loads := t.kpp.loads ++ [(ch, r, m)] } })
    else (some (writeResponse m t.answer), t)
  | none => (some (writeResponse m t.answer), t)

/-- WRITE (R419). -/
def serveWrite (r : Requester) (m : KppMsg) (s : State) : Served :=
  let (idx, sub) := KppMsg.address m
  serveWriteOf r m idx sub (m.payload.drop 4) s

/-! ## Segments (R421) -/

/-- The READ_SEG latch of a session is released. -/
def dropRead (r : Requester) (s : State) : State :=
  { s with kpp := { s.kpp with readSegs := s.kpp.readSegs.filter (fun x => x.by_ ≠ r) } }

/-- The WRITE_SEG buffer of a session is discarded. -/
def dropWrite (r : Requester) (s : State) : State :=
  { s with kpp := { s.kpp with writeSegs := s.kpp.writeSegs.filter (fun x => x.by_ ≠ r) } }

/-- One segment of a latched value; the latch goes with the segment that reaches the total. -/
def readSegment (r : Requester) (m : KppMsg) (t : OdType) (x : Segment) (offset : Nat) (s : State) : Served :=
  let d := (x.data.drop offset).take 1388
  let last := decide (offset + d.length = x.total)
  let s := dropRead r s
  let s := if last then s else { s with kpp := { s.kpp with readSegs := { x with at_ := s.now } :: s.kpp.readSegs } }
  let resp := responseTo m 0 (typedAddress m t ++ toBytes 4 offset ++ toBytes 4 x.total ++ d)
  (some { resp with lastSeg := last }, s)

/-- The type of an object. -/
def State.typeOf (s : State) (idx sub : Nat) : OdType := match odEntry s.part idx sub with | some e => e.type | none => .u8

/-- READ_SEG (R421): offset 0 latches the value. -/
def serveReadSeg (r : Requester) (m : KppMsg) (s : State) : Served :=
  let (idx, sub) := KppMsg.address m
  let offset := field m.payload 4 4
  if offset = 0 then
    let s := dropRead r s
    match s.readable r idx sub false 65536 with
    | .error c => refused m c s
    | .ok _ =>
      if s.inLoad then refused m 0x04010000 s
      else match readObject r idx sub false 65536 s with
        | (.error c, s) => refused m c s
        | (.ok (e, v), s) =>
          readSegment r m e.type { by_ := r, key := odKey idx sub, total := v.length, data := v, hold := false, at_ := s.now } 0 s
  else match s.kpp.readSegs.find? (fun x => x.by_ = r) with
    | some x =>
      if x.key = odKey idx sub ∧ offset ≤ x.total then readSegment r m (s.typeOf idx sub) x offset s
      else refused m 0x08020000 s
    | none => refused m 0x08020000 s

/-- The checks of R399 steps 3 to 6 on a first segment, then the largest total (R421); then LOAD (R402), unless the segment is
also the last and its value is still to be checked. -/
def State.firstSegment (s : State) (idx sub total : Nat) (hold lastSeg : Bool) : Option W32 :=
  match s.exists_ idx sub, odEntry s.part idx sub with
  | some c, _ => some c
  | none, none => some 0x01020000
  | none, some e =>
    if e.acc = .const ∨ e.acc = .ro then some 0x02010000
    else if hold ∧ e.acc ≠ .rwt then some 0x08010000
    else if 65536 < total then some 0x03010000
    else if s.inLoad && !lastSeg then some 0x04010000
    else none

/-- WRITE_SEG (R421). -/
def serveWriteSeg (r : Requester) (m : KppMsg) (s : State) : Served :=
  let (idx, sub) := KppMsg.address m
  let offset := field m.payload 4 4
  let total := field m.payload 8 4
  let d := m.payload.drop 12
  let old := s.kpp.writeSegs.find? (fun x => x.by_ = r)
  let s := dropWrite r s
  let before := if offset = 0 then some [] else match old with
    | some x => if x.key = odKey idx sub && x.total = total && x.data.length = offset then some x.data else none
    | none => none
  match before with
  | none => refused m 0x08020000 s
  | some b =>
    let v := b ++ d
    if !(decide (1 ≤ total) && decide (v.length ≤ total) && m.lastSeg == decide (v.length = total)) then refused m 0x08020000 s
    else
      match (if offset = 0 then s.firstSegment idx sub total m.hold m.lastSeg else none) with
      | some c => refused m c (s.refuse r idx sub c)
      | none =>
        if m.lastSeg then serveWriteOf r m idx sub v s
        else
          let x : Segment := { by_ := r, key := odKey idx sub, total := total, data := v, hold := m.hold, at_ := s.now }
          granted m (m.payload.take 4 ++ toBytes 4 v.length ++ toBytes 8 0xFFFFFFFFFFFFFFFE)
            { s with kpp := { s.kpp with writeSegs := x :: s.kpp.writeSegs } }

/-! ## SUBSCRIBE (R425) -/

/-- The place of a requester's subscription. -/
def State.subAt (s : State) (r : Requester) : Option Nat := s.kpp.subs.findIdx? (fun u => Requester.sameHost u.by_ r)

/-- SUBSCRIBE (R425). -/
def serveSubscribe (r : Requester) (m : KppMsg) (s : State) : Served :=
  let mask : BitVec 512 := BitVec.ofNat 512 (field m.payload 0 64)
  let opt := field m.payload 64 1
  let answer (n : Nat) (s : State) : Served := granted m (toBytes 1 n ++ [0, 0, 0] ++ toBytes 4 (s.nat 0x1102 1)) s
  let put (l : List Subscription) (s : State) : State := { s with kpp := { s.kpp with subs := l } }
  if s.inLoad then refused m (if !bit opt 1 && mask = 0 then 0x03020000 else 0x04010000) s
  else if bit opt 1 then answer ((s.subAt r).getD 0) (put (s.kpp.subs.filter (fun u => !Requester.sameHost u.by_ r)) s)
  else if mask = 0 then refused m 0x03020000 s
  else match s.subAt r with
    | some n =>
      answer n (put (s.kpp.subs.map (fun u =>
        if Requester.sameHost u.by_ r then { u with by_ := r, mask := mask, empty := bit opt 0, renewed := s.now, first := true } else u)) s)
    | none =>
      if 8 ≤ s.kpp.subs.length then refused m 0x04030000 s
      else
        answer s.kpp.subs.length
          (put (s.kpp.subs ++ [{ by_ := r, mask := mask, empty := bit opt 0, renewed := s.now }]) s)

/-! ## COMMIT and ABORT (R410, R411, R413) -/

/-- A named Tide that a COMMIT can still reach (R410). -/
def State.tideOpen (s : State) (n : Nat) : Bool := decide (s.now + 25000 ≤ n * tideLen)

/-- An entry fails what its unit or the device asks at the COMMIT. -/
def State.entryUnit (s : State) (e : SetEntry) : Bool := unitOk s (e.key / 256) (e.key % 256) e.value.nat
/-- What an entry asks of the device beside its settings (R153, R99). -/
def State.entryDep (s : State) (e : SetEntry) : Bool := depState s (e.key / 256) (e.key % 256) e.value.nat

/-- A COMMIT refused for the state of a unit concerns the object of its first entry that the unit refuses (R406). -/
def commitRefused (r : Requester) (c : W32) (l : List SetEntry) (s : State) : State :=
  match l.find? (fun e => !s.entryUnit e) with
  | some e => s.refuse r (e.key / 256) (e.key % 256) c
  | none => s

/-- The first failing check of a COMMIT of entries to Tide n (R399, R410, R411, R413). -/
def State.commitFault (s : State) (n : Nat) (l : List SetEntry) : Option W32 :=
  let c := s.commits.add n l
  let o := Commits.overlay s.od (c.upTo n)
  let old := assocFind s.commits.sets n
  let others := (s.commits.sets.filter (fun p => s.nextTide < p.1)).length
  firstFail [
    need (l.all s.entryUnit) 0x04020000,
    need (l.all (entryOk411 o) && l.all s.entryDep && c.okFrom s.od (n + 1)) 0x03030000,
    need (n ≤ s.nextTide || old.isSome || decide (others < 4)) 0x04030000,
    need (setFits s.part ((old.getD []) ++ l) (s.commits.restartsAt n)) 0x04030000]

/-- Host tables among committed entries abandon steps that run (R269). -/
def tablesCommitted (l : List SetEntry) (s : State) : State := each l (fun e t => tableWritten (e.key / 256) (e.key % 256) t) s

/-- COMMIT (R410). -/
def serveCommit (r : Requester) (m : KppMsg) (s : State) : Served :=
  let named := field m.payload 0 8
  let t := tideNamed s.now named
  let n := if named = 0 then s.nextTide else t
  let held : List SetEntry := match s.heldSet r with | some h => h.entries | none => []
  let l : List SetEntry := held.map (fun e => { e with committed := true })
  if named ≠ 0 ∧ !(s.tideOpen t && decide (t ≤ tideOf s.now + 2 ^ 20)) then refused m 0x03020000 s
  else if s.inLoad then refused m 0x04010000 s
  else
    let done (s : State) : Served := granted m (toBytes 8 n ++ toBytes 2 l.length ++ [0, 0, 0, 0, 0, 0]) s
    if l.isEmpty then done s
    else match s.commitFault n l with
      | some c => refused m c (commitRefused r c l s)
      | none =>
        let c := s.commits.add n l
        done (tablesCommitted l { s with commits := { c with held := c.held.filter (fun h => h.by_ ≠ r) } })

/-- ABORT (R410). -/
def serveAbort (r : Requester) (m : KppMsg) (s : State) : Served :=
  let named := field m.payload 0 8
  let t := tideNamed s.now named
  let done (k : Nat) (s : State) : Served := granted m (toBytes 2 k ++ [0, 0]) s
  if named = 0 then
    if s.inLoad then refused m 0x04010000 s
    else
      let k := match s.heldSet r with | some h => h.entries.length | none => 0
      done k (dropWrite r { s with commits := { s.commits with held := s.commits.held.filter (fun h => h.by_ ≠ r) } })
  else if !s.tideOpen t then refused m 0x03020000 s
  else if s.inLoad then refused m 0x04010000 s
  else
    let set := (assocFind s.commits.sets t).getD []
    let rest := set.filter (fun e => !(e.by_ = r && e.committed))
    let c := { s.commits with sets := assocPut s.commits.sets t (if rest.isEmpty then none else some rest) }
    if c.okFrom s.od t then done (set.length - rest.length) { s with commits := c } else refused m 0x03030000 s

/-! ## The request handler (R400, R402, R418, R423, R424) -/

/-- A request for this node, by its opcode (R419). -/
def serve (r : Requester) (m : KppMsg) (s : State) : Served :=
  match m.opcode.toNat with
  | 1 => serveRead r m s
  | 2 => serveWrite r m s
  | 3 => serveReadSeg r m s
  | 4 => serveWriteSeg r m s
  | 5 => serveSubscribe r m s
  | 7 => serveCommit r m s
  | _ => serveAbort r m s

/-- A request of a session keeps its held set open (R409). -/
def touchHeld (r : Requester) (s : State) : State :=
  { s with commits := { s.commits with
    held := s.commits.held.map (fun h => if h.by_ = r then { h with touched := s.now } else h) } }

/-- The remembered response to a request, for 1 s (R423). -/
def State.remembered (s : State) (r : Requester) (m : KppMsg) : Option Remembered :=
  s.kpp.memory.find? (fun x => x.by_ = r && x.transaction = m.transaction && x.opcode = m.opcode
    && decide (s.now ≤ x.at_ + secTE 1))

/-- A request for this node (R400, R409, R423). -/
def serveHere (r : Requester) (m : KppMsg) (s : State) : State :=
  let s := touchHeld r s
  match s.remembered r m with
  | some x => deliver r { responseTo m x.ans.status x.ans.payload with lastSeg := x.lastSeg } { s with kpp := { s.kpp with replayed := s.kpp.replayed + 1 } }
  | none => match serve r m s with
    | (some resp, s) => finish r resp s
    | (none, s) => s

/-- The mailbox or the SPI target is free again without a response. -/
def freePath (p : Path) (s : State) : State :=
  match p with
  | .pcie => { s with host := { s.host with mbxBusy := false } }
  | .spi => { s with spi := { s.spi with busy := false } }
  | _ => s

/-- A request for another node goes to the tunnel, its requester kept (R424); in LOAD it is refused (R402). -/
def forwardRequest (r : Requester) (m : KppMsg) (s : State) : State :=
  if !s.inTree then finish r (responseTo m 0x08010000 (refusalPayload m)) s
  else if s.inLoad then
    let writes : Bool := m.opcode = 2 || m.opcode = 4
    finish r (responseTo m 0x04010000 (refusalPayload m))
      (if writes then s.refuse r (KppMsg.address m).1 (KppMsg.address m).2 0x04010000 else s)
  else
    let s := sendTunnel (BitVec.ofNat 14 m.destination.toNat) (encodeMsg m) s
    if s.fab.outstanding.length < 256 then
      { s with fab := { s.fab with outstanding := s.fab.outstanding ++ [(m.session, m.transaction, r, s.now)] } }
    else freePath r.path s

/-- A datagram is discarded and counted (R418, R426). -/
def discardDatagram (s : State) : State := { s with eth := { s.eth with discarded := s.eth.discarded + 1 } }

/-- The source filter of 0x1100:09 and :0A admits an IPv4 address (R426). -/
def State.admitsSource (s : State) (ip : Nat) : Bool :=
  let p := s.nat 0x1100 9
  let mask := s.nat 0x1100 0x0A
  p = 0 || ip &&& mask = p &&& mask

/-- The Ethernet lane carries datagrams: link up, an address in use, not in BOOT (R402, R426). -/
def State.lanOpen (s : State) : Bool := s.eth.linkUp && s.address != 0 && s.dev.st != .boot

/-- The path brings requests to the device (R380, R402, R426). -/
def State.pathOpen (s : State) (p : Path) : Bool :=
  match p with
  | .ethernet => s.lanOpen
  | .pcie => s.pcieOpen
  | _ => s.dev.st != .boot

/-- The requester of a message (R409): by address and session on Ethernet and the tunnel, by path and session else. -/
def requesterOf (r : Requester) (m : KppMsg) : Requester :=
  { r with addr := (match r.path with | .pcie => 0 | .spi => 0 | _ => r.addr), session := m.session }

/-- A KPP message arrives on a host path (R400, R402, R418, R423, R424, R426). -/
def kpp (r : Requester) (m : KppMsg) (s : State) : State :=
  let r := requesterOf r m
  let s := if r.path = .ethernet then { s with eth := { s.eth with reached := s.address } } else s
  if !s.pathOpen r.path then s
  else if r.path = .ethernet ∧ !s.admitsSource (r.addr / 2 ^ 16) then discardDatagram s
  else if r.path = .ethernet ∧ m.magic ≠ 0x5A4B then discardDatagram s
  else if m.magic ≠ 0x5A4B ∨ !headerOk r.path m then finish r (responseTo m 0x08010000 (refusalPayload m)) s
  else if m.destination ≠ 0xFFFF ∧ m.destination ≠ s.fab.nodeId then forwardRequest r m s
  else serveHere r m s

/-- A request finds the queue of 64 full: it is discarded, counted and reported (R426, R433). -/
def dropRequest (s : State) : State :=
  { s with eth := { s.eth with queueFull := s.eth.queueFull + 1 } }.raiseCount 494 5 5

/-- A KPP message comes by the way that its row says (R401, R426; log entries 71, 73): a fragment is discarded, and so is a
request that finds 64 in the queue. -/
def kppBy (way : Arrival) (r : Requester) (m : KppMsg) (s : State) : State :=
  if r.path = .ethernet ∧ s.lanOpen ∧ way.fragment then discardDatagram s
  else if r.path = .ethernet ∧ s.lanOpen ∧ s.admitsSource (r.addr / 2 ^ 16) ∧ m.magic = 0x5A4B ∧ 64 ≤ way.queued then
    dropRequest s
  else kpp r m (if way.parity ∧ m.opcode = 1 ∧ s.pathOpen r.path then s.parityError r (KppMsg.address m).1 (KppMsg.address m).2 else s)

/-- The row of an opcode takes its own messages, and those of no row's opcode, which are refused (R418). -/
def kppRow (opcode : Byte) (way : Arrival) (r : Requester) (m : KppMsg) (s : State) : State :=
  if m.opcode = opcode ∨ !requestOpcode m.opcode then kppBy way r m s else s

/-- READ (R395, R399, R401, R402, R415, R418 to R420, R423, R424). -/
def execRead (r : Requester) (m : KppMsg) (s : State) (way : Arrival := {}) : Host.Outcome State Fault Refusal :=
  .next (kppRow 1 way r m s)
/-- WRITE (R397 to R399, R408, R409, R418 to R420, R423, R424). -/
def execWrite (r : Requester) (m : KppMsg) (s : State) (way : Arrival := {}) : Host.Outcome State Fault Refusal :=
  .next (kppRow 2 way r m s)
/-- READ_SEG (R418, R419, R421, R423, R424). -/
def execReadSeg (r : Requester) (m : KppMsg) (s : State) (way : Arrival := {}) : Host.Outcome State Fault Refusal :=
  .next (kppRow 3 way r m s)
/-- WRITE_SEG (R418, R419, R421, R423, R424). -/
def execWriteSeg (r : Requester) (m : KppMsg) (s : State) (way : Arrival := {}) : Host.Outcome State Fault Refusal :=
  .next (kppRow 4 way r m s)
/-- SUBSCRIBE (R418, R419, R425, R428). -/
def execSubscribe (r : Requester) (m : KppMsg) (s : State) (way : Arrival := {}) : Host.Outcome State Fault Refusal :=
  .next (kppRow 5 way r m s)
/-- COMMIT (R410, R411, R413, R418, R419). -/
def execCommit (r : Requester) (m : KppMsg) (s : State) (way : Arrival := {}) : Host.Outcome State Fault Refusal :=
  .next (kppRow 7 way r m s)
/-- ABORT (R410, R418, R419). -/
def execAbort (r : Requester) (m : KppMsg) (s : State) (way : Arrival := {}) : Host.Outcome State Fault Refusal :=
  .next (kppRow 8 way r m s)

/-! ## Lapses (R409, R421, R424, R425) -/

/-- SUBSCRIPTION_LAPSE: the lease has run without renewal (R425). -/
def subscriptionLapse (r : Requester) (s : State) : State :=
  match s.kpp.subs.find? (fun u => Requester.sameHost u.by_ r) with
  | some u =>
    let s := s.reach (u.renewed + secTE (s.nat 0x1102 1))
    { s with kpp := { s.kpp with subs := s.kpp.subs.filter (fun u => !Requester.sameHost u.by_ r) } }.raiseCount 494 6 6
  | none => s

/-- SUBSCRIPTION_LAPSE (R425, R433). -/
def execSubscriptionLapse (r : Requester) (s : State) : Host.Outcome State Fault Refusal := .next (subscriptionLapse r s)

/-- HELD_SET_DISCARD: 10 s without a request of the session (R409). -/
def heldSetDiscard (r : Requester) (s : State) : State :=
  match s.heldSet r with
  | some h =>
    let s := s.reach (h.touched + secTE 10)
    { s with commits := { s.commits with held := s.commits.held.filter (fun h => h.by_ ≠ r) } }.raiseOnce 491 4
      (4 + pathCode r.path * 2 ^ 12)
  | none => s

/-- HELD_SET_DISCARD (R409, R433). -/
def execHeldSetDiscard (r : Requester) (s : State) : Host.Outcome State Fault Refusal := .next (heldSetDiscard r s)

/-- SEGMENT_TIMEOUT: 1 s without a segment (R421). -/
def segmentTimeout (r : Requester) (writing : Bool) (s : State) : State :=
  match (if writing then s.kpp.writeSegs else s.kpp.readSegs).find? (fun x => x.by_ = r) with
  | some x =>
    let s := s.reach (x.at_ + secTE 1)
    if writing then dropWrite r s else dropRead r s
  | none => s

/-- SEGMENT_TIMEOUT (R421). -/
def execSegmentTimeout (r : Requester) (writing : Bool) (s : State) : Host.Outcome State Fault Refusal :=
  .next (segmentTimeout r writing s)

/-- FORWARDED_REQUEST_EXPIRY: the requester has been kept for 1 s (R424). -/
def forwardedRequestExpiry (transaction : W16) (session : Byte) (s : State) : State :=
  match s.fab.outstanding.find? (fun x => x.1 = session && x.2.1 = transaction) with
  | some x =>
    let s := s.reach (x.2.2.2 + secTE 1)
    freePath x.2.2.1.path { s with fab := { s.fab with outstanding := s.fab.outstanding.erase x } }
  | none => s

/-- FORWARDED_REQUEST_EXPIRY (R424). -/
def execForwardedRequestExpiry (transaction : W16) (session : Byte) (s : State) : Host.Outcome State Fault Refusal :=
  .next (forwardedRequestExpiry transaction session s)

/-! ## The mailbox (R384, R428) -/

/-- MBX_DOORBELL: the message in MBX_REQUEST is submitted; while busy or ready it is discarded (R384). -/
def mbxDoorbell (length : Nat) (request : List Byte) (s : State) : State :=
  if !s.pcieOpen then notServed s
  else if s.host.mbxBusy || s.host.mbxReady then pcieEvent 5 s
  else
    let b := slice request 0 (min length 2048)
    let m := decodeMsg b
    let r : Requester := ⟨.pcie, 0, m.session⟩
    let s := { s with host := { s.host with mbxRequest := request, mbxBusy := true } }
    if 16 ≤ length ∧ length ≤ 2048 ∧ length = 16 + m.length.toNat then kpp r m s
    else finish r (responseTo m 0x08010000 (refusalPayload m)) s

/-- MBX_DOORBELL (R384, R393, R428). -/
def execMbxDoorbell (length : W32) (request : List Byte) (s : State) : Host.Outcome State Fault Refusal :=
  .next (mbxDoorbell length.toNat request s)

/-! ## The SPI target (R427) -/

/-- SPI_REQUEST (R402, R427): accepted when complete and neither busy nor ready, else discarded. -/
def spiRequest (b : List Byte) (s : State) : State :=
  let m := decodeMsg b
  if s.dev.st = .boot ∨ s.spi.busy ∨ s.spi.ready ∨ b.length < 16 ∨ b.length ≠ 16 + m.length.toNat then
    { s with spi := { s.spi with discarded := true, lost := s.spi.lost + 1 } }
  else kpp ⟨.spi, 0, m.session⟩ m { s with spi := { s.spi with busy := true } }

/-- SPI_REQUEST (R427). -/
def execSpiRequest (bytes : List Byte) (s : State) : Host.Outcome State Fault Refusal := .next (spiRequest bytes s)

/-- The SPI status word (R427); in BOOT it reads busy (R402). -/
def State.spiWord (s : State) : Nat :=
  let p := s.spi
  flag01 (p.busy || s.dev.st == .boot) + 2 * flag01 p.ready + 4 * flag01 p.discarded + 8 * flag01 (!p.events.isEmpty)
    + p.events.length % 256 * 2 ^ 8 + p.response.length % 4096 * 2 ^ 16

/-- SPI_STATUS: the status is shifted out and the discard bit cleared (R427); before t_P SPI_MISO is Z (R439). -/
def execSpiStatus (s : State) : Host.Outcome State Fault Refusal :=
  .next (match s.boot.power with
    | .running => { s with spi := { s.spi with out := toBytes 4 s.spiWord, discarded := false } }
    | _ => s)

/-- SPI_RESPONSE: the response is shifted out; read to its last byte it is released (R427). -/
def execSpiResponse (complete : Bool) (s : State) : Host.Outcome State Fault Refusal :=
  let p := { s.spi with out := s.spi.response }
  .next { s with spi := if complete then { p with ready := false, response := [] } else p }

/-- SPI_EVENT: the oldest EVENT message is shifted out; read to its last byte it is released (R427). -/
def execSpiEvent (complete : Bool) (s : State) : Host.Outcome State Fault Refusal :=
  let p := { s.spi with out := s.spi.events.headD [] }
  .next { s with spi := if complete then { p with events := p.events.drop 1 } else p }

/-! ## The Ethernet lane (R426, R433) -/

/-- Event 494 kinds 1 and 2: one case each. -/
def linkEvent (kind : Nat) (s : State) : State := s.raise 494 (kind + 2 ^ 16)

/-- ETHERNET_LINK_CHANGE (R426, R433): the lane is electrically idle until FREERUN (R439). -/
def execEthernetLinkChange (up : Bool) (s : State) : Host.Outcome State Fault Refusal :=
  .next (if s.eth.linkUp = up ∨ s.csu.st = .off then s
    else linkEvent (if up then 1 else 2) { s with eth := { s.eth with linkUp := up } })

/-- DHCP_LEASE_CHANGE: the client of mode 1 obtains or loses an address (R426, R430, R433). -/
def dhcpLeaseChange (lease : Option W32) (s : State) : State :=
  if s.nat 0x1100 2 = 1 ∧ s.eth.linkUp ∧ s.dev.st ≠ .boot ∧ s.eth.lease ≠ lease then
    let k := if lease.isSome then 3 else 4
    { s with eth := { s.eth with lease := lease } }.raiseCount 494 k k
  else s

/-- DHCP_LEASE_CHANGE (R426, R433). -/
def execDhcpLeaseChange (lease : Option W32) (s : State) : Host.Outcome State Fault Refusal := .next (dhcpLeaseChange lease s)

/-- ICMP_ECHO: an echo request for the address in use is answered with its own data, to the address it came from (R426). -/
def execIcmpEcho (dest : W32) (payload : List Byte) (s : State) (source : W32 := 0) : Host.Outcome State Fault Refusal :=
  .next (if s.lanOpen && dest.toNat = s.address then
    { s with eth := { s.eth with reply := payload, replyTo := source.toNat * 2 ^ 16, replyFrom := s.address * 2 ^ 16 } }
  else s)

/-- ARP_REQUEST: a request for the address in use is answered with the MAC address and that address, in network order
(R426). -/
def execArpRequest (target : W32) (s : State) (sender : W32 := 0) : Host.Outcome State Fault Refusal :=
  .next (if s.lanOpen && target.toNat = s.address then
    { s with eth := { s.eth with
      reply := (toBytes 6 Config.macAddress.toNat).reverse ++ (toBytes 4 s.address).reverse
      replyTo := sender.toNat * 2 ^ 16, replyFrom := s.address * 2 ^ 16 } }
  else s)

/-! ## The tunnel (R360, R424) -/

/-- A response that came through the tunnel goes to the requester kept for it (R424). -/
def tunnelResponse (m : KppMsg) (s : State) : State :=
  match s.fab.outstanding.find? (fun x => x.1 = m.session && x.2.1 = m.transaction) with
  | some x => deliver x.2.2.1 m { s with fab := { s.fab with outstanding := s.fab.outstanding.erase x } }
  | none => s

/-- A tunnel message for this node: a response, an EVENT, or a request on the Brynline host path (R360). -/
def tunnelMine (i : DataItem) (s : State) : State :=
  let m := decodeMsg i.data
  if m.response then (if m.opcode = 6 then s else tunnelResponse m s) else kpp ⟨.tunnel, i.src.toNat, m.session⟩ m s

/-- KPP_TUNNEL received on port n (R360). -/
def kppTunnel (n : Fin 8) (i : DataItem) (s : State) : State :=
  if s.port[n].st ≠ .up then s
  else if !i.crcOk || !s.inTree then lostTunnel i.dest.toNat n.val s
  else if s.isMine i.dest then tunnelMine i s
  else if s.routeTo i.dest = some n then lostTunnel i.dest.toNat n.val s
  else forwardTunnel i s

/-- KPP_TUNNEL (R360, R363, R424). -/
def execKppTunnel (n : Fin 8) (item : DataItem) (s : State) : Host.Outcome State Fault Refusal := .next (kppTunnel n item s)

end Sys2Proof.Machine
end

