-- ==== Sys2Proof/Machine/Power.lean ====
section
/-!
DEFINITION. Supply, reset, hard-wired shutdown and the test access port (spec 01, R15 to R19; spec 16, R434, R440; spec 18,
R483, R485, R490, R499, R501).
-/
namespace Sys2Proof.Machine

/-! ## Reset and supply (R434, R440, R485, R499) -/

/-- The IDCODE (R501). -/
def Part.idcode : Part → W32
  | .zt6432 => 0x26432B4F
  | .zt3216 => 0x23216B4F

/-- The device without supply (R485, R499): as under reset, its regulators off, every ball Z. Whether a thermal shutdown
still waits for its sensor is kept (R17). A margin append under way is cut off (R458). -/
def unpower (s : State) : State :=
  let t := restart (cutAppend s)
  { t with
    boot := { t.boot with power := .unpowered, cool := s.boot.cool }
    pins := { t.pins with ready := .z, alertN := .z, tapInstr := .idcode, tapData := s.part.idcode, preload := 0 } }

/-- BROWNOUT (R440, R485, R499). -/
def execBrownout (s : State) : Host.Outcome State Fault Refusal :=
  .next (match s.boot.power with | .unpowered => s | _ => unpower s)

/-- VIN_VALID: start-up from t_P (R434); after a thermal shutdown it waits for the sensor (R17). -/
def vinValid (s : State) : State :=
  match s.boot.power with
  | .unpowered =>
    if s.boot.cool then restart s
    else
      { s with
        boot := { s.boot with power := .shutThermal, restartReq := true }
        pins := { s.pins with ready := .low, alertN := .low } }
  | _ => s

/-- VIN_VALID (R17, R434, R485). -/
def execVinValid (s : State) : Host.Outcome State Fault Refusal := .next (vinValid s)

/-- RESET_N is held low and released (R17, R440). -/
def resetPulse (s : State) : State :=
  match s.boot.power with
  | .unpowered => s
  | .shutThermal => if s.boot.cool then restart s else { s with boot := { s.boot with restartReq := true } }
  | _ => restart s

/-- RESET_N goes low and stays there: as before t_P (R439, R440), the regulators on. -/
def holdReset (s : State) : State :=
  match s.boot.power with
  | .running =>
    let t := restart s
    { t with boot := { t.boot with power := .resetLow }, pins := { t.pins with ready := .z, alertN := .z } }
  | _ => s

/-- RESET_N goes high again: start-up from stage 2; EXTEST and HIGHZ end (R440, R501). -/
def releaseReset (s : State) : State :=
  match s.boot.power with
  | .running => s
  | .resetLow =>
    let bypass := s.pins.tapInstr = .extest || s.pins.tapInstr = .highz
    restart { s with pins := { s.pins with
      tapInstr := if bypass then .bypass else s.pins.tapInstr, tapData := if bypass then 0 else s.pins.tapData } }
  | _ => resetPulse s

/-- RESET_N (R17, R416, R439, R440). -/
def execResetN (s : State) (phase : ResetPhase := .pulse) : Host.Outcome State Fault Refusal :=
  .next (match phase with | .pulse => resetPulse s | .low => holdReset s | .release => releaseReset s)

/-! ## Hard-wired shutdown (R15 to R18) -/

/-- The shutdown: outputs Z, READY and ALERT_N low, the regulators off, so that nothing but the record is kept; `rec_` writes
the shutdown-cause record (R15, R16, R18). -/
def shutDown (p : Power) (rec_ : Health → Health) (s : State) : State :=
  let t := restart s
  { t with
    boot := { t.boot with power := p, cool := p != .shutThermal }
    pins := { t.pins with ready := .low, alertN := .low }
    health := rec_ { t.health with unreported := true } }

/-- A record with a new shutdown's first cause: nothing of an older one stays, the count goes up (R18, R470). -/
def newRecord (h : Health) : Health :=
  { h with causes := 0, sensor := 0xFF, regulator := 0xFF, shutTemp := 0, shutdowns := h.shutdowns + 1 }

/-- The thermal cause in a record (R18, R470). -/
def thermalCause (sensor : Fin 8) (temp : W16) (h : Health) : Health :=
  { h with causes := h.causes ||| 1, sensor := BitVec.ofNat 8 sensor.val, shutTemp := temp }

/-- The overcurrent cause in a record (R18, R470): the regulators are rails 1 to 3. -/
def currentCause (regulator : Fin 3) (h : Health) : Health :=
  { h with causes := h.causes ||| 2, regulator := BitVec.ofNat 8 (regulator.val + 1) }

/-- THERMAL_SHUTDOWN at 125 °C or more (R15); after an overcurrent shutdown whose regulators still run, one record carries
both causes (R18). -/
def thermalShutdown (sensor : Fin 8) (temp : W16) (s : State) : State :=
  if temp.toInt < 1250 then s
  else match s.boot.power with
    | .running => shutDown .shutThermal (fun h => thermalCause sensor temp (newRecord h)) s
    | .resetLow => shutDown .shutThermal (fun h => thermalCause sensor temp (newRecord h)) s
    | .shutCurrent => shutDown .shutThermal (thermalCause sensor temp) s
    | _ => s

/-- THERMAL_SHUTDOWN (R15 to R18, R416). -/
def execThermalShutdown (sensor : Fin 8) (temp : W16) (s : State) : Host.Outcome State Fault Refusal :=
  .next (thermalShutdown sensor temp s)

/-- OVERCURRENT_SHUTDOWN (R15); a second cause joins the record (R18). -/
def overcurrentShutdown (regulator : Fin 3) (s : State) : State :=
  match s.boot.power with
  | .running => shutDown .shutCurrent (fun h => currentCause regulator (newRecord h)) s
  | .resetLow => shutDown .shutCurrent (fun h => currentCause regulator (newRecord h)) s
  | .shutThermal => { s with health := currentCause regulator s.health }
  | _ => s

/-- OVERCURRENT_SHUTDOWN (R15, R16, R18, R416). -/
def execOvercurrentShutdown (regulator : Fin 3) (s : State) : Host.Outcome State Fault Refusal :=
  .next (overcurrentShutdown regulator s)

/-- SHUTDOWN_RESTART: the always-on sensor falls below 115 °C (R17). -/
def shutdownRestart (s : State) : State :=
  let s := { s with boot := { s.boot with cool := true } }
  match s.boot.power with
  | .shutThermal => if s.boot.restartReq then restart s else s
  | _ => s

/-- SHUTDOWN_RESTART (R17). -/
def execShutdownRestart (s : State) : Host.Outcome State Fault Refusal := .next (shutdownRestart s)

/-! ## Temperature and power drawn (R483, R490) -/

/-- Tj in 1/65,536 °C: the highest Tide value of the eight sensors (R483). -/
def State.tj (s : State) : Int := s.health.temps.toList.foldl max s.health.temps[0]

/-- What the units of the data plane do in a second (R490): edges placed, stamps taken; records written, intervals taken and
Pans paged by the whole node. -/
structure Activity where
  edges   : Nat
  stamps  : Nat
  records : Nat
deriving DecidableEq, Repr

/-- The units that draw power (R490). -/
structure PowerUnits where
  clocks800  : Nat
  clocks400  : Nat
  channels   : Nat
  inputs     : Nat
  continuous : Nat
  sampled    : List Nat         -- sample periods in µs
  ports      : Nat
deriving DecidableEq, Repr

/-- The power drawn from VIN in pW, the base figure and the increments of its units, typical (R490). A monitor sampled at
another period than 1 µs draws a free amount (log entry 91). -/
def PowerUnits.typical (u : PowerUnits) (a : Activity) : Nat :=
  let sampled := (u.sampled.map (fun p => if p = 1 then 500000000 else Config.sampledPower p)).foldl (· + ·) 0
  2600000000000 + 50000000000 * u.clocks800 + 35000000000 * u.clocks400 + 25000000000 * u.channels + 110 * a.edges +
    35000000000 * u.inputs + 64 * a.stamps + 8300000000 * u.continuous + sampled + 200000000000 * u.ports +
    390 * a.records

/-- The units that draw power as the device stands (R490). -/
def State.powerUnits (s : State) : PowerUnits :=
  let clocks (swing : Nat) := (List.finRange 8).filter (fun n => s.clkout[n].st = 2 && s.nat (clkIdx n.val) 6 = swing)
  let mons := s.units8.filter (fun m => s.on (monIdx m.val) 1)
  { clocks800 := (clocks 1).length
    clocks400 := (clocks 0).length
    channels := (s.channels.filter s.chOn).length
    inputs := (s.units8.filter (fun i => s.on (inIdx i.val) 1 && s.nat (inIdx i.val) 6 = 1)).length
    continuous := (mons.filter (fun m => !s.sampledMode m)).length
    sampled := (mons.filter s.sampledMode).map (fun m => s.nat (monIdx m.val) 0x0A)
    ports := (s.ports.filter (fun n => s.port[n].st == .up)).length }

/-- The typical power of the device in pW, and what it does not exceed within R482: 1.4 times as much (R490). -/
def State.power (a : Activity) (s : State) : Nat × Nat :=
  let p := s.powerUnits.typical a
  (p, p * 14 / 10)

/-! ## Boundary scan (R501) -/

/-- What the boundary cells sample comes out in an order outside the spec: a free value. -/
def sampleCells (op : TapOp) (s : State) : State :=
  let (k, s) := s.fresh
  { s with pins := { s.pins with tapInstr := op, tapData := Config.boundaryCells k } }

/-- A boundary-scan operation; `cells` is what PRELOAD shifts in (R501). EXTEST drives the balls to the cells and HIGHZ leaves
them, while RESET_N is low; at other times both act as BYPASS. -/
def testAccessPort (op : TapOp) (cells : W32) (s : State) : State :=
  let quiet := { s with pins := { s.pins with driven := none } }
  let bypass := { quiet with pins := { quiet.pins with tapInstr := .bypass, tapData := 0 } }
  match s.boot.power, op with
  | .unpowered, _ => s
  | _, .idcode => { quiet with pins := { quiet.pins with tapInstr := .idcode, tapData := s.part.idcode } }
  | _, .samplePreload => sampleCells op { quiet with pins := { quiet.pins with preload := cells } }
  | .resetLow, .extest => sampleCells op { s with pins := { s.pins with driven := some s.pins.preload } }
  | .resetLow, .highz => { bypass with pins := { bypass.pins with tapInstr := .highz } }
  | _, _ => bypass

/-- TEST_ACCESS_PORT (R501). -/
def execTestAccessPort (op : TapOp) (s : State) (cells : W32 := 0) : Host.Outcome State Fault Refusal :=
  .next (testAccessPort op cells s)

/-- The device drives the QSPI balls (R439): in BOOT and LOAD, during SAVE and a margin append. -/
def State.qspiDriven (s : State) : Bool :=
  s.boot.power == .running && (s.dev.st == .boot || s.dev.st == .load || s.dev.saving || decide (s.now < s.persist.appendEnd))

end Sys2Proof.Machine
end

