-- ==== Sys2Proof/Machine/Dispatch.lean ====
section
/-!
DEFINITION. One arm per command: the call of its meaning.
-/
namespace Sys2Proof.Machine

/-- The effect of a command on everything but the queue of waiting commands. -/
def exec (i : Instr) (s : State) : Host.Outcome State Fault Refusal :=
  match i with
  | .vinValid => Sys2Proof.Machine.execVinValid s
  | .brownout => Sys2Proof.Machine.execBrownout s
  | .resetN phase => Sys2Proof.Machine.execResetN s phase
  | .thermalShutdown sensor temp => Sys2Proof.Machine.execThermalShutdown sensor temp s
  | .overcurrentShutdown regulator => Sys2Proof.Machine.execOvercurrentShutdown regulator s
  | .shutdownRestart => Sys2Proof.Machine.execShutdownRestart s
  | .bootComplete flash => Sys2Proof.Machine.execBootComplete flash s
  | .imageLoad => Sys2Proof.Machine.execImageLoad s
  | .startUpAlign => Sys2Proof.Machine.execStartUpAlign s
  | .startUpLockWaitExpiry => Sys2Proof.Machine.execStartUpLockWaitExpiry s
  | .fabricStartUpAlign => Sys2Proof.Machine.execFabricStartUpAlign s
  | .idleEntry micros => Sys2Proof.Machine.execIdleEntry micros s
  | .go r => Sys2Proof.Machine.execGo r s
  | .hold r => Sys2Proof.Machine.execHold r s
  | .resume r => Sys2Proof.Machine.execResume r s
  | .stop r => Sys2Proof.Machine.execStop r s
  | .safe r => Sys2Proof.Machine.execSafe r s
  | .leaveSafe r => Sys2Proof.Machine.execLeaveSafe r s
  | .save r => Sys2Proof.Machine.execSave r s
  | .saveComplete ok => Sys2Proof.Machine.execSaveComplete ok s
  | .restoreDefaults r => Sys2Proof.Machine.execRestoreDefaults r s
  | .calibrate r => Sys2Proof.Machine.execCalibrate r s
  | .align r => Sys2Proof.Machine.execAlign r s
  | .reset r => Sys2Proof.Machine.execReset r s
  | .scheduledCommand r cmd tide => Sys2Proof.Machine.execScheduledCommand r cmd tide s
  | .tideBoundary m => Sys2Proof.Machine.execTideBoundary m s
  | .hourlyUpdate m => Sys2Proof.Machine.execHourlyUpdate m s
  | .marginAppend => Sys2Proof.Machine.execMarginAppend s
  | .appendNow r => Sys2Proof.Machine.execAppendNow r s
  | .scrubRead mem cluster addr found => Sys2Proof.Machine.execScrubRead mem cluster addr found s
  | .epochWrap => Sys2Proof.Machine.execEpochWrap s
  | .levelTick => Sys2Proof.Machine.execLevelTick s
  | .rangingEnd ch => Sys2Proof.Machine.execRangingEnd ch s
  | .sampleTick wm vin => Sys2Proof.Machine.execSampleTick wm vin s
  | .stiEdge inp rising taps => Sys2Proof.Machine.execStiEdge inp rising taps s
  | .measurementTimeout g => Sys2Proof.Machine.execMeasurementTimeout g s
  | .monitorCrossing wm vin => Sys2Proof.Machine.execMonitorCrossing wm vin s
  | .tripinAssert => Sys2Proof.Machine.execTripinAssert s
  | .settlingEnd wm vin => Sys2Proof.Machine.execSettlingEnd wm vin s
  | .blankingEnd wm vin => Sys2Proof.Machine.execBlankingEnd wm vin s
  | .exttrigEdge ball level phase => Sys2Proof.Machine.execExttrigEdge ball level phase s
  | .conditionFire cl => Sys2Proof.Machine.execConditionFire cl s
  | .delayTrigger ch => Sys2Proof.Machine.execDelayTrigger ch s
  | .edgePlacement ch => Sys2Proof.Machine.execEdgePlacement ch s
  | .sweepComplete ch table => Sys2Proof.Machine.execSweepComplete ch table s
  | .collectionComplete u lines => Sys2Proof.Machine.execCollectionComplete u lines s
  | .collectionTimeout u => Sys2Proof.Machine.execCollectionTimeout u s
  | .nop ch => Sys2Proof.Machine.execNop ch s
  | .edge ch st base adv t => Sys2Proof.Machine.execEdge ch st base adv t s
  | .pulse ch activeLow base adv t w => Sys2Proof.Machine.execPulse ch activeLow base adv t w s
  | .burst ch activeLow base adv t n w p => Sys2Proof.Machine.execBurst ch activeLow base adv t n w p s
  | .wait ch base t => Sys2Proof.Machine.execWait ch base t s
  | .waitcond ch c timeout target => Sys2Proof.Machine.execWaitcond ch c timeout target s
  | .waitcondMet ch => Sys2Proof.Machine.execWaitcondMet ch s
  | .waitcondTimeout ch => Sys2Proof.Machine.execWaitcondTimeout ch s
  | .branch ch c target => Sys2Proof.Machine.execBranch ch c target s
  | .loop ch reg target => Sys2Proof.Machine.execLoop ch reg target s
  | .jump ch target => Sys2Proof.Machine.execJump ch target s
  | .setregLoad ch reg value => Sys2Proof.Machine.execSetregLoad ch reg value s
  | .setregAdd ch reg value => Sys2Proof.Machine.execSetregAdd ch reg value s
  | .setregCopy ch reg src => Sys2Proof.Machine.execSetregCopy ch reg src s
  | .setregOrigin ch => Sys2Proof.Machine.execSetregOrigin ch s
  | .setregClear ch latches => Sys2Proof.Machine.execSetregClear ch latches s
  | .stamp ch tag => Sys2Proof.Machine.execStamp ch tag s
  | .level ch tagged entry => Sys2Proof.Machine.execLevel ch tagged entry s
  | .gustLocal ch group => Sys2Proof.Machine.execGustLocal ch group s
  | .gustFabric ch group => Sys2Proof.Machine.execGustFabric ch group s
  | .signal ch cluster sig value => Sys2Proof.Machine.execSignal ch cluster sig value s
  | .syncTide ch m => Sys2Proof.Machine.execSyncTide ch m s
  | .syncFront ch mask => Sys2Proof.Machine.execSyncFront ch mask s
  | .syncGust ch mask => Sys2Proof.Machine.execSyncGust ch mask s
  | .syncTrigger ch => Sys2Proof.Machine.execSyncTrigger ch s
  | .syncComplete ch => Sys2Proof.Machine.execSyncComplete ch s
  | .panhint ch pan => Sys2Proof.Machine.execPanhint ch pan s
  | .period ch => Sys2Proof.Machine.execPeriod ch s
  | .halt ch => Sys2Proof.Machine.execHalt ch s
  | .hintFetchComplete cl => Sys2Proof.Machine.execHintFetchComplete cl s
  | .pinLoadComplete ch => Sys2Proof.Machine.execPinLoadComplete ch s
  | .panMiss ch => Sys2Proof.Machine.execPanMiss ch s
  | .missPark ch => Sys2Proof.Machine.execMissPark ch s
  | .repairComplete cl => Sys2Proof.Machine.execRepairComplete cl s
  | .captureSlot cl => Sys2Proof.Machine.execCaptureSlot cl s
  | .statisticsSlot cl => Sys2Proof.Machine.execStatisticsSlot cl s
  | .egressSlot cl => Sys2Proof.Machine.execEgressSlot cl s
  | .arm r cl => Sys2Proof.Machine.execArm r cl s
  | .captureArming cl => Sys2Proof.Machine.execCaptureArming cl s
  | .forceTrigger r cl => Sys2Proof.Machine.execForceTrigger r cl s
  | .stopCapture r cl => Sys2Proof.Machine.execStopCapture r cl s
  | .triggerTaken cl => Sys2Proof.Machine.execTriggerTaken cl s
  | .freezingStart cl => Sys2Proof.Machine.execFreezingStart cl s
  | .spillPanFull cl => Sys2Proof.Machine.execSpillPanFull cl s
  | .drainComplete cl => Sys2Proof.Machine.execDrainComplete cl s
  | .referenceLost => Sys2Proof.Machine.execReferenceLost s
  | .referencePresent => Sys2Proof.Machine.execReferencePresent s
  | .referenceQualified diffPpb => Sys2Proof.Machine.execReferenceQualified s diffPpb
  | .lockDeclared earlier last => Sys2Proof.Machine.execLockDeclared earlier last s
  | .unlockDeclared seen => Sys2Proof.Machine.execUnlockDeclared s seen
  | .acquireTimeout => Sys2Proof.Machine.execAcquireTimeout s
  | .applyConfiguration r => Sys2Proof.Machine.execApplyConfiguration r s
  | .markedEdge samples => Sys2Proof.Machine.execMarkedEdge s samples
  | .alignTrimComplete offset residual => Sys2Proof.Machine.execAlignTrimComplete offset residual s
  | .alignInTimeout => Sys2Proof.Machine.execAlignInTimeout s
  | .returnAccept jump diffPpb seen => Sys2Proof.Machine.execReturnAccept jump diffPpb s seen
  | .bypassEntry freqHz => Sys2Proof.Machine.execBypassEntry s freqHz
  | .bypclkNotQualified => Sys2Proof.Machine.execBypclkNotQualified s
  | .bypassLock phaseStep seen => Sys2Proof.Machine.execBypassLock phaseStep s seen
  | .bypclkLost => Sys2Proof.Machine.execBypclkLost s
  | .actionLeave r => Sys2Proof.Machine.execActionLeave r s
  | .actionSlew r => Sys2Proof.Machine.execActionSlew r s
  | .actionStep r => Sys2Proof.Machine.execActionStep r s
  | .slewStart => Sys2Proof.Machine.execSlewStart s
  | .slewComplete => Sys2Proof.Machine.execSlewComplete s
  | .stepExecute => Sys2Proof.Machine.execStepExecute s
  | .clkoutOvercurrent n => Sys2Proof.Machine.execClkoutOvercurrent n s
  | .clkoutFaultClear n => Sys2Proof.Machine.execClkoutFaultClear n s
  | .channelOvercurrent ch => Sys2Proof.Machine.execChannelOvercurrent ch s
  | .railExcursion rail inside mv => Sys2Proof.Machine.execRailExcursion rail inside mv s
  | .faultPark r ch => Sys2Proof.Machine.execFaultPark r ch s
  | .release r ch => Sys2Proof.Machine.execRelease r ch s
  | .flush r ch => Sys2Proof.Machine.execFlush r ch s
  | .levelEntry r ch preset entry => Sys2Proof.Machine.execLevelEntry r ch preset entry s
  | .taggedLevelEntry r ch entry epoch tag => Sys2Proof.Machine.execTaggedLevelEntry r ch entry epoch tag s
  | .hostFire r ch => Sys2Proof.Machine.execHostFire r ch s
  | .tripClear r ch => Sys2Proof.Machine.execTripClear r ch s
  | .load r ch => Sys2Proof.Machine.execLoad r ch s
  | .commandedCalibration r inp => Sys2Proof.Machine.execCommandedCalibration r inp s
  | .statisticsRestart r g => Sys2Proof.Machine.execStatisticsRestart r g s
  | .swap r wm => Sys2Proof.Machine.execSwap r wm s
  | .tie0V r wm => Sys2Proof.Machine.execTie0V r wm s
  | .tie1V25 r wm => Sys2Proof.Machine.execTie1V25 r wm s
  | .selfCheckEnd wm obs => Sys2Proof.Machine.execSelfCheckEnd wm obs s
  | .readback r wm => Sys2Proof.Machine.execReadback r wm s
  | .readbackComplete wm upper lower => Sys2Proof.Machine.execReadbackComplete wm upper lower s
  | .issueFront r mask => Sys2Proof.Machine.execIssueFront r mask s
  | .frontAccept => Sys2Proof.Machine.execFrontAccept s
  | .gustExecute group => Sys2Proof.Machine.execGustExecute group s
  | .eventCodeDeliver => Sys2Proof.Machine.execEventCodeDeliver s
  | .bulkSend r dest firstPan count offset => Sys2Proof.Machine.execBulkSend r dest firstPan count offset s
  | .windowOpen r opened => Sys2Proof.Machine.execWindowOpen r opened s
  | .flagWrite r pan value => Sys2Proof.Machine.execFlagWrite r pan value s
  | .panData r data => Sys2Proof.Machine.execPanData r data s
  | .thaw r => Sys2Proof.Machine.execThaw r s
  | .salternTransfer r index sub dir firstPan length => Sys2Proof.Machine.execSalternTransfer r index sub dir firstPan length s
  | .clearShutdownRecord r => Sys2Proof.Machine.execClearShutdownRecord r s
  | .armInjection r => Sys2Proof.Machine.execArmInjection r s
  | .odWrite r index sub value hold => Sys2Proof.Machine.execOdWrite r index sub value hold s
  | .ztimeRead r => Sys2Proof.Machine.execZtimeRead r s
  | .hostBlockWrite block bytes => Sys2Proof.Machine.execHostBlockWrite block bytes s
  | .evrCons value => Sys2Proof.Machine.execEvrCons value s
  | .evrProd => Sys2Proof.Machine.execEvrProd s
  | .alertStatus value => Sys2Proof.Machine.execAlertStatus value s
  | .mbxDoorbell length request => Sys2Proof.Machine.execMbxDoorbell length request s
  | .mbxAck => Sys2Proof.Machine.execMbxAck s
  | .batchClose => Sys2Proof.Machine.execBatchClose s
  | .batchPublish => Sys2Proof.Machine.execBatchPublish s
  | .perstN => Sys2Proof.Machine.execPerstN s
  | .pcieLinkChange up width speed => Sys2Proof.Machine.execPcieLinkChange up width speed s
  | .ethernetLinkChange up => Sys2Proof.Machine.execEthernetLinkChange up s
  | .dhcpLeaseChange lease => Sys2Proof.Machine.execDhcpLeaseChange lease s
  | .icmpEcho dest payload source => Sys2Proof.Machine.execIcmpEcho dest payload s source
  | .read r m way => Sys2Proof.Machine.execRead r m s way
  | .write r m way => Sys2Proof.Machine.execWrite r m s way
  | .readSeg r m way => Sys2Proof.Machine.execReadSeg r m s way
  | .writeSeg r m way => Sys2Proof.Machine.execWriteSeg r m s way
  | .subscribe r m way => Sys2Proof.Machine.execSubscribe r m s way
  | .commit r m way => Sys2Proof.Machine.execCommit r m s way
  | .abort r m way => Sys2Proof.Machine.execAbort r m s way
  | .subscriptionLapse r => Sys2Proof.Machine.execSubscriptionLapse r s
  | .heldSetDiscard r => Sys2Proof.Machine.execHeldSetDiscard r s
  | .segmentTimeout r writing => Sys2Proof.Machine.execSegmentTimeout r writing s
  | .spiRequest bytes => Sys2Proof.Machine.execSpiRequest bytes s
  | .spiStatus => Sys2Proof.Machine.execSpiStatus s
  | .spiResponse complete => Sys2Proof.Machine.execSpiResponse complete s
  | .spiEvent complete => Sys2Proof.Machine.execSpiEvent complete s
  | .linkDown n cause => Sys2Proof.Machine.execLinkDown n cause s
  | .commaAligned n => Sys2Proof.Machine.execCommaAligned n s
  | .hello n item => Sys2Proof.Machine.execHello n item s
  | .timeItem n item => Sys2Proof.Machine.execTimeItem n item s
  | .eventCode n item => Sys2Proof.Machine.execEventCode n item s
  | .front n item => Sys2Proof.Machine.execFront n item s
  | .gust n item => Sys2Proof.Machine.execGust n item s
  | .joinRequest n item => Sys2Proof.Machine.execJoinRequest n item s
  | .joinReply n item => Sys2Proof.Machine.execJoinReply n item s
  | .joinRefused n item => Sys2Proof.Machine.execJoinRefused n item s
  | .leave n node port crcOk => Sys2Proof.Machine.execLeave n node port crcOk s
  | .detach n crcOk => Sys2Proof.Machine.execDetach n crcOk s
  | .bulkResult n dest src offset failed crcOk => Sys2Proof.Machine.execBulkResult n dest src offset failed crcOk s
  | .kppTunnel n item => Sys2Proof.Machine.execKppTunnel n item s
  | .bulk n item => Sys2Proof.Machine.execBulk n item s
  | .joinRequestTimer => Sys2Proof.Machine.execJoinRequestTimer s
  | .leaseExpiry node => Sys2Proof.Machine.execLeaseExpiry node s
  | .downCausesCleared n => Sys2Proof.Machine.execDownCausesCleared n s
  | .tripinInactive => Sys2Proof.Machine.execTripinInactive s
  | .driverOvercurrentEnd ch => Sys2Proof.Machine.execDriverOvercurrentEnd ch s
  | .branchDecision ch => Sys2Proof.Machine.execBranchDecision ch s
  | .actionAtCursor ch => Sys2Proof.Machine.execActionAtCursor ch s
  | .sluiceCheckComplete cl => Sys2Proof.Machine.execSluiceCheckComplete cl s
  | .bypclkQualified freqHz => Sys2Proof.Machine.execBypclkQualified s freqHz
  | .arpRequest target sender => Sys2Proof.Machine.execArpRequest target s sender
  | .forwardedRequestExpiry transaction session => Sys2Proof.Machine.execForwardedRequestExpiry transaction session s
  | .bar2Read addr length => Sys2Proof.Machine.execBar2Read addr length s
  | .alertEnable value offset => Sys2Proof.Machine.execAlertEnable value s offset
  | .configurationRequest reg value => Sys2Proof.Machine.execConfigurationRequest s reg value
  | .testAccessPort op cells => Sys2Proof.Machine.execTestAccessPort op s cells

end Sys2Proof.Machine
end

