-- ==== Sys2Proof/Machine/Tick.lean ====
section
/-!
DEFINITION. What a step does when no command waits: one T_E passes (log entry 2).
-/
namespace Sys2Proof.Machine

/-- One waiting EVENT message of a subscription leaves: over the Ethernet lane while it is open, or through the tunnel
(R360, R425, R426). The SPI target's wait for the host (R427). -/
def sendEvent (u : Subscription) (s : State) : State :=
  match u.unsent with
  | [] => s
  | b :: rest =>
    let sent (s : State) : State := { s with kpp := { s.kpp with
      subs := s.kpp.subs.map (fun w => if w.by_ = u.by_ then { w with unsent := rest } else w) } }
    match u.by_.path with
    | .ethernet =>
      if s.lanOpen then sent { s with eth := { s.eth with
        reply := b, replyTo := u.by_.addr, replyFrom := s.address * 2 ^ 16 + 52170 } }
      else s
    | .tunnel => sent (sendTunnel (BitVec.ofNat 14 u.by_.addr) b s)
    | _ => s

/-- RESET takes effect 1 ms after its response (R403, R440). -/
def resetDue (s : State) : Bool := s.resetBy s.now

/-- One T_E passes: ZTIME advances by one coarse count while the CSU delivers CLK_E (R40) and what is due by then comes about,
each port sends
the word that begins in that T_E (R333, R336), each subscription sends one EVENT message, an accepted RESET that is due acts
(log entry 2 says what of the time on the lines is left out). -/
def tick (s : State) : State :=
  let s := if s.time.running then { s with time := { s.time with count := s.time.count + 1 } }.settle else s
  if resetDue s then restart s
  else each s.kpp.subs sendEvent (each s.ports sendWord s)

end Sys2Proof.Machine
end

