-- ==== Sys2Proof/Safety.lean ====
section
/-!
DEFINITION. What counts as a safe step and a safe run of the block, and the words that the statements are made of.
-/
namespace Sys2Proof

/-- A step that ends in a next state. -/
def StepsOn (s t : Machine.State) : Prop := Machine.step s = .next t

/-- A state that a run from `s` reaches without a fault or a refusal. -/
inductive Reaches (s : Machine.State) : Machine.State → Prop where
  | refl : Reaches s s
  | step {t u : Machine.State} : Reaches s t → StepsOn t u → Reaches s u

namespace Machine

/-- The events that stand in the merger: those of the Tide in progress and of ended Tides, summaries among them (R65 to
R68). -/
def Merger.events (m : Merger) : List (Instant × Nat × W32) :=
  (m.open_ ++ (m.ended.map (fun b => b.events)).flatten).map (fun e => (e.at_, e.source, e.detail)) ++
    (m.sums ++ (m.ended.map (fun b => b.sums)).flatten).map (fun e => (e.at_, e.source, e.detail))

/-- The summary events of a source and a key that stand in the merger (R65). -/
def Merger.sumsOf (m : Merger) (source key : Nat) : List Summary :=
  (m.sums ++ (m.ended.map (fun b => b.sums)).flatten).filter (fun u => u.source == source && u.key == key)

/-- An event of a source with a detail code stands in the merger: with the instant given, or, in BOOT and LOAD, held for
the entry into IDLE (R65, R438). -/
def Raised (t : State) (x : Instant) (source : Nat) (detail : Nat) : Prop :=
  (x, source, BitVec.ofNat 32 detail) ∈ t.merger.events ∨
    ((t.dev.st = .boot ∨ t.dev.st = .load) ∧ ∃ f, (source, BitVec.ofNat 32 detail, f) ∈ t.merger.held)

/-- A host request on an object meets a state in which the object exists and its access class permits the request (R398,
R399, R402). -/
def Admitted (s : State) (idx sub : Nat) (acc : Access) : Prop := s.exists_ idx sub = none ∧ acc.permits s.dev.st = true

/-- What a happening of the data plane leaves alone: the host side, memory, settings, clocks, drivers and everything else
that no stamp, monitor, trigger or edge reaches. -/
def DataPlaneOnly (s t : State) : Prop :=
  t = { s with
    time := t.time, edge := t.edge, delay := t.delay, seq := t.seq, trip := t.trip, store := t.store, sti := t.sti, grp := t.grp
    stat := t.stat, line := t.line, mon := t.mon, tripin := t.tripin, xbar := t.xbar, trig := t.trig, cap := t.cap, fab := t.fab
    sender := t.sender, merger := t.merger, health := t.health, margin := t.margin, free := t.free }

/-- The state in which the body of a program instruction of `n` words acts (R165, R167): everything due by its issue T_E has
come about, the instruction's words are read and their Pan is used, the instruction is counted, the program counter is past its
words, the next issue lies 2 T_E later, and cursor and origin stand for the times nearest to the issue T_E (R46). -/
def issued (s : State) (ch : Fin 64) (n : Nat) : State :=
  let t := s.issueAt ch
  (touchFrame (clusterOf ch) s.seq[ch].pc.pan.toNat t (readFetched ch n (s.reach t))).updSeq ch (fun q => { q with
    cursor := nearCoarse t q.cursor, origin := nearCoarse t q.origin
    issued := q.issued + 1, nextIssue := t + 2, pc := ⟨q.pc.pan, q.pc.word + BitVec.ofNat 9 n⟩ })

/-- The sequencer of a channel runs, waits for nothing and fetches the instruction, which has `n` words (R165). -/
def Issues (s : State) (ch : Fin 64) (i : Instr) (n : Nat) : Prop := s.fetch ch = some (i, n) ∧ s.ready ch = true

/-- Index `a` lies at or before index `b`, both counted from `c` on (R386). -/
def upTo (c a b : W32) : Prop := (a - c).toNat ≤ (b - c).toNat

/-- The bounds of what waits in lists: 16 entries of a level queue (R221) and of a stamp FIFO (R251); the ownership store lists Pans
in rising order (R366); what is staged or held is a setting of class RWT (R398, R408); the ring's indices lie in the order of
consumer, producer, ends of closed batches, next record, within its capacity (R386 to R389). -/
def QueueInv (s : State) : Prop :=
  (∀ ch : Fin 64, s.drv[ch].queue.length ≤ 16) ∧ (∀ i : Fin 32, s.sti[i].fifo.length ≤ 16) ∧ assocSorted s.own = true ∧
  (∀ p ∈ s.commits.sets, ∀ e ∈ p.2, isRwt s.part e.key = true) ∧
  (∀ h ∈ s.commits.held, ∀ e ∈ h.entries, isRwt s.part e.key = true) ∧
  (let q := s.ring
   q.pans ≤ 2048 ∧ (s.merger.closed.map (fun b => b.past)).Pairwise (upTo q.cons) ∧
     (∀ b ∈ s.merger.closed, upTo q.cons q.prod b.past ∧ upTo q.cons b.past q.wr) ∧
     upTo q.cons q.prod q.wr ∧ (q.wr - q.cons).toNat ≤ max q.cap 1)

/-- The answer to a granted request without a payload. -/
abbrev granted0 : Answer := { status := 0, tide := 0, payload := [] }

/-- The state after a restart of the device: everything as at t_P but what lies outside or is not volatile (R416, R434,
R440): the flash, the shutdown record, and the levels that come from outside. A change to BOOT is reported, held until IDLE (R406,
R438). -/
def FreshStart (s t : State) : Prop :=
  t = { State.reset with
    part := s.part, pending := s.pending, mon := t.mon, tripin := t.tripin, port := t.port, merger := t.merger
    flash := { s.flash with chip := none }
    health := { causes := s.health.causes, sensor := s.health.sensor, regulator := s.health.regulator
                shutTemp := s.health.shutTemp, shutdowns := s.health.shutdowns, unreported := s.health.unreported }
    pins := t.pins, answer := s.answer, free := s.free } ∧
  t.pins.ready = .low ∧ t.pins.alertN = .high ∧
  t.merger = { held := if s.dev.st = .boot then [] else [(491, 0x13000006, 0)] }

/-- A KPP message with an opcode that arrives on an open path, admitted and well formed, for this node (R402, R418, R424,
R426). -/
def Arrives (s : State) (r : Requester) (m : KppMsg) (opcode : Byte) : Prop :=
  m.opcode = opcode ∧ s.pathOpen r.path = true ∧ (r.path = .ethernet → s.admitsSource (r.addr / 2 ^ 16) = true) ∧
    m.magic = 0x5A4B ∧ headerOk r.path m = true ∧ (m.destination = 0xFFFF ∨ m.destination = s.fab.nodeId)

/-- The state after a request has been served: its response, if it has one now, is remembered and delivered (R153, R423). -/
def answered (q : Requester) (x : Served) : State :=
  match x with
  | (some resp, t) => finish q resp t
  | (none, t) => t

end Machine

end Sys2Proof
end

