-- ==== Sys2Proof/Certificates/Slice0/Obligations.lean ====
section
/-!
DEFINITION. The statements for the provers, family by family: what each command leaves, that it completes, and the rules of
the spec about the whole machine.
-/
open Sys2Proof Sys2Proof.Machine


/-- R402, R434, R86: right after t_P the device is in BOOT with the CSU OFF, no T_E counted, no command waiting. The values
that the spec gives no reset value for are log entry 5's and are not stated here.
Reset's memory has the canonical form.
Reset has those bounds. -/
def Obligations.reset_state : Prop :=
  (State.reset.dev.st = .boot ∧ State.reset.csu.st = .off ∧ State.reset.time.running = false ∧ State.reset.pending = [] ∧
    State.reset.pins.ready = .low ∧ State.reset.pins.alertN = .high ∧
    (∀ p : Nat, 0 < p → State.reset.flag p = {}) ∧ (State.reset.flag 0).owner = .frozen) ∧
  (Memory.wf State.reset.mem = true) ∧
  (QueueInv State.reset)

/-- R17, R434, R440: VIN_VALID, RESET_N and SHUTDOWN_RESTART start the device afresh; while a thermal shutdown still waits
for its sensor, VIN and RESET_N are remembered and the sensor starts it (that is the model's choice, log entries 17 and 18).
RESET_N that stays low holds the device as before t_P, READY and ALERT_N Z, until its release (R439). BROWNOUT takes everything
volatile (R485, R499); of a record being programmed a part is left in the log (R458; how much is free, log entry 136).
R15, R17, R18, R470: a hard-wired shutdown in a running device takes READY and ALERT_N low, stops everything volatile and writes the
shutdown-cause record, which then names this cause alone (the model's choice where R18 leaves older causes open, log entry 17). -/
def Obligations.power_and_shutdown : Prop :=
  (∀ s : State,
    (s.boot.power = .unpowered → s.boot.cool = true → ∃ t, exec .vinValid s = .next t ∧ FreshStart s t) ∧
    (s.boot.power = .unpowered → s.boot.cool = false → ∃ t, exec .vinValid s = .next t ∧
      t = { s with boot := { s.boot with power := .shutThermal, restartReq := true }
                   pins := { s.pins with ready := .low, alertN := .low } }) ∧
    (s.boot.power = .running ∨ s.boot.power = .resetLow ∨ s.boot.power = .shutCurrent ∨
        (s.boot.power = .shutThermal ∧ s.boot.cool = true) →
      ∃ t, exec (.resetN .pulse) s = .next t ∧ FreshStart s t) ∧
    (s.boot.power = .running → ∃ t u, exec (.resetN .low) s = .next t ∧ FreshStart s u ∧
      t = { u with boot := { u.boot with power := .resetLow }, pins := { u.pins with ready := .z, alertN := .z } }) ∧
    (s.boot.power = .resetLow → ∃ t, exec (.resetN .release) s = .next t ∧ FreshStart s t) ∧
    (s.boot.power = .shutThermal → s.boot.cool = false →
      exec (.resetN .pulse) s = .next { s with boot := { s.boot with restartReq := true } }) ∧
    (s.boot.power = .shutThermal → s.boot.restartReq = true → ∃ t, exec .shutdownRestart s = .next t ∧ FreshStart s t) ∧
    (s.boot.power ≠ .unpowered → ∃ t, exec .brownout s = .next t ∧ t.boot.power = .unpowered ∧ t.pins.ready = .z ∧
      t.pins.alertN = .z ∧ t.dev.st = .boot ∧ t.mem = [] ∧ t.host.linkUp = false ∧ t.eth.linkUp = false ∧
      (s.persist.appendEnd ≤ s.now → t.flash.slotA = s.flash.slotA ∧ t.flash.slotB = s.flash.slotB) ∧
      (∀ m a, s.flash.slot s.persist.logSlot = some m → m.log = some a → s.now < s.persist.appendEnd →
        s.persist.lastRecord < s.persist.logNext →
        ∃ n, s.persist.lastRecord ≤ n ∧ n < s.persist.logNext ∧
          t.flash = { s.flash.put s.persist.logSlot (some { m with log := some { a with bytes := a.bytes.take n } }) with
            chip := none }))) ∧
  (∀ s : State, s.boot.power = .running →
    (∀ (k : Fin 8) (x : W16), 1250 ≤ x.toInt → ∃ t, exec (.thermalShutdown k x) s = .next t ∧ t.boot.power = .shutThermal ∧
      t.boot.cool = false ∧ t.pins.ready = .low ∧ t.pins.alertN = .low ∧ t.dev.st = .boot ∧ t.csu.st = .off ∧ t.mem = [] ∧
      t.flash.slotA = s.flash.slotA ∧ t.flash.slotB = s.flash.slotB ∧ t.health.causes = 1 ∧
      t.health.sensor = BitVec.ofNat 8 k.val ∧ t.health.shutTemp = x ∧ t.health.shutdowns = s.health.shutdowns + 1) ∧
    (∀ k : Fin 3, ∃ t, exec (.overcurrentShutdown k) s = .next t ∧ t.boot.power = .shutCurrent ∧ t.pins.ready = .low ∧
      t.pins.alertN = .low ∧ t.dev.st = .boot ∧ t.csu.st = .off ∧ t.mem = [] ∧ t.flash.slotA = s.flash.slotA ∧
      t.flash.slotB = s.flash.slotB ∧ t.health.causes = 2 ∧ t.health.regulator = BitVec.ofNat 8 (k.val + 1) ∧
      t.health.shutdowns = s.health.shutdowns + 1))

/-- R434, R441: BOOT ends in LOAD; a flash below 128 Mbit is not discovered. Only the device state, the flash's identity and
the merger change.
R434, R437, R454: LOAD applies the boot slot's image, or the ROM defaults, and CLK_E begins in FREERUN. With no valid
image, 0x1300:07 [0] is set and nothing else changes in settings and Saltern (the Saltern keeps its content: log entry 14).
R98, R435, R436: the ALIGN of start-up is accepted in LOAD once the CSU is LOCKED, the one on a fabric marker in IDLE
once the upstream port has its average; without lock in time start-up goes on without one.
R434, R437, R438: IDLE is entered at a boundary served once start-up is over; READY goes high. -/
def Obligations.start_up : Prop :=
  (∀ (s : State) (f : Option FlashChip), s.boot.power = .running → s.dev.st = .boot →
    ∃ t, exec (.bootComplete f) s = .next t ∧ t.dev = { s.dev with st := .load } ∧
      (∀ c, f = some c → 128 ≤ c.density → t.flash = { s.flash with chip := some c }) ∧
      (∀ c, f = some c → c.density < 128 → t.flash = { s.flash with chip := none }) ∧
      (f = none → t.flash = { s.flash with chip := none }) ∧
      t = { s with dev := t.dev, flash := t.flash, merger := t.merger }) ∧
  (∀ s : State, s.dev.st = .load → s.csu.st = .off →
    ∃ t, exec .imageLoad s = .next t ∧ t.csu.st = .freerun ∧ t.time.running = true ∧ t.time.count = s.time.count ∧
      (∀ m, s.flash.slot t.persist.bootedFrom = some m →
        (∀ b, m.value 1 = some b → (applyDefaults s.part b).keys.contains (odKey 0x7001 2) = false) → t.mem = s.mem) ∧
      (s.flash.chip = none → t.mem = s.mem ∧ t.boot.status.getLsbD 0 = true ∧ t.od = s.od ∧ t.persist.bootedFrom = s.persist.bootedFrom)) ∧
  (∀ s : State,
    (s.dev.st = .load → s.csu.st = .locked → s.boot.alignDone = false → s.startUpAligns = true →
      ∃ t, exec .startUpAlign s = .next t ∧ t.csu.st = .aligning ∧
        t.csu.align = some { accepted := s.now, deadline := s.now + 1250000 * s.nat 0x2002 2, marker := s.nat 0x2002 1, startUp := true } ∧
        t = { s with csu := t.csu, time := t.time, merger := t.merger }) ∧
    (∀ a p, s.boot.fabricAlign = some a → s.upPort = some p → s.dev.st = .idle → s.port[p].haveAvg = true →
      (s.csu.st = .locked ∨ s.csu.st = .aligned) →
      ∃ t, exec .fabricStartUpAlign s = .next t ∧ t.csu.st = .aligning ∧
        t.csu.align = some { accepted := s.now, deadline := a + 1250000 * s.nat 0x2002 2, marker := s.nat 0x2002 1, startUp := true } ∧
        t.boot = { s.boot with fabricAlign := none } ∧ t = { s with csu := t.csu, time := t.time, merger := t.merger, boot := t.boot }) ∧
    (s.dev.st = .load → s.csu.st ≠ .off → s.csu.st.isLocked = false → s.boot.alignDone = false →
      ∃ t, exec .startUpLockWaitExpiry s = .next t ∧ t.boot.alignDone = true ∧
        (s.on 0x2002 3 = true → t.boot.status.getLsbD 1 = true) ∧ t.csu.st = s.csu.st ∧ t.dev.st = .load ∧ t.mem = s.mem)) ∧
  (∀ (s : State) (n : W32), s.dev.st = .load → s.boot.alignDone = true → s.boot.calStage = false →
    s.time.lastTide = some s.now →
    ∃ t, exec (.idleEntry n) s = .next t ∧ t.dev.st = .idle ∧ t.pins.ready = .high ∧ t.boot.micros = n ∧ t.mem = s.mem)

/-- R403, R404: a state command written in a state that permits it, with no other command pending (and CALIBRATE not running
for GO and CALIBRATE), is granted and pends until the first Tide boundary at least 25,000 T_E later. Nothing else changes. That its
response carries applied Tide 0 is the model's choice (log entry 26).
R402, R404: a state command outside the states that permit it is refused with 0x0401_0000, and one written while another
is pending with 0x0403_0000; neither changes the device state or what is pending. That 0x1300:08 takes the code of a refusal is the
model's choice (log entry 26).
R403, R405, R419: a write of 0x1300:03 schedules a command that the present state permits for a Tide at least 25,000 T_E and at
most 2^20 Tides ahead, and answers that Tide; a write of 0 cancels. -/
def Obligations.state_commands : Prop :=
  (∀ (s : State) (r : Requester), s.dev.pendCmd = none →
    let pends (code : Nat) : State :=
      { s with dev := { s.dev with lastResult := 0, pendCmd := some (BitVec.ofNat 8 code, usableBoundary s.now), pendMoved := false }
               answer := { status := 0, tide := 0, payload := [] } }
    (s.dev.st = .idle → s.dev.calibrating = false → exec (.go r) s = .next (pends 1)) ∧
    (s.dev.st = .run → exec (.hold r) s = .next (pends 2)) ∧
    (s.dev.st = .hold → exec (.resume r) s = .next (pends 3)) ∧
    (s.dev.st = .run ∨ s.dev.st = .hold → exec (.stop r) s = .next (pends 4)) ∧
    (s.dev.st = .safe → exec (.leaveSafe r) s = .next (pends 6)) ∧
    (s.dev.st = .idle → exec (.restoreDefaults r) s = .next (pends 8)) ∧
    (s.dev.st = .idle → s.dev.calibrating = false → exec (.calibrate r) s = .next (pends 9))) ∧
  (∀ (s : State) (r : Requester) (c : Instr) (code : Nat),
    (c, code) ∈ [(Instr.go r, 1), (.hold r, 2), (.resume r, 3), (.stop r, 4), (.leaveSafe r, 6), (.restoreDefaults r, 8),
      (.calibrate r, 9)] →
    (s.dev.st ≠ .boot → commandPermits code s.dev.st = false →
      ∃ t, exec c s = .next t ∧ t.answer.status = 0x04010000 ∧ t.dev = { s.dev with lastResult := 0x04010000 } ∧
        t = { s with dev := t.dev, answer := t.answer, merger := t.merger }) ∧
    (commandPermits code s.dev.st = true → s.dev.pendCmd ≠ none →
      exec c s = .next { s with dev := { s.dev with lastResult := 0x04030000 }
                                answer := { status := 0x04030000, tide := 0, payload := [] } })) ∧
  (∀ (s : State) (r : Requester) (c : Byte) (n : W64), Admitted s 0x1300 3 .rw →
    (c = 0 → exec (.scheduledCommand r c n) s = .next { s with
      dev := { s.dev with sched := none }, answer := { status := 0, tide := 0, payload := [] }
      parity := s.parity.filter (fun p => p.1 ≠ odKey 0x1300 3) }) ∧
    (c.toNat ∈ [1, 2, 3, 4, 6] → commandPermits c.toNat s.dev.st = true → s.now + 25000 ≤ tideNamed s.now n.toNat * 1000000 →
      tideNamed s.now n.toNat ≤ s.now / 1000000 + 2 ^ 20 →
      exec (.scheduledCommand r c n) s = .next { s with
        dev := { s.dev with sched := some (c, n) }, answer := { status := 0, tide := n, payload := [] }
        parity := s.parity.filter (fun p => p.1 ≠ odKey 0x1300 3) }))

/-- R403, R450, R451, R458: RESET is due 1 ms after its response, unless one is due already (that it then acts: O8). SAVE invalidates
the slot it did not boot from and keeps the image to be written (that the slot is erased or holds a header without its magic from
the acceptance on is the model's choice, log entry 21); SAVE's end writes it, or leaves the slot invalid, and reports; the appends
that waited for it are then made. ALIGN is accepted from LOCKED or ALIGNED with event 486 still to come.
R403, R404, R406, R103: SAFE takes effect 4 T_E after its acceptance; it drops a pending command, and every clock output
whose stop bit is set leaves RUNNING, one in FAULT among them (the model's choice, log entry 112). -/
def Obligations.reset_save_align_safe : Prop :=
  (∀ (s : State) (r : Requester),
    (s.served = true → exec (.reset r) s = .next { s with
      dev := { s.dev with lastResult := 0, resetAt := s.dev.resetAt.or (some (s.now + 1250000)) }
      answer := { status := 0, tide := 0, payload := [] } }) ∧
    (s.served = true → s.dev.saving = false → s.flash.chip.isSome = true →
      ∃ t m, exec (.save r) s = .next t ∧ t.answer.status = 0 ∧ t.dev = { s.dev with lastResult := 0, saving := true } ∧
        t.persist.target = some (if s.persist.bootedFrom = 1 then 2 else 1, m) ∧
        m.gen = (if s.persist.bootedFrom = 0 then 1 else s.persist.bootedGen + 1) ∧
        (∀ x, x = none ∨ x = some { m with magic := 0xFFFFFFFF } → slotState s.part x ≠ 0) ∧
        (s.persist.bootedFrom = 1 → (t.flash.slotB = none ∨ t.flash.slotB = some { m with magic := 0xFFFFFFFF }) ∧
          t.flash.slotA = s.flash.slotA) ∧
        (s.persist.bootedFrom ≠ 1 → (t.flash.slotA = none ∨ t.flash.slotA = some { m with magic := 0xFFFFFFFF }) ∧
          t.flash.slotB = s.flash.slotB) ∧
        (s.health.errs = [] → t.health = s.health ∧ t.merger = s.merger) ∧
        t = { s with dev := t.dev, answer := t.answer, flash := t.flash, health := t.health, merger := t.merger, free := s.free + 1
                     persist := { s.persist with target := t.persist.target } }) ∧
    (∀ ok k m, s.dev.saving = true → s.persist.target = some (k, m) →
      ∃ t, exec (.saveComplete ok) s = .next t ∧ t.dev = { s.dev with saving := false, lastResult := if ok then 0 else 0x07010000 } ∧
        t.persist.target = none ∧ t.persist.deferred = 0 ∧
        (s.persist.deferred = 0 → (ok = true → t.flash = s.flash.put k (some m)) ∧ (ok = false → t.flash = s.flash)) ∧
        Raised t s.nowAt 490 ((if ok then 1 else 2) + k * 16 + m.gen.toNat % 2 ^ 16 * 2 ^ 16) ∧
        t = { s with dev := t.dev, flash := t.flash, persist := t.persist, merger := t.merger }) ∧
    (s.dev.st = .idle → s.dev.pendCmd = none → s.dev.calibrating = false → (s.csu.st = .locked ∨ s.csu.st = .aligned) →
      s.nat 0x2002 1 ≠ 2 → s.nat 0x2202 1 % 4096 = 0 →
      ∃ t, exec (.align r) s = .next t ∧ t.answer.status = 0 ∧ t.csu.st = .aligning ∧
        t.csu.align = some { accepted := s.now, deadline := s.now + 1250000 * s.nat 0x2002 2, marker := s.nat 0x2002 1, startUp := false } ∧
        t = { s with dev := t.dev, answer := t.answer, csu := t.csu, time := t.time, merger := t.merger })) ∧
  (∀ (s : State) (r : Requester), s.served = true →
    ∃ t, exec (.safe r) s = .next t ∧ t.answer.status = 0 ∧ t.dev.st = .safe ∧ t.dev.pendCmd = none ∧ t.mem = s.mem ∧
      t.own = s.own ∧
      (s.dev.st ≠ .safe → ∀ n : Fin 8, s.on (clkIdx n) 11 = true → t.clkout[n].st = 0 ∨ t.clkout[n].st = 1))

/-- R49, R403: TIDE_BOUNDARY brings device time to the next multiple of 1,000,000 T_E and serves it there; an accepted RESET that is
due by then has restarted the device before it.
R472, R474, R457: the hourly update at the served boundary of a Tide whose number is a multiple of 4,500,000 happens once: each item
takes its measurement and its margin, which joins the points of the last 720 updates, keeps its rate while they are fewer than 24, and has
the present Tide for exhaustion when the margin is 0 or less; without a measurement it keeps margin and rate, and is stale, its exhaustion
open, from the third such update in a row on. The cadence append brings device time to its Tide.
R44, R62, R479: at the wrap of the coarse count device time stands at a multiple of 2^52 and event 492 names the new
epoch.
R38 to R43, R45, R49: the fine field carries into the count at 3,200; the count, the epoch and the Tide of an instant are one number, and
its stored form loses neither epoch nor fine part. -/
def Obligations.boundaries : Prop :=
  (∀ (s : State) (m : TideMeas), s.time.running = true →
    (s.resetBy s.nextBoundary = true → ∃ t, exec (.tideBoundary m) s = .next t ∧ FreshStart s t) ∧
    (s.resetBy s.nextBoundary = false → ∃ t, exec (.tideBoundary m) s = .next t ∧ t.time.lastTide = some s.nextBoundary ∧ s.nextBoundary ≤ t.time.count ∧
      (s.time.lastTide = none → s.nextBoundary % 1000000 = 0 ∧ s.now ≤ s.nextBoundary ∧ s.nextBoundary < s.now + 1000000))) ∧
  (∀ s : State,
    (∀ m : HourMeas, s.time.lastTide = some s.now → s.tideNow.toNat % 4500000 = 0 → s.health.hourAt ≠ some s.now →
      ∃ t, exec (.hourlyUpdate m) s = .next t ∧ t.health = { s.health with hourAt := some s.now } ∧
        (∀ i : Fin 27, i ∉ s.items → t.margin[i] = s.margin[i]) ∧
        (∀ i ∈ s.items, let k := s.margin[i]
          let u := t.margin[i]
          let budget : Int := s.nat (0x7820 + i.val) 4
          (∀ v, measured m s i = some v → u.measurement = v ∧
            u.margin = (if 10 ≤ i.val ∧ i.val ≤ 18 then v - budget else budget - v) ∧
            u.points = (some (s.tideNow.toNat, u.margin) :: k.points).take 720 ∧ u.age = 0 ∧ u.stale = false ∧
            (u.margin ≤ 0 → u.exhaustion = s.tideNow) ∧
            ((u.points.filterMap id).length < 24 → u.rate = k.rate ∧ (0 < u.margin → u.exhaustion = 0xFFFFFFFFFFFFFFFF))) ∧
          (measured m s i = none → u.measurement = k.measurement ∧ u.margin = k.margin ∧ u.rate = k.rate ∧
            u.points = (none :: k.points).take 720 ∧ u.age = min (k.age + 1) 0xFFFFFFFF ∧
            (3 ≤ k.age + 1 → u.stale = true ∧ u.exhaustion = 0xFFFFFFFFFFFFFFFF) ∧
            (k.age + 1 < 3 → u.stale = false ∧ u.exhaustion = k.exhaustion))) ∧
        t = { s with health := t.health, margin := t.margin, merger := t.merger }) ∧
    (s.cadence ≠ 0 → s.served = true →
      ∃ t, exec .marginAppend s = .next t ∧ t.persist.lastAppend = s.nextAppend ∧ s.nextAppend * 1000000 ≤ t.time.count ∧
        t.mem = s.mem)) ∧
  (∀ s : State, ∃ t, exec .epochWrap s = .next t ∧ t.time.count % 2 ^ 52 = 0 ∧ s.now ≤ t.time.count ∧
    t.time.count < s.now + 2 ^ 52 ∧ Raised t t.nowAt 492 (epochOf t.time.count).toNat ∧ t.mem = s.mem ∧ t.od = s.od) ∧
  ((∀ (e : W32) (z : W64), z.toNat % 4096 < 3200 → let x := instantOf e.toNat z.toNat
    (ztime x) = z ∧ epochAt x = e) ∧
  (∀ x : Instant, x / 3200 < 2 ^ 84 → instantOf (epochAt x).toNat (ztime x).toNat = x) ∧
  (∀ a : TE, a < 2 ^ 84 → tideWord a = BitVec.ofNat 64 (a / 1000000)))

/-- R455, R457, R459: a write of 1 to 0x1201:05 while a log is kept and no SAVE runs appends a record that fits, or reports a
full log once.
R462, R463, R464: the scrub's read of a word with a single-bit error corrects it and counts it; an uncorrectable word is
poisoned and counted once; a clean one changes nothing.
R466, R470: ARM_INJECTION arms one injection; CLEAR_SHUTDOWN_RECORD clears the record and 0x1300:07 [3], not the count of
shutdowns. -/
def Obligations.housekeeping : Prop :=
  (∀ (s : State) (r : Requester) (m : Image) (a : LogArea), Admitted s 0x1201 5 .wo → s.dev.saving = false →
    s.flash.slot s.persist.logSlot = some m → m.log = some a →
    let b := logRecord s.persist.logSeq s.tideNow (s.items.flatMap (itemRecord s))
    ∃ t, exec (.appendNow r) s = .next t ∧ t.answer.status = 0 ∧
      (s.persist.logNext + b.length ≤ a.length →
        t.flash.slot s.persist.logSlot = some { m with log := some (a.write s.persist.logNext b) } ∧
        t.persist = { s.persist with logNext := s.persist.logNext + b.length, logCount := s.persist.logCount + 1,
                                     logSeq := s.persist.logSeq + 1, lastRecord := s.persist.logNext
                                     appendEnd := t.persist.appendEnd } ∧ s.now ≤ t.persist.appendEnd) ∧
      (a.length < s.persist.logNext + b.length → t.flash = s.flash ∧ t.persist = { s.persist with logFull := true } ∧
        (s.persist.logFull = false → Raised t s.nowAt 490 (7 + s.persist.logSlot * 16))) ∧
      t = { s with flash := t.flash, persist := t.persist, merger := t.merger, answer := t.answer }) ∧
  (∀ (s : State) (mem : Fin 6) (cl : Fin 4) (a : Nat), a < memoryWords mem.val → (placeOf mem cl a).cl < s.part.clusters →
    let w := placeOf mem cl a
    s.isPoisoned w = false → s.health.errs.find? (fun e => e.1 = w) = none →
    exec (.scrubRead mem cl a .clean) s = .next s ∧
    (∃ t, exec (.scrubRead mem cl a .singleBit) s = .next t ∧ t.health.corrected = s.health.corrected + 1 ∧
      t.health.poisoned = s.health.poisoned ∧ t = { s with health := t.health, merger := t.merger }) ∧
    (mem ≠ 1 → ¬ (mem = 0 ∧ a < 1024) → ∃ t, exec (.scrubRead mem cl a .uncorrectable) s = .next t ∧
      t.health.poisons = s.health.poisons + 1 ∧ t.isPoisoned w = true ∧ t.mem = s.mem ∧
      t = { s with health := t.health, merger := t.merger, own := t.own }) ∧
    ∃ t, exec (.scrubRead mem cl a .uncorrectable) s = .next t ∧ t.health.poisons = s.health.poisons + 1) ∧
  (∀ (s : State) (r : Requester),
    (Admitted s 0x7804 3 .rwi → exec (.armInjection r) s = .next { s with
      health := { s.health with injArmed := true }, commits := { s.commits with confGen := s.commits.confGen + 1 }
      parity := s.parity.filter (fun p => p.1 ≠ odKey 0x7804 3)
      answer := { status := 0, tide := 0, payload := [] } }) ∧
    (Admitted s 0x7801 6 .wo → ∃ t, exec (.clearShutdownRecord r) s = .next t ∧ t.answer.status = 0 ∧
      t.health = { s.health with causes := 0, sensor := 0xFF, regulator := 0xFF, shutTemp := 0 } ∧
      t.boot = { s.boot with status := s.boot.status &&& ~~~8 } ∧
      t = { s with health := t.health, boot := t.boot, answer := t.answer }))

/-- A step takes the command at the front of the queue and does what the command does, with the rest of the queue waiting.
R403, R440 and log entry 2: with no command waiting one T_E passes: the count advances by one while the CSU delivers CLK_E, and
stays before that; a RESET that is due then restarts the device. -/
def Obligations.step_runs_front : Prop :=
  (∀ (s : State) (c : Instr) (rest : List Instr), s.pending = c :: rest → step s = exec c { s with pending := rest }) ∧
  (∀ s : State, s.pending = [] →
    let a := if s.time.running then s.time.count + 1 else s.time.count
    let u := if s.time.running then { s with time := { s.time with count := a } }.settle else s
    (s.resetBy a = false → ∃ t, step s = .next t ∧ t.pending = [] ∧ t.time.count = a ∧ t.mem = s.mem ∧ t.od = s.od) ∧
    (s.resetBy a = true → ∃ t, step s = .next t ∧ FreshStart u t ∧ t.pending = []))

/-- R78, R82, R85, R86: FREERUN goes to ACQUIRE when a reference without missing edges has kept within the window, 30 ppm wider,
for the qualification time: a band and a K_VCO within 120 to 180 MHz/V are found. ACQUIRE goes to LOCKED at N_lock consecutive
comparisons within W_lock, counted and reported with the band; a comparison beyond W_lock restarts the count; back to FREERUN when
the time limit passes or the reference is lost.
R79, R85, R107, R110, R111: loss of the reference, and M consecutive comparisons beyond W_unlock, leave a locked state for LULL
when a hold value of source 1 or 2 is available, which the hold DAC takes, and for FREERUN when not: 481, then 482. After an unlock with the
reference still present LULL passes into RETURN. (With an ALIGN under way, that ALIGN also fails: another statement.)
R79, R107: in LULL the reference's return leads to RETURN; in other states it is only noted.
R85, R117, R118, R506: once the frequency has kept within ±2 ppm for 100 ms, or within 0x2000:08 for 0x2000:09 after BYPASS,
RETURN_ACCEPT declares lock at N_lock comparisons in a row within W_lock, with Δ taken from the jump; the frequency difference is
kept; 483 reports Δ. With fewer the CSU stays in RETURN with the Δ it had (the model's choice, log entry 121). A difference outside the
window is shown and starts the time afresh. -/
def Obligations.lock_states : Prop :=
  (∀ s : State,
    (∀ d : Int, s.csu.st = .freerun → s.csu.present = true → d.natAbs ≤ 1000 * (s.csu.act.win + 30) →
      ∃ t, exec (.referenceQualified d) s = .next t ∧ t.csu.st = .acquire ∧ t.csu.qualified = true ∧ t.csu.band < 64 ∧
        120000 ≤ t.csu.kvco.toNat ∧ t.csu.kvco.toNat ≤ 180000 ∧
        max s.csu.since s.csu.presentFrom + 1250000 * s.csu.act.qtime ≤ t.now ∧ t.mem = s.mem ∧ t.od = s.od) ∧
    (∀ d : Int, s.csu.st = .freerun → s.csu.present = false ∨ 1000 * (s.csu.act.win + 30) < d.natAbs →
      exec (.referenceQualified d) s = .next s) ∧
    (∀ (e : Int) (n : Nat), s.csu.st = .acquire → s.dev.st ≠ .load → e.natAbs ≤ 80 * s.nat 0x2001 1 →
      (s.nat 0x2001 2 ≤ s.csu.run + n → ∃ t, exec (.lockDeclared [] (e, n)) s = .next t ∧ t.csu.st = .locked ∧
        t.csu.locks = s.csu.locks + 1 ∧ Raised t s.nowAt 480 (s.csu.band % 64) ∧
        t = { s with csu := t.csu, time := t.time, merger := t.merger }) ∧
      (s.csu.run + n < s.nat 0x2001 2 →
        exec (.lockDeclared [] (e, n)) s = .next { s with csu := { s.csu with run := s.csu.run + n } })) ∧
    (∀ (e : Int) (n : Nat), s.csu.st = .acquire → 80 * s.nat 0x2001 1 < e.natAbs → 0 < n →
      exec (.lockDeclared [] (e, n)) s = .next { s with csu := { s.csu with run := 0 } }) ∧
    (s.csu.st = .acquire → ∃ t, exec .acquireTimeout s = .next t ∧ t.csu.st = .freerun ∧ t.csu.qualified = false ∧
      s.csu.since + 1250000 * s.nat 0x2001 5 ≤ t.now ∧ t.mem = s.mem ∧ t.od = s.od) ∧
    (s.csu.st = .acquire → ∃ t, exec .referenceLost s = .next t ∧ t.csu.st = .freerun ∧ t.csu.present = false ∧
      Raised t s.nowAt 481 2 ∧ t = { s with csu := t.csu, time := t.time, merger := t.merger }) ∧
    (s.csu.st = .ret → ∃ t, exec .referenceLost s = .next t ∧ t.csu.st = .lull ∧ t.csu.present = false ∧
      Raised t s.nowAt 482 (4 + t.csu.hold.src * 16 + if t.csu.hold.model ≠ 0 then 64 else 0) ∧
      t = { s with csu := t.csu, time := t.time, merger := t.merger })) ∧
  (∀ (s : State) (c : Instr) (e : Int) (n : Nat), s.csu.st.isLocked = true → s.csu.align = none →
    80 * s.nat 0x2001 3 < e.natAbs → s.nat 0x2001 4 ≤ s.csu.run + n → c = .referenceLost ∨ c = .unlockDeclared [(e, n)] →
    ∃ t, exec c s = .next t ∧ (c = .referenceLost → t.csu.present = false ∧ t.csu.qualified = false) ∧
      (∀ v, s.csu.hold.fromLocked = some v → t.csu.hold.code = v.1 ∧ t.csu.lullStart = some s.now ∧
        t.csu.st = if c ≠ .referenceLost ∧ s.csu.present = true then .ret else .lull) ∧
      (s.csu.hold.fromLocked = none → t.csu.st = .freerun ∧ t.csu.hold.src = 2) ∧
      (let cause := if c = .referenceLost then 1 else 2
       Raised t s.nowAt 481 (3 - cause) ∧
       (∀ v, s.csu.hold.fromLocked = some v →
         Raised t s.nowAt 482 (cause + v.2.2 * 16 + if t.csu.hold.model ≠ 0 then 64 else 0)) ∧
       (s.csu.hold.fromLocked = none → Raised t s.nowAt 482 (cause + 32))) ∧
      t = { s with csu := t.csu, time := t.time, merger := t.merger, fab := t.fab }) ∧
  (∀ s : State,
    (s.csu.st = .lull → ∃ t, exec .referencePresent s = .next t ∧ t.csu.st = .ret ∧ t.csu.present = true ∧
      t = { s with csu := t.csu, time := t.time }) ∧
    (s.csu.st ≠ .lull → exec .referencePresent s = .next { s with csu := { s.csu with
      present := true, presentFrom := if s.csu.present then s.csu.presentFrom else s.now } })) ∧
  (∀ (s : State) (jump diff : Int) (seen : List (Int × Nat)), s.csu.st = .ret → s.csu.present = true →
    let locked := (countRun s.withinLock (s.nat 0x2001 2) s.csu.run seen).2
    let limit := if s.csu.afterBypass then 1000 * s.csu.act.win else 2000
    let ms := if s.csu.afterBypass then s.csu.act.qtime else 100
    (diff.natAbs ≤ limit → locked = true → ∃ t, exec (.returnAccept jump diff seen) s = .next t ∧ t.csu.st = .locked ∧
      t.csu.delta = s.absorb jump ∧ t.csu.retDiff = diff ∧ t.csu.locks = s.csu.locks + 1 ∧
      s.csu.returnFrom + 1250000 * ms ≤ t.now ∧
      Raised t t.nowAt 483 (signedCode 32 (clampInt (-2147483647) 2147483647 (s.absorb jump))) ∧ t.mem = s.mem ∧ t.od = s.od) ∧
    (diff.natAbs ≤ limit → locked = false → ∃ t, exec (.returnAccept jump diff seen) s = .next t ∧ t.csu.st = .ret ∧
      t.csu.delta = s.csu.delta ∧ t.csu.locks = s.csu.locks) ∧
    (limit < diff.natAbs → exec (.returnAccept jump diff seen) s = .next { s with csu := { s.csu with
      retDiff := diff, returnFrom := s.now } }))

/-- R107, R123, R124: under the loss policy BYPASS the CSU enters BYPASS when the delay has elapsed with BYPCLK within 0x2004:03 ppm
of f_root / 8, or as soon as BYPCLK is qualified after it; without BYPCLK 485 kind 3 is raised once. (A frequency outside the window
counts as no BYPCLK: the model's choice, log entry 121.)
R85, R107, R110, R123: in BYPASS lock on BYPCLK, at N_lock comparisons in a row within W_lock, is counted and reported (that it counts
in 0x2003:05 is the model's choice, log entry 56); loss of BYPCLK leads to LULL on the hold value of source 3,
or to FREERUN; a qualified REFIN leads to RETURN. -/
def Obligations.bypass : Prop :=
  (∀ (s : State) (a : TE) (f : Nat), s.bypassAt = some a →
    let near := (16 * (f : Int) - s.csu.act.rootTwice).natAbs * 1000000 ≤ s.nat 0x2004 3 * s.csu.act.rootTwice
    (near → ∃ t, exec (.bypassEntry f) s = .next t ∧ t.csu.st = .bypass ∧ t.csu.delta = 0 ∧ t.csu.bypclk = true ∧ t.csu.bypLocked = false ∧
      Raised t t.nowAt 485 1 ∧ t.mem = s.mem ∧ t.od = s.od) ∧
    (near → a ≤ s.now → ∃ t, exec (.bypclkQualified f) s = .next t ∧ t.csu.st = .bypass ∧ t.csu.delta = 0 ∧ Raised t s.nowAt 485 1 ∧
      t = { s with csu := t.csu, time := t.time, merger := t.merger }) ∧
    (near → s.now < a → exec (.bypclkQualified f) s = .next { s with csu := { s.csu with bypclk := true } }) ∧
    (¬near → exec (.bypclkQualified f) s = .next { s with csu := { s.csu with bypclk := false } } ∧
      exec (.bypassEntry f) s = exec .bypclkNotQualified s) ∧
    (s.csu.noBypass = false → ∃ t, exec .bypclkNotQualified s = .next t ∧ t.csu = { s.csu with bypclk := false, noBypass := true } ∧
      Raised t t.nowAt 485 3 ∧ t.mem = s.mem ∧ t.od = s.od)) ∧
  (∀ s : State, s.csu.st = .bypass →
    (∀ (x : Int) (seen : List (Int × Nat)), s.csu.bypLocked = false →
      (countRun s.withinLock (s.nat 0x2001 2) s.csu.run seen).2 = true →
      ∃ t, exec (.bypassLock x seen) s = .next t ∧ t.csu.bypLocked = true ∧
      t.csu.st = .bypass ∧ t.csu.locks = s.csu.locks + 1 ∧
      Raised t s.nowAt 485 (2 + signedCode 24 (clampInt (-8388608) 8388607 x) * 2 ^ 8) ∧
      t = { s with csu := t.csu, merger := t.merger }) ∧
    (s.csu.present = false → ∃ t, exec .bypclkLost s = .next t ∧ t.csu.bypclk = false ∧
      (∀ v, s.csu.hold.fromBypass s.temp0 = some v → t.csu.st = .lull ∧ t.csu.hold.code = v.1) ∧
      (s.csu.hold.fromBypass s.temp0 = none → t.csu.st = .freerun) ∧
      t = { s with csu := t.csu, time := t.time, merger := t.merger }) ∧
    (∀ d : Int, s.csu.present = true → d.natAbs ≤ 1000 * s.csu.act.win →
      ∃ t, exec (.referenceQualified d) s = .next t ∧ t.csu.st = .ret ∧ t.csu.qualified = true ∧ t.csu.afterBypass = true ∧
        Raised t t.nowAt 485 4 ∧ t.mem = s.mem ∧ t.od = s.od))

/-- R75, R110, R122: a written 0x2000:0B activates the staged configuration: Δ is 0, no action stays, the Tide averages are gone,
and the CSU acquires afresh.
R91 to R93: at the marked edge of an ALIGN on REFIN, with ALIGN_IN the edge after the first H that follows an L and within the
timeout, the count takes its preset, Δ is 0 and the transmit word clocks restart; a trim within one root period
ends ALIGN in ALIGNED, one beyond it in LOCKED with result 3. That Δ is 0 from the marked edge on (log entry 56), and that the edge
counts up to the deadline itself and is told by the samples given (log entry 111), is the model's choice; so is that a trim with more
than 8 fu remaining goes on (log entry 121). -/
def Obligations.configuration_and_align : Prop :=
  (∀ (s : State) (r : Requester), Admitted s 0x2000 0x0B .wo → (stagedCsu s.od).valid = true →
    ∃ t, exec (.applyConfiguration r) s = .next t ∧ t.answer.status = 0 ∧ t.csu.act = stagedCsu s.od ∧ t.csu.delta = 0 ∧
      t.csu.action = .none ∧ t.csu.hold.avgs = [] ∧ t.csu.st = .acquire ∧ t.mem = s.mem) ∧
  (∀ (s : State) (a : AlignRun), s.csu.align = some a → a.startUp = false →
    (∀ (l : List Bool) (k : Nat), a.restarted = false → s.upPort = none →
      (a.marker = 0 ∨ (a.marker = 1 ∧ alignInEdge l = some k ∧ max s.now (a.accepted + s.refPeriods k) ≤ a.deadline)) →
      ∃ t, exec (.markedEdge l) s = .next t ∧ t.csu.delta = 0 ∧ (∃ b, t.csu.align = some b ∧ b.restarted = true ∧ b.marker = a.marker) ∧
        t.time.marked = t.nowAt ∧ t.fab.txBase = t.now ∧
        t.time.count % 2 ^ 84 = instantOf (s.nat 0x2202 2) (s.nat 0x2202 1) / 3200 ∧ t.mem = s.mem) ∧
    (∀ l : List Bool, a.marker = 1 → alignInEdge l = none → exec (.markedEdge l) s = .next s) ∧
    (∀ off res : Int, a.restarted = true → off.natAbs ≤ 400 → 8 < res.natAbs → exec (.alignTrimComplete off res) s = .next s) ∧
    (∀ off res : Int, a.restarted = true → off.natAbs ≤ 400 → res.natAbs ≤ 8 → ∃ t, exec (.alignTrimComplete off res) s = .next t ∧
      t.csu.st = .aligned ∧ t.csu.align = none ∧ t.csu.residual = res ∧ t.csu.everAligned = true ∧
      Raised t s.nowAt 486 (signedCode 16 res * 2 ^ 16) ∧
      t = { s with csu := t.csu, time := t.time, merger := t.merger, fab := t.fab }) ∧
    (∀ off res : Int, a.restarted = true → 400 < off.natAbs → ∃ t, exec (.alignTrimComplete off res) s = .next t ∧
      t.csu.st = .locked ∧ t.csu.align = none ∧ Raised t s.nowAt 486 3 ∧
      t = { s with csu := t.csu, time := t.time, merger := t.merger }) ∧
    (a.restarted = false → a.marker ≠ 0 → ∃ t, exec .alignInTimeout s = .next t ∧ t.csu.st = .locked ∧ t.csu.align = none ∧
      a.deadline ≤ t.now ∧ Raised t t.nowAt 486 1 ∧ t.mem = s.mem))

/-- R119, R122: a granted action of 0x2006:03 stops a running slew, Δ keeping what remains, and is pending for the T_E that
begins at or after the named time (that a time inside a T_E waits for the next T_E is the model's choice, log entry 107).
R120, R121: in LOCKED a slew starts at its T_E with the Δ of that moment, a slew that has brought Δ to 8 fu ends, and a step
ends with Δ = 0; the held root periods are Δ modulo the reference period in root periods. -/
def Obligations.phase_actions : Prop :=
  (∀ (s : State) (r : Requester), Admitted s 0x2006 3 .wo →
    let granted (a : CsuAction) : State := { s with
      csu := { s.csu with delta := s.deltaNow, action := a }, answer := { status := 0, tide := 0, payload := [] } }
    exec (.actionLeave r) s = .next (granted .none) ∧
    (s.actionTimeOk = true → s.csu.st = .locked →
      exec (.actionSlew r) s = .next (granted (.slewAt (teCeil s.actionTime) (s.nat 0x2006 4))) ∧
      exec (.actionStep r) s = .next (granted (.stepAt (teCeil s.actionTime))))) ∧
  (∀ (s : State) (a code : Nat), s.csu.st = .locked →
    (s.csu.action = .slewAt a code → ∃ t, exec .slewStart s = .next t ∧ t.now = max s.now a ∧
      t.csu = { s.csu with action := if s.csu.delta = 0 then .none else .slewing t.now code s.csu.delta } ∧
      t.mem = s.mem ∧ t.od = s.od) ∧
    (s.csu.action = .slewing a code s.csu.delta → ∃ t, exec .slewComplete s = .next t ∧ t.csu.action = .none ∧
      a + slewLength code s.csu.delta ≤ t.now ∧ (code ≠ 0 → t.csu.delta.natAbs ≤ 8) ∧ t.mem = s.mem ∧ t.od = s.od) ∧
    (s.csu.action = .stepAt a → ∃ t, exec .stepExecute s = .next t ∧ t.csu.action = .none ∧ t.csu.delta = 0 ∧
      (s.csu.delta ≠ 0 → t.csu.lastHold = BitVec.ofNat 32 ((s.csu.delta % (s.csu.act.pref : Int)) / 400).toNat) ∧
      t.mem = s.mem ∧ t.od = s.od))

/-- R104: a RUNNING output whose limit is exceeded enters FAULT and goes on toggling; back within the limit it is RUNNING again; both
changes are reported.
R100 to R102: an output starts at the first instant of its grid at or after the boundary; new delays move the next rising edge
of a running one to the grid of the new coarse delay, no earlier and by less than a period; a stop completes the high phase that
has begun and lets no further one begin.
R219, R220: LEVEL_TICK serves the next multiple of 125 T_E: what the data plane has due by then comes about, every driver does
its tick and nothing else of a driver changes.
R217, R220: at a tick the eligible entries at the head of the queue are applied in queue order and leave it; what stays
begins with an entry that is not eligible. RANGING begins exactly when the gains end up different (R226). -/
def Obligations.level_ticks_and_clock_faults : Prop :=
  (∀ (s : State) (n : Fin 8),
    (s.clkout[n].st = 2 → ∃ t, exec (.clkoutOvercurrent n) s = .next t ∧
      t.clkout[n] = { s.clkout[n] with st := 3, before := 2 } ∧ (∀ k, k ≠ n → t.clkout[k] = s.clkout[k]) ∧
      Raised t s.nowAt 487 n.val ∧ (∀ x, t.clkBall n x = s.clkBall n x) ∧ t = { s with clkout := t.clkout, merger := t.merger }) ∧
    (s.clkout[n].st = 3 → ∃ t, exec (.clkoutFaultClear n) s = .next t ∧
      t.clkout[n] = { s.clkout[n] with st := s.clkout[n].before } ∧ (∀ k, k ≠ n → t.clkout[k] = s.clkout[k]) ∧
      Raised t s.nowAt 487 (n.val + 256) ∧ (∀ x, t.clkBall n x = s.clkBall n x) ∧
      t = { s with clkout := t.clkout, merger := t.merger })) ∧
  (∀ (o : ClkOut) (x base : Instant),
    (∀ d c f, 2 ≤ d → f < 400 → 400 ≤ x → ∃ e, (o.start x base d c f).edge0 = some e ∧ x ≤ e + f ∧ e + f < x + 400 * d ∧
      e % (400 * d) = base % (400 * d)) ∧
    (∀ e0 c f, o.edge0 = some e0 → 2 ≤ o.div → o.coarse < o.div → c < o.div → ∃ e, (o.delays x c f).edge0 = some e ∧
      e0 + o.risen e0 x * o.period ≤ e ∧ e < e0 + (o.risen e0 x + 1) * o.period ∧
      (e + o.coarse * 400) % o.period = (e0 + c * 400) % o.period) ∧
    (∀ y, (o.stop x).edge0 = none ∧ (o.stop x).highTo y = o.highTo x)) ∧
  (∀ s : State, ∃ t, exec .levelTick s = .next t ∧ s.nextLevelTick % 125 = 0 ∧ s.now ≤ s.nextLevelTick ∧
    t.time = { s.time with count := max s.time.count s.nextLevelTick, lastTick := some s.nextLevelTick } ∧
    (∀ ch : Fin 64, t.drv[ch] = s.drv[ch].tick s.nextLevelTick) ∧
    t = { s.reach s.nextLevelTick with time := t.time, drv := t.drv, seq := t.seq } ∧ DataPlaneOnly { s with drv := t.drv } t) ∧
  (∀ (d : Driver) (a : TE), ∃ l, d.queue = l ++ (d.tick a).queue ∧ (∀ e ∈ l, e.eligible a = true) ∧
    (∀ e, (d.tick a).queue.head? = some e → e.eligible a = false) ∧
    let n := l.foldl (fun x e => x.applyEntry e.entry.toNat) d
    (d.tick a).swing = n.swing ∧ (d.tick a).offset = n.offset ∧ (d.tick a).gSwing = n.gSwing ∧ (d.tick a).gOffset = n.gOffset ∧
    ((n.gSwing ≠ d.gSwing ∨ n.gOffset ≠ d.gOffset) → (d.tick a).ranging = some (a, a + 2500)) ∧
    ((n.gSwing = d.gSwing ∧ n.gOffset = d.gOffset) → (d.tick a).ranging = d.ranging))

/-- R220, R221, R230: a host entry that is well formed enters a queue that has room, untagged or with its tag, stamped with the
present T_E; the level preset is also kept as the setting.
R226: RANGING ends at the end of its window, 2,500 T_E after its tick.
R227, R479: overcurrent of a channel becomes a present cause and is reported, once a Tide; an armed cause latches and puts the driver into
FAULT in that T_E, one that is not armed does not. Its end clears the present cause alone.
R469, R227: a rail that leaves its window, or comes back, is reported with its reading; a cluster's driver supply becomes, or
stops being, a present cause of every channel of the cluster. A reading that its comparator contradicts brings nothing (the model's
choice, log entry 131).
R221, R227, R228: FAULT_PARK puts the driver into FAULT 4 T_E after its acceptance; RELEASE, with no armed cause present, lets
it leave at the first level tick at least 4 T_E later and clears the latched causes, and changes nothing outside FAULT; FLUSH empties the queue. -/
def Obligations.level_entries_and_driver_faults : Prop :=
  (∀ (s : State) (r : Requester) (ch : Fin 64) (e : W32), s.levelFull ch = false → entryOk e.toNat = true →
    let queued (tag : Option Instant) : State := { s with
      drv := upd s.drv ch (fun d => { d with queue := d.queue ++ [{ entry := e, tag := tag, at_ := s.now }] })
      answer := { status := 0, tide := 0, payload := [] } }
    (Admitted s (chIdx ch) 0x17 .wo → exec (.levelEntry r ch false e) s = .next (queued none)) ∧
    (Admitted s (chIdx ch) 0x16 .rwi → entryKind e.toNat = 3 → exec (.levelEntry r ch true e) s = .next { queued none with
      od := s.od.set (chIdx ch) 0x16 (.num e.toNat), parity := s.parity.filter (fun p => p.1 ≠ odKey (chIdx ch) 0x16)
      commits := { s.commits with confGen := s.commits.confGen + 1 } }) ∧
    (∀ (ep : W32) (tag : W64), Admitted s (chIdx ch) 0x18 .wo → fineOk tag.toNat = true →
      s.within48 (s.named ep.toNat tag.toNat) = true →
      exec (.taggedLevelEntry r ch e ep tag) s = .next (queued (some (s.named ep.toNat tag.toNat))))) ∧
  (∀ (s : State) (ch : Fin 64) (b e : TE), s.drv[ch].ranging = some (b, e) → ∃ t, exec (.rangingEnd ch) s = .next t ∧
    t.drv[ch] = { s.drv[ch] with ranging := none } ∧ (∀ k, k ≠ ch → t.drv[k] = s.drv[k]) ∧
    t.time.count = max s.time.count e ∧ t = { s.reach e with drv := t.drv } ∧ DataPlaneOnly { s with drv := t.drv } t) ∧
  (∀ (s : State) (ch : Fin 64),
    (ch.val < 16 * s.part.clusters → ∃ t, exec (.channelOvercurrent ch) s = .next t ∧
      t.drv[ch].present = s.drv[ch].present ||| 1 ∧
      (s.nat (chIdx ch) 0x15 / 2 % 2 = 1 → t.drv[ch].fault.isSome = true ∧ t.drv[ch].latched.getLsbD 0 = true ∧
        t.drv[ch].releaseAt = none) ∧
      (s.nat (chIdx ch) 0x15 / 2 % 2 = 0 → t.drv[ch] = { s.drv[ch] with present := s.drv[ch].present ||| 1 }) ∧
      ((489, 300 + ch.val) ∉ s.merger.once → Raised t s.nowAt 489 (3 + ch.val * 16)) ∧
      (∀ k, k ≠ ch → t.drv[k] = s.drv[k]) ∧ t = { s with drv := t.drv, merger := t.merger }) ∧
    (∃ t, exec (.driverOvercurrentEnd ch) s = .next t ∧
      t.drv[ch] = { s.drv[ch] with present := s.drv[ch].present &&& ~~~1 } ∧ (∀ k, k ≠ ch → t.drv[k] = s.drv[k]) ∧
      t = { s with drv := t.drv })) ∧
  (∀ (s : State) (k : Fin 12) (inside : Bool) (mv : W16), s.health.outside[k] = inside →
    (railAgrees k.val inside mv.toNat = false → exec (.railExcursion k inside mv) s = .next s) ∧
    (railAgrees k.val inside mv.toNat = true → ∃ t, exec (.railExcursion k inside mv) s = .next t ∧ t.health.outside[k] = !inside ∧
      Raised t s.nowAt 489 ((if inside then 2 else 1) + k.val * 2 ^ 4 + mv.toNat * 2 ^ 16) ∧
      (∀ ch : Fin 64, t.drv[ch].present.getLsbD 1 =
        if 8 + ch.val / 16 = k.val then !inside else s.drv[ch].present.getLsbD 1) ∧
      t = { s with health := t.health, merger := t.merger, drv := t.drv })) ∧
  (∀ (s : State) (r : Requester) (ch : Fin 64), Admitted s (chIdx ch) 0x1A .wo →
    (∃ t, exec (.faultPark r ch) s = .next t ∧ t.answer.status = 0 ∧ t.drv[ch] = { s.drv[ch] with
        park := true, fault := some ((s.drv[ch].faultFrom s.now).getD (s.now + 4)), releaseAt := none } ∧
      (∀ k, k ≠ ch → t.drv[k] = s.drv[k]) ∧ t = { s with drv := t.drv, answer := t.answer }) ∧
    (s.drv[ch].present &&& s.armedCauses ch = 0 → s.drv[ch].fault.isSome = true → s.drv[ch].releaseAt = none →
      ∃ t x, exec (.release r ch) s = .next t ∧ t.answer.status = 0 ∧
        t.drv[ch] = { s.drv[ch] with park := false, latched := 0, releaseAt := some (s.now + 4) } ∧ x % 125 = 0 ∧
        s.now + 4 ≤ x ∧ x < s.now + 129 ∧ t.drv[ch].faultAt x = false ∧
        (∀ a, s.drv[ch].faultAt a = true → a < x → t.drv[ch].faultAt a = true) ∧ (∀ k, k ≠ ch → t.drv[k] = s.drv[k]) ∧ t = { s with drv := t.drv, answer := t.answer }) ∧
    (∀ y, s.drv[ch].present &&& s.armedCauses ch = 0 → s.drv[ch].fault.isSome = true → s.drv[ch].releaseAt = some y →
      s.now < tickFrom y → ∃ t, exec (.release r ch) s = .next t ∧ t.answer.status = 0 ∧
        t.drv[ch] = { s.drv[ch] with park := false, latched := 0 } ∧ (∀ k, k ≠ ch → t.drv[k] = s.drv[k]) ∧
        t = { s with drv := t.drv, answer := t.answer }) ∧
    (s.drv[ch].present &&& s.armedCauses ch = 0 → s.drv[ch].faultFrom s.now = none →
      ∃ t, exec (.release r ch) s = .next t ∧ t = { s with answer := t.answer } ∧ t.answer.status = 0) ∧
    (∃ t, exec (.flush r ch) s = .next t ∧ t.answer.status = 0 ∧ t.drv[ch] = { s.drv[ch] with
        queue := [], roomAt := if 16 ≤ s.drv[ch].queue.length then s.now else s.drv[ch].roomAt } ∧
      (∀ k, k ≠ ch → t.drv[k] = s.drv[k]) ∧ t = { s with drv := t.drv, seq := t.seq, answer := t.answer }))

/-- R283: the classification that follows a classification, for every input, is the table's. -/
def Obligations.classification : Prop :=
  ∀ (b : Bands) (vin : Int), 0 ≤ b.half → b.lower ≤ b.upper → let x := vin * 12288
    b.next vin .inside = (if b.upper + b.half < x then .above else if x < b.lower - b.half then .below else .inside) ∧
    b.next vin .above = (if x < b.lower - b.half then .below else if x < b.upper - b.half ∧ b.lower - b.half ≤ x then .inside
      else .above) ∧
    b.next vin .below = (if b.upper + b.half < x then .above else if b.lower + b.half < x ∧ x ≤ b.upper + b.half then .inside
      else .below) ∧
    b.next vin .unresolved = (if b.upper + b.half < x then .above else if x < b.lower - b.half then .below
      else if b.lower + b.half < x ∧ x < b.upper - b.half then .inside else .unresolved)

/-- R291, R294, R298: an assertion sets at once the latch of every channel it is routed to in its own cluster (TRIPIN: in every
cluster), and is on its way to the other clusters, where it arrives 4 T_E later and sets the latches it is routed to; a latch that was
clear names it and its t_j; channels without a route keep theirs.
R292, R439: TRIPIN's active level asserts once, is counted, and latches every channel with route bit 32; its end clears the
assertion and no latch. In BOOT and LOAD only the level of the ball is kept.
R293, R297, R298: a trip clear of a tripped channel with no routed source asserting is accepted and due 4 T_E later; a clear
latch stays as it is; it is refused while a routed source asserts. In the T_E in which it is due, and at a period boundary in
release mode 1, a latch set before is released when no routed source asserts; else it stays, and a period boundary counts the
release withheld. No other channel's latch changes.
What is due by a T_E that has been reached has come about: nothing of it is on the way any more. -/
def Obligations.trip_network : Prop :=
  (∀ (s : State) (src : Nat) (a : TE) (ch : Fin 64), ch.val < 16 * s.part.clusters →
    let set (src : Nat) (t : State) : Prop := t.trip[ch].latched = true ∧ (s.trip[ch].latched = false →
      t.trip[ch] = { latched := true, first := src, setAt := a, withheld := 0 })
    let routed (src : Nat) : Bool := bit (s.nat (chIdx ch) 0x1B) src
    (routed src = true → direct src ch = true → set src (assertTrip src a s)) ∧
    (routed src = false ∨ direct src ch = false → (assertTrip src a s).trip[ch] = s.trip[ch]) ∧
    (∀ h : src < 32, (a + 4, LineDue.remote ⟨src, h⟩) ∈ (assertTrip src a s).line) ∧
    (∀ wm : Fin 32, direct wm.val ch = decide (wm.val / 8 = ch.val / 16) ∧
      (routed wm.val = true → wm.val / 8 ≠ ch.val / 16 → set wm.val (doLate (a, .remote wm) s)) ∧
      (routed wm.val = false ∨ wm.val / 8 = ch.val / 16 → (doLate (a, .remote wm) s).trip[ch] = s.trip[ch]) ∧
      DataPlaneOnly s (doLate (a, .remote wm) s)) ∧
    direct tripinSource ch = true ∧ DataPlaneOnly s (assertTrip src a s)) ∧
  (∀ s : State,
    (s.served = false → s.tripin.active = false → ∃ t, exec .tripinAssert s = .next t ∧
      t = { s.settle with tripin := { s.settle.tripin with level := t.tripin.level } } ∧ t.tripinLevel = true) ∧
    (s.served = true → s.tripin.active = false → ∃ t, exec .tripinAssert s = .next t ∧ t.tripin.active = true ∧
      t.tripin.count = s.tripin.count + 1 ∧
      (∀ ch : Fin 64, ch.val < 16 * s.part.clusters → bit (s.nat (chIdx ch) 0x1B) 32 = true → t.trip[ch].latched = true) ∧
      DataPlaneOnly s t) ∧
    (s.tripin.active = true → ∃ t, exec .tripinInactive s = .next t ∧ t.tripin.active = false ∧
      t.tripin.count = s.tripin.count ∧ t.trip = s.settle.trip ∧ DataPlaneOnly s t)) ∧
  ((∀ (s : State) (r : Requester) (ch : Fin 64), Admitted s (chIdx ch) 0x1D .rw → let u := s.settle
    (u.routedAsserts ch = false → u.trip[ch].trippedAt s.now = true →
      exec (.tripClear r ch) s = .next { addDue [(s.now + 4, .clear ch)] u with answer := granted0 }) ∧
    (u.routedAsserts ch = false → u.trip[ch].trippedAt s.now = false →
      exec (.tripClear r ch) s = .next { u with answer := granted0 }) ∧
    (u.routedAsserts ch = true → ∃ t, exec (.tripClear r ch) s = .next t ∧ t.answer.status = 0x04020000 ∧
      t = { u with answer := t.answer, merger := t.merger })) ∧
  (∀ (s : State) (ch : Fin 64) (a : TE) (d : LineDue), d = .clear ch ∨ (d = .period ch ∧ bit (s.nat (chIdx ch) 0x1C) 2 = true) →
    let t := doLate (a, d) s
    (∀ k, k ≠ ch → t.trip[k] = s.trip[k]) ∧ t = { s with trip := t.trip, merger := t.merger } ∧
    (s.trip[ch].latched = true → s.trip[ch].setAt < a → s.routedAsserts ch = false → t.trip[ch] = {}) ∧
    (s.routedAsserts ch = true → t.trip[ch].latched = s.trip[ch].latched ∧ t.trip[ch].setAt = s.trip[ch].setAt ∧
      (d = .period ch → s.trip[ch].trippedAt a = true → s.trip[ch].withheld < 65535 →
        t.trip[ch].withheld = s.trip[ch].withheld + 1))) ∧
  (∀ (s : State) (a : TE), ∀ p ∈ (s.reach a).line, max s.now a < p.1))

/-- R283: a classification is stable: classifying the same input again changes nothing, in whatever state the monitor was. R284: the
start rule leaves an input inside a hysteresis band unresolved.
R283, R285, R288: a crossing at a monitor that watches its input, outside blanking, classifies V_in from the raw state: at once
without a filter, through the filter with one; an input that changes no classification changes nothing else.
R284, R287, R289: at the end of SETTLING the start rule classifies V_in and the monitor watches; at the end of blanking and at
a sample tick the rule of R283 does. -/
def Obligations.monitors : Prop :=
  (∀ (b : Bands) (vin : Int) (c : Classn), 0 ≤ b.half → b.lower ≤ b.upper → b.next vin (b.next vin c) = b.next vin c ∧
    let x := vin * 12288
    ((b.upper - b.half ≤ x ∧ x ≤ b.upper + b.half) ∨ (b.lower - b.half ≤ x ∧ x ≤ b.lower + b.half) → b.start vin = .unresolved)) ∧
  (∀ (s : State) (wm : Fin 32) (vin : Int),
    let u := s.settle.updMon wm (fun m => { m with vin := vin })
    let c := (u.bands wm).next vin u.mon[wm].raw
    u.watches wm = true → u.blanked wm = false →
    (c = u.mon[wm].raw → exec (.monitorCrossing wm vin) s = .next u) ∧
    (c ≠ u.mon[wm].raw → u.filtered wm = false → exec (.monitorCrossing wm vin) s = .next (asyncClass wm (s.now + 1) c u)) ∧
    (c ≠ u.mon[wm].raw → u.filtered wm = true → exec (.monitorCrossing wm vin) s = .next (filterClass wm (s.now + 1) c u)) ∧
    ∃ t, exec (.monitorCrossing wm vin) s = .next t ∧ DataPlaneOnly s t) ∧
  (∀ (s : State) (wm : Fin 32) (vin : Int),
    (∀ a, s.mon[wm].phase = .settling a →
      let u := (s.reach a).updMon wm (fun m => { m with vin := vin, phase := .watching })
      let c := (u.bands wm).start vin
      u.blanked wm = false → ∃ t, exec (.settlingEnd wm vin) s = .next t ∧ t = syncClass wm a c (followAssert wm a
        (u.updMon wm (fun m => { m with cls := c, raw := c, rawHist := [(0, c)] }))) ∧ t.time.count = max s.time.count a ∧
        DataPlaneOnly s t) ∧
    (∀ e, s.mon[wm].blank = some e →
      let u := (s.reach (e / 3200)).updMon wm (fun m => { m with vin := vin, blank := none })
      let c := (u.bands wm).next vin u.mon[wm].cls
      u.watches wm = true → ∃ t, exec (.blankingEnd wm vin) s = .next t ∧
        t = asyncClass wm (teCeil e) c u ∧ DataPlaneOnly s t) ∧
    (s.sampledMode wm = true → s.on (monIdx wm) 1 = true →
      let a := s.nextSample wm
      let u := (s.reach a).updMon wm (fun m => { m with vin := vin, sampled := some a })
      u.mon[wm].live = true → u.checking wm = false → u.blanked wm = false →
      ∃ t, exec (.sampleTick wm vin) s = .next t ∧ t = asyncClass wm a ((u.bands wm).next vin u.mon[wm].cls) u ∧
        DataPlaneOnly s t))

/-- R299 to R303: a permitted self-check takes the monitor away from its input until 8,750 T_E after its start; its end records the
result and restarts the monitor; a readback occupies it until its measurement, which is recorded. -/
def Obligations.self_checks : Prop :=
  ∀ (s : State) (r : Requester) (wm : Fin 32),
    (∀ c kind, (c, kind) ∈ [(Instr.swap r wm, 1), (.tie0V r wm, 2), (.tie1V25 r wm, 3)] →
      Admitted s (monIdx wm) 0x0C .wo → (s.settle).checkable wm = true → (s.settle).mon[wm].busy = false →
      (s.dev.st = .run → s.routedByEnabled wm = false) → (kind = 1 → (s.settle).mon[wm].cls = .inside) →
      (kind ≠ 1 → s.tieTooNear wm kind = false) →
      exec c s = .next { s.settle with
        mon := upd s.settle.mon wm (fun m => { m with phase := .selfCheck kind (s.now + 8754) }), answer := granted0 }) ∧
    (∀ kind a obs, s.mon[wm].phase = .selfCheck kind a → kind ∈ [1, 2, 3] → ∃ t, exec (.selfCheckEnd wm obs) s = .next t ∧
      t.mon[wm].phase = .settling (a + 2500) ∧ t.mon[wm].asserts = false ∧
      (t.mon[wm].result.getLsbD 3 = true ↔
        (kind = 1 ∧ (obs.restored ≠ (false, false) ∨ ∃ p ∈ obs.samples, p ≠ (true, true)) ∨
          kind ≠ 1 ∧ ∃ p ∈ obs.samples, Classn.reported p ≠ (s.bands wm).start (tieVoltage kind))) ∧
      DataPlaneOnly s t) ∧
    (Admitted s (monIdx wm) 0x0E .rw → s.mon[wm].busy = false → exec (.readback r wm) s = .next { s with
      mon := upd s.mon wm (fun m => { m with rbBusy := true }), answer := granted0 }) ∧
    (∀ up lo, s.mon[wm].rbBusy = true → ∃ t, exec (.readbackComplete wm up lo) s = .next t ∧ t.mon[wm].rbBusy = false ∧
      (t.mon[wm].result.getLsbD 3 = true ↔ (250 * 4096 < (readbackError up (s.nat (monIdx wm) 2)).natAbs ∨
        250 * 4096 < (readbackError lo (s.nat (monIdx wm) 3)).natAbs)) ∧
      (∀ k, k ≠ wm → t.mon[k] = s.mon[k]) ∧ t = { s with mon := t.mon, merger := t.merger })

/-- R144, R306: a new level of an EXTTRIG ball is sampled from the next CLK_E edge on and delivered as a trigger on the 100 ps
grid; the same level again changes nothing.
R309: an evaluation in a T_E not evaluated yet fires the lowest condition that rises in it, counts it and counts the others that rise as
shadowed; when none rises nothing fires. -/
def Obligations.exttrig_and_conditions : Prop :=
  (∀ (s : State) (b : Fin 4) (v : Bool) (k : Fin 8),
    (s.extSample b s.now = v → exec (.exttrigEdge b v k) s = .next s) ∧
    (s.extSample b s.now ≠ v → ∃ t u, exec (.exttrigEdge b v k) s = .next t ∧ u.extSample b s.now = v ∧
      u = { s with pins := u.pins } ∧ t = deliverTriggers (.ext b.val v) (s.time.count * 3200 + (k.val + 1) * 400) u)) ∧
  (∀ (s : State) (cl : Fin 4), let u := s.settle
    u.trig[cl].evaluated ≠ some u.now →
    let rising := (trueConds u cl u.now).filter (fun c => !condBefore u cl c u.now)
    (rising = [] → exec (.conditionFire cl) s = .next u) ∧
    (∀ c rest, rising = c :: rest → (∀ d ∈ rest, c < d) ∧ ∃ t, exec (.conditionFire cl) s = .next t ∧
      t.trig[cl].evaluated = some u.now ∧ t.trig[cl].firings = u.trig[cl].firings + 1 ∧
      t.trig[cl].shadowed = u.trig[cl].shadowed + BitVec.ofNat 64 rest.length ∧ t.seq = s.seq ∧ DataPlaneOnly s t))

/-- R312, R321: an arm command whose checks pass arms every engine of its group 8 T_E later.
R312, R321: at the arming T_E every engine armed for it enters ARMED together, after everything due before it, and the monitor
tests judge the classifications of that T_E.
R312, R313: an engine that enters ARMED holds nothing but its start anchor, under the configuration that stands in the objects
at that T_E. -/
def Obligations.capture_arming : Prop :=
  (∀ (s : State) (r : Requester) (cl : Fin 4), Admitted s (clIdx cl 5) 1 .wo → armCheck s cl = none →
    ∃ t, exec (.arm r cl) s = .next t ∧ t.answer = granted0 ∧
      (∀ c ∈ s.armMembers cl, t.cap[c] = { s.cap[c] with armAt := some (s.now + 8) }) ∧
      (∀ c, c ∉ s.armMembers cl → t.cap[c] = s.cap[c]) ∧ t = { s with cap := t.cap, answer := t.answer }) ∧
  (∀ (s : State) (cl : Fin 4) (a : TE), s.cap[cl].armAt = some a →
    let l := s.clusters.filter (fun c => s.cap[c].armAt = some a)
    exec (.captureArming cl) s =
      .next (each l (fun c t => testAllMonitors c a t) ((each l (armEngine a) (s.reach (a - 1))).reach a))) ∧
  (∀ (s : State) (a : TE) (cl : Fin 4), let c := (armEngine a cl s).cap[cl]
    c.st = .armed ∧ c.records = [anchor 0 (if s.lullAt (a * 3200) then 1 else 0) (a * 3200)] ∧ c.armAt = none ∧ c.fire = none ∧
      c.cfg = s.capConfig cl ∧ c.status = 0 ∧ c.gaps = [] ∧ (∀ k, k ≠ cl → (armEngine a cl s).cap[k] = s.cap[k]))

/-- R313, R317, R322: FORCE_TRIGGER on an armed engine offers a fire 4 T_E later; STOP_CAPTURE while the engine stores is due 4 T_E
later and has no effect else; when it is due it ends storing with status [4] set, and no trigger stays on its way; the trigger
taken 7 T_E after its fire sets status [0] and the trigger time.
R319, R322, R507: 4 T_E after a violation a chain under way is stored whole (as at a stop: the model's choice, log entry 115), a member of a group drops a fire that it has not
taken, and the engine enters FREEZING with the position and the records left, or ends when none are. -/
def Obligations.capture_ends : Prop :=
  (∀ (s : State) (r : Requester) (cl : Fin 4),
    (Admitted s (clIdx cl 5) 1 .wo → cl.val < s.part.clusters → s.cap[cl].st = .armed → ∃ t y,
      exec (.forceTrigger r cl) s = .next t ∧ t.answer = granted0 ∧ t.cap[cl].fire = some y ∧ y.f ≤ s.now + 4 ∧
      t = { s with cap := t.cap, answer := t.answer }) ∧
    (Admitted s (clIdx cl 5) 1 .wo → exec (.stopCapture r cl) s = .next
      { (if s.cap[cl].storing then addDue [(s.now + 4, .stop cl)] s else s) with answer := granted0 }) ∧
    (s.cap[cl].storing = true → ∀ a, let t := doLate (a, .stop cl) s
      t.cap[cl].st = (if s.cap[cl].cfg.spill then .draining else .done) ∧ t.cap[cl].status.getLsbD 4 = true ∧
      t.cap[cl].fire = none ∧ t.cap[cl].freezeAt = none ∧ t.cap[cl].chain = [] ∧ t.cap[cl].written = [] ∧ t.cap[cl].runs = [] ∧
      (∀ k, k ≠ cl → t.cap[k] = s.cap[k]) ∧ DataPlaneOnly s t) ∧
    (∀ x, s.cap[cl].fire = some x → (s.reach (x.f + 7)).cap[cl].storing = true → ∃ t, exec (.triggerTaken cl) s = .next t ∧
      t.cap[cl].status.getLsbD 0 = true ∧ t.cap[cl].trigAt = x.f ∧ t.cap[cl].fire = none ∧
      ((s.reach (x.f + 7)).cap[cl].st = .armed → t.cap[cl].st = .triggered) ∧
      (∀ k, k ≠ cl → t.cap[k] = (s.reach (x.f + 7)).cap[k]) ∧ t = { s.reach (x.f + 7) with cap := t.cap })) ∧
  (∀ (s : State) (cl : Fin 4) (a : TE), s.settle.cap[cl].freezeAt = some a → (s.reach a).cap[cl].freezeAt = some a →
    let w := s.reach a
    let u := finishChain cl (if w.ignoresFire cl a then dropFire cl w else w)
    ∃ t, exec (.freezingStart cl) s = .next t ∧
    (w.cap[cl].cfg.v ≠ 0 → t.cap[cl] = { u.cap[cl] with
      st := .freezing, freezeAt := none, vLeft := w.cap[cl].cfg.v, violPos := BitVec.ofNat 32 u.cap[cl].stored }) ∧
    (w.cap[cl].cfg.v = 0 → t.cap[cl].st = if w.cap[cl].cfg.spill then .draining else .done) ∧
    t.cap[cl].chain = [] ∧ (w.ignoresFire cl a = true → t.cap[cl].fire = none) ∧
    (∀ k, k ≠ cl → t.cap[k] = w.cap[k]) ∧ DataPlaneOnly s t)

/-- R203, R315, R316, R507: one cycle of the write port: the rest of a chain first; then an engine record that has waited 8 T_E, that
finds the entry's requester with nothing ready, or for whose gap record the requester waits; else the requester of the entry. The
runs of lost records that the requester's next record ends have their gap records made before it.
R318, R371: a full spill Pan takes the next 255 records behind its anchor and passes to the host; no other byte of the Saltern
changes.
R318, R328: when nothing is left to drain the ring's other Pans go back to the host and the engine is DONE. -/
def Obligations.capture_port : Prop :=
  (∀ (s : State) (cl : Fin 4),
    let n := nextCycle s.now s.cap[cl].slotAt
    let u := (s.reach (2 * n)).updCap cl (fun c => { c with slotAt := some n })
    let code := u.captureCode cl (n % 64)
    let rs := requesterReady u cl code
    let w := if rs ≠ [] ∧ u.cap[cl].selects code = true then queueGaps cl code u else u
    (∀ r rest, u.cap[cl].chain = r :: rest → exec (.captureSlot cl) s =
      .next (storeChained cl r (u.updCap cl (fun c => { c with chain := rest })))) ∧
    (∀ e rest, u.cap[cl].chain = [] → w.cap[cl].written = e :: rest →
      (rs = [] ∨ w.cap[cl].holds code = true ∨ e.since + 8 ≤ u.now) →
      exec (.captureSlot cl) s = .next (storeEngine cl e (w.updCap cl (fun c => { c with written := rest })))) ∧
    (u.cap[cl].chain = [] → (∀ e rest, w.cap[cl].written = e :: rest →
      rs ≠ [] ∧ w.cap[cl].holds code = false ∧ u.now < e.since + 8) →
      exec (.captureSlot cl) s = .next (takeEntry cl code rs w)) ∧
    ∃ t, exec (.captureSlot cl) s = .next t ∧ DataPlaneOnly s t) ∧
  (∀ (s : State) (cl : Fin 4), let c := s.cap[cl]
    c.spilling = true → 255 ≤ c.stored - c.drained → 0 < c.next → c.next < 2048 → (s.flag c.next).owner = .device →
    (s.flag c.next).use = BitVec.ofNat 8 (0x10 + cl.val) → Memory.wf s.mem = true →
    ∃ t, exec (.spillPanFull cl) s = .next t ∧ t.cap[cl].drained = c.drained + 255 ∧ t.cap[cl].handed = c.handed + 1 ∧
      t.flag c.next = { owner := .host, gen := (s.flag c.next).gen + 1, use := 0, changed := some s.now } ∧
      (∀ i, i < 16 → t.byte (4096 * c.next + i) =
        (toBytes 16 (spillAnchor (governing c.records c.drained)).toNat).getD i 0) ∧
      (∀ a, 4096 ≤ a → a / 4096 ≠ c.next → t.byte a = s.byte a) ∧ (∀ p, p ≠ c.next → t.flag p = s.flag p) ∧
      t = { s with cap := t.cap, mem := t.mem, own := t.own, health := t.health, merger := t.merger }) ∧
  (∀ (s : State) (cl : Fin 4), s.cap[cl].st = .draining →
    let u := drainPans s.cap[cl].stored cl s
    u.cap[cl].stored ≤ u.cap[cl].drained → ∃ t, exec (.drainComplete cl) s = .next t ∧ t.cap[cl].st = .done ∧
      (∀ p, p ∉ u.cap[cl].cfg.pans → t.flag p = u.flag p) ∧ t.mem = u.mem ∧ t.od = s.od)

/-- R129, R130, R131: an edge is judged in this order: late when its target lies less than 4 T_E after it was written, redundant when it
does not change the programmed state, too close within 1,000 fu of the previous edge of the programmed timeline; else it enters
that timeline.
R131, R132, R151: an edge of the programmed timeline is placed and counted when no override holds at its instant, and suppressed and
counted under the override's reason when one does. Either way the programmed state changes.
R128, R131, R148: EDGE_PLACEMENT judges the next edge at its target, in whose T_E the machine then stands, and takes it out of the
FIFO; a train stays at the head with its next edge. Where a trigger that is known by then restarts the channel and reaches back to the
edge, the edges from there on are cancelled in its place. -/
def Obligations.edges : Prop :=
  (∀ (s : State) (ch : Fin 64) (x : Instant) (st : OutState) (w : TE),
    (x / 3200 < w + 4 → judgeEdge ch x st w s = suppress ch x 1 s) ∧
    (w + 4 ≤ x / 3200 → st = s.edge[ch].progState → judgeEdge ch x st w s = s) ∧
    (∀ p, w + 4 ≤ x / 3200 → st ≠ s.edge[ch].progState → s.edge[ch].prev = some p → x < p + 1000 →
      judgeEdge ch x st w s = suppress ch x 2 s) ∧
    (w + 4 ≤ x / 3200 → st ≠ s.edge[ch].progState → (∀ p, s.edge[ch].prev = some p → p + 1000 ≤ x) →
      (judgeEdge ch x st w s).edge[ch].progState = st ∧ (judgeEdge ch x st w s).edge[ch].prev = some x)) ∧
  (∀ (s : State) (ch : Fin 64) (x : Instant) (st : OutState), let t := enterTimeline ch x st s
    t.edge[ch].progState = st ∧ (∀ k, k ≠ ch → t.edge[k] = s.edge[k]) ∧
    (s.override ch x = none → t.edge[ch].placed = s.edge[ch].placed + 1 ∧ t.edge[ch].lastPlaced = some x ∧
      t.edge[ch].suppressed = s.edge[ch].suppressed) ∧
    (s.override ch x ≠ none → t.edge[ch].placed = s.edge[ch].placed ∧
      t.edge[ch].suppressed = s.edge[ch].suppressed + 1) ∧ DataPlaneOnly s t) ∧
  (∀ (s : State) (ch : Fin 64) (e : FifoEntry) (rest : List FifoEntry) (x : Instant) (st : OutState),
    s.edge[ch].fifo = e :: rest → e.head = some (x, st) → ∃ t, exec (.edgePlacement ch) s = .next t ∧
      (let u := s.reach (x / 3200)
      ((∀ y ∈ u.knownTriggers ch, ∀ c, u.restartFrom ch y = some c → x < c) → t.edge[ch].fifo = e.tail.toList ++ rest ∧
        t.edge[ch].progState = (judgeEdge ch x st e.written u).edge[ch].progState) ∧
      (∀ y ∈ u.knownTriggers ch, ∀ c, u.restartFrom ch y = some c → c ≤ x →
        (∀ z ∈ u.knownTriggers ch, ∀ d, u.restartFrom ch z = some d → c ≤ d) → t = cancelEdges ch c u)) ∧
      t.time.count = max s.time.count (x / 3200) ∧ DataPlaneOnly s t)

/-- R142, R143: a host fire of a channel whose source is class 0x09 sends its trigger in the present T_E.
R145, R147: a trigger considered, under the settings in force at its t_ref, in RUN on an enabled delay-mode channel, the first of its CLK_C cycle, outside hold-off and with
nothing pending, is accepted: it writes one train of N pulses whose first edge lies D_ins + D after t_ref.
R147: a second trigger in one CLK_C cycle, one within the hold-off and a ninth pending sequence are discarded and counted; outside
RUN, or disabled, a trigger is dropped without a count.
R144, R147: DELAY_TRIGGER takes the earliest trigger on its way to the channel and considers it in its T_E. -/
def Obligations.delay_triggers : Prop :=
  (∀ (s : State) (r : Requester) (ch : Fin 64), Admitted s (chIdx ch) 0x0B .wo → s.source ch / 2 ^ 24 = 9 →
    exec (.hostFire r ch) s = .next { sendTrigger (s.time.count * 3200) ch s with answer := granted0 }) ∧
  (∀ (s : State) (ch : Fin 64) (x : Instant),
    let v := { s with od := if x / 3200 < s.commits.priorEnd then s.commits.prior else s.od }
    v.nat (chIdx ch) 1 = 1 → v.on (chIdx ch) 2 = true → s.dev.st = .run →
    s.delay[ch].lastCycle ≠ some (x / 3200 / 2) → s.delay[ch].pending = [] → v.chDelta ch 0x0A = 0 →
    let t := considerTrigger ch x s
    t.delay[ch].accepted = s.delay[ch].accepted + 1 ∧ t.delay[ch].discarded = s.delay[ch].discarded ∧
    t.delay[ch].lastAcc = some x ∧ ∃ w, t.edge[ch].fifo = s.edge[ch].fifo ++
      [.train (x + v.dIns ch + v.chDelta ch 4) (v.nat (chIdx ch) 7) (v.chDelta ch 8) (v.chDelta ch 5)
        (v.nat (chIdx ch) 6 == 1) 0 false none w]) ∧
  (∀ (s : State) (ch : Fin 64) (x : Instant),
    let v := { s with od := if x / 3200 < s.commits.priorEnd then s.commits.prior else s.od }
    v.nat (chIdx ch) 1 = 1 →
    let t := considerTrigger ch x s
    (s.dev.st ≠ .run ∨ v.on (chIdx ch) 2 = false → t = s) ∧
    (s.dev.st = .run → v.on (chIdx ch) 2 = true →
      (s.delay[ch].lastCycle = some (x / 3200 / 2) ∨
        (∃ a, s.delay[ch].lastAcc = some a ∧ 0 < v.chDelta ch 0x0A ∧ x < a + v.chDelta ch 0x0A) ∨
        8 ≤ (s.delay[ch].pending.filter (fun q => q.pendingAt x)).length) →
      t.delay[ch].discarded = s.delay[ch].discarded + 1 ∧ t.delay[ch].accepted = s.delay[ch].accepted ∧ t.edge = s.edge ∧
        t = { s with delay := t.delay })) ∧
  (∀ (s : State) (ch : Fin 64) (x : Instant), firstTransit s.delay[ch] = some x →
    x ∈ s.delay[ch].transit ∧ (∀ y ∈ s.delay[ch].transit, x ≤ y) ∧
    exec (.delayTrigger ch) s = .next (considerTrigger ch x ((s.reach (x / 3200)).updDelay ch
      (fun d => { d with transit := d.transit.erase x }))))

/-- R137, R151: a sweep that ends with a complete table of permitted entries leaves it for the next boundary and keeps the table in
force; one that ends without such a table is reported.
R258, R260, R263, R264, R265: a write of 1 to :12 takes a disabled input that is not in raw mode out of service with all four lines; a
collection of an input or a slice whose lines all pass leaves the centres that its counts give for the next boundary, with the entry
offsets found against line 0 in raw mode, and keeps those in force; one that fails, or runs out of time (reason 1, its first line), is
counted, reported with its reason and line, and returns the lines. That a collection of several lines counts once, and that the first
failing line in order gives the reason, is the model's choice (log entry 36). -/
def Obligations.sweeps_and_calibration : Prop :=
  (∀ (s : State) (ch : Fin 64) (k : Nat), s.edge[ch].sweeping = some k →
    let whole (b : List Byte) : Prop := b.length = 12800 ∧ ∀ i, i < 3200 → correctionOk (ofBytes ((b.drop (4 * i)).take 4)) = true
    (∀ b, whole b → exec (.sweepComplete ch (some b)) s = .next { s with
      edge := upd s.edge ch (fun g => { g with sweeping := none, newTable := some (b, k) }) }) ∧
    (∀ b : Option (List Byte), (∀ l, b = some l → ¬ whole l) → ∃ t, exec (.sweepComplete ch b) s = .next t ∧
      t.edge[ch] = { s.edge[ch] with sweeping := none } ∧
      Raised t s.nowAt (ch.val * 4 + 3) (signedCode 16 (clampInt (-32768) 32767 s.edge[ch].liveErr) + 2 ^ 17) ∧
      (∀ j, j ≠ ch → t.edge[j] = s.edge[j]) ∧ t = { s with edge := t.edge, merger := t.merger })) ∧
  ((∀ (s : State) (r : Requester) (i : Fin 32), Admitted s (inIdx i) 0x12 .wo → s.onOrStaged (inIdx i) 1 = false →
    s.sti[i].cal.calState ≠ 5 → ∃ t, exec (.commandedCalibration r i) s = .next t ∧ t.answer = granted0 ∧
      t.sti[i].cal = { s.sti[i].cal with
        calState := 5, calSince := s.now, calOrigin := 6, calTarget := s.nat (inIdx i) 0x13, busy := true, newLines := [] } ∧
      (∀ k, k ≠ i → t.sti[k] = s.sti[k]) ∧ t = { s with sti := t.sti, answer := t.answer, drz := t.drz, free := t.free }) ∧
  (∀ (s : State) (u : CalUnit), (s.cal u).busy = true → s.hasUnit u = true →
    let c := s.cal u
    let fails (t : State) (reason line : Nat) : Prop :=
      (t.cal u).busy = false ∧ (t.cal u).calState = 0 ∧ (t.cal u).newLines = c.newLines ∧ (t.cal u).done = c.done ∧
      t.mem = s.mem ∧ t.od = s.od ∧ match u with
      | .input i => t.sti[i].cal.failed = c.failed + 1 ∧ t.sti[i].cal.lastFail = BitVec.ofNat 32 (reason + line * 2 ^ 8) ∧
          Raised t t.nowAt 495 (5 + i.val * 2 ^ 4 + reason * 2 ^ 10)
      | .slice k => t.drz[clusterOfSlice k].failed = s.drz[clusterOfSlice k].failed + 1 ∧
          t.drz[clusterOfSlice k].lastFail = BitVec.ofNat 32 (reason + line * 2 ^ 8 + k.val % 2 * 2 ^ 10) ∧
          Raised t t.nowAt 495 (5 + k.val * 2 ^ 4 + 2 ^ 9 + reason * 2 ^ 10)
    (∀ (first : LineHits) (more : List LineHits), let ls := first :: more
      ls.length = c.collected.length →
      let raw := c.calState = 5
      let off (p : Nat × LineHits) : Int := if p.1 = 0 then 0 else if raw then entryOffset first p.2
        else c.offsets.toList.getD p.1 0
      let fault (p : Nat × LineHits) : Nat := lineFault p.2 c.calTarget raw (off p)
      let pairs := c.collected.zip ls
      ((∀ p ∈ pairs, fault p = 0) →
        ∃ t, exec (.collectionComplete u ls) s = .next t ∧ (t.cal u).busy = false ∧ (t.cal u).done = c.done + 1 ∧
          (t.cal u).table = c.table ∧ (t.cal u).newLines = pairs.map (fun p => (p.1, binCentres (lineTotal p.2) (off p) 0 p.2.taps,
            if raw then some (off p) else none)) ∧ t = { s with sti := t.sti, drz := t.drz, margin := t.margin }) ∧
      ((∃ p ∈ pairs, fault p ≠ 0) → ∃ t, ∃ p ∈ pairs, exec (.collectionComplete u ls) s = .next t ∧ fault p ≠ 0 ∧
        fails t (fault p) p.1 ∧ t = { s with sti := t.sti, drz := t.drz, boot := t.boot, merger := t.merger })) ∧
    (∃ t, exec (.collectionTimeout u) s = .next t ∧ fails t 1 (c.collected.headD 0))))

/-- R158 to R163: reading the words of a well-formed program instruction gives that instruction with every operand; its encoding has as
many words as its first two words say, whatever words follow it. -/
def Obligations.program_words_round_trip : Prop :=
  ∀ (i : Instr) (ch : Fin 64), i.wellFormed = true → i.channel = some ch → ∃ w0 rest, encode i = w0 :: rest ∧
    (∀ w ∈ w0 :: rest, w < 2 ^ 64) ∧ ∀ more : List Nat, decode ch w0 ((rest ++ more).getD 0 0) ((rest ++ more).getD 1 0) = some i ∧
      wordCount w0 ((rest ++ more).getD 0 0) = rest.length + 1

/-- R164: what the decoder accepts is well formed: no reserved field, invalid fine code, Pan 0 target or limit gets through.
R161: a few words written out from the encoding table. -/
def Obligations.decoded_is_well_formed : Prop :=
  (∀ (ch : Fin 64) (w0 w1 w2 : Nat) (i : Instr), decode ch w0 w1 w2 = some i → i.wellFormed = true ∧ i.channel = some ch) ∧
  (decode 3 0 0 0 = some (.nop 3) ∧ decode 3 0xFC00000000000000 0 0 = some (.halt 3) ∧
  decode 5 0x05C0000000002003 0 0 = some (.edge 5 .high .origin true 6403) ∧
  decode 0 0x080000000000A000 0x5000 0 = some (.pulse 0 false .cursor false 32000 16000) ∧
  decode 0 0x2000000000000E07 0 0 = some (.jump 0 ⟨7, 7⟩) ∧ decode 1 0x2850000000000000 0 0 = none ∧
  decode 1 0x2A00000000000001 0 0 = some (.setregLoad 1 4 1) ∧ decode 2 0x2400000000000000 0 0 = none)

/-- R165, R167: the state an instruction acts in: one more instruction is counted, the program counter is past its words in the same Pan,
the next issue lies 2 T_E after this one, which is not before the time of the issue. Nothing of the host side changes.
R163, R176, R178, R179, R186, R157: the instructions that only change their sequencer.
R163, R172: SETREG CLEAR in or after the T_E of its cursor, within the history, clears the named latches as of the cursor's T_E; ahead
of its cursor it waits. -/
def Obligations.sequencer_instructions : Prop :=
  (∀ (s : State) (ch : Fin 64) (n : Nat), let u := issued s ch n
    u.seq[ch].issued = s.seq[ch].issued + 1 ∧ u.seq[ch].nextIssue = s.issueAt ch + 2 ∧
    u.seq[ch].pc = ⟨s.seq[ch].pc.pan, s.seq[ch].pc.word + BitVec.ofNat 9 n⟩ ∧ s.issueAt ch ≤ u.time.count ∧
    (∀ k, k ≠ ch → u.seq[k] = s.seq[k]) ∧
    (∀ k : Fin 64, u.edge[k].fifo = s.edge[k].fifo ∧ u.edge[k].progState = s.edge[k].progState ∧ u.edge[k].placed = s.edge[k].placed) ∧
    DataPlaneOnly s u) ∧
  (∀ (s : State) (ch : Fin 64) (n : Nat), let u := issued s ch n
    let q := u.seq[ch]
    let after (q' : Sequencer) : State := { u with seq := u.seq.set ch.val q' ch.isLt }
    (Issues s ch (.nop ch) n → exec (.nop ch) s = .next u) ∧
    (∀ t, Issues s ch (.wait ch .cursor t) n → exec (.wait ch .cursor t) s = .next (after { q with cursor := q.cursor + t })) ∧
    (∀ t, Issues s ch (.wait ch .origin t) n → exec (.wait ch .origin t) s =
      .next (after { q with cursor := max q.cursor (q.origin + t) })) ∧
    (∀ r v, Issues s ch (.setregLoad ch r v) n → exec (.setregLoad ch r v) s =
      .next (after { q with regs := q.regs.set r.val v r.isLt })) ∧
    (∀ r v, Issues s ch (.setregAdd ch r v) n → exec (.setregAdd ch r v) s =
      .next (after { q with regs := q.regs.set r.val (q.regs[r] + v) r.isLt })) ∧
    (∀ r k, Issues s ch (.setregCopy ch r k) n → exec (.setregCopy ch r k) s =
      .next (after { q with regs := q.regs.set r.val q.regs[k] r.isLt })) ∧
    (Issues s ch (.setregOrigin ch) n → exec (.setregOrigin ch) s = .next (after { q with origin := q.cursor })) ∧
    (∀ x, Issues s ch (.jump ch x) n → ∃ h, exec (.jump ch x) s = .next (after { q with pc := x, pendHints := h })) ∧
    (∀ r x, Issues s ch (.loop ch r x) n → q.regs[r] = 0 → exec (.loop ch r x) s = .next u) ∧
    (∀ r x, Issues s ch (.loop ch r x) n → q.regs[r] ≠ 0 → ∃ h, exec (.loop ch r x) s =
      .next (after { q with regs := q.regs.set r.val (q.regs[r] - 1) r.isLt, pc := x, pendHints := h })) ∧
    (Issues s ch (.halt ch) n → exec (.halt ch) s = .next (after { q with pstate := 4 }))) ∧
  (∀ (s : State) (ch : Fin 64) (n : Nat) (l : BitVec 12), Issues s ch (.setregClear ch l) n → let u := issued s ch n
    let a := u.seq[ch].cursor / 3200
    (s.issueAt ch < a → exec (.setregClear ch l) s = .next { u with seq := upd u.seq ch (fun q => { q with
      actions := q.actions ++ [(q.cursor, .clear l)] }) }) ∧
    (a ≤ s.issueAt ch → u.oldest (s.issueAt ch) ≤ a → exec (.setregClear ch l) s = .next (clearBits ch (latchBits l) a u)))

/-- R128, R175: EDGE, PULSE and BURST with room in the edge FIFO write their entries at base + T, and with advance set the cursor becomes
the later of itself and the last edge.
R168, R181, R220: LEVEL with room in the level queue appends its entry, a tagged one with the cursor as its tag.
R186, R193: PANHINT only concerns the pager: no sequencer state but its pending Pans changes. -/
def Obligations.edge_and_level_instructions : Prop :=
  (∀ (s : State) (ch : Fin 64) (n : Nat) (base : TimeBase) (adv low : Bool) (st : OutState) (t k w p : Nat),
    let u := issued s ch n
    let x := u.base ch base + t
    let i := s.issueAt ch
    let after (l : List FifoEntry) (y : Instant) : State := { u with
      edge := upd u.edge ch (fun g => { g with fifo := g.fifo ++ l })
      seq := if adv then upd u.seq ch (fun q => { q with cursor := max q.cursor y }) else u.seq }
    (Issues s ch (.edge ch st base adv t) n → s.edge[ch].fifo.length + 1 ≤ 32 →
      exec (.edge ch st base adv t) s = .next (after [.edge x st i] x)) ∧
    (Issues s ch (.pulse ch low base adv t w) n → s.edge[ch].fifo.length + 2 ≤ 32 →
      exec (.pulse ch low base adv t w) s = .next (after
        [.edge x (if low then .low else .high) i, .edge (x + w) (if low then .high else .low) i] (x + w))) ∧
    (Issues s ch (.burst ch low base adv t k w p) n → s.edge[ch].fifo.length + 1 ≤ 32 →
      exec (.burst ch low base adv t k w p) s = .next (after [.train x k p w low 0 false none i] (x + (k - 1) * p + w)))) ∧
  (∀ (s : State) (ch : Fin 64) (n : Nat) (tagged : Bool) (e : W32), Issues s ch (.level ch tagged e) n → s.levelFull ch = false →
    let u := issued s ch n
    ∃ t, exec (.level ch tagged e) s = .next t ∧ t.drv[ch] = { u.drv[ch] with queue := u.drv[ch].queue ++
        [{ entry := e, tag := if tagged then some u.seq[ch].cursor else none, at_ := s.issueAt ch }] } ∧
      (∀ k, k ≠ ch → t.drv[k] = u.drv[k]) ∧ t = { u with drv := t.drv, seq := t.seq }) ∧
  (∀ (s : State) (ch : Fin 64) (n : Nat) (p : BitVec 11), Issues s ch (.panhint ch p) n → let u := issued s ch n
    ∃ t, exec (.panhint ch p) s = .next t ∧ t = { u with seq := t.seq, store := t.store } ∧
      ∃ h, t.seq[ch] = { u.seq[ch] with pendHints := h })

/-- R168: an action that issues ahead of its cursor waits for it; in the cursor's T_E it takes place there; issued after it, it takes place
in the issue T_E and counts as late. At its cursor a waiting action takes place and leaves the list.
R180, R183, R184: what STAMP and SIGNAL do where they take place: a program stamp waits in the channel's capture queue when the channel
owns an entry and fewer than 4 wait; a cluster signal takes its value from the T_E on that holds the time, 4 T_E later in another
cluster (that SIGNAL takes the T_E that holds its cursor is the model's choice, log entry 43). -/
def Obligations.actions : Prop :=
  (∀ (s : State) (ch : Fin 64) (n : Nat), let u := issued s ch n
    let c := u.seq[ch].cursor
    let t := s.issueAt ch
    (∀ i a, (i, a) ∈ [(Instr.period ch, SeqAction.period)] ∨ (∃ v, (i, a) = (.stamp ch (.operand v), .stamp v)) ∨
        (∃ r, (i, a) = (.stamp ch (.reg r), .stamp u.seq[ch].regs[r])) ∨
        (∃ g, (i, a) = (.gustLocal ch g, .gustLocal g)) ∨ (∃ g, (i, a) = (.gustFabric ch g, .gustFabric g)) ∨
        (∃ k x v, (i, a) = (.signal ch k x v, .signal k x v)) → Issues s ch i n →
      (t < c / 3200 → exec i s = .next { u with seq := upd u.seq ch (fun q => { q with actions := q.actions ++ [(c, a)] }) }) ∧
      (t = c / 3200 → exec i s = .next (doAction ch c c false a u)) ∧
      (c / 3200 < t → exec i s = .next (doAction ch c (t * 3200) true a (countLate ch u)))) ∧
    (∀ x a, firstAction s.seq[ch].actions = some (x, a) → exec (.actionAtCursor ch) s = .next
      (doAction ch x x false a ((s.reach (x / 3200)).updSeq ch (fun q => { q with actions := q.actions.erase (x, a) }))))) ∧
  (∀ (s : State) (ch : Fin 64) (c x : Instant) (late : Bool),
    (∀ tag : W32, s.ownsCapture (clusterOf ch) (ch.val % 16) = true →
      (s.cap[clusterOf ch].stamps.filter (fun p => p.1 = ch.val % 16)).length < 4 →
      doAction ch c x late (.stamp tag) s = { s with cap := upd s.cap (clusterOf ch) (fun e => { e with
        stamps := e.stamps ++ [(ch.val % 16, record 0x08 ((if late then 64 else 0) + if s.lullAt c then 1 else 0) ch.val
          s.edge[ch].calGen.toNat tag.toNat (ztime c).toNat)] }) }) ∧
    (∀ (cl : Fin 4) (k : Fin 8) (v : Bool), ∃ t, doAction ch c x late (.signal cl k v) s = t ∧ t = { s with xbar := t.xbar } ∧
      t.xbar[cl].signals[k] = traceTrim (signalPut s.xbar[cl].signals[k]
        (if cl = clusterOf ch then x / 3200 else x / 3200 + 4) v) (s.now - keepTE)))

/-- R166, R174, R177, R178, R185: instructions that wait: a BRANCH ahead of its cursor, a WAITCOND from its cursor's T_E on and every SYNC
wait; the sequencer reads 3 (waiting). A SYNC kind 3 discards the queued triggers that were visible before its cursor.
R166, R172, R174, R178: a waiting BRANCH decides in the T_E of its cursor on that T_E's snapshot, which becomes the sample; taken, it
goes to its target; one that issues at or after its cursor decides at once. With consume, the latched bits that it tests and finds at 1
are cleared as of that T_E, whatever the outcome.
R155, R177, R185: out of HOLD a WAITCOND is met in the first T_E in which its condition holds, times out at its start plus T without
one, and a SYNC takes its qualifying event; each sets the cursor and the sequencer runs on. A met condition with consume clears the
latched bits that it tests and finds at 1 (R174). -/
def Obligations.waits : Prop :=
  (∀ (s : State) (ch : Fin 64) (n : Nat), let u := issued s ch n
    let waits (w : SeqWait) : State := { u with seq := upd u.seq ch (fun q => { q with pstate := 3, wait := w, resumeAt := none }) }
    (∀ m, Issues s ch (.syncTide ch m) n → exec (.syncTide ch m) s = .next (waits (.tide m))) ∧
    (∀ m, Issues s ch (.syncFront ch m) n → exec (.syncFront ch m) s = .next (waits (.front m))) ∧
    (∀ m, Issues s ch (.syncGust ch m) n → exec (.syncGust ch m) s = .next (waits (.gust m))) ∧
    (Issues s ch (.syncTrigger ch) n → ∃ t, exec (.syncTrigger ch) s = .next t ∧
      t = { waits .trigger with seq := t.seq, delay := t.delay } ∧ (∀ k, k ≠ ch → t.seq[k] = u.seq[k] ∧ t.delay[k] = u.delay[k]) ∧
      let l := u.seq[ch].trigQ.filter (fun y => decide (nearCoarse u.now u.seq[ch].cursor ≤ u.triggerVis ch y))
      t.seq[ch] = { (waits .trigger).seq[ch] with trigQ := l } ∧ t.delay[ch] = { u.delay[ch] with
        discarded := u.delay[ch].discarded + BitVec.ofNat 64 (u.seq[ch].trigQ.length - l.length) }) ∧
    (∀ c to_ x, Issues s ch (.waitcond ch c to_ x) n → u.oldest (s.issueAt ch) ≤ u.seq[ch].cursor / 3200 →
      exec (.waitcond ch c to_ x) s = .next { u with seq := upd u.seq ch (fun q => { q with
        pstate := 3, wait := .cond c (q.cursor / 3200) to_ q.cursor x }) }) ∧
    (∀ c x, Issues s ch (.branch ch c x) n → s.issueAt ch < u.seq[ch].cursor / 3200 →
      exec (.branch ch c x) s = .next { u with seq := upd u.seq ch (fun q => { q with
        pstate := 3, wait := .branch c x }) })) ∧
  (∀ (s : State) (ch : Fin 64) (c : Cond) (x : Target),
    let used (v : W64) : List Nat := if c.consume then
      (List.range 64).filter (fun b => isLatched b && condTests c b && v.toNat.testBit b) else []
    (s.seq[ch].wait = .branch c x →
      let a := s.seq[ch].cursor / 3200
      let u := (s.reach a).updSeq ch (fun q => { q with pstate := 2, wait := .none, nextIssue := max q.nextIssue (a + 2) })
      u.time.histFrom ≤ a → ∃ t, exec (.branchDecision ch) s = .next t ∧ t.seq[ch].sample = snapshot u ch a ∧ t.seq[ch].pstate = 2 ∧
        t.seq[ch].wait = .none ∧ t.seq[ch].pc = (if condHolds c (snapshot u ch a) then x else u.seq[ch].pc) ∧
        t.seq[ch].nextIssue = u.seq[ch].nextIssue ∧
        t.seq[ch].cleared = (clearBits ch (used (snapshot u ch a)) a u).seq[ch].cleared ∧ t = { u with seq := t.seq }) ∧
    (∀ n, Issues s ch (.branch ch c x) n →
      let u := issued s ch n
      let a := u.seq[ch].cursor / 3200
      a ≤ s.issueAt ch → u.oldest (s.issueAt ch) ≤ a → ∃ t, exec (.branch ch c x) s = .next t ∧
        t.seq[ch].sample = snapshot u ch a ∧ t.seq[ch].pc = (if condHolds c (snapshot u ch a) then x else u.seq[ch].pc) ∧
        t.seq[ch].cleared = (clearBits ch (used (snapshot u ch a)) a u).seq[ch].cleared ∧ t = { u with seq := t.seq })) ∧
  (∀ (s : State) (ch : Fin 64), s.dev.st ≠ .hold →
    (∀ c a n x y t', s.seq[ch].wait = .cond c a n x y → firstMet s.settle ch c a (timeoutAt x n) = some t' →
      ∃ t, exec (.waitcondMet ch) s = .next t ∧ t.seq[ch].pstate = 2 ∧ t.seq[ch].wait = .none ∧
        t.seq[ch].origin = t' * 3200 ∧ t.seq[ch].cursor = max (t' * 3200) (nearCoarse t' s.settle.seq[ch].cursor) ∧
        t.seq[ch].sample = snapshot s.settle ch t' ∧ condHolds c t.seq[ch].sample = true ∧
        t.seq[ch].cleared = (clearBits ch (if c.consume then (List.range 64).filter (fun b => isLatched b && condTests c b &&
          (snapshot s.settle ch t').toNat.testBit b) else []) t' s.settle).seq[ch].cleared ∧ t = { s.settle with seq := t.seq }) ∧
    (∀ c a n x y, s.seq[ch].wait = .cond c a n x y → 0 < n →
      let e := x + n
      let u := s.reach (e / 3200)
      firstMet u ch c a (some e) = none → ∃ t, exec (.waitcondTimeout ch) s = .next t ∧ t.seq[ch].pstate = 2 ∧ t.seq[ch].wait = .none ∧ t.seq[ch].pc = y ∧
        t.seq[ch].cursor = max e (nearCoarse (e / 3200) u.seq[ch].cursor) ∧ t.seq[ch].origin = u.seq[ch].origin ∧
        t.seq[ch].nextIssue = max u.seq[ch].nextIssue (max (e / 3200) u.time.histFrom + 2) ∧ t = { u with seq := t.seq }) ∧
    (∀ k inst v, syncEvent s ch = some (k, inst, v) → ∃ t, exec (.syncComplete ch) s = .next t ∧ t.seq[ch].pstate = 2 ∧
      t.seq[ch].wait = .none ∧ t.seq[ch].origin = inst ∧ t.seq[ch].cursor = v ∧ t = { s.reach (v / 3200) with
        seq := t.seq, delay := t.delay }))

/-- R194, R195, R196: HINT_FETCH_COMPLETE makes the Pan of the first hint fetch resident when a frame can be had, counts it and takes it
off the list; the Saltern is as before.
R153, R195, R197: at PIN_LOAD_COMPLETE the program is admitted: state 1, one generation more, no pin load of the channel left, its
pinned Pans resident where frames can be had. Where no repair is waiting, no other channel and no edge or driver is touched. (Until then the program reads state 0: the model's choice, log entry 42.)
R207 to R210: a sequencer that needs a poisoned word stops and parks when :1E is 0 (edges from 4 T_E later on cancelled, state 5) and
waits for the repair when it is 1; a repair is asked for. At t_p the ball is parked.
R195, R208, R210: REPAIR_COMPLETE ends the pin loads that were asked for before the first repair, counts the repair and takes it off the list; a channel of no other cluster resumes. A channel that
waits for the repaired Pan resumes in that T_E when the Saltern's word is good, and stops and parks when it is not. -/
def Obligations.hints_misses_repairs : Prop :=
  (∀ (s : State) (cl : Fin 4) (f : Fetch) (rest : List Fetch), s.store[cl].hints = f :: rest →
    ∃ t, exec (.hintFetchComplete cl) s = .next t ∧ t.store[cl].hints = rest ∧
      t.store[cl].hintCount = s.store[cl].hintCount + 1 ∧
      ((s.slotFor cl f.pan).isSome = true → (t.frameOf cl f.pan).isSome = true) ∧
      ((s.frameOf cl f.pan).isSome = true ∨ (s.freeSlot cl).isSome = true → (t.frameOf cl f.pan).isSome = true) ∧
      (∀ k, k ≠ cl → t.store[k] = s.store[k]) ∧
      t = { s with store := t.store, health := t.health, merger := t.merger, own := t.own }) ∧
  (∀ (s : State) (ch : Fin 64) (r : Requester), s.seq[ch].loading = some r →
    ∃ t, exec (.pinLoadComplete ch) s = .next t ∧
      t.seq[ch].pstate = 1 ∧ t.seq[ch].gen = s.seq[ch].gen + 1 ∧ t.seq[ch].loading = none ∧ t.seq[ch].panSet = s.seq[ch].panSet ∧
      (∀ f ∈ t.store[clusterOf ch].work, f.repair = true ∨ f.ch ≠ ch.val) ∧ t.mem = s.mem ∧ t.od = s.od ∧ t.drv = s.drv ∧
      ((∀ f ∈ s.store[clusterOf ch].work, f.repair = false) → t.edge = s.edge ∧
        t.seq = upd s.seq ch (fun q => { q with pstate := 1, gen := q.gen + 1, loading := none }))) ∧
  (∀ (s : State) (ch : Fin 64),
    (∀ x, s.missAt ch = some x → s.ready ch = true → s.hasRoom ch = true → let m := s.issueAt ch
      ∃ t, exec (.panMiss ch) s = .next t ∧ m ≤ t.time.count ∧
        (∃ f ∈ t.store[clusterOf ch].work, f.repair = true ∧ f.pan = x.pan.toNat) ∧
        (s.nat (chIdx ch) 0x1E = 0 → t.seq[ch] = { s.seq[ch] with pstate := 5, wait := .none, parkAt := some ((m + 4) * 3200) } ∧
          t.edge[ch].fifo = cancelFifo ((m + 4) * 3200) s.edge[ch].fifo) ∧
        (s.nat (chIdx ch) 0x1E ≠ 0 → t.seq[ch] = { s.seq[ch] with pstate := 3, wait := .repair x m } ∧
          t.edge[ch].fifo = s.edge[ch].fifo) ∧
        (∀ k, k ≠ ch → t.seq[k] = s.seq[k]) ∧ DataPlaneOnly s t) ∧
    (∀ x, s.seq[ch].parkAt = some x → ∃ t, exec (.missPark ch) s = .next t ∧ t.seq[ch].parkAt = none ∧
      t.edge[ch].progState = .park ∧ t.edge[ch].fifo = s.edge[ch].fifo ∧ (∀ k, k ≠ ch → t.edge[k].fifo = s.edge[k].fifo ∧ t.edge[k].progState = s.edge[k].progState) ∧
      DataPlaneOnly s t)) ∧
  ((∀ (s : State) (cl : Fin 4) (f : Fetch) (l rest : List Fetch), s.store[cl].work = l ++ f :: rest → (∀ g ∈ l, g.repair = false) →
    f.repair = true → f ∉ rest → ∃ t, exec (.repairComplete cl) s = .next t ∧ t.store[cl].work = rest ∧
      t.store[cl].repairCount = s.store[cl].repairCount + 1 ∧ (∀ ch : Fin 64, clusterOf ch ≠ cl → t.seq[ch] = s.seq[ch]) ∧
      t = { s with store := t.store, seq := t.seq, edge := t.edge, health := t.health, merger := t.merger, own := t.own }) ∧
  (∀ (s : State) (ch : Fin 64) (x : Target) (m : TE), s.seq[ch].wait = .repair x m →
    (s.salternBad x = false → (afterRepair x.pan.toNat ch s).seq[ch] = { s.seq[ch] with
      pstate := 2, wait := .none, nextIssue := max s.seq[ch].nextIssue s.now }) ∧
    (s.salternBad x = true → (afterRepair x.pan.toNat ch s).seq[ch] = { s.seq[ch] with
      pstate := 5, wait := .none, parkAt := some ((s.now + 4) * 3200) })))

/-- R153, R192: LOAD on a disabled channel in program mode while its cluster checks no other Load begins the check of the program at the
entry point; the host-owned Pans that the walk has reached by then, the entry point's first and a free number more (log entry 124), pass
to the device.
R153, R164, R188, R192, R199, R200: the end of a check, which takes the host-owned Pans that it had not reached: a word that fails decoding is named and answered 0x0302_0000; a refusal gives its reason
and word and is answered 0x0501_0000; either leaves the channel without a program. An admitted program replaces the channel's, and its
Load is answered after the pin loads. -/
def Obligations.sluice : Prop :=
  (∀ (s : State) (r : Requester) (ch : Fin 64), Admitted s (seqIdx ch) 2 .wo → s.onOrStaged (chIdx ch) 2 = false →
    s.nat (chIdx ch) 1 = 2 → s.store[clusterOf ch].check = none →
    let taken := ((walkFrom s ch (s.entryPoint ch)).pans.take (Config.checkReach s.free + 1)).filter (fun p => (s.flag p).owner = .host)
    ∃ t, exec (.load r ch) s = .next t ∧
      t.store = upd s.store (clusterOf ch) (fun u => { u with
        check := some { ch := ch, entry := targetOf (s.entryPoint ch), req := r, taken := taken } }) ∧
      (∀ p ∈ taken, (t.flag p).owner = .device ∨ (t.flag p).owner = .frozen) ∧
      t = { s with own := t.own, store := t.store, health := t.health, merger := t.merger, free := s.free + 1 }) ∧
  (∀ (s : State) (cl : Fin 4) (c : LoadCheck), s.store[cl].check = some c → clusterOf c.ch = cl →
    let w := walkFrom (s.updStore cl (fun x => { x with check := none })) c.ch (targetCode c.entry)
    let (more, u) := reachPans w.pans (s.updStore cl (fun x => { x with check := none }))
    let v := u.updSeq c.ch (fun q => { q with refused := 0xFFFFFFFF })
    (∀ p ∈ w.pans, (u.flag p).owner ≠ .host) ∧
    ∃ t, exec (.sluiceCheckComplete cl) s = .next t ∧ t.store[cl].check = none ∧ t.mem = s.mem ∧ t.od = s.od ∧
      (∀ k, k ≠ c.ch → t.seq[k] = s.seq[k]) ∧
      (∀ b, w.bad = some b → t.seq[c.ch].refused = BitVec.ofNat 32 b ∧ t.seq[c.ch].pstate = 0 ∧ t.seq[c.ch].panSet = [] ∧
        t.answer.status = 0x03020000) ∧
      (∀ a b, w.bad = none → admissionOf v c.ch (targetCode c.entry) (c.taken ++ more) w = .error (a, b) → t.store[cl].reason = a ∧
        t.store[cl].refCh = c.ch.val ∧ t.store[cl].refWord = BitVec.ofNat 32 b ∧
        t.store[cl].refusals = s.store[cl].refusals + 1 ∧ t.seq[c.ch].pstate = 0 ∧ t.seq[c.ch].panSet = [] ∧
        t.answer.status = 0x05010000) ∧
      (∀ a, w.bad = none → admissionOf v c.ch (targetCode c.entry) (c.taken ++ more) w = .ok a → t.seq[c.ch].pstate = 0 ∧ t.seq[c.ch].panSet = a.set ∧
        t.seq[c.ch].streamed = a.streamed ∧ t.seq[c.ch].demand = a.demand ∧ t.seq[c.ch].loading = some c.req))

/-- R203, R274, R352: each slot command serves the next entry of its table that has not been served: the CLK_C cycle, or the T_E at offset
32e + 8·cl of the superframe. A statistics entry of a group whose interval stands at the head of a FIFO takes it (that only the head
counts is the model's choice, log entry 54): a running run counts one of its mask, and the rest of the machine is as before. An egress entry of a channel, or of a sender, takes the first item of
its queue, which joins the class queue of every UP port (R337): a code in the tree, where it counts as sent, a Gust unless ALONE or
a candidate with a smaller key is held (R355). -/
def Obligations.slots : Prop :=
  ∀ (s : State) (cl : Fin 4),
    (∃ t, exec (.statisticsSlot cl) s = .next t ∧
      t.store[cl].statAt = some (nextCycle s.now s.store[cl].statAt) ∧ DataPlaneOnly s t) ∧
    (let n := nextCycle s.now s.store[cl].statAt
     let u := (s.reach (2 * n)).updStore cl (fun x => { x with statAt := some n })
     let code := field (u.od.bytes (clIdx cl 2) 2) (n % 64) 1
     (∀ (g i : Fin 32), code < 8 → g.val = 8 * cl.val + code → u.statInput g = some i →
       exec (.statisticsSlot cl) s = .next (takeInterval g i u.now u)) ∧
     (8 ≤ code ∨ (∀ g : Fin 32, g.val = 8 * cl.val + code → u.statInput g = none) →
       exec (.statisticsSlot cl) s = .next u)) ∧
    (let a := nextEgress cl s.now s.store[cl].egressAt
     let code := field (s.od.bytes (clIdx cl 2) 3) (a % 256 / 32) 1
     let u := s.reach a
     let reaches (t : State) (i : EgressItem) : Prop := ∀ n : Fin 8,
       let leaves : Bool := (s.ports.contains n && u.port[n].st == .up) && match i with
         | .code _ _ _ => u.inTree
         | .gust _ g x => u.fab.state != 0 && !u.armg[g].cand.any (fun k => keyLess k (x, u.fab.nodeId))
       t.port[n] = if leaves then (match i with
         | .code w c hops => sendCodeOn w c hops n u
         | .gust q g x => sendOn (.gust (gustItem u q g x)) n u).port[n] else u.port[n]
     ∃ t, exec (.egressSlot cl) s = .next t ∧ t.store[cl].egressAt = some a ∧ a % 32 = 8 * cl.val ∧ s.now ≤ a ∧
      (∀ (ch : Fin 64) i rest, code < 16 → ch.val = 16 * cl.val + code → u.gustq[ch].items = i :: rest →
        t.gustq[ch] = { items := rest, sent := u.gustq[ch].sent + 1 } ∧ reaches t i) ∧
      (∀ (k : Fin 32) i rest, 16 ≤ code → code < 24 → k.val = 8 * cl.val + (code - 16) → u.sender[k].items = i :: rest →
        t.sender[k] = { items := rest, sent := if u.inTree then u.sender[k].sent + 1 else u.sender[k].sent } ∧ reaches t i) ∧
      DataPlaneOnly { s with port := t.port, gustq := t.gustq } t) ∧
    (∀ (g i : Fin 32) (t : TE) hit v tmo st gen lull rec rest, s.sti[i].fifo = .interval g hit v tmo st gen lull rec true :: rest →
      s.stat[g].opened = true → bit (s.nat (grpIdx g) 0x13) hit = true → s.stat[g].taken + 1 < s.nat (grpIdx g) 0x12 →
      (takeInterval g i t s).stat = upd s.stat g (fun x => x.take v tmo))

/-- R232, R236, R237, R238, R240: a crossing at an input of the part that is in service is timed by its lines; what selects it is judged
by its ZTIME, at once or, where that lies in the next T_E, when that comes. A crossing of a selected slope is stamped and numbered, and the
input is dead for 2 T_E from its ZTIME; within the dead time it merges into the stamp before, and within blanking it is counted as blanked.
One that is not selected changes nothing.
R245, R248: MEASUREMENT_TIMEOUT forms a timeout interval for each stop that is missing from the group's first closed window, 2 T_E
after the T_E of its closing, with those of the other groups whose windows closed in that T_E, whose own commands then find them done
(log entry 122); each timeout interval that is formed counts as missing, and as no near interval.
R278, R408, R413: a restart of statistics that are configured joins the commit set of the next usable boundary and answers its Tide,
counted as carried over when it comes after a cutoff; it is refused when the set holds 512 entries, which it counts among. That the
staged value of 0x4400+0x20·g:10 decides whether statistics are configured is the model's choice (log entry 54). -/
def Obligations.stamp_inputs_and_groups : Prop :=
  ((∀ (s : State) (i : Fin 32) (rising : Bool) (taps : List (Option (Fin 384))),
    let on := i.val < 8 * s.part.clusters ∧ s.time.running = true ∧ s.sti[i].cal.calState ≠ 5
    let x := (stampAt i taps s.settle).1
    let u := (stampAt i taps s.settle).2
    (¬ on → exec (.stiEdge i rising taps) s = .next s) ∧
    (on → s.now < x / 3200 → exec (.stiEdge i rising taps) s = .next (addDue [(s.now + 1, .edge i rising x taps)] u)) ∧
    (on → x / 3200 ≤ s.now → exec (.stiEdge i rising taps) s = .next (takeEdge i rising x u)) ∧
    x / 3200 ≤ s.now + 1 ∧ DataPlaneOnly s u) ∧
  (∀ (s : State) (i : Fin 32) (rising : Bool) (y : Instant) (taps : List (Option (Fin 384))) (a : TE),
    let t := doDue (a, .edge i rising y taps) s
    let x := s.placedAgain i y taps
    let u := s.sti[i]
    (s.gateOpen i rising (x / 3200) = false ∨ u.cal.calState = 5 → t = s) ∧
    (s.gateOpen i rising (x / 3200) = true → u.cal.calState ≠ 5 →
      (u.blankUntil * 3200 ≤ x + 8000000 → x < u.blankUntil * 3200 → t = s.updSti i (fun v => { v with blanked := v.blanked + 1 })) ∧
      (x + 8000000 < u.blankUntil * 3200 ∨ u.blankUntil * 3200 ≤ x →
        (x < u.dead → t = s.updSti i (fun v => { v with merged := v.merged + 1 })) ∧
        (u.dead ≤ x → t.sti = upd s.sti i (fun v => { v with
        last := some x, dead := x + 6400, seq := v.seq + 1, converted := v.converted + 1 }) ∧ DataPlaneOnly s t))))) ∧
  (∀ (s : State) (g : Fin 32),
    (0 < s.settle.grp[g].formed → exec (.measurementTimeout g) s = .next (s.settle.updGrp g (fun q => { q with formed := q.formed - 1 }))) ∧
    (s.settle.grp[g].formed = 0 → s.settle.grp[g].nextClose = none → exec (.measurementTimeout g) s = .next s) ∧
    (∀ (m : Measurement) (rest : List Measurement), let v := m.close / 3200 + 2
      s.settle.grp[g].formed = 0 → s.settle.grp[g].nextClose = some m.close →
      (judgeGroup ((v - 1) * 3200) g (s.reach (v - 1))).grp[g].closing = m :: rest → ∃ w : State,
      exec (.measurementTimeout g) s = .next (w.reach v) ∧ v ≤ (w.reach v).now ∧ DataPlaneOnly s (w.reach v) ∧
      ∀ h ∈ m.expected, h ∉ m.taken → (v, LineDue.interval g m h ((m.close : Int) - m.start) true) ∈ w.line) ∧
    (∀ (m : Measurement) (h : Nat) (x : Int) (v : TE), let t := formInterval g m h x true v s
      t.grp[g].missing = s.grp[g].missing + 1 ∧ t.grp[g].near = s.grp[g].near ∧ (∀ k, k ≠ g → t.grp[k] = s.grp[k]) ∧
      DataPlaneOnly s t)) ∧
  (∀ (s : State) (r : Requester) (g : Fin 32), Admitted s (grpIdx g) 0x14 .wo → s.staged.nat (grpIdx g) 0x10 ≠ 0 →
    (s.commits.size s.nextTide < 512 → exec (.statisticsRestart r g) s = .next { s with
      commits := { s.commits with
        restart := s.commits.restart ++ [(g.val, usableBoundary s.now)]
        carried := if s.nextTide = s.now / 1000000 + 1 then s.commits.carried else s.commits.carried + 1 }
      answer := { status := 0, tide := tideWord (usableBoundary s.now), payload := [] } }) ∧
    (512 ≤ s.commits.size s.nextTide → ∃ t, exec (.statisticsRestart r g) s = .next t ∧ t.answer.status = 0x04030000 ∧
      t = { s with answer := t.answer, merger := t.merger }))

/-- R369, R370, R374: what the host may do to a flag: a free Pan becomes the host's and a host's Pan free, or the device's for a spill ring, with
the next generation number; writing the value in force changes nothing; a flag that the device has just changed makes any other write stale.
R370, R375, R393, R394: a flag write is carried out, and answered, as R370 judges it: an accepted one takes its flag, one that violates
leaves every flag as it was, is counted and answered 0x0601_0000.
R372, R375, R376: a host block of 64 bytes into a Pan that is free or the host's writes the enabled bytes, at its own addresses, and no
other byte; into a device-owned or frozen Pan it writes nothing and is a violation. Beyond 8 MiB, or in D3hot, it writes nothing and is
reported as unsupported (R379, R393; the model's choice, log entries 88 and 92); in BOOT and LOAD nothing happens (log entry 25).
R375, R391: PAN_DATA writes the 4,096 bytes of the selected Pan when it is free or the host's; every byte of other Pans, and every flag,
is as before. -/
def Obligations.flags_and_host_data : Prop :=
  (∀ (s : State) (p : Nat) (v : Byte),
    (v = (s.flag p).byte → s.judgeFlag p v = .unchanged) ∧
    (∀ f, s.judgeFlag p v = .accepted f → f.gen = (s.flag p).gen + 1 ∧ f.owner = Owner.ofCode v.toNat ∧
      (((s.flag p).owner = .free ∧ f.owner = .host ∧ f.use = (s.flag p).use) ∨
        ((s.flag p).owner = .host ∧ f.owner = .free ∧ f.use = (s.flag p).use) ∨
        ((s.flag p).owner = .host ∧ f.owner = .device ∧ (s.spillEngine p).isSome = true))) ∧
    (v ≠ (s.flag p).byte → (s.flag p).owner = .device ∨ (s.flag p).owner = .frozen →
      s.judgeFlag p v = .violates (if s.justChanged p then 3 else 2))) ∧
  (∀ (s : State) (r : Requester) (p : BitVec 11) (v : Byte), Admitted s 0x7001 3 .wo → p ≠ 0 → assocSorted s.own = true →
    (s.judgeFlag p.toNat v = .unchanged → exec (.flagWrite r p v) s = .next { s with answer := granted0 }) ∧
    (∀ f, s.judgeFlag p.toNat v = .accepted f → ∃ t, exec (.flagWrite r p v) s = .next t ∧ t.answer = granted0 ∧
      t.flag p.toNat = f ∧ (∀ q, q ≠ p.toNat → t.flag q = s.flag q) ∧ t = { s with own := t.own, answer := t.answer }) ∧
    (∀ k, s.judgeFlag p.toNat v = .violates k → ∃ t, exec (.flagWrite r p v) s = .next t ∧ t.answer.status = 0x06010000 ∧
      t.own = s.own ∧ t.host.violations = s.host.violations + 1 ∧ t.host.alertStatus = s.host.alertStatus ||| 8 ∧
      t = { s with host := t.host, pins := t.pins, merger := t.merger, answer := t.answer })) ∧
  (∀ (s : State) (block : Nat) (bs : List (Option Byte)),
    (s.dev.st = .boot ∨ s.dev.st = .load → exec (.hostBlockWrite block bs) s = .next s) ∧
    (s.dev.st ≠ .boot → s.dev.st ≠ .load → s.host.config.d3hot = true ∨ 131072 ≤ block →
      ∃ t, exec (.hostBlockWrite block bs) s = .next t ∧
        t.host = { s.host with config := { s.host.config with aerStatus := s.host.config.aerStatus ||| 0x100000 } } ∧
        ((499, 4) ∉ s.merger.once → Raised t s.nowAt 499 (4 + s.host.width.toNat * 16 + s.host.speed.toNat * 256)) ∧
        t = { s with host := t.host, merger := t.merger }) ∧
    (block < 131072 → s.pcieOpen = true → 64 ≤ block → s.hostWritable (block / 64) = true → bs.length = 64 →
      Memory.wf s.mem = true → s.health.poisoned = [] → s.health.errs = [] →
      ∃ t, exec (.hostBlockWrite block bs) s = .next t ∧
        (∀ i : Nat, i < 64 → t.byte (64 * block + i) = (bs.getD i none).getD (s.byte (64 * block + i))) ∧
        (∀ a : Nat, a < 64 * block ∨ 64 * block + 64 ≤ a → t.byte a = s.byte a) ∧
        t = { s with mem := t.mem, health := t.health }) ∧
    (block < 131072 → s.pcieOpen = true → 64 ≤ block → s.hostWritable (block / 64) = false → (∃ b ∈ bs, b.isSome = true) →
      ∃ t, exec (.hostBlockWrite block bs) s = .next t ∧ t.host.violations = s.host.violations + 1 ∧
        t = { s with host := t.host, pins := t.pins, merger := t.merger })) ∧
  (∀ (s : State) (r : Requester) (data : List Byte), let p := s.nat 0x7001 1
    0 < p → p < 2048 → Memory.wf s.mem = true → Admitted s 0x7001 2 .rw → data.length = 4096 → s.hostWritable p = true →
      ∃ t, exec (.panData r data) s = .next t ∧ t.answer = granted0 ∧
        (∀ i : Nat, i < 4096 → t.byte (4096 * p + i) = data.getD i 0) ∧
        (∀ a : Nat, a < 4096 * p ∨ 4096 * p + 4096 ≤ a → t.byte a = s.byte a) ∧
        t = { s with mem := t.mem, health := t.health, answer := t.answer })

/-- R378: a write of 1 to 0x7001:04 thaws the selected frozen Pan: its bytes are 0, its owner the host at generation + 1, its use 0; every byte
of other Pans, and every other flag, is as before. It is refused with 0x0402_0000 when the Pan is not frozen, is Pan 0, or is held by an
admitted program, and with 0x0302_0000 for a value of 0. -/
def Obligations.thaw : Prop :=
  ∀ (s : State) (r : Requester), let p := s.nat 0x7001 1
    (p < 2048 → Memory.wf s.mem = true → Admitted s 0x7001 4 .wo →
      ((s.flag p).owner = .frozen → p ≠ 0 → s.heldByProgram p = false →
        ∃ t, exec (.thaw r) s = .next t ∧ t.answer = granted0 ∧ t.flag p = { owner := .host, gen := (s.flag p).gen + 1, use := 0, changed := some s.now } ∧
          (∀ q, q ≠ p → t.flag q = s.flag q) ∧ (∀ i : Nat, i < 4096 → t.byte (4096 * p + i) = 0) ∧
          (∀ a : Nat, (4096 ≤ a ∧ a < 4096 * p) ∨ 4096 * p + 4096 ≤ a → t.byte a = s.byte a) ∧
          t = { s with mem := t.mem, own := t.own, health := t.health, answer := t.answer }) ∧
      ((s.flag p).owner ≠ .frozen ∨ p = 0 ∨ s.heldByProgram p = true →
        ∃ t, exec (.thaw r) s = .next t ∧ t.answer.status = 0x04020000 ∧ t = { s with answer := t.answer, merger := t.merger })) ∧
    (s.dev.st ≠ .boot → ∃ t, exec (.odWrite r 0x7001 4 [0] false) s = .next t ∧ t.answer.status = 0x03020000 ∧
      t = { s with answer := t.answer })

/-- R371, R422: a Saltern transfer into an object with host-owned Pans that hold no error is a write of their bytes to the object; its Pans are
the host's again, two generations on. One from a DOMAIN object copies its value into the Pans; that it leaves the rest of the last Pan is
the model's choice (log entry 77). -/
def Obligations.saltern_transfer : Prop :=
  ∀ (s : State) (r : Requester) (idx : W16) (sub : Byte) (first : W16) (len : W32),
    let k := (len.toNat + 4095) / 4096
    let pans := (List.range k).map (first.toNat + ·)
    s.dev.st ≠ .boot → s.dev.st ≠ .load → 1 ≤ first.toNat → first.toNat ≤ 2047 → first.toNat + k ≤ 2048 → idx ≠ 0x1302 → s.allHost pans = true →
    s.health.errs = [] → s.health.poisoned = [] →
    (∀ e, odEntry s.part idx.toNat sub.toNat = some e → e.type.isDomain = true →
      ∃ u, exec (.salternTransfer r idx sub 0 first len) s =
          exec (.odWrite r idx sub (s.readBytes (4096 * first.toNat) len.toNat) false) u ∧
        (∀ p ∈ pans, u.flag p = { owner := .host, gen := (s.flag p).gen + 2, use := 0, changed := some s.now }) ∧
        (∀ p, p ∉ pans → u.flag p = s.flag p) ∧ u = { s with own := u.own }) ∧
    (∀ e v, s.readable r idx.toNat sub.toNat false len.toNat = .ok (e, v) → e.type.isDomain = true → s.parity = [] →
      Memory.wf s.mem = true →
      ∃ t, exec (.salternTransfer r idx sub 1 first len) s = .next t ∧ t.answer = granted0 ∧
        (∀ i : Nat, i < v.length → t.byte (4096 * first.toNat + i) = v.getD i 0) ∧
        (∀ a : Nat, (4096 ≤ a ∧ a < 4096 * first.toNat) ∨ 4096 * first.toNat + v.length ≤ a → t.byte a = s.byte a) ∧
        (∀ p ∈ pans, t.flag p = { owner := .host, gen := (s.flag p).gen + 2, use := 0, changed := some s.now }) ∧ t.od = s.od)

/-- R366: memory reads back what was written, at that address alone, and keeps its canonical form; Pan 0 shows the ownership store.
R371: a Pan handed over takes its new owner and use and the next generation number; every other Pan keeps its flag, and the Saltern's
bytes are as before. -/
def Obligations.memory_laws : Prop :=
  ((∀ (m : List Host.Cell) (a : Nat) (b : Byte), Memory.wf m = true → 4096 ≤ a → a < 8388608 →
    Memory.wf (Memory.put m a b) = true ∧ (assocFind (Memory.put m a b) a).getD 0 = b ∧
    ∀ c, c ≠ a → assocFind (Memory.put m a b) c = assocFind m c) ∧
  (∀ (s : State) (p : Nat), p < 2048 → s.byte p = (s.flag p).byte ∧ s.byte (2048 + p) = (s.flag p).use)) ∧
  (∀ (s : State) (p : Nat) (o : Owner) (use : Byte), o ≠ .free →
    (s.handOver p o use).flag p = { owner := o, gen := (s.flag p).gen + 1, use := use, changed := some s.now } ∧
    (∀ q, q ≠ p → (s.handOver p o use).flag q = s.flag q) ∧
    (∀ a, 4096 ≤ a → (s.handOver p o use).byte a = s.byte a) ∧
    ((s.flag p).owner ≠ .device → s.givePan p = s))

/-- The memory of the Saltern keeps its canonical form in every step, from every state. -/
def Obligations.memory_form_kept : Prop :=
  ∀ s t : State, Memory.wf s.mem = true → StepsOn s t → Memory.wf t.mem = true

/-- R377, R463: a BAR2 read of at most 4,096 bytes within a 4 KiB page delivers the bytes of its addresses in completions of at most
64, a poisoned word as 0xBAD0_BAD0 in a poisoned TLP, which is reported; it writes no byte. A longer one is malformed, one beyond the 8
MiB unsupported: reported, no more (R379, R393; the model's choice, log entry 88).
R381, R383, R384, R388, R393: the BAR0 registers, once the device has left LOAD: EVR_CONS frees records up to EVR_PROD, a value beyond it
changes nothing and is reported; a read of EVR_PROD latches EVR_TIDE; ALERT_STATUS bits written 1 clear; a word of the MSI-X table takes
its value, any other word of BAR0 discards it (the ALERT_ENABLE row carries these writes: log entry 92); MBX_ACK releases the response.
R379, R380, R383, R393: PERST_N resets the endpoint with its configuration space and MSI-X table and nothing else; a link change is
kept, while the device is powered, and both are reported; a configuration request gets retry status until the device has left LOAD, and is
then served. Vectors that can be sent by then are sent. That every vector is masked after PERST_N (log entry 67), and the fields of the
configuration space (log entry 92), are the model's choice. -/
def Obligations.pci_express : Prop :=
  (∀ (s : State) (a n : Nat), s.pcieOpen = true →
    let fits := n ≤ 4096 ∧ a % 4096 + n ≤ 4096
    let reported (t : State) (k : Nat) : Prop :=
      (499, k) ∉ s.merger.once → Raised t s.nowAt 499 (k + s.host.width.toNat * 16 + s.host.speed.toNat * 256)
    (fits → a + n ≤ 8388608 → ∃ t, exec (.bar2Read a n) s = .next t ∧ t.host.lastRead.length = n ∧ t.mem = s.mem ∧
      t.host = { s.host with completions := t.host.completions } ∧
      t = { s with host := t.host, health := t.health, merger := t.merger, own := t.own }) ∧
    (fits → a + n ≤ 8388608 → s.health.errs = [] → ∃ t, exec (.bar2Read a n) s = .next t ∧
      t.host.lastRead = (List.range n).map (fun i => s.tlpByte (a + i)) ∧
      (∀ c ∈ t.host.completions, 0 < c.bytes.length ∧ c.bytes.length ≤ 64) ∧
      (t.host.poisonedTlp = true ↔ ∃ i, i < n ∧ s.isPoisoned (salternWord ((a + i) / 4)) = true) ∧
      (t.host.poisonedTlp = true → reported t 7) ∧ t = { s with host := t.host, merger := t.merger }) ∧
    (¬fits ∨ 8388608 < a + n → ∃ t, exec (.bar2Read a n) s = .next t ∧ reported t 4 ∧
      t.host = { s.host with config := { s.host.config with
        aerStatus := s.host.config.aerStatus ||| if n ≤ 4096 ∧ a % 4096 + n ≤ 4096 then 0x100000 else 0x40000 } } ∧
      t = { s with host := t.host, merger := t.merger }) ∧
    (∀ i : Nat, s.isPoisoned (salternWord (i / 4)) = false → s.tlpByte i = s.byte i)) ∧
  (∀ s : State, s.pcieOpen = true →
    (∀ v : W32, let u := takePending s
      ((v - u.ring.cons).toNat ≤ (u.ring.prod - u.ring.cons).toNat →
        exec (.evrCons v) s = .next { u with ring := { u.ring with cons := v } }) ∧
      ((u.ring.prod - u.ring.cons).toNat < (v - u.ring.cons).toNat → ∃ t, exec (.evrCons v) s = .next t ∧
        ((499, 6) ∉ u.merger.once → Raised t u.nowAt 499 (6 + u.host.width.toNat * 16 + u.host.speed.toNat * 256)) ∧
        t = { u with merger := t.merger })) ∧
    (∃ t, exec .evrProd s = .next t ∧ t.ring.tideRead = s.ring.tide ∧ t = { s with ring := t.ring }) ∧
    (∀ v : W32, ∃ t, exec (.alertStatus v) s = .next t ∧ t.host = { s.host with
        alertStatus := s.host.alertStatus &&& ~~~(v.setWidth 4) } ∧ t = { s with host := t.host, pins := t.pins } ∧
      (s.boot.power = .running → (t.pins.alertN = .low ↔ t.host.alertStatus &&& t.host.alertEnable ≠ 0))) ∧
    (∀ v : W32, ∃ t, exec (.alertEnable v) s = .next t ∧ t.host = { s.host with alertEnable := v.setWidth 4 } ∧
      t = { s with host := t.host, pins := t.pins } ∧
      (s.boot.power = .running → (t.pins.alertN = .low ↔ t.host.alertStatus &&& t.host.alertEnable ≠ 0))) ∧
    (∀ (v : W32) (k : Nat), k < 128 → exec (.alertEnable v (0x2000 + 4 * k)) s = .next { s with host := msixWrite (4 * k) v s.host }) ∧
    (∀ (v : W32) (k : Nat), k ≠ 0x14 → k < 0x2000 ∨ 0x2200 ≤ k → exec (.alertEnable v k) s = .next s) ∧
    exec .mbxAck s = .next { s with host := { s.host with mbxReady := false, mbxResponse := [] } }) ∧
  ((∀ s : State,
    let reported (t : State) (k w v : Nat) : Prop := (499, k) ∉ s.merger.once → Raised t s.nowAt 499 (k + w * 16 + v * 256)
    (∃ t, exec .perstN s = .next t ∧ t.host.msixPending = 0 ∧ (∀ k : Fin 32, t.host.msixTable[k] = BitVec.ofNat 128 (2 ^ 96)) ∧
      t.host.config = {} ∧ reported t 3 s.host.width.toNat s.host.speed.toNat ∧
      t.host.mbxBusy = s.host.mbxBusy ∧ t.host.mbxResponse = s.host.mbxResponse ∧ t = { s with host := t.host, merger := t.merger }) ∧
    (∀ up w v, s.boot.power = .running → ∃ t, exec (.pcieLinkChange up w v) s = .next t ∧
      t.host = HostIf.sendPending { s.host with linkUp := up, width := w, speed := v } ∧
      reported t (if up then 1 else 2) w.toNat v.toNat ∧ t = { s with host := t.host, merger := t.merger }) ∧
    (∀ up w v, s.boot.power ≠ .running → exec (.pcieLinkChange up w v) s = .next s) ∧
    (∀ g x, s.dev.st = .boot ∨ s.dev.st = .load →
      exec (.configurationRequest g x) s = .next { s with host := { s.host with crs := true } }) ∧
    (∀ g, s.dev.st ≠ .boot → s.dev.st ≠ .load → exec (.configurationRequest g none) s =
      .next { s with host := { s.host with crs := false, configRead := s.configWord g } }) ∧
    (∀ g x, s.dev.st ≠ .boot → s.dev.st ≠ .load → exec (.configurationRequest g (some x)) s =
      .next { s with host := HostIf.sendPending { s.host with crs := false, config := s.host.config.write g x } }) ∧
    s.configWord .deviceId = s.part.product ∧ s.configWord .classCode = 0x118000) ∧
  (∀ (h : HostIf) (v : Fin 32), h.msixPending.getLsbD v.val = true →
    (h.sends v = true → h.sendPending.msixPending.getLsbD v.val = false ∧ (MsixWrite.mk v.val (h.msixTable[v].setWidth 64)
      ((h.msixTable[v] >>> 64).setWidth 32)) ∈ h.sendPending.msixSent) ∧
    (h.sends v = false → h.sendPending.msixPending.getLsbD v.val = true)))

/-- R66, R68: the events of a batch are taken in the order of their key, and none is lost or made up.
R66, R68, R383, R387: the oldest ended Tide's batch closes no earlier than 80 T_E after its boundary and waits for publication under its Tide
number; a published batch leaves the list, with the ring on EVR_PROD and EVR_TIDE show it, and vector 1 is sent for one that is not
empty, or becomes pending where it cannot be sent. -/
def Obligations.batches : Prop :=
  (∀ l : List Event, (sortEvents l).Perm l ∧ (sortEvents l).Pairwise (fun a b => b.before a = false)) ∧
  (∀ s : State,
    (∀ b rest, s.merger.ended = b :: rest → ∃ t x, exec .batchClose s = .next t ∧ b.at_ + 80 ≤ t.time.count ∧
      t.merger.closed = s.merger.closed ++ [x] ∧ x.tide = b.tide ∧ t.merger.ended.length = rest.length ∧
      t.merger.taken = [] ∧ t.od = s.od) ∧
    (∀ b rest, s.merger.closed = b :: rest → ∃ t, exec .batchPublish s = .next t ∧ t.merger.closed = rest ∧
      (s.ring.on = true → t.ring = { s.ring with prod := b.past, tide := b.tide }) ∧ (s.ring.on = false → t.ring = s.ring) ∧
      (b.events ≠ [] → s.host.sends 1 = false → t.host.msixPending.getLsbD 1 = true) ∧
      (b.events ≠ [] → s.host.sends 1 = true → t.host.msixPending.getLsbD 1 = false ∧
        (MsixWrite.mk 1 (s.host.msixTable[1].setWidth 64) ((s.host.msixTable[1] >>> 64).setWidth 32)) ∈ t.host.msixSent) ∧
      t = { s with merger := t.merger, ring := t.ring, host := t.host, pins := t.pins, spi := t.spi, kpp := t.kpp }))

/-- R353: on the root a written mask issues a Front with the next sequence number for T_arm = now + lead, handed to every UP port and waiting
for its T_arm on the root itself.
R353, R354: at T_arm an accepted Front arms exactly the groups of its mask with its sequence and latency; a Front that is not newer, on a
node that has accepted one since it joined, changes no group. -/
def Obligations.fronts : Prop :=
  (∀ (s : State) (r : Requester) (mask : W16), Admitted s 0x6400 2 .wo → mask ≠ 0 → s.fab.state = 3 →
    120 * s.fab.maxDepth.toNat + 16 ≤ s.nat 0x6400 1 →
    let f : FrontItem := { sequence := s.fab.frontSeq + 1, mask := mask, latency := BitVec.ofNat 16 (s.nat 0x6400 1)
                           armAt := BitVec.ofNat 32 ((s.now + s.nat 0x6400 1) % 2 ^ 52), crcOk := true }
    ∃ t, exec (.issueFront r mask) s = .next t ∧ t.answer = granted0 ∧
      t.fab = { s.fab with frontSeq := f.sequence, frontWait := s.fab.frontWait ++ [(f, s.now + s.nat 0x6400 1)] } ∧
      (∀ n : Fin 8, t.port[n] = { s.port[n] with
        tx := if n ∈ s.upPorts then s.port[n].tx ++ [.front f] else s.port[n].tx }) ∧
      t = { s with fab := t.fab, port := t.port, answer := t.answer }) ∧
  (∀ (s : State) (f : FrontItem) (a : TE), earliest s.fab.frontWait = some (f, a) →
    ∃ t, exec .frontAccept s = .next t ∧ a ≤ t.time.count ∧ t.fab.frontWait = s.fab.frontWait.erase (f, a) ∧
      (s.fab.state = 3 ∨ s.fab.frontFresh = true ∨ newer 8 f.sequence.toNat s.fab.frontSeq.toNat = true →
        (∀ g : Fin 16, bit f.mask.toNat g.val = true → t.armg[g].armed = true ∧ t.armg[g].executed = false ∧
          t.armg[g].seq = f.sequence ∧ t.armg[g].latency = f.latency.toNat ∧ t.armg[g].cand = none ∧ t.armg[g].winner = none) ∧
        (∀ g : Fin 16, bit f.mask.toNat g.val = false → t.armg[g] = s.armg[g]) ∧ t.fab.frontFresh = false) ∧
      (¬ (s.fab.state = 3 ∨ s.fab.frontFresh = true ∨ newer 8 f.sequence.toNat s.fab.frontSeq.toNat = true) → t.armg = s.armg) ∧
      DataPlaneOnly { s with armg := t.armg } t)

/-- R354, R356: a group's candidate executes at T_fire + L; the group is unarmed then, the candidate its winner, and 497 kind 1 is raised.
R356: of two candidates of one arming the one with the smaller (T_fire, node) stays and the other is counted as lost; a Gust of another
sequence, or of a group that is neither armed with it nor has executed it, changes no group.
R170, R189, R351: the code with the earliest due T_E is delivered there once, and counted; a matcher of a crossbar shows it exactly when
code and mask meet it (unless another code of that T_E has shown there already). -/
def Obligations.gusts_and_codes : Prop :=
  (∀ (s : State) (g : Fin 16) (c : Instant × W16), s.armg[g].cand = some c → let x := c.1 + s.armg[g].latency * 3200
    ∃ t, exec (.gustExecute g) s = .next t ∧ t.armg[g] = { s.armg[g] with
        armed := false, executed := true, cand := none, winner := some c, execs := s.armg[g].execs + 1 } ∧
      (∀ k, k ≠ g → t.armg[k] = s.armg[k]) ∧ t.time.count = max s.time.count (x / 3200) ∧
      (∃ l, t.fab.gustRuns = (x, g, true) :: l) ∧
      Raised t x 497 (1 + g.val * 2 ^ 4 + c.2.toNat % 2 ^ 14 * 2 ^ 8 + s.armg[g].seq.toNat % 256 * 2 ^ 22) ∧
      DataPlaneOnly { s with armg := t.armg } t) ∧
  (∀ (s : State) (g : Fin 16) (seq : Byte) (k : Instant × W16),
    (s.staleGust g seq = true → (contest g seq k s).armg = s.armg) ∧
    (s.armg[g].executed = false → s.armg[g].armed = false → (contest g seq k s).armg = s.armg) ∧
    (s.staleGust g seq = false → s.armg[g].executed = false → s.armg[g].armed = true → s.nowAt + 51200 ≤ k.1 + s.armg[g].latency * 3200 →
      (s.armg[g].cand = none → (contest g seq k s).armg[g] = { s.armg[g] with cand := some k }) ∧
      (∀ c, s.armg[g].cand = some c → (contest g seq k s).armg[g] = { s.armg[g] with
        cand := some (if keyLess k c then k else c), lost := s.armg[g].lost + 1 })) ∧
    (∀ j, j ≠ g → (contest g seq k s).armg[j] = s.armg[j]) ∧
    contest g seq k s = { s with armg := (contest g seq k s).armg, merger := (contest g seq k s).merger }) ∧
  (∀ (s : State) (w : W16) (a : TE), earliest (s.fab.codesDue.map (fun p => (p.2, p.1))) = some (w, a) →
    ∃ t, exec .eventCodeDeliver s = .next t ∧ t.time.count = max s.time.count a ∧
      t.fab.delivered = s.fab.delivered + 1 ∧
      (∀ cl : Fin 4, cl.val < s.part.clusters → ∀ m : Fin 4,
        (matcherMeets (s.nat (clIdx cl 9) (1 + m.val)) w = true → a ∈ t.xbar[cl].matched[m]) ∧
        (a ∈ t.xbar[cl].matched[m] → matcherMeets (s.nat (clIdx cl 9) (1 + m.val)) w = true ∨
          a ∈ (s.reach a).xbar[cl].matched[m])) ∧
      DataPlaneOnly s t)

/-- R330, R331: a down cause takes a port that is not disabled to DOWN and is kept; when every cause has cleared the port trains again, and
comma alignment takes it on to HELLO. LOS and MODABS show at their balls.
R330, R332, R335: a HELLO with a good CRC on a port that seeks a peer, from a peer of the other role, is kept; with the seen bit the port
becomes UP, which is counted and reported. A bad CRC is discarded and counted; a peer of the same role makes the port MISMATCH, which
knows its peer (R362).
R335: an item with a bad CRC on a port that is UP is discarded and counted; on a port that is not UP nothing happens. (A time item
also closes the check of a frame: the next statement.) -/
def Obligations.ports : Prop :=
  (∀ (s : State) (n : Fin 8),
    (∀ c, n.val < 2 * s.part.clusters → s.port[n].st.active = true → ∃ t, exec (.linkDown n c) s = .next t ∧
      t.port[n].st = .down ∧ c ∈ t.port[n].causes ∧ t.port[n].tx = [] ∧ (c = .los → t.pins.los[n] = true) ∧
      (c = .modabs → t.pins.modabs[n] = true) ∧ t.mem = s.mem ∧ t.od = s.od ∧ t.own = s.own) ∧
    (∃ t, exec (.downCausesCleared n) s = .next t ∧ t.port[n] = { s.port[n] with
        causes := [], st := if s.port[n].st = .down then .training else s.port[n].st } ∧
      t.pins.los[n] = false ∧ t.pins.modabs[n] = false ∧
      (∀ k, k ≠ n → t.port[k] = s.port[k]) ∧ t = { s with port := t.port, pins := t.pins }) ∧
    (∃ t, exec (.commaAligned n) s = .next t ∧ t.port[n] = { s.port[n] with
        st := if s.port[n].st = .training then .hello else s.port[n].st } ∧
      (∀ k, k ≠ n → t.port[k] = s.port[k]) ∧ t = { s with port := t.port })) ∧
  (∀ (s : State) (n : Fin 8) (i : HelloItem), s.port[n].st = .hello →
    (i.crcOk = false → ∃ t, exec (.hello n i) s = .next t ∧ t.port[n] = { s.port[n] with discards := s.port[n].discards + 1 } ∧
      (∀ k, k ≠ n → t.port[k] = s.port[k]) ∧ t = { s with port := t.port }) ∧
    (i.crcOk = true → s.isUp n ≠ i.upstream → ∃ t, exec (.hello n i) s = .next t ∧ t.port[n].peerSeen = true ∧
      t.port[n].peerUid = i.uid ∧ t.port[n].peerUp = i.upstream ∧ t.port[n].peerExt = i.hopExt ∧
      t.port[n].st = (if i.peerSeen = true then .up else .hello) ∧
      t.port[n].linkUps = (if i.peerSeen = true then s.port[n].linkUps + 1 else s.port[n].linkUps) ∧
      (i.peerSeen = true → Raised t s.nowAt (448 + 4 * n.val)
        ((if t.port[n].peerNode = 0xFFFF then 2 ^ 14 else t.port[n].peerNode.toNat % 2 ^ 14) +
          (if s.isUp n then 2 ^ 15 else 0) + min t.port[n].linkUps.toNat 65535 * 2 ^ 16)) ∧
      (∀ k, k ≠ n → t.port[k] = s.port[k]) ∧ t = { s with port := t.port, fab := t.fab, merger := t.merger }) ∧
    (i.crcOk = true → s.isUp n = i.upstream → ∃ t, exec (.hello n i) s = .next t ∧ t.port[n].st = .mismatch ∧
      t.port[n].peerSeen = true ∧ t.port[n].peerUid = i.uid ∧
      (∀ k, k ≠ n → t.port[k] = s.port[k]) ∧ t.mem = s.mem ∧ t.od = s.od)) ∧
  (∀ (s : State) (n : Fin 8) (c : Instr),
    (∃ i : CodeItem, c = .eventCode n i ∧ i.crcOk = false) ∨
    (∃ i : FrontItem, c = .front n i ∧ i.crcOk = false) ∨ (∃ i : GustItem, c = .gust n i ∧ i.crcOk = false) ∨
    (∃ i : JoinItem, i.crcOk = false ∧ (c = .joinRequest n i ∨ c = .joinReply n i ∨ c = .joinRefused n i)) ∨
    (∃ a b, c = .leave n a b false) ∨ c = .detach n false ∨ (∃ a b o f, c = .bulkResult n a b o f false) →
    exec c s = .next (if s.port[n].st = .up then { s with
      port := upd s.port n (fun p => { p with discards := p.discards + 1 }) } else s))

/-- R333, R334, R335, R343, R344, R346, R347, R362: the comma word of a frame on a port with comma alignment gives the arrival and closes
the check of the frame before it: broken characters and reserved classes count as code violations, a failing CRC-16 as a CRC error. On a
port that is UP a time item with a bad CRC is discarded and counted; a good one adds its round trip, from the departure of the frame that
it echoes, to the Tide's sums of its port; on the upstream port, with a time set pending, it also sets the time and ends that wait. The
first valid frame at least 2 frames after an ALIGN with the fabric marker is its marked edge, with its t3 + d.
R336, R351, R353, R356: what a node does with the fabric items that reach it on an UP port: an event code waits for its due T_E and goes
on, one hop less, to every other UP port while hops are left; a Front in time waits for T_arm and the second copy is dropped; a Gust enters
its group's contest. -/
def Obligations.time_and_fabric_items : Prop :=
  (∀ (s : State) (n : Fin 8) (i : TimeItem),
    (s.port[n].st = .disabled ∨ s.port[n].st = .down ∨ s.port[n].st = .training → exec (.timeItem n i) s = .next s) ∧
    (s.port[n].st = .hello ∨ s.port[n].st = .mismatch → ∃ t, exec (.timeItem n i) s = .next t ∧
      t.port[n].arrived = ((i.frame.number, s.inTurn i.t4) :: s.port[n].arrived).take 4 ∧
      t.port[n].violations = s.port[n].violations + BitVec.ofNat 64 (i.frame.broken + reservedWords i.frame.chars) ∧
      t.port[n].crcErrs = s.port[n].crcErrs +
        (if i.frame.chars.length = 252 ∧ crc16 i.frame.chars ≠ i.frame.crc then 1 else 0) ∧
      t.port[n].discards = s.port[n].discards ∧ (∀ k, k ≠ n → t.port[k] = s.port[k]) ∧ DataPlaneOnly { s with port := t.port } t) ∧
    (s.port[n].st = .up → let t4 := s.inTurn i.t4
      let t3 := s.inTurn (TimeItem.t3 i)
      ∃ t, exec (.timeItem n i) s = .next t ∧
        t.port[n].violations = s.port[n].violations + BitVec.ofNat 64 (i.frame.broken + reservedWords i.frame.chars) ∧
        t.port[n].crcErrs = s.port[n].crcErrs +
          (if i.frame.chars.length = 252 ∧ crc16 i.frame.chars ≠ i.frame.crc then 1 else 0) ∧
        (i.crcOk = false → t.port[n].discards = s.port[n].discards + 1 ∧ t.port[n].frames = s.port[n].frames) ∧
        (i.crcOk = true → t.port[n].discards = s.port[n].discards ∧ t.port[n].timeLull = i.lull ∧ t.port[n].timeValid = i.valid) ∧
        (i.crcOk = false ∨ s.isUp n = false ∨ s.fab.setPending = false ∨ s.departure i.echoed t4 = none →
          t.port[n].arrived = ((i.frame.number, t4) :: s.port[n].arrived).take 4 ∧ (∀ k, k ≠ n → t.port[k] = s.port[k]) ∧
          ((∀ a, s.csu.align = some a → a.marker ≠ 2) → t.csu = s.csu) ∧
          DataPlaneOnly { s with port := t.port, csu := t.csu } t) ∧
        (∀ t1, i.crcOk = true → s.departure i.echoed t4 = some t1 → let rtt : Int := (t4 : Int) - t1 + i.echoOff.toInt * 3200 + i.echoFine.val
          (s.isUp n = false ∨ s.fab.setPending = false →
            t.port[n].sumRtt = s.port[n].sumRtt + rtt ∧ t.port[n].sumDiff = s.port[n].sumDiff + ((t4 : Int) - t3) ∧
            t.port[n].frames = s.port[n].frames + 1) ∧
          (∀ a, s.csu.align = some a → a.marker = 2 → a.mark = none → s.upPort = some n → s.fab.setPending = false → i.valid = true →
            s.port[n].haveAvg = true → a.accepted + 640 ≤ t4 / 3200 → t.csu = { s.csu with
              align := some { a with mark := some (t4, ((t3 : Int) + (rtt - s.port[n].alphaEff) / 2).toNat) } }) ∧
          (s.isUp n = true → s.fab.setPending = true → t.fab.setPending = false ∧ t.fab.steerOk = t.csu.st.isLocked ∧
            t.time.count % 2 ^ 84 = ((t3 : Int) + (rtt - s.port[n].alphaEff) / 2).toNat / 3200 % 2 ^ 84)))) ∧
  (∀ (s : State) (n : Fin 8), s.port[n].st = .up →
    (∀ i : CodeItem, i.crcOk = true → s.now ≤ expandTE s.now 20 i.due.toNat → ∃ t, exec (.eventCode n i) s = .next t ∧
      t.fab = { s.fab with codesDue := s.fab.codesDue ++ [(expandTE s.now 20 i.due.toNat, i.code)] } ∧
      (∀ k : Fin 8, (2 ≤ i.hopsLeft.toNat ∧ s.inTree = true ∧ k ∈ s.upPorts ∧ k ≠ n → ∃ j, t.port[k] = { s.port[k] with
          tx := s.port[k].tx ++ [.code j] } ∧ j.code = i.code ∧ j.hopsLeft = i.hopsLeft - 1 ∧ j.origin = i.origin) ∧
        (¬ (2 ≤ i.hopsLeft.toNat ∧ s.inTree = true ∧ k ∈ s.upPorts ∧ k ≠ n) → t.port[k] = s.port[k])) ∧
      t = { s with fab := t.fab, port := t.port }) ∧
    (∀ f : FrontItem, f.crcOk = true →
      (s.port[n].lastFront = some f → exec (.front n f) s = .next s) ∧
      (s.port[n].lastFront ≠ some f → s.isUp n = true → s.now + 16 ≤ expandTE s.now 32 f.armAt.toNat →
        ∃ t, exec (.front n f) s = .next t ∧
          t.fab = { s.fab with frontWait := s.fab.frontWait ++ [(f, expandTE s.now 32 f.armAt.toNat)] } ∧
          t.port[n].lastFront = some f ∧ t = { s with fab := t.fab, port := t.port })) ∧
    (∀ i : GustItem, i.crcOk = true → s.port[n].lastGust ≠ some i →
      let x := expandTE s.now 32 i.fireTE.toNat * 3200 + i.fireFine.val
      ∃ t, exec (.gust n i) s = .next t ∧
        t.armg = (contest i.group i.sequence (x, i.node.setWidth 16) s).armg ∧
        t = { s with fab := t.fab, port := t.port, armg := t.armg, merger := t.merger }))

/-- R339, R340, R341: joining: the root gives an ID by its rules, records the way behind that port alone and answers on it; the node that asked becomes JOINED
with that ID; a refusal leaves it JOINING; a JOINING node asks each time its timer runs; a lease that ends frees its ID.
R341, R354, R358: a DETACH from above makes the node ALONE and unarms every group; codes, Gusts, tunnel and bulk items that wait at
its ports go; on the root a LEAVE takes the nodes behind the named
port out of the roster and starts their leases. -/
def Obligations.joining_and_leaving : Prop :=
  (∀ (s : State) (n : Fin 8) (i : JoinItem), s.port[n].st = .up → i.crcOk = true →
    (∀ id : Nat, s.isUp n = false → s.fab.state = 3 → s.joinAnswer i = .inl id → ∃ t, exec (.joinRequest n i) s = .next t ∧
      t.fab.roster = s.fab.roster ++ [{ node := BitVec.ofNat 14 id, uid := i.uid, route := n :: i.path.reverse }] ∧
      BitVec.ofNat 14 id ∈ t.port[n].behind ∧ (∃ j, t.port[n].tx = s.port[n].tx ++ [.joinReply j] ∧ j.path = i.path ∧
        j.nodeId = BitVec.ofNat 14 id) ∧
      (∀ k, k ≠ n → t.port[k] = { s.port[k] with behind := s.port[k].behind.filter (· ≠ BitVec.ofNat 14 id) }) ∧
      t = { s with fab := t.fab, port := t.port, merger := t.merger }) ∧
    (s.isUp n = true → i.path = [] → s.fab.state = 1 → i.uid = Config.uniqueId →
      (∃ t, exec (.joinReply n i) s = .next t ∧ t.fab = { s.fab with
          state := 2, nodeId := i.nodeId.setWidth 16, depth := i.extra, frontFresh := true } ∧
        t = { s with fab := t.fab, merger := t.merger }) ∧
      (∃ t, exec (.joinRefused n i) s = .next t ∧ t = { s with merger := t.merger })) ∧
    (s.upstream = some n → s.fab.state = 1 → ∃ j, exec .joinRequestTimer s = .next { s with
        port := upd s.port n (fun p => { p with tx := p.tx ++ [.joinRequest j] }) } ∧ j.uid = Config.uniqueId ∧ j.path = []) ∧
    (∀ l, s.fab.leases.find? (fun l => l.node = i.nodeId) = some l → ∃ t, exec (.leaseExpiry i.nodeId) s = .next t ∧
      l.ends ≤ t.time.count ∧ (∀ m ∈ t.fab.leases, m.node ≠ i.nodeId) ∧ DataPlaneOnly s t)) ∧
  (∀ (s : State) (n : Fin 8), s.port[n].st = .up →
    (s.isUp n = true → s.fab.state ≠ 0 → ∃ t, exec (.detach n true) s = .next t ∧ t.fab.state = 0 ∧
      (∀ g : Fin 16, t.armg[g].armed = false ∧ t.armg[g].cand = none) ∧
      (∀ k ∈ s.downPorts, t.port[k].tx = s.port[k].tx.filter (fun i => !i.inTreeOnly) ++ [.detach]) ∧
      (∀ k ∈ s.ports, ∀ i ∈ t.port[k].tx, i.inTreeOnly = false) ∧
      t = { s with fab := t.fab, armg := t.armg, port := t.port, merger := t.merger }) ∧
    (∀ (node : BitVec 14) (p : Fin 8) (m : Member), s.isUp n = false → s.fab.state = 3 →
      s.fab.roster.find? (fun m => m.node = node) = some m →
      ∃ t, exec (.leave n node p true) s = .next t ∧
        t.fab.roster = s.fab.roster.filter (fun x => !(membersBehind s.fab.roster m.route p).contains x) ∧
        (∀ x ∈ membersBehind s.fab.roster m.route p, ∃ l ∈ t.fab.leases, l.node = x.node ∧ l.uid = x.uid ∧
          l.ends = s.now + s.nat 0x6000 6 * 1250000000) ∧
        t = { s with fab := t.fab, port := t.port, merger := t.merger }))

/-- R361, R371: a bulk send takes its source Pans; the window takes its Pans; a Pan that arrives good for an open window is written and given
to the host; one that does not ends its transfer, whose later Pans are discarded (a transfer is told by its source and the offset that
comes next: the model's choice, log entry 133); a failed result gives every source Pan back.
R360: a tunnel message with a bad CRC, or on a node outside the tree, is discarded and counted; one for another node goes on towards it. -/
def Obligations.bulk_and_tunnel : Prop :=
  (∀ (s : State) (r : Requester),
    (∀ d f c o : W16, Admitted s 0x6300 1 .wo → d.toNat < 16384 → 1 ≤ c.toNat → f.toNat + c.toNat ≤ 2048 →
      c.toNat ≤ 2047 → s.inTree = true → s.fab.sendSt ≠ 1 →
      s.allHost ((List.range c.toNat).map (f.toNat + ·)) = true → s.isMine (BitVec.ofNat 14 d.toNat) = false →
      (s.routeTo (BitVec.ofNat 14 d.toNat)).isSome = true →
      ∃ t, exec (.bulkSend r d f c o) s = .next t ∧ t.answer = granted0 ∧ t.fab.sendSt = 1 ∧ t.fab.sent = 0 ∧
        t.fab.sendReq = some (BitVec.ofNat 14 d.toNat, f.toNat, c.toNat, o.toNat) ∧
        (∀ k < c.toNat, (t.flag (f.toNat + k)).owner = .device ∧ (t.flag (f.toNat + k)).use = 0x21) ∧
        t = { s with fab := t.fab, own := t.own, port := t.port, health := t.health, merger := t.merger, answer := t.answer }) ∧
    (Admitted s 0x6300 6 .rwh → s.fab.windowOn = false → s.nat 0x6300 4 + s.nat 0x6300 5 ≤ 2048 →
      s.allHost ((List.range (s.nat 0x6300 5)).map (s.nat 0x6300 4 + ·)) = true →
      ∃ t, exec (.windowOpen r true) s = .next t ∧ t.answer = granted0 ∧ t.fab = { s.fab with
          windowOn := true, windowHeld := (List.range (s.nat 0x6300 5)).map (s.nat 0x6300 4 + ·)
          winFirst := s.nat 0x6300 4, winCount := s.nat 0x6300 5 } ∧
        (∀ k < s.nat 0x6300 5, (t.flag (s.nat 0x6300 4 + k)).owner = .device ∧ (t.flag (s.nat 0x6300 4 + k)).use = 0x22) ∧
        t = { s with fab := t.fab, own := t.own, od := t.od, parity := t.parity, commits := t.commits, answer := t.answer }) ∧
    (∀ (n : Fin 8) (i : DataItem), s.port[n].st = .up → s.isMine i.dest = true → i.crcOk = true →
      (i.src, i.offset.toNat) ∉ s.fab.failed → s.windowTakes i.offset.toNat = true → Memory.wf s.mem = true → let p := s.fab.winFirst + i.offset.toNat
      0 < p → p < 2048 → i.data.length = 4096 →
      ∃ t, exec (.bulk n i) s = .next t ∧ (∀ k : Nat, k < 4096 → t.byte (4096 * p + k) = i.data.getD k 0) ∧
        t.flag p = { owner := .host, gen := (s.flag p).gen + 1, use := 0, changed := some s.now } ∧ t.fab.received = s.fab.received + 1 ∧
        p ∉ t.fab.windowHeld ∧ (∀ q, q ≠ p → t.flag q = s.flag q)) ∧
    (∀ (n : Fin 8) (i : DataItem), s.port[n].st = .up → s.isMine i.dest = true →
      ((i.src, i.offset.toNat) ∈ s.fab.failed → ∃ t, exec (.bulk n i) s = .next t ∧ t.fab.received = s.fab.received ∧
        (i.last = false → (i.src, i.offset.toNat + 1) ∈ t.fab.failed) ∧ t = { s with fab := t.fab }) ∧
      ((i.src, i.offset.toNat) ∉ s.fab.failed → i.crcOk = false ∨ s.windowTakes i.offset.toNat = false →
        ∃ t, exec (.bulk n i) s = .next t ∧ t.fab.received = s.fab.received ∧ (i.last = false → (i.src, i.offset.toNat + 1) ∈ t.fab.failed) ∧
        Raised t s.nowAt 496 (9 + i.src.toNat * 16 + n.val * 2 ^ 18) ∧
        t = { s with fab := t.fab, port := t.port, merger := t.merger })) ∧
    (∀ (n : Fin 8) (me src : BitVec 14) (o : BitVec 11) (f c off : Nat), s.port[n].st = .up → s.isMine me = true →
      s.fab.sendReq = some (src, f, c, off) → off ≤ o.toNat → o.toNat < off + c →
      (∃ t, exec (.bulkResult n me src o true true) s = .next t ∧ t.fab.sendSt = 3 ∧ t.fab.sendReq = none ∧
        (∀ k < c, (t.flag (f + k)).owner ≠ .device)) ∧
      ((s.fab.sent + 1).toNat ≠ c → exec (.bulkResult n me src o false true) s = .next { s with
        fab := { s.fab with sent := s.fab.sent + 1 } }))) ∧
  (∀ (s : State) (n : Fin 8) (i : DataItem), s.port[n].st = .up →
    (i.crcOk = false ∨ s.inTree = false → ∃ t, exec (.kppTunnel n i) s = .next t ∧
      t.fab = { s.fab with tunnelLost := s.fab.tunnelLost + 1 } ∧ t = { s with fab := t.fab, merger := t.merger }) ∧
    (∀ p, i.crcOk = true → s.inTree = true → s.isMine i.dest = false → s.routeTo i.dest = some p → p ≠ n →
      exec (.kppTunnel n i) s = .next { s with port := upd s.port p (fun q => { q with tx := q.tx ++ [.tunnel i] }) }) ∧
    (i.crcOk = true → s.inTree = true → s.isMine i.dest = true → (decodeMsg i.data).response = false →
      exec (.kppTunnel n i) s = .next (kpp ⟨.tunnel, i.src.toNat, (decodeMsg i.data).session⟩ (decodeMsg i.data) s)))

/-- R398, R399, R408, R409, R415: a write of a setting that passes every check: one of class RW, RWI or RWH has its value before its response,
RWI and RWH count as a configuration; one of class RWT joins the set of the next usable boundary, or with the hold flag its session's held
set, and the value in force stays.
R399, R401, R406: a refused write answers the first failing check's code and changes no setting: a missing object, a class that takes no
write, a length, a range, a device state. -/
def Obligations.object_access : Prop :=
  (∀ (s : State) (r : Requester) (idx : W16) (sub : Byte) (v : List Byte) (hold : Bool) (e : OdEntry),
    let x := odVal e.type v
    let entry : SetEntry := { key := odKey idx.toNat sub.toNat, value := x, by_ := r }
    let c := s.commits.add s.nextTide [entry]
    s.exists_ idx.toNat sub.toNat = none → odEntry s.part idx.toNat sub.toNat = some e → idx ≠ 0x1302 →
    lengthOk idx.toNat sub.toNat e.type v = true → s.inRange idx.toNat sub.toNat e v = true →
    (rowWrite r idx.toNat sub.toNat v).isNone = true → e.acc.permits s.dev.st = true →
    unitOk s idx.toNat sub.toNat (ofBytes v) = true → depState s idx.toNat sub.toNat (ofBytes v) = true →
    (e.acc = .rw ∨ e.acc = .rwi ∨ e.acc = .rwh → hold = false → ¬ (idx = 0x7804 ∧ sub = 3) →
      depOk (s.staged.set idx.toNat sub.toNat x) idx.toNat sub.toNat = true →
      ∃ t, exec (.odWrite r idx sub v hold) s = .next t ∧ t.answer = granted0 ∧ t.od = s.od.set idx.toNat sub.toNat x ∧
        t.commits.confGen = (if e.acc = .rw then s.commits.confGen else s.commits.confGen + 1) ∧ t.mem = s.mem) ∧
    (e.acc = .rwt → hold = false → entryOk411 (Commits.overlay s.od (c.upTo s.nextTide)) entry = true →
      c.okFrom s.od (s.nextTide + 1) = true → s.roomFor r false entry = true →
      ∃ t, exec (.odWrite r idx sub v hold) s = .next t ∧
        t.answer = { status := 0, tide := BitVec.ofNat 64 s.nextTide, payload := [] } ∧
        assocFind t.commits.sets s.nextTide = some ((assocFind s.commits.sets s.nextTide).getD [] ++ [entry]) ∧
        (∀ n, n ≠ s.nextTide → assocFind t.commits.sets n = assocFind s.commits.sets n) ∧
        t = { s with commits := t.commits, sti := t.sti, drz := t.drz, free := t.free, answer := t.answer }) ∧
    (e.acc = .rwt → hold = true →
      let before := match s.heldSet r with | some h => h.entries | none => []
      let d := s.commits.add s.nextTide (before ++ [entry])
      entryOk411 (Commits.overlay s.od (d.upTo s.nextTide)) entry = true → s.roomFor r true entry = true →
      ∃ t, exec (.odWrite r idx sub v hold) s = .next t ∧
        t.answer = { status := 0, tide := 0xFFFFFFFFFFFFFFFF, payload := [] } ∧
        (t.heldSet r).map (·.entries) = some (before ++ [entry]) ∧ t.commits.sets = s.commits.sets ∧
        t = { s with commits := t.commits, answer := t.answer })) ∧
  (∀ (s : State) (r : Requester) (idx : W16) (sub : Byte) (v : List Byte), s.dev.st ≠ .boot → idx ≠ 0x1302 →
    let fails (code : W32) : Prop := ∃ t, exec (.odWrite r idx sub v false) s = .next t ∧ t.answer.status = code ∧
      t.answer.payload = [] ∧ t = { s with answer := t.answer, merger := t.merger }
    (∀ c, s.exists_ idx.toNat sub.toNat = some c → fails c) ∧
    ∀ e, s.exists_ idx.toNat sub.toNat = none → odEntry s.part idx.toNat sub.toNat = some e →
      (e.acc = .const ∨ e.acc = .ro → fails 0x02010000) ∧
      (e.acc ≠ .const → e.acc ≠ .ro → (lengthOk idx.toNat sub.toNat e.type v = false → fails 0x03010000) ∧
        (lengthOk idx.toNat sub.toNat e.type v = true → s.inRange idx.toNat sub.toNat e v = false → fails 0x03020000) ∧
        (lengthOk idx.toNat sub.toNat e.type v = true → s.inRange idx.toNat sub.toNat e v = true →
          (rowWrite r idx.toNat sub.toNat v).isNone = true → e.acc.permits s.dev.st = false → fails 0x04010000)))

/-- R52: out of BOOT and LOAD a read of 0x2200:01 answers the coarse count of the present T_E with fine 0, and latches epoch and Tide number of
that T_E for its path; 0x2200:02 and 0x2201:01 give what is latched for the path, the current values when nothing is. -/
def Obligations.ztime_read : Prop :=
  (∀ (s : State) (r : Requester), s.dev.st ≠ .boot → s.dev.st ≠ .load → s.parity = [] →
    ∃ t, exec (.ztimeRead r) s = .next t ∧
      t.answer = { status := 0, tide := 0, payload := toBytes 8 (s.time.count % 2 ^ 52 * 4096) } ∧
      t.timeLatch r.path = (epochOf s.time.count, tideWord s.time.count) ∧
      (∀ p, p ≠ r.path → t.timeLatch p = s.timeLatch p) ∧ t = { s with time := t.time, answer := t.answer }) ∧
  (∀ (s : State) (p : Path) (e : OdEntry), e.type = .u32 → s.value p 0x2200 2 e = toBytes 4 (s.timeLatch p).1.toNat) ∧
  (∀ (s : State) (p : Path) (e : OdEntry), e.type = .u64 → s.value p 0x2201 1 e = toBytes 8 (s.timeLatch p).2.toNat) ∧
  (∀ (s : State) (p : Path), (∀ x ∈ s.time.latched, x.1 ≠ p) →
    s.timeLatch p = (epochOf s.time.count, tideWord s.time.count))

/-- R402, R418, R419, R423, R424, R426: each KPP row serves its opcode's message that arrives for this node and is not a repetition, and
the answer is remembered and delivered, on Ethernet to the address it came from and from the address it reached; one that is repeated
within 1 s is answered from memory and counted, with no other effect. A fragment is discarded, and a request that finds 64 waiting is
dropped; each is counted, the latter reported. How many wait is an operand: the model's choice, log 73.
R417, R418: what a message spells is what its bytes spell: decoding the bytes of a message gives the message. -/
def Obligations.kpp_requests : Prop :=
  (∀ (s : State) (r : Requester) (m : KppMsg), let q := requesterOf r m
    let u := touchHeld q (if r.path = .ethernet then { s with eth := { s.eth with reached := s.address } } else s)
    (s.remembered q m = none →
      (Arrives s r m 1 → exec (.read r m) s = .next (answered q (serveRead q m u))) ∧
      (Arrives s r m 2 → exec (.write r m) s = .next (answered q (serveWrite q m u))) ∧
      (Arrives s r m 3 → exec (.readSeg r m) s = .next (answered q (serveReadSeg q m u))) ∧
      (Arrives s r m 4 → exec (.writeSeg r m) s = .next (answered q (serveWriteSeg q m u))) ∧
      (Arrives s r m 5 → exec (.subscribe r m) s = .next (answered q (serveSubscribe q m u))) ∧
      (Arrives s r m 7 → exec (.commit r m) s = .next (answered q (serveCommit q m u))) ∧
      (Arrives s r m 8 → exec (.abort r m) s = .next (answered q (serveAbort q m u)))) ∧
    (∀ a c op, s.remembered q m = some a → (c, op) ∈ [(Instr.read r m, (1 : Byte)), (.write r m, 2), (.readSeg r m, 3),
        (.writeSeg r m, 4), (.subscribe r m, 5), (.commit r m, 7), (.abort r m, 8)] → Arrives s r m op →
      exec c s = .next (deliver q { responseTo m a.ans.status a.ans.payload with lastSeg := a.lastSeg }
        { u with kpp := { u.kpp with replayed := s.kpp.replayed + 1 } })) ∧
    (∀ (way : Arrival) c op, r.path = .ethernet → s.lanOpen = true → m.opcode = op → (c, op) ∈ [(Instr.read r m way, (1 : Byte)),
        (.write r m way, 2), (.readSeg r m way, 3), (.writeSeg r m way, 4), (.subscribe r m way, 5), (.commit r m way, 7),
        (.abort r m way, 8)] →
      (way.fragment = true → exec c s = .next { s with eth := { s.eth with discarded := s.eth.discarded + 1 } }) ∧
      (way.fragment = false → s.admitsSource (r.addr / 2 ^ 16) = true → m.magic = 0x5A4B → 64 ≤ way.queued → ∃ t, exec c s = .next t ∧
        t = { s with eth := { s.eth with queueFull := s.eth.queueFull + 1 }, merger := t.merger } ∧
        (s.merger.sumsOf 494 5 = [] → Raised t s.nowAt 494 (5 + 65536)))) ∧
    (∀ t x, (finish q x t).kpp.served = t.kpp.served + 1 ∧
      ((finish q x t).kpp.memory.filter (fun y => Requester.sameHost y.by_ q)).length ≤ 32 ∧
      (q.path = .spi → (finish q x t).spi.response = encodeMsg x ∧ (finish q x t).spi.ready = true) ∧
      (q.path = .pcie → (finish q x t).host.mbxResponse = encodeMsg x ∧ (finish q x t).host.mbxReady = true ∧
        (finish q x t).host.mbxBusy = false) ∧
      (q.path = .ethernet → (finish q x t).eth.reply = encodeMsg x ∧ (finish q x t).eth.replyTo = q.addr ∧
        (finish q x t).eth.replyFrom = t.eth.reached * 65536 + 52170))) ∧
  (∀ m : KppMsg, decodeMsg (encodeMsg m) = m)

/-- R419, R420: READ of an object that can be read, with no error in memory, answers its address, type and value, staged or in force. WRITE
of an object other than a Load answers the outcome of the object's write.
R421: segments of a WRITE_SEG in order accumulate to the value, and nothing is written before the last; a segment that does not fit ends
the transfer with 0x0802_0000. READ_SEG from offset 0 latches the value and gives its first 1,388 bytes.
R410, R411, R413, R425: SUBSCRIBE gives a new requester the next place while fewer than 8 subscribe; COMMIT moves a held set whose checks
pass into the set of its Tide; ABORT with Tide 0 discards the held set and a partial WRITE_SEG. -/
def Obligations.kpp_effects : Prop :=
  (∀ (u : State) (q : Requester) (m : KppMsg), let a := KppMsg.address m
    (∀ e v, m.descriptor = false → u.readable q a.1 a.2 m.staged 1396 = .ok (e, v) → u.parity = [] → u.health.errs = [] →
      u.health.poisoned = [] → ¬ (a.1 = 0x2003 ∧ a.2 = 4) → ¬ (a.1 = 0x2200) →
      serveRead q m u = (some (responseTo m 0 (m.payload.take 3 ++ [BitVec.ofNat 8 e.type.code] ++ v)), u)) ∧
    (∀ c, m.descriptor = false → u.readable q a.1 a.2 m.staged 1396 = .error c →
      serveRead q m u = (some (responseTo m c (refusalPayload m)), u)) ∧
    ((∀ ch : Fin 64, a ≠ (seqIdx ch.val, 2)) →
      let t := writeObject q a.1 a.2 (m.payload.drop 4) m.hold u
      serveWrite q m u = (some (writeResponse m t.answer), t))) ∧
  (∀ (u : State) (q : Requester) (m : KppMsg), let a := KppMsg.address m
    let offset := field m.payload 4 4
    let total := field m.payload 8 4
    (∀ x, 0 < offset → u.kpp.writeSegs.find? (fun y => y.by_ = q) = some x → x.key = odKey a.1 a.2 → x.total = total →
      x.data.length = offset → m.lastSeg = false → offset + (m.payload.drop 12).length < total → ∃ p t,
      serveWriteSeg q m u = (some p, t) ∧ p.status = 0 ∧
        t.kpp.writeSegs.find? (fun y => y.by_ = q) = some { x with
          by_ := q, data := x.data ++ m.payload.drop 12, hold := m.hold, at_ := u.now } ∧ t = { u with kpp := t.kpp }) ∧
    (0 < offset → u.kpp.writeSegs.find? (fun y => y.by_ = q) = none → ∃ p t, serveWriteSeg q m u = (some p, t) ∧
      p.status = 0x08020000 ∧ t = { u with kpp := t.kpp }) ∧
    (∀ e v, m.payload.length = 8 → offset = 0 → u.readable q a.1 a.2 false 65536 = .ok (e, v) → u.dev.st ≠ .load → u.parity = [] → u.health.errs = [] →
      u.health.poisoned = [] → ∃ p t, serveReadSeg q m u = (some p, t) ∧ p.status = 0 ∧
        p.payload.drop 12 = v.take 1388 ∧ p.lastSeg = decide (v.length ≤ 1388) ∧ t.mem = u.mem ∧ t.od = u.od)) ∧
  (∀ (u : State) (q : Requester) (m : KppMsg), u.dev.st ≠ .load →
    (BitVec.ofNat 512 (field m.payload 0 64) ≠ 0 → bit (field m.payload 64 1) 1 = false → u.subAt q = none →
      (u.kpp.subs.length < 8 → ∃ p t, serveSubscribe q m u = (some p, t) ∧ p.status = 0 ∧
        t.kpp.subs = u.kpp.subs ++ [{ by_ := q, mask := BitVec.ofNat 512 (field m.payload 0 64)
                                      empty := bit (field m.payload 64 1) 0, renewed := u.now }] ∧ t = { u with kpp := t.kpp }) ∧
      (8 ≤ u.kpp.subs.length → ∃ p, serveSubscribe q m u = (some p, u) ∧ p.status = 0x04030000)) ∧
    (∀ h, field m.payload 0 8 = 0 → u.heldSet q = some h → h.entries ≠ [] →
      let l := h.entries.map (fun e => { e with committed := true })
      u.commitFault u.nextTide l = none → ∃ p t, serveCommit q m u = (some p, t) ∧ p.status = 0 ∧
        assocFind t.commits.sets u.nextTide = some ((assocFind u.commits.sets u.nextTide).getD [] ++ l) ∧
        t.heldSet q = none ∧ t = { u with commits := t.commits, sti := t.sti, drz := t.drz, free := t.free }) ∧
    (field m.payload 0 8 = 0 → ∃ p t, serveAbort q m u = (some p, t) ∧ p.status = 0 ∧ t.heldSet q = none ∧
      t.kpp.writeSegs.find? (fun x => x.by_ = q) = none ∧ t.commits.sets = u.commits.sets ∧
      t = { u with commits := t.commits, kpp := t.kpp }))

/-- R409, R421, R424, R425: what lapses when its time has run, counted from its last use: a subscription, a held set, a segmented transfer, a
forwarded request. Each brings device time there and goes.
R384, R427, R428: the mailbox takes a request that its length spells out while it is neither busy nor ready, and reports one written
before its time; the answer signals vector 0, whose message is sent, or waits while it cannot be; the SPI target does the same, its status
word shows busy, ready, discarded, events waiting and lengths, and reading it out of reset clears the discard bit; a response or EVENT read to its last byte is released.
R426, R433, R439, R501: the Ethernet lane, idle while the clock synthesis is off, reports changes of link and lease and answers echo and
ARP requests for the address in use; the test access port gives the part's IDCODE and keeps what PRELOAD brings; while RESET_N is low EXTEST
drives the balls with it and HIGHZ none, at other times both act as BYPASS. What the cells sample is a free value. -/
def Obligations.lapses_mailbox_spi_lane : Prop :=
  (∀ (s : State) (r : Requester),
    (∀ u, s.kpp.subs.find? (fun u => Requester.sameHost u.by_ r) = some u → ∃ t, exec (.subscriptionLapse r) s = .next t ∧
      u.renewed + s.nat 0x1102 1 * 1250000000 ≤ t.time.count ∧ (∀ v ∈ t.kpp.subs, Requester.sameHost v.by_ r = false) ∧
      DataPlaneOnly { s with kpp := t.kpp } t) ∧
    (∀ h, s.heldSet r = some h → ∃ t, exec (.heldSetDiscard r) s = .next t ∧ h.touched + 12500000000 ≤ t.time.count ∧
      t.heldSet r = none ∧ t.commits.sets = s.commits.sets ∧ DataPlaneOnly { s with commits := t.commits } t) ∧
    (∀ (w : Bool) x, (if w then s.kpp.writeSegs else s.kpp.readSegs).find? (fun y => y.by_ = r) = some x →
      ∃ t, exec (.segmentTimeout r w) s = .next t ∧ x.at_ + 1250000000 ≤ t.time.count ∧
        (∀ y ∈ (if w then t.kpp.writeSegs else t.kpp.readSegs), y.by_ ≠ r) ∧ DataPlaneOnly { s with kpp := t.kpp } t) ∧
    (∀ (k : W16) (z : Byte) x, s.fab.outstanding.find? (fun y => y.1 = z && y.2.1 = k) = some x →
      ∃ t, exec (.forwardedRequestExpiry k z) s = .next t ∧ x.2.2.2 + 1250000000 ≤ t.time.count ∧
        t.fab.outstanding = s.fab.outstanding.erase x ∧
        DataPlaneOnly { s with host := t.host, spi := t.spi } t)) ∧
  (∀ s : State,
    (s.pcieOpen = true → ∀ (n : W32) (q : List Byte), let b := slice q 0 (min n.toNat 2048)
      let m := decodeMsg b
      (s.host.mbxBusy = true ∨ s.host.mbxReady = true → ∃ t, exec (.mbxDoorbell n q) s = .next t ∧
        t = { s with merger := t.merger } ∧ ((499, 5) ∉ s.merger.once →
          Raised t s.nowAt 499 (5 + s.host.width.toNat * 16 + s.host.speed.toNat * 256))) ∧
      (s.host.mbxBusy = false → s.host.mbxReady = false →
        let u := { s with host := { s.host with mbxRequest := q, mbxBusy := true } }
        (16 ≤ n.toNat → n.toNat ≤ 2048 → n.toNat = 16 + m.length.toNat →
          exec (.mbxDoorbell n q) s = .next (kpp ⟨.pcie, 0, m.session⟩ m u)) ∧
        (n.toNat < 16 ∨ 2048 < n.toNat ∨ n.toNat ≠ 16 + m.length.toNat → ∃ t, exec (.mbxDoorbell n q) s = .next t ∧
          t.host.mbxBusy = false ∧ t.host.mbxReady = true ∧ t.host.alertStatus.getLsbD 2 = true ∧
          (s.host.sends 0 = false → t.host.msixPending.getLsbD 0 = true) ∧
          (s.host.sends 0 = true → t.host.msixPending.getLsbD 0 = false ∧ t.host.msixSent.getLast?.map (·.vector) = some 0) ∧
          t.host.mbxResponse = encodeMsg (responseTo m 0x08010000 (refusalPayload m)) ∧
          t = { s with host := t.host, pins := t.pins, kpp := t.kpp }))) ∧
    (∀ b : List Byte, let m := decodeMsg b
      let bad := s.dev.st = .boot ∨ s.spi.busy = true ∨ s.spi.ready = true ∨ b.length < 16 ∨ b.length ≠ 16 + m.length.toNat
      (bad → exec (.spiRequest b) s = .next { s with spi := { s.spi with discarded := true, lost := s.spi.lost + 1 } }) ∧
      (¬ bad → exec (.spiRequest b) s = .next (kpp ⟨.spi, 0, m.session⟩ m { s with spi := { s.spi with busy := true } }))) ∧
    (s.boot.power ≠ .running → exec .spiStatus s = .next s) ∧
    (s.boot.power = .running → ∃ t, exec .spiStatus s = .next t ∧ t.spi.discarded = false ∧ t.spi.out = toBytes 4 s.spiWord ∧ t.spi.out.length = 4 ∧
      (bit s.spiWord 1 = s.spi.ready ∧ bit s.spiWord 2 = s.spi.discarded) ∧ t = { s with spi := t.spi }) ∧
    (∀ done : Bool, exec (.spiResponse done) s = .next { s with spi := { s.spi with
      out := s.spi.response, ready := if done then false else s.spi.ready, response := if done then [] else s.spi.response } }) ∧
    (∀ done : Bool, exec (.spiEvent done) s = .next { s with spi := { s.spi with
      out := s.spi.events.headD [], events := if done then s.spi.events.drop 1 else s.spi.events } })) ∧
  (∀ s : State,
    (∀ up : Bool, s.csu.st = .off → exec (.ethernetLinkChange up) s = .next s) ∧
    (∀ up : Bool, s.csu.st ≠ .off → s.eth.linkUp ≠ up → ∃ t, exec (.ethernetLinkChange up) s = .next t ∧ t.eth = { s.eth with linkUp := up } ∧
      Raised t s.nowAt 494 ((if up then 1 else 2) + 65536) ∧ t = { s with eth := t.eth, merger := t.merger }) ∧
    (∀ l : Option W32, s.nat 0x1100 2 = 1 → s.eth.linkUp = true → s.dev.st ≠ .boot → s.eth.lease ≠ l →
      ∃ t, exec (.dhcpLeaseChange l) s = .next t ∧ t.eth = { s.eth with lease := l } ∧ t = { s with eth := t.eth, merger := t.merger } ∧
        let k := if l.isSome then 3 else 4
        (s.merger.sumsOf 494 k = [] → Raised t s.nowAt 494 (k + 65536))) ∧
    (∀ (d : W32) (p : List Byte) (from_ : W32), s.lanOpen = true →
      exec (.icmpEcho d p from_) s = .next (if d.toNat = s.address then { s with eth := { s.eth with
        reply := p, replyTo := from_.toNat * 65536, replyFrom := d.toNat * 65536 } } else s)) ∧
    (∀ d from_ : W32, s.lanOpen = true → d.toNat = s.address → ∃ t, exec (.arpRequest d from_) s = .next t ∧
      t.eth.replyTo = from_.toNat * 65536 ∧ t.eth.replyFrom = s.address * 65536 ∧
      t.eth.reply = (toBytes 6 Config.macAddress.toNat).reverse ++ (toBytes 4 s.address).reverse ∧ t.eth.reply.length = 10 ∧
      t = { s with eth := t.eth }) ∧
    (s.boot.power ≠ .unpowered →
      exec (.testAccessPort .idcode) s = .next { s with pins := { s.pins with
        driven := none, tapInstr := .idcode, tapData := match s.part with | .zt6432 => 0x26432B4F | .zt3216 => 0x23216B4F } } ∧
      (∀ op ∈ [TapOp.bypass, .extest, .highz], op = .bypass ∨ s.boot.power ≠ .resetLow → exec (.testAccessPort op) s = .next { s with
        pins := { s.pins with driven := none, tapInstr := .bypass, tapData := 0 } }) ∧
      (∀ x : W32, ∃ t, exec (.testAccessPort .samplePreload x) s = .next t ∧ t.pins.tapInstr = .samplePreload ∧
        t.pins.preload = x ∧ t.pins.driven = none ∧ t = { s with pins := t.pins, free := t.free }) ∧
      (s.boot.power = .resetLow → exec (.testAccessPort .highz) s = .next { s with
          pins := { s.pins with driven := none, tapInstr := .highz, tapData := 0 } } ∧
        ∃ t, exec (.testAccessPort .extest) s = .next t ∧ t.pins.tapInstr = .extest ∧ t.pins.driven = some s.pins.preload ∧
          t.pins.preload = s.pins.preload ∧ t = { s with pins := t.pins, free := t.free })))

/-- What each command of the device, its start, its clocks and its reference does where nothing stands against it: it completes, with
this effect. R434 to R441, R470 (supply and start-up); R403, R404, R450 to R453 (state commands); R44, R49, R455, R457, R462, R472
(Tides, hours, memory); R78 to R80, R85, R91 to R94, R104 (clock synthesis); R107, R117 to R124 (Lull, return, BYPASS, actions). -/
def Obligations.device_commands_complete : Prop :=
  ∀ (s : State) (r : Requester),
    (s.boot.power = .unpowered → s.boot.cool = true → ∃ t, exec .vinValid s = .next t ∧ t.dev.st = .boot ∧ t.boot.power = .running) ∧
    (s.boot.power ≠ .unpowered → ∃ t, exec .brownout s = .next t ∧ t.boot.power = .unpowered) ∧
    (s.boot.power = .running → ∃ t, exec .resetN s = .next t ∧ t.dev.st = .boot ∧ t.csu.st = .off) ∧
    (s.boot.power = .shutThermal → s.boot.restartReq = true →
      ∃ t, exec .shutdownRestart s = .next t ∧ t.dev.st = .boot ∧ t.boot.power = .running) ∧
    (s.boot.power = .running → ∀ (k : Fin 8) (x : W16), 1250 ≤ x.toInt →
      ∃ t, exec (.thermalShutdown k x) s = .next t ∧ t.boot.power = .shutThermal) ∧
    (s.boot.power = .running → ∀ k : Fin 3, ∃ t, exec (.overcurrentShutdown k) s = .next t ∧ t.boot.power = .shutCurrent) ∧
    (s.boot.power = .running → s.dev.st = .boot → ∀ f, ∃ t, exec (.bootComplete f) s = .next t ∧ t.dev.st = .load) ∧
    (s.dev.st = .load → s.csu.st = .off → ∃ t, exec .imageLoad s = .next t ∧ t.csu.st = .freerun ∧ t.time.running = true) ∧
    (s.dev.st = .load → s.csu.st = .locked → s.boot.alignDone = false → s.startUpAligns = true →
      ∃ t, exec .startUpAlign s = .next t ∧ t.csu.st = .aligning) ∧
    (s.dev.st = .load → s.csu.st ≠ .off → s.csu.st.isLocked = false → s.boot.alignDone = false →
      ∃ t, exec .startUpLockWaitExpiry s = .next t ∧ t.boot.alignDone = true) ∧
    (∀ a p, s.boot.fabricAlign = some a → s.upPort = some p → s.dev.st = .idle → s.port[p].haveAvg = true → s.csu.st = .locked →
      ∃ t, exec .fabricStartUpAlign s = .next t ∧ t.csu.st = .aligning ∧ t.boot.fabricAlign = none) ∧
    (s.dev.st = .load → s.boot.alignDone = true → s.boot.calStage = false → s.time.lastTide = some s.now →
      ∀ n, ∃ t, exec (.idleEntry n) s = .next t ∧ t.dev.st = .idle) ∧
    (s.dev.pendCmd = none → s.dev.calibrating = false → ∀ c code, (c, code) ∈ [(Instr.go r, (1 : Byte)), (.restoreDefaults r, 8),
      (.calibrate r, 9)] → s.dev.st = .idle → ∃ t, exec c s = .next t ∧ t.answer.status = 0 ∧
        t.dev.pendCmd = some (code, usableBoundary s.now)) ∧
    (s.dev.pendCmd = none → ∀ c code st, (c, code, st) ∈ [(Instr.hold r, (2 : Byte), DevState.run), (.resume r, 3, .hold),
      (.stop r, 4, .run), (.stop r, 4, .hold), (.leaveSafe r, 6, .safe)] → s.dev.st = st → ∃ t, exec c s = .next t ∧
        t.answer.status = 0 ∧ t.dev.pendCmd = some (code, usableBoundary s.now)) ∧
    (s.served = true → ∃ t, exec (.safe r) s = .next t ∧ t.answer.status = 0 ∧ t.dev.st = .safe) ∧
    (s.served = true → s.dev.saving = false → s.flash.chip.isSome = true →
      ∃ t, exec (.save r) s = .next t ∧ t.answer.status = 0 ∧ t.dev.saving = true) ∧
    (s.dev.saving = true → s.persist.target.isSome = true →
      ∀ ok, ∃ t, exec (.saveComplete ok) s = .next t ∧ t.dev.saving = false) ∧
    (s.dev.st = .idle → s.dev.pendCmd = none → s.dev.calibrating = false → s.csu.st = .locked → s.nat 0x2002 1 ≠ 2 →
      s.nat 0x2202 1 % 4096 = 0 → ∃ t, exec (.align r) s = .next t ∧ t.answer.status = 0 ∧ t.csu.st = .aligning) ∧
    (s.served = true → ∃ t, exec (.reset r) s = .next t ∧ t.answer.status = 0 ∧ t.dev.resetAt = s.dev.resetAt.or (some (s.now + 1250000))) ∧
    (Admitted s 0x1300 3 .rw → ∀ n, ∃ t, exec (.scheduledCommand r 0 n) s = .next t ∧ t.answer.status = 0 ∧ t.dev.sched = none) ∧
    (s.time.running = true → s.resetBy s.nextBoundary = false → ∀ m, ∃ t, exec (.tideBoundary m) s = .next t ∧ t.time.lastTide = some s.nextBoundary) ∧
    (s.time.lastTide = some s.now → s.tideNow.toNat % 4500000 = 0 → s.health.hourAt ≠ some s.now →
      ∀ m, ∃ t, exec (.hourlyUpdate m) s = .next t ∧ t.health.hourAt = some s.now) ∧
    (s.cadence ≠ 0 → s.served = true → ∃ t, exec .marginAppend s = .next t ∧ t.persist.lastAppend = s.nextAppend) ∧
    (∀ m a, Admitted s 0x1201 5 .wo → s.dev.saving = false → s.flash.slot s.persist.logSlot = some m → m.log = some a →
      ∃ t, exec (.appendNow r) s = .next t ∧ t.answer.status = 0) ∧
    (∀ a, a < memoryWords 2 → (placeOf 2 0 a).cl < s.part.clusters → s.isPoisoned (placeOf 2 0 a) = false →
      s.health.errs.find? (fun e => e.1 = placeOf 2 0 a) = none →
      ∃ t, exec (.scrubRead 2 0 a .singleBit) s = .next t ∧ t.health.corrected = s.health.corrected + 1) ∧
    (∃ t, exec .epochWrap s = .next t ∧ t.time.count % 2 ^ 52 = 0 ∧ s.now ≤ t.time.count) ∧
    (Admitted s 0x7801 6 .wo → ∃ t, exec (.clearShutdownRecord r) s = .next t ∧ t.answer.status = 0 ∧ t.health.causes = 0) ∧
    (Admitted s 0x7804 3 .rwi → ∃ t, exec (.armInjection r) s = .next t ∧ t.answer.status = 0 ∧ t.health.injArmed = true) ∧
    (s.csu.st = .acquire → ∃ t, exec .referenceLost s = .next t ∧ t.csu.st = .freerun ∧ t.csu.present = false) ∧
    (s.csu.st = .lull → ∃ t, exec .referencePresent s = .next t ∧ t.csu.st = .ret ∧ t.csu.present = true) ∧
    (s.csu.st = .freerun → s.csu.present = true → ∃ t, exec (.referenceQualified 0) s = .next t ∧ t.csu.st = .acquire) ∧
    (s.csu.st = .acquire → s.dev.st ≠ .load → ∀ n, s.nat 0x2001 2 ≤ s.csu.run + n →
      ∃ t, exec (.lockDeclared [] (0, n)) s = .next t ∧ t.csu.st = .locked) ∧
    (s.csu.st = .locked → s.csu.align = none → s.csu.hold.fromLocked = none → ∀ (e : Int) (n : Nat), 80 * s.nat 0x2001 3 < e.natAbs →
      s.nat 0x2001 4 ≤ s.csu.run + n → ∃ t, exec (.unlockDeclared [(e, n)]) s = .next t ∧ t.csu.st = .freerun) ∧
    (s.csu.st = .acquire → ∃ t, exec .acquireTimeout s = .next t ∧ t.csu.st = .freerun) ∧
    (Admitted s 0x2000 0x0B .wo → (stagedCsu s.od).valid = true →
      ∃ t, exec (.applyConfiguration r) s = .next t ∧ t.answer.status = 0 ∧ t.csu.act = stagedCsu s.od ∧ t.csu.st = .acquire) ∧
    (∀ a l, s.csu.align = some a → a.startUp = false → a.restarted = false → a.marker = 0 → s.upPort = none →
      ∃ t, exec (.markedEdge l) s = .next t ∧ t.csu.delta = 0) ∧
    (∀ a (x : Int), s.csu.align = some a → a.startUp = false → a.restarted = true → x.natAbs ≤ 8 →
      ∃ t, exec (.alignTrimComplete 0 x) s = .next t ∧ t.csu.st = .aligned ∧ t.csu.residual = x) ∧
    (∀ a, s.csu.align = some a → a.startUp = false → a.restarted = false → a.marker = 1 →
      ∃ t, exec .alignInTimeout s = .next t ∧ t.csu.align = none) ∧
    (s.csu.st = .ret → s.csu.present = true → ∀ (j : Int) (n : Nat), s.nat 0x2001 2 ≤ s.csu.run + n →
      ∃ t, exec (.returnAccept j 0 [(0, n)]) s = .next t ∧ t.csu.st = .locked) ∧
    (∀ f, s.bypassAt.isSome = true → s.bypclkOk f = true → ∃ t, exec (.bypassEntry f) s = .next t ∧ t.csu.st = .bypass) ∧
    (∀ a f, s.bypassAt = some a → a ≤ s.now → s.bypclkOk f = true → ∃ t, exec (.bypclkQualified f) s = .next t ∧ t.csu.st = .bypass ∧ t.csu.bypclk = true) ∧
    (s.bypassAt.isSome = true → s.csu.noBypass = false → ∃ t, exec .bypclkNotQualified s = .next t ∧ t.csu.noBypass = true) ∧
    (s.csu.st = .bypass → s.csu.bypLocked = false → ∀ (x : Int) (n : Nat), s.nat 0x2001 2 ≤ s.csu.run + n →
      ∃ t, exec (.bypassLock x [(0, n)]) s = .next t ∧ t.csu.bypLocked = true) ∧
    (s.csu.st = .bypass → s.csu.present = false → ∃ t, exec .bypclkLost s = .next t ∧ t.csu.bypclk = false ∧ t.csu.st ≠ .bypass) ∧
    (Admitted s 0x2006 3 .wo → ∃ t, exec (.actionLeave r) s = .next t ∧ t.answer.status = 0 ∧ t.csu.action = .none) ∧
    (Admitted s 0x2006 3 .wo → s.actionTimeOk = true → s.csu.st = .locked →
      (∃ t, exec (.actionSlew r) s = .next t ∧ t.answer.status = 0 ∧
        t.csu.action = .slewAt (teCeil s.actionTime) (s.nat 0x2006 4)) ∧
      ∃ t, exec (.actionStep r) s = .next t ∧ t.answer.status = 0 ∧ t.csu.action = .stepAt (teCeil s.actionTime)) ∧
    (∀ a code, s.csu.st = .locked → s.csu.action = .slewAt a code → s.csu.delta = 0 →
      ∃ t, exec .slewStart s = .next t ∧ t.csu.action = .none ∧ a ≤ t.now) ∧
    (∀ a code, s.csu.st = .locked → s.csu.action = .slewing a code s.csu.delta →
      ∃ t, exec .slewComplete s = .next t ∧ t.csu.action = .none) ∧
    (∀ a, s.csu.st = .locked → s.csu.action = .stepAt a → ∃ t, exec .stepExecute s = .next t ∧ t.csu.delta = 0) ∧
    (∀ n : Fin 8, (s.clkout[n].st = 2 → ∃ t, exec (.clkoutOvercurrent n) s = .next t ∧ t.clkout[n].st = 3) ∧
      (s.clkout[n].st = 3 → ∃ t, exec (.clkoutFaultClear n) s = .next t ∧ t.clkout[n].st = s.clkout[n].before))

/-- What each command of the outputs, levels, monitors, programs, inputs and captures does where nothing stands against it: it
completes, with this effect. R128 to R151 (edges, delay mode); R155, R161 to R186 (edge programs); R192 to R210 (Sluice and pager);
R217 to R230 (levels); R236 to R248, R263 to R265, R274, R278 (inputs, groups, calibration, statistics); R283 to R303 (monitors and
trips); R309 to R322 (conditions and captures). -/
def Obligations.data_plane_commands_complete : Prop :=
  ∀ (s : State) (r : Requester),
    (∃ t, exec .levelTick s = .next t ∧ t.time.lastTick = some s.nextLevelTick) ∧
    (∀ ch : Fin 64,
      (∀ b e, s.drv[ch].ranging = some (b, e) → ∃ t, exec (.rangingEnd ch) s = .next t ∧ t.drv[ch].ranging = none) ∧
      (ch.val < 16 * s.part.clusters →
        ∃ t, exec (.channelOvercurrent ch) s = .next t ∧ t.drv[ch].present = s.drv[ch].present ||| 1) ∧
      (∃ t, exec (.driverOvercurrentEnd ch) s = .next t ∧ t.drv[ch].present = s.drv[ch].present &&& ~~~1) ∧
      (Admitted s (chIdx ch) 0x1A .wo →
        (∃ t, exec (.faultPark r ch) s = .next t ∧ t.answer.status = 0 ∧ t.drv[ch].park = true) ∧
        (s.drv[ch].present &&& s.armedCauses ch = 0 → (s.drv[ch].faultFrom s.now).isSome = true →
          ∃ t, exec (.release r ch) s = .next t ∧ t.answer.status = 0 ∧ t.drv[ch].latched = 0) ∧
        ∃ t, exec (.flush r ch) s = .next t ∧ t.answer.status = 0 ∧ t.drv[ch].queue = []) ∧
      (∀ e : W32, s.levelFull ch = false → entryOk e.toNat = true →
        (Admitted s (chIdx ch) 0x17 .wo → ∃ t, exec (.levelEntry r ch false e) s = .next t ∧ t.answer.status = 0 ∧
          t.drv[ch].queue.length = s.drv[ch].queue.length + 1) ∧
        (∀ (ep : W32) (tag : W64), Admitted s (chIdx ch) 0x18 .wo → fineOk tag.toNat = true →
          s.within48 (s.named ep.toNat tag.toNat) = true → ∃ t, exec (.taggedLevelEntry r ch e ep tag) s = .next t ∧
            t.answer.status = 0 ∧ t.drv[ch].queue.length = s.drv[ch].queue.length + 1)) ∧
      (Admitted s (chIdx ch) 0x0B .wo → s.source ch / 2 ^ 24 = 9 → ∃ t, exec (.hostFire r ch) s = .next t ∧ t.answer.status = 0) ∧
      (∀ x, firstTransit s.delay[ch] = some x → ∃ t, exec (.delayTrigger ch) s = .next t ∧
        t.time.count = max s.time.count (x / 3200)) ∧
      (∀ e rest x st, s.edge[ch].fifo = e :: rest → e.head = some (x, st) →
        ∃ t, exec (.edgePlacement ch) s = .next t ∧ t.time.count = max s.time.count (x / 3200)) ∧
      (∀ k b, s.edge[ch].sweeping = some k → ∃ t, exec (.sweepComplete ch b) s = .next t ∧ t.edge[ch].sweeping = none) ∧
      (Admitted s (chIdx ch) 0x1D .rw → s.settle.routedAsserts ch = false →
        ∃ t, exec (.tripClear r ch) s = .next t ∧ t.answer.status = 0)) ∧
    (∀ k inside mv, s.health.outside[(k : Fin 12)] = inside → railAgrees k.val inside mv.toNat = true →
      ∃ t, exec (.railExcursion k inside mv) s = .next t ∧ t.health.outside[k] = !inside) ∧
    (∀ wm : Fin 32,
      (∀ vin, s.settle.watches wm = true → s.settle.blanked wm = false → s.settle.filtered wm = true →
        ∃ t, exec (.monitorCrossing wm vin) s = .next t ∧ t.mon[wm].vin = vin) ∧
      (∀ a vin, s.mon[wm].phase = .settling a → s.mon[wm].blank = none → ∃ t, exec (.settlingEnd wm vin) s = .next t ∧
        t.mon[wm].phase = .watching) ∧
      (∀ e vin, s.mon[wm].blank = some e → ∃ t, exec (.blankingEnd wm vin) s = .next t ∧ t.mon[wm].blank = none) ∧
      (∀ vin, s.sampledMode wm = true → s.on (monIdx wm) 1 = true → 
        ∃ t, exec (.sampleTick wm vin) s = .next t ∧ t.mon[wm].sampled = some (s.nextSample wm)) ∧
      (Admitted s (monIdx wm) 0x0C .wo → s.settle.checkable wm = true → s.settle.mon[wm].busy = false → s.dev.st ≠ .run →
        (s.settle.mon[wm].cls = .inside →
          ∃ t, exec (.swap r wm) s = .next t ∧ t.answer.status = 0 ∧ t.mon[wm].phase = .selfCheck 1 (s.now + 8754)) ∧
        (s.tieTooNear wm 2 = false →
          ∃ t, exec (.tie0V r wm) s = .next t ∧ t.answer.status = 0 ∧ t.mon[wm].phase = .selfCheck 2 (s.now + 8754)) ∧
        (s.tieTooNear wm 3 = false →
          ∃ t, exec (.tie1V25 r wm) s = .next t ∧ t.answer.status = 0 ∧ t.mon[wm].phase = .selfCheck 3 (s.now + 8754))) ∧
      (∀ a obs, s.mon[wm].phase = .selfCheck 1 a → ∃ t, exec (.selfCheckEnd wm obs) s = .next t ∧
        t.mon[wm].phase = .settling (a + 2500)) ∧
      (Admitted s (monIdx wm) 0x0E .rw → s.mon[wm].busy = false →
        ∃ t, exec (.readback r wm) s = .next t ∧ t.answer.status = 0 ∧ t.mon[wm].rbBusy = true) ∧
      (∀ up lo, s.mon[wm].rbBusy = true → ∃ t, exec (.readbackComplete wm up lo) s = .next t ∧ t.mon[wm].rbBusy = false)) ∧
    (s.served = true → s.tripin.active = false → ∃ t, exec .tripinAssert s = .next t ∧ t.tripin.active = true) ∧
    (s.tripin.active = true → ∃ t, exec .tripinInactive s = .next t ∧ t.tripin.active = false) ∧
    (∀ b v k, s.extSample b s.now ≠ v → ∃ t, exec (.exttrigEdge b v k) s = .next t ∧ t.extSample b s.now = v) ∧
    (∀ cl : Fin 4,
      (∀ c rest, s.settle.trig[cl].evaluated ≠ some s.settle.now →
        (trueConds s.settle cl s.settle.now).filter (fun c => !condBefore s.settle cl c s.settle.now) = c :: rest →
        ∃ t, exec (.conditionFire cl) s = .next t ∧ t.trig[cl].firings = s.settle.trig[cl].firings + 1) ∧
      (Admitted s (clIdx cl 5) 1 .wo →
        (armCheck s cl = none → ∃ t, exec (.arm r cl) s = .next t ∧ t.answer.status = 0) ∧
        (cl.val < s.part.clusters → s.cap[cl].st = .armed →
          ∃ t, exec (.forceTrigger r cl) s = .next t ∧ t.answer.status = 0 ∧ t.cap[cl].fire.isSome = true) ∧
        ∃ t, exec (.stopCapture r cl) s = .next t ∧ t.answer.status = 0) ∧
      (∀ a, cl.val < s.part.clusters → s.cap[cl].armAt = some a →
        ∃ t, exec (.captureArming cl) s = .next t ∧ t.cap[cl].armAt = none ∧ a ≤ t.now) ∧
      (∀ x, s.cap[cl].fire = some x → (s.reach (x.f + 7)).cap[cl].storing = true →
        ∃ t, exec (.triggerTaken cl) s = .next t ∧ t.cap[cl].trigAt = x.f ∧ t.cap[cl].fire = none) ∧
      (∀ a, s.settle.cap[cl].freezeAt = some a → (s.reach a).cap[cl].freezeAt = some a → (s.reach a).cap[cl].cfg.v ≠ 0 →
        ∃ t, exec (.freezingStart cl) s = .next t ∧ t.cap[cl].st = .freezing) ∧
      (∃ t, exec (.captureSlot cl) s = .next t ∧ t.cap[cl].slotAt = some (nextCycle s.now s.cap[cl].slotAt)) ∧
      (∃ t, exec (.statisticsSlot cl) s = .next t ∧ t.store[cl].statAt = some (nextCycle s.now s.store[cl].statAt)) ∧
      (∃ t, exec (.egressSlot cl) s = .next t ∧ t.store[cl].egressAt = some (nextEgress cl s.now s.store[cl].egressAt)) ∧
      (∀ f rest, s.store[cl].hints = f :: rest → ∃ t, exec (.hintFetchComplete cl) s = .next t ∧ t.store[cl].hints = rest ∧
        t.store[cl].hintCount = s.store[cl].hintCount + 1) ∧
      (∀ c, s.store[cl].check = some c → clusterOf c.ch = cl →
        ∃ t, exec (.sluiceCheckComplete cl) s = .next t ∧ t.store[cl].check = none)) ∧
    (∀ u : CalUnit, (s.cal u).busy = true → s.hasUnit u = true →
      (∀ l ls, (l :: ls : List LineHits).length = (s.cal u).collected.length →
        ∃ t, exec (.collectionComplete u (l :: ls)) s = .next t ∧ (t.cal u).busy = false) ∧
      ∃ t, exec (.collectionTimeout u) s = .next t ∧ (t.cal u).busy = false) ∧
    (∀ i : Fin 32,
      (∀ up taps, i.val < 8 * s.part.clusters → s.time.running = true → s.sti[i].cal.calState ≠ 5 →
        let x := (stampAt i taps s.settle).1
        let u := (stampAt i taps s.settle).2
        x / 3200 ≤ s.now → u.gateOpen i up (x / 3200) = true → u.sti[i].cal.calState ≠ 5 → u.sti[i].blanks x = false →
        u.sti[i].dead ≤ x → ∃ t, exec (.stiEdge i up taps) s = .next t ∧ t.sti[i].converted = u.sti[i].converted + 1) ∧
      (Admitted s (inIdx i) 0x12 .wo → s.onOrStaged (inIdx i) 1 = false → s.sti[i].cal.calState ≠ 5 →
        ∃ t, exec (.commandedCalibration r i) s = .next t ∧ t.answer.status = 0 ∧ t.sti[i].cal.calState = 5) ∧
      (Admitted s (grpIdx i) 0x14 .wo → s.staged.nat (grpIdx i) 0x10 ≠ 0 → s.commits.size s.nextTide < 512 →
        ∃ t, exec (.statisticsRestart r i) s = .next t ∧ t.answer.status = 0))

/-- What each instruction of an edge program, and what ends its waits and its misses, does when it issues: it completes, with this
effect. R161 to R186 (instructions and waits), R153, R192 to R210 (Loads, pins, misses). -/
def Obligations.program_commands_complete : Prop :=
  ∀ (s : State) (ch : Fin 64) (n : Nat),
    (∀ i, i ∈ [Instr.nop ch, .setregOrigin ch, .halt ch] ∨ (∃ t, i = .wait ch .cursor t) ∨ (∃ t, i = .wait ch .origin t) ∨
        (∃ k v, i = .setregLoad ch k v) ∨ (∃ k v, i = .setregAdd ch k v) ∨ (∃ k j, i = .setregCopy ch k j) ∨
        (∃ x, i = .jump ch x) ∨ (∃ k x, i = .loop ch k x) → Issues s ch i n →
      ∃ t, exec i s = .next t ∧ t.seq[ch].issued = s.seq[ch].issued + 1 ∧ t.seq[ch].nextIssue = s.issueAt ch + 2) ∧
    (Issues s ch (.halt ch) n → ∃ t, exec (.halt ch) s = .next t ∧ t.seq[ch].pstate = 4) ∧
    (∀ x, Issues s ch (.jump ch x) n → ∃ t, exec (.jump ch x) s = .next t ∧ t.seq[ch].pc = x) ∧
    (∀ k v, Issues s ch (.setregLoad ch k v) n → ∃ t, exec (.setregLoad ch k v) s = .next t ∧ t.seq[ch].regs[k] = v) ∧
    (∀ st base adv t, Issues s ch (.edge ch st base adv t) n → s.edge[ch].fifo.length + 1 ≤ 32 →
      ∃ u, exec (.edge ch st base adv t) s = .next u ∧ u.edge[ch].fifo.length = s.edge[ch].fifo.length + 1) ∧
    (∀ low base adv t w, Issues s ch (.pulse ch low base adv t w) n → s.edge[ch].fifo.length + 2 ≤ 32 →
      ∃ u, exec (.pulse ch low base adv t w) s = .next u ∧ u.edge[ch].fifo.length = s.edge[ch].fifo.length + 2) ∧
    (∀ low base adv t k w p, Issues s ch (.burst ch low base adv t k w p) n → s.edge[ch].fifo.length + 1 ≤ 32 →
      ∃ u, exec (.burst ch low base adv t k w p) s = .next u ∧ u.edge[ch].fifo.length = s.edge[ch].fifo.length + 1) ∧
    (∀ tagged e, Issues s ch (.level ch tagged e) n → s.levelFull ch = false → ∃ t, exec (.level ch tagged e) s = .next t ∧
      t.drv[ch].queue.length = (issued s ch n).drv[ch].queue.length + 1) ∧
    (∀ i, i ∈ [Instr.period ch] ∨ (∃ v, i = .stamp ch (.operand v)) ∨ (∃ g, i = .gustLocal ch g) ∨ (∃ g, i = .gustFabric ch g) ∨
        (∃ k x v, i = .signal ch k x v) ∨ (∃ l, i = .setregClear ch l) → Issues s ch i n →
      s.issueAt ch < (issued s ch n).seq[ch].cursor / 3200 →
      ∃ t, exec i s = .next t ∧ t.seq[ch].actions.length = (issued s ch n).seq[ch].actions.length + 1) ∧
    (∀ x a, firstAction s.seq[ch].actions = some (x, a) → ∃ t, exec (.actionAtCursor ch) s = .next t ∧ x / 3200 ≤ t.now) ∧
    (∀ m, Issues s ch (.syncTide ch m) n → ∃ t, exec (.syncTide ch m) s = .next t ∧ t.seq[ch].pstate = 3 ∧ t.seq[ch].wait = .tide m) ∧
    (∀ m, Issues s ch (.syncFront ch m) n →
      ∃ t, exec (.syncFront ch m) s = .next t ∧ t.seq[ch].pstate = 3 ∧ t.seq[ch].wait = .front m) ∧
    (∀ m, Issues s ch (.syncGust ch m) n → ∃ t, exec (.syncGust ch m) s = .next t ∧ t.seq[ch].pstate = 3 ∧ t.seq[ch].wait = .gust m) ∧
    (Issues s ch (.syncTrigger ch) n → ∃ t, exec (.syncTrigger ch) s = .next t ∧ t.seq[ch].pstate = 3 ∧ t.seq[ch].wait = .trigger) ∧
    (∀ c x, Issues s ch (.branch ch c x) n → s.issueAt ch < (issued s ch n).seq[ch].cursor / 3200 →
      ∃ t, exec (.branch ch c x) s = .next t ∧ t.seq[ch].pstate = 3 ∧ t.seq[ch].wait = .branch c x) ∧
    (∀ c k x, Issues s ch (.waitcond ch c k x) n → (issued s ch n).oldest (s.issueAt ch) ≤ (issued s ch n).seq[ch].cursor / 3200 →
      ∃ t, exec (.waitcond ch c k x) s = .next t ∧ t.seq[ch].pstate = 3) ∧
    (∀ p, Issues s ch (.panhint ch p) n → ∃ t, exec (.panhint ch p) s = .next t ∧ t.seq[ch].issued = s.seq[ch].issued + 1) ∧
    (s.dev.st ≠ .hold →
      (∀ c x, s.seq[ch].wait = .branch c x → s.time.histFrom ≤ s.seq[ch].cursor / 3200 →
        ∃ t, exec (.branchDecision ch) s = .next t ∧ t.seq[ch].pstate = 2 ∧ t.seq[ch].wait = .none) ∧
      (∀ c a k x y t', s.seq[ch].wait = .cond c a k x y →
        firstMet s.settle ch c a (timeoutAt x k) = some t' →
        ∃ t, exec (.waitcondMet ch) s = .next t ∧ t.seq[ch].pstate = 2 ∧ t.seq[ch].origin = t' * 3200) ∧
      (∀ c a k x y, s.seq[ch].wait = .cond c a k x y → 0 < k →
        firstMet (s.reach ((x + k) / 3200)) ch c a (some (x + k)) = none →
        ∃ t, exec (.waitcondTimeout ch) s = .next t ∧ t.seq[ch].pstate = 2 ∧ t.seq[ch].pc = y) ∧
      (∀ k inst v, syncEvent s ch = some (k, inst, v) →
        ∃ t, exec (.syncComplete ch) s = .next t ∧ t.seq[ch].pstate = 2 ∧ t.seq[ch].origin = inst)) ∧
    (∀ r, Admitted s (seqIdx ch) 2 .wo → s.onOrStaged (chIdx ch) 2 = false → s.nat (chIdx ch) 1 = 2 →
      s.store[clusterOf ch].check = none → ∃ t, exec (.load r ch) s = .next t ∧ t.store[clusterOf ch].check.isSome = true) ∧
    (s.seq[ch].loading.isSome = true →
      ∃ t, exec (.pinLoadComplete ch) s = .next t ∧ t.seq[ch].pstate = 1 ∧ t.seq[ch].loading = none) ∧
    (s.ready ch = true → s.hasRoom ch = true → (s.missAt ch).isSome = true → s.nat (chIdx ch) 0x1E = 0 →
      ∃ t, exec (.panMiss ch) s = .next t ∧ t.seq[ch].pstate = 5) ∧
    (s.seq[ch].parkAt.isSome = true → ∃ t, exec (.missPark ch) s = .next t ∧ t.edge[ch].progState = .park) ∧
    (∀ (cl : Fin 4) (f : Fetch) (rest : List Fetch), s.store[cl].work = f :: rest → f.repair = true → f ∉ rest →
      ∃ t, exec (.repairComplete cl) s = .next t ∧ t.store[cl].work = rest ∧
        t.store[cl].repairCount = s.store[cl].repairCount + 1)

/-- What each command of the Saltern, the host paths and the fabric does where nothing stands against it: it completes, with this
effect. R366 to R378, R422 (Saltern); R380 to R394 (PCI Express); R398, R415, R52 (objects); R409 to R433, R501 (KPP, SPI, Ethernet,
test access port); R66, R68, R387 (batches); R330 to R362 (ports, items, joining, Fronts, Gusts, bulk). -/
def Obligations.host_and_fabric_commands_complete : Prop :=
  ∀ (s : State) (r : Requester),
    (∀ (p : BitVec 11) (v : Byte) f, Admitted s 0x7001 3 .wo → p ≠ 0 → assocSorted s.own = true →
      s.judgeFlag p.toNat v = .accepted f → ∃ t, exec (.flagWrite r p v) s = .next t ∧ t.answer.status = 0 ∧ t.flag p.toNat = f) ∧
    (∀ data : List Byte, Admitted s 0x7001 2 .rw → data.length = 4096 → 0 < s.nat 0x7001 1 → s.nat 0x7001 1 < 2048 →
      s.hostWritable (s.nat 0x7001 1) = true → ∃ t, exec (.panData r data) s = .next t ∧ t.answer.status = 0) ∧
    (Admitted s 0x7001 4 .wo → 0 < s.nat 0x7001 1 → s.nat 0x7001 1 < 2048 → (s.flag (s.nat 0x7001 1)).owner = .frozen →
      s.heldByProgram (s.nat 0x7001 1) = false → ∃ t, exec (.thaw r) s = .next t ∧ t.answer.status = 0) ∧
    (s.dev.st = .idle → s.health.errs = [] → s.health.poisoned = [] → s.parity = [] → Memory.wf s.mem = true →
      (s.flag 5).owner = .host → ∀ e v, s.readable r 0x6001 2 false 4096 = .ok (e, v) → e.type.isDomain = true →
      ∃ t, exec (.salternTransfer r 0x6001 2 1 5 4096) s = .next t ∧ t.answer.status = 0) ∧
    (s.pcieOpen = true →
      (∀ block bs, 64 ≤ block → block < 131072 → s.hostWritable (block / 64) = true → bs.length = 64 → Memory.wf s.mem = true →
        s.health.poisoned = [] → s.health.errs = [] → ∃ t, exec (.hostBlockWrite block bs) s = .next t ∧
          t.byte (64 * block) = (bs.getD 0 none).getD (s.byte (64 * block))) ∧
      (∀ a k, k ≤ 4096 → a % 4096 + k ≤ 4096 → a + k ≤ 8388608 → ∃ t, exec (.bar2Read a k) s = .next t ∧ t.host.lastRead.length = k) ∧
      (∃ t, exec (.evrCons (takePending s).ring.prod) s = .next t ∧ t.ring.cons = (takePending s).ring.prod) ∧
      (∃ t, exec .evrProd s = .next t ∧ t.ring.tideRead = s.ring.tide) ∧
      (∀ v : W32, ∃ t, exec (.alertStatus v) s = .next t ∧ t.host.alertStatus = s.host.alertStatus &&& ~~~(v.setWidth 4)) ∧
      (∀ v : W32, ∃ t, exec (.alertEnable v) s = .next t ∧ t.host.alertEnable = v.setWidth 4) ∧
      (∃ t, exec .mbxAck s = .next t ∧ t.host.mbxReady = false) ∧
      (s.host.mbxBusy = false → s.host.mbxReady = false → ∀ (n : W32) q, let m := decodeMsg (slice q 0 (min n.toNat 2048))
        16 ≤ n.toNat → n.toNat ≤ 2048 → n.toNat = 16 + m.length.toNat → ∃ t, exec (.mbxDoorbell n q) s = .next t ∧
          t = kpp ⟨.pcie, 0, m.session⟩ m { s with host := { s.host with mbxRequest := q, mbxBusy := true } })) ∧
    (∃ t, exec .perstN s = .next t ∧ t.host.msixPending = 0) ∧
    (s.boot.power = .running → ∀ up w v, ∃ t, exec (.pcieLinkChange up w v) s = .next t ∧ t.host.linkUp = up ∧ t.host.width = w ∧ t.host.speed = v) ∧
    (∃ t, exec .configurationRequest s = .next t ∧ t.host.crs = decide (s.dev.st = .boot ∨ s.dev.st = .load)) ∧
    (s.merger.ended ≠ [] → ∃ t, exec .batchClose s = .next t ∧ t.merger.ended.length + 1 = s.merger.ended.length) ∧
    (s.merger.closed ≠ [] → ∃ t, exec .batchPublish s = .next t ∧ t.merger.closed = s.merger.closed.tail) ∧
    (s.dev.st = .idle → s.exists_ 0x7001 1 = none →
      ∃ t, exec (.odWrite r 0x7001 1 [5, 0] false) s = .next t ∧ t.answer.status = 0 ∧ t.nat 0x7001 1 = 5) ∧
    (s.dev.st = .idle → s.parity = [] → ∃ t, exec (.ztimeRead r) s = .next t ∧ t.answer.status = 0) ∧
    (∀ up, s.csu.st ≠ .off → s.eth.linkUp ≠ up → ∃ t, exec (.ethernetLinkChange up) s = .next t ∧ t.eth.linkUp = up) ∧
    (∀ l, s.nat 0x1100 2 = 1 → s.eth.linkUp = true → s.dev.st ≠ .boot → s.eth.lease ≠ l →
      ∃ t, exec (.dhcpLeaseChange l) s = .next t ∧ t.eth.lease = l) ∧
    (∀ (d : W32) p, s.lanOpen = true → d.toNat = s.address → (∃ t, exec (.icmpEcho d p) s = .next t ∧ t.eth.reply = p) ∧
      ∃ t, exec (.arpRequest d) s = .next t ∧ t.eth.reply.length = 10) ∧
    (∀ m : KppMsg, s.remembered (requesterOf r m) m = none → ∀ c op, (c, op) ∈ [(Instr.read r m, (1 : Byte)), (.readSeg r m, 3),
        (.subscribe r m, 5), (.commit r m, 7), (.abort r m, 8)] ∨ (KppMsg.address m = (0x7001, 1) ∧
        (c, op) ∈ [(.write r m, 2), (.writeSeg r m, 4)]) → Arrives s r m op →
      ∃ t, exec c s = .next t ∧ t.kpp.served = s.kpp.served + 1) ∧
    ((s.kpp.subs.find? (fun u => Requester.sameHost u.by_ r)).isSome = true →
      ∃ t, exec (.subscriptionLapse r) s = .next t ∧ ∀ v ∈ t.kpp.subs, Requester.sameHost v.by_ r = false) ∧
    ((s.heldSet r).isSome = true → ∃ t, exec (.heldSetDiscard r) s = .next t ∧ t.heldSet r = none) ∧
    ((s.kpp.writeSegs.find? (fun y => y.by_ = r)).isSome = true →
      ∃ t, exec (.segmentTimeout r true) s = .next t ∧ ∀ y ∈ t.kpp.writeSegs, y.by_ ≠ r) ∧
    (∀ k z x, s.fab.outstanding.find? (fun y => y.1 = z && y.2.1 = k) = some x →
      ∃ t, exec (.forwardedRequestExpiry k z) s = .next t ∧ t.fab.outstanding = s.fab.outstanding.erase x) ∧
    (∀ b, s.dev.st ≠ .boot → s.spi.busy = false → s.spi.ready = false → 16 ≤ b.length →
      b.length = 16 + (decodeMsg b).length.toNat → ∃ t, exec (.spiRequest b) s = .next t ∧
        t = kpp ⟨.spi, 0, (decodeMsg b).session⟩ (decodeMsg b) { s with spi := { s.spi with busy := true } }) ∧
    (s.boot.power = .running → ∃ t, exec .spiStatus s = .next t ∧ t.spi.discarded = false ∧ t.spi.out = toBytes 4 s.spiWord) ∧
    (∃ t, exec (.spiResponse true) s = .next t ∧ t.spi.ready = false) ∧
    (∃ t, exec (.spiEvent true) s = .next t ∧ t.spi.events = s.spi.events.drop 1) ∧
    (s.boot.power ≠ .unpowered → ∃ t, exec (.testAccessPort .idcode) s = .next t ∧ t.pins.tapInstr = .idcode) ∧
    (∀ mask : W16, Admitted s 0x6400 2 .wo → mask ≠ 0 → s.fab.state = 3 → 120 * s.fab.maxDepth.toNat + 16 ≤ s.nat 0x6400 1 →
      ∃ t, exec (.issueFront r mask) s = .next t ∧ t.answer.status = 0 ∧ t.fab.frontSeq = s.fab.frontSeq + 1) ∧
    (∀ f a, earliest s.fab.frontWait = some (f, a) → ∃ t, exec .frontAccept s = .next t ∧
      a ≤ t.time.count ∧ t.fab.frontWait = s.fab.frontWait.erase (f, a)) ∧
    (∀ g : Fin 16, s.armg[g].cand.isSome = true → ∃ t, exec (.gustExecute g) s = .next t ∧ t.armg[g].armed = false ∧
      t.armg[g].execs = s.armg[g].execs + 1) ∧
    (s.fab.codesDue ≠ [] → ∃ t, exec .eventCodeDeliver s = .next t ∧ t.fab.delivered = s.fab.delivered + 1) ∧
    (∀ n : Fin 8,
      (∀ c, n.val < 2 * s.part.clusters → s.port[n].st.active = true → ∃ t, exec (.linkDown n c) s = .next t ∧ t.port[n].st = .down) ∧
      (∃ t, exec (.downCausesCleared n) s = .next t ∧ t.port[n].causes = []) ∧
      (s.port[n].st = .training → ∃ t, exec (.commaAligned n) s = .next t ∧ t.port[n].st = .hello) ∧
      (∀ i : HelloItem, s.port[n].st = .hello → i.crcOk = true → s.isUp n ≠ i.upstream →
        ∃ t, exec (.hello n i) s = .next t ∧ t.port[n].peerUid = i.uid) ∧
      (s.port[n].st = .up →
        (∀ i : TimeItem, i.crcOk = true → ∃ t, exec (.timeItem n i) s = .next t ∧ t.port[n].timeLull = i.lull) ∧
        (∀ i : CodeItem, i.crcOk = true → s.now ≤ expandTE s.now 20 i.due.toNat → ∃ t, exec (.eventCode n i) s = .next t ∧
          t.fab.codesDue = s.fab.codesDue ++ [(expandTE s.now 20 i.due.toNat, i.code)]) ∧
        (∀ f : FrontItem, f.crcOk = true → s.isUp n = true → s.port[n].lastFront ≠ some f →
          s.now + 16 ≤ expandTE s.now 32 f.armAt.toNat → ∃ t, exec (.front n f) s = .next t ∧ t.port[n].lastFront = some f) ∧
        (∀ i : GustItem, i.crcOk = true → s.port[n].lastGust ≠ some i → ∃ t, exec (.gust n i) s = .next t ∧
          t.armg = (contest i.group i.sequence (expandTE s.now 32 i.fireTE.toNat * 3200 + i.fireFine.val, i.node.setWidth 16) s).armg) ∧
        (∀ i : JoinItem, i.crcOk = true →
          (∀ id : Nat, s.isUp n = false → s.fab.state = 3 → s.joinAnswer i = .inl id →
            ∃ t, exec (.joinRequest n i) s = .next t ∧ BitVec.ofNat 14 id ∈ t.port[n].behind) ∧
          (s.isUp n = true → i.path = [] → s.fab.state = 1 → i.uid = Config.uniqueId →
            (∃ t, exec (.joinReply n i) s = .next t ∧ t.fab.state = 2) ∧
            ∃ t, exec (.joinRefused n i) s = .next t ∧ t.fab.state = 1)) ∧
        (∀ (node : BitVec 14) (p : Fin 8) (m : Member), s.isUp n = false → s.fab.state = 3 →
          s.fab.roster.find? (fun m => m.node = node) = some m → ∃ t, exec (.leave n node p true) s = .next t ∧
            t.fab.roster = s.fab.roster.filter (fun x => !(membersBehind s.fab.roster m.route p).contains x)) ∧
        (s.isUp n = true → s.fab.state ≠ 0 → ∃ t, exec (.detach n true) s = .next t ∧ t.fab.state = 0) ∧
        (∀ (me src : BitVec 14) (o : BitVec 11) (f c off : Nat), s.isMine me = true → s.fab.sendReq = some (src, f, c, off) →
          off ≤ o.toNat → o.toNat < off + c → ∃ t, exec (.bulkResult n me src o true true) s = .next t ∧ t.fab.sendReq = none) ∧
        (∀ (i : DataItem) (p : Fin 8), i.crcOk = true → s.inTree = true → s.isMine i.dest = false → s.routeTo i.dest = some p → p ≠ n →
          ∃ t, exec (.kppTunnel n i) s = .next t ∧ t.port[p].tx = s.port[p].tx ++ [.tunnel i]) ∧
        (∀ i : DataItem, s.isMine i.dest = true → i.crcOk = true → (i.src, i.offset.toNat) ∉ s.fab.failed → s.windowTakes i.offset.toNat = true →
          0 < s.fab.winFirst + i.offset.toNat → s.fab.winFirst + i.offset.toNat < 2048 → i.data.length = 4096 →
          ∃ t, exec (.bulk n i) s = .next t ∧ t.fab.received = s.fab.received + 1)) ∧
      (s.upstream = some n → s.fab.state = 1 → s.port[n].st = .up →
        ∃ t, exec .joinRequestTimer s = .next t ∧ t.port[n].tx.length = s.port[n].tx.length + 1)) ∧
    (∀ node l, s.fab.leases.find? (fun l => l.node = node) = some l →
      ∃ t, exec (.leaseExpiry node) s = .next t ∧ ∀ m ∈ t.fab.leases, m.node ≠ node) ∧
    (∀ d f c o : W16, Admitted s 0x6300 1 .wo → d.toNat < 16384 → 1 ≤ c.toNat → f.toNat + c.toNat ≤ 2048 →
      c.toNat ≤ 2047 → s.inTree = true → s.fab.sendSt ≠ 1 →
      s.allHost ((List.range c.toNat).map (f.toNat + ·)) = true → s.isMine (BitVec.ofNat 14 d.toNat) = false →
      (s.routeTo (BitVec.ofNat 14 d.toNat)).isSome = true →
      ∃ t, exec (.bulkSend r d f c o) s = .next t ∧ t.answer.status = 0 ∧ t.fab.sendSt = 1) ∧
    (Admitted s 0x6300 6 .rwh → s.fab.windowOn = false → s.nat 0x6300 4 + s.nat 0x6300 5 ≤ 2048 →
      s.allHost ((List.range (s.nat 0x6300 5)).map (s.nat 0x6300 4 + ·)) = true →
      ∃ t, exec (.windowOpen r true) s = .next t ∧ t.answer.status = 0 ∧ t.fab.windowOn = true)

/-- R26, R101, R136, R154, R155, R264, R284, R291, R385, R390, R408, R412, R415: a Tide boundary in IDLE, RUN, HOLD or SAFE, with no
command to carry out, applies the sets that are due to the settings, with what the autonomous class chose, and counts a configuration
when something was applied. By the settings it leaves, outputs stop, wait or start; in RUN an admitted program of an enabled channel starts,
and a disabled channel's stops; a monitor that is enabled settles for 2,500 T_E; the event ring opens on its Pans or reports that it
cannot, or closes; a route that begins sets its channel's latch when its source asserts. A correction table of the set, and a unit's
completed lines, come into force with the next generation number and this Tide's number. -/
def Obligations.boundary_settings : Prop :=
  (∀ (s : State) (m : TideMeas), let b := s.nextBoundary
    let due := s.commits.upTo (b / 1000000)
    s.time.running = true → s.served = true → s.resetBy b = false → s.now ≤ b → s.dev.pendCmd = none → s.dev.sched = none →
    (∀ e ∈ due, isRwt s.part e.key = true) →
    ∃ t, exec (.tideBoundary m) s = .next t ∧ t.dev.st = s.dev.st ∧ t.time.lastTide = some b ∧
      t.od = (autonomousAtBoundary { s with od := Commits.overlay s.od (due.filter (fun e => !isTable e.key)) }).od ∧
      t.commits.sets = s.commits.sets.filter (fun p => decide (b / 1000000 < p.1)) ∧
      t.commits.restart = s.commits.restart.filter (fun p => decide (b < p.2)) ∧
      t.commits.confGen = s.commits.confGen + (if due ≠ [] ∨ ∃ p ∈ s.commits.restart, p.2 ≤ b then 1 else 0) ∧
      (∀ n : Fin 8, let i := clkIdx n.val
        (t.on i 1 = false → t.clkout[n].st = 0) ∧
        (t.on i 1 = true → s.dev.st = .safe → t.on i 0x0B = true → t.clkout[n].st = 1) ∧
        (t.on i 1 = true → (s.dev.st ≠ .safe ∨ t.on i 0x0B = false) →
          (t.csu.everAligned = true ∨ t.on i 7 = true → t.clkout[n].st = 2 ∨ t.clkout[n].st = 3) ∧
          (t.csu.everAligned = false → t.on i 7 = false → s.clkout[n].st ≠ 2 → s.clkout[n].st ≠ 3 → t.clkout[n].st = 1))) ∧
      (∀ ch ∈ s.channels,
        (s.dev.st = .run → t.chOn ch = true → t.nat (chIdx ch) 1 = 2 → s.seq[ch].pstate = 1 →
          t.seq[ch].pstate = 2 ∧ t.seq[ch].started = b) ∧
        (s.chOn ch = true → t.chOn ch = false → t.seq[ch].pstate ≤ 1) ∧
        (bit (s.nat (chIdx ch) 0x1B) 32 = false → bit (t.nat (chIdx ch) 0x1B) 32 = true → t.tripin.active = true →
          t.trip[ch].latched = true) ∧
        (∀ e x, due.filter (fun e => isTable e.key) = [e] → e.key = odKey (0x7F00 + ch.val) 1 → e.value = .bytes x →
          s.edge[ch].newTable = none → t.edge[ch].table = some (slice x 0 12800) ∧ t.edge[ch].origin = 4 ∧
            t.edge[ch].calGen = s.edge[ch].calGen + 1 ∧ t.edge[ch].installed = BitVec.ofNat 64 (b / 1000000))) ∧
      (∀ wm ∈ s.units8,
        (s.on (monIdx wm) 1 = false → t.on (monIdx wm) 1 = true →
          t.mon[wm].phase = .settling (b + 2500) ∧ t.mon[wm].asserts = false) ∧
        (s.on (monIdx wm) 1 = true → t.on (monIdx wm) 1 = false → t.mon[wm].phase = .off ∧ t.mon[wm].asserts = false)) ∧
      (∀ u ∈ s.calUnits, (∀ e ∈ due, isTable e.key = false) → (s.cal u).newLines ≠ [] →
        (∀ i, u = .input i → t.on (inIdx i) 0x10 = s.on (inIdx i) 0x10) →
        (t.cal u).newLines = [] ∧ (t.cal u).gen = (s.cal u).gen + 1 ∧
          (t.cal u).installed = BitVec.ofNat 64 (b / 1000000)) ∧
      (s.on 0x1400 3 = false → t.on 0x1400 3 = true → let f := t.nat 0x1400 1
        let k := t.nat 0x1400 2
        let open_ := f + k ≤ 2048 ∧ s.allHost ((List.range k).map (f + ·)) = true
        (open_ → t.ring.on = true ∧ t.ring.st = 1 ∧ t.ring.first = f ∧ t.ring.pans = k ∧ t.ring.prod = 0 ∧ t.ring.cons = 0) ∧
        (¬open_ → t.ring.on = s.ring.on ∧ t.ring.st = 2)) ∧
      (s.on 0x1400 3 = true → t.on 0x1400 3 = false → t.ring.on = false ∧ t.ring.st = 0)) ∧
  (∀ (old s : State) (b : TE) (ch : Fin 64) (k : Nat), k < 33 → bit (s.nat (chIdx ch) 0x1B) k = true →
    bit (old.nat (chIdx ch) 0x1B) k = false → s.sourceAsserts k = true →
    (routesAtBoundary old b ch s).trip[ch].latched = true ∧ ∀ j, j ≠ ch → (routesAtBoundary old b ch s).trip[j] = s.trip[j])

/-- R154, R263, R403, R404, R405, R406, R453: a boundary carries out the command that is pending for it: GO, HOLD, RESUME, STOP and LEAVE_SAFE change
the state, which is reported; RUN starts the admitted programs of enabled channels, IDLE stops every program; RESTORE_DEFAULTS empties
the sets and takes every stored setting but those it keeps to its default; CALIBRATE sends every input into raw mode. A scheduled command
is carried out when the state permits it then, and dropped and reported when not. -/
def Obligations.boundary_commands : Prop :=
  ∀ (s : State) (m : TideMeas) (c : Byte), let b := s.nextBoundary
    s.time.running = true → s.served = true → s.resetBy b = false → s.now ≤ b →
    (∀ e ∈ s.commits.upTo (b / 1000000), isRwt s.part e.key = true) →
    let enters (t : State) (d : DevState) : Prop := t.dev.st = d ∧
      (s.health.passErrs = [] → Raised t (b * 3200) 491 (6 + d.code * 16 + 0x13000000)) ∧
      ∀ ch ∈ s.channels, (d = .idle → t.seq[ch].pstate ≤ 1) ∧
        (d = .run → t.chOn ch = true → t.nat (chIdx ch) 1 = 2 → s.seq[ch].pstate = 1 → t.seq[ch].pstate = 2 ∧ t.seq[ch].started = b)
    let after (d : DevState) : Prop := (c = 1 ∨ c = 3) ∧ d = .run ∨ c = 2 ∧ d = .hold ∨ (c = 4 ∨ c = 6) ∧ d = .idle
    (∀ a, s.dev.pendCmd = some (c, a) → a ≤ b → s.dev.sched = none → ∃ t, exec (.tideBoundary m) s = .next t ∧ t.dev.pendCmd = none ∧
      (∀ d, after d → enters t d) ∧
      (c = 8 → t.dev.st = s.dev.st ∧ t.commits.sets = [] ∧
        ∀ key, keptByRestore s.part key = false → assocFind t.od key = none) ∧
      (c = 9 → t.dev.st = s.dev.st ∧ t.dev.calibrating = true ∧
        ∀ i ∈ s.units8, t.sti[i].cal.calState = 5 ∧ t.sti[i].cal.calOrigin = 3 ∧ t.sti[i].cal.busy = true)) ∧
    (∀ x : W64, s.dev.pendCmd = none → s.dev.sched = some (c, x) → tideNamed b x.toNat ≤ b / 1000000 →
      ∃ t, exec (.tideBoundary m) s = .next t ∧ t.dev.sched = none ∧
        (∀ d, after d → commandPermits c.toNat s.dev.st = true → enters t d) ∧
        (commandPermits c.toNat s.dev.st = false → t.dev.st = s.dev.st ∧
          (s.health.passErrs = [] → (∀ e ∈ s.merger.ended, e.at_ ≠ b) →
            Raised t (b * 3200) 491 (3 + c.toNat * 16 + 0x13000000)))) ∧
    (∀ x : W64, s.dev.pendCmd = none → s.dev.sched = some (c, x) → b / 1000000 < tideNamed b x.toNat →
      ∃ t, exec (.tideBoundary m) s = .next t ∧ t.dev.sched = some (c, x) ∧ t.dev.st = s.dev.st)

/-- What waits keeps its bounds in every step, from every state that has them (R221, R251, R366, R386 to R389); what is staged and held are
settings of class RWT (R398, R408, R409). -/
def Obligations.queue_bounds_kept : Prop :=
  ∀ s t : State, QueueInv s → StepsOn s t → QueueInv t
end

