-- ==== Sys2Proof/Laws/State.lean ====
section
/-!
SUPPORT. What each named update of the state leaves in each field: one lemma per field and update, all by unfolding.
-/
namespace Sys2Proof.Machine

/-! ## One unit of an array -/

/-- The unit changed. -/
@[simp] theorem upd_same {α : Type} {n : Nat} (v : Vector α n) (i : Fin n) (f : α → α) : (upd v i f)[i.val] = f v[i.val] := by
  simp [upd]

/-- The same, read at the index itself. -/
@[simp] theorem upd_same_fin {α : Type} {n : Nat} (v : Vector α n) (i : Fin n) (f : α → α) : (upd v i f)[i] = f v[i] := by
  simp [upd]

/-- Every other unit stays. -/
theorem upd_other {α : Type} {n : Nat} (v : Vector α n) (i j : Fin n) (f : α → α) (h : i ≠ j) : (upd v i f)[j] = v[j] := by
  have : i.val ≠ j.val := fun e => h (Fin.ext e)
  simp [upd, this]

/-! ## updClk -/

@[simp] theorem updClk_part (s : State) (i : Fin 8) (g : ClkOut → ClkOut) : (s.updClk i g).part = s.part := rfl
@[simp] theorem updClk_pending (s : State) (i : Fin 8) (g : ClkOut → ClkOut) : (s.updClk i g).pending = s.pending := rfl
@[simp] theorem updClk_boot (s : State) (i : Fin 8) (g : ClkOut → ClkOut) : (s.updClk i g).boot = s.boot := rfl
@[simp] theorem updClk_time (s : State) (i : Fin 8) (g : ClkOut → ClkOut) : (s.updClk i g).time = s.time := rfl
@[simp] theorem updClk_dev (s : State) (i : Fin 8) (g : ClkOut → ClkOut) : (s.updClk i g).dev = s.dev := rfl
@[simp] theorem updClk_csu (s : State) (i : Fin 8) (g : ClkOut → ClkOut) : (s.updClk i g).csu = s.csu := rfl
@[simp] theorem updClk_clkout (s : State) (i : Fin 8) (g : ClkOut → ClkOut) : (s.updClk i g).clkout = upd s.clkout i g := rfl
@[simp] theorem updClk_edge (s : State) (i : Fin 8) (g : ClkOut → ClkOut) : (s.updClk i g).edge = s.edge := rfl
@[simp] theorem updClk_delay (s : State) (i : Fin 8) (g : ClkOut → ClkOut) : (s.updClk i g).delay = s.delay := rfl
@[simp] theorem updClk_seq (s : State) (i : Fin 8) (g : ClkOut → ClkOut) : (s.updClk i g).seq = s.seq := rfl
@[simp] theorem updClk_drv (s : State) (i : Fin 8) (g : ClkOut → ClkOut) : (s.updClk i g).drv = s.drv := rfl
@[simp] theorem updClk_trip (s : State) (i : Fin 8) (g : ClkOut → ClkOut) : (s.updClk i g).trip = s.trip := rfl
@[simp] theorem updClk_store (s : State) (i : Fin 8) (g : ClkOut → ClkOut) : (s.updClk i g).store = s.store := rfl
@[simp] theorem updClk_sti (s : State) (i : Fin 8) (g : ClkOut → ClkOut) : (s.updClk i g).sti = s.sti := rfl
@[simp] theorem updClk_grp (s : State) (i : Fin 8) (g : ClkOut → ClkOut) : (s.updClk i g).grp = s.grp := rfl
@[simp] theorem updClk_stat (s : State) (i : Fin 8) (g : ClkOut → ClkOut) : (s.updClk i g).stat = s.stat := rfl
@[simp] theorem updClk_line (s : State) (i : Fin 8) (g : ClkOut → ClkOut) : (s.updClk i g).line = s.line := rfl
@[simp] theorem updClk_mon (s : State) (i : Fin 8) (g : ClkOut → ClkOut) : (s.updClk i g).mon = s.mon := rfl
@[simp] theorem updClk_tripin (s : State) (i : Fin 8) (g : ClkOut → ClkOut) : (s.updClk i g).tripin = s.tripin := rfl
@[simp] theorem updClk_xbar (s : State) (i : Fin 8) (g : ClkOut → ClkOut) : (s.updClk i g).xbar = s.xbar := rfl
@[simp] theorem updClk_trig (s : State) (i : Fin 8) (g : ClkOut → ClkOut) : (s.updClk i g).trig = s.trig := rfl
@[simp] theorem updClk_cap (s : State) (i : Fin 8) (g : ClkOut → ClkOut) : (s.updClk i g).cap = s.cap := rfl
@[simp] theorem updClk_drz (s : State) (i : Fin 8) (g : ClkOut → ClkOut) : (s.updClk i g).drz = s.drz := rfl
@[simp] theorem updClk_port (s : State) (i : Fin 8) (g : ClkOut → ClkOut) : (s.updClk i g).port = s.port := rfl
@[simp] theorem updClk_fab (s : State) (i : Fin 8) (g : ClkOut → ClkOut) : (s.updClk i g).fab = s.fab := rfl
@[simp] theorem updClk_armg (s : State) (i : Fin 8) (g : ClkOut → ClkOut) : (s.updClk i g).armg = s.armg := rfl
@[simp] theorem updClk_sender (s : State) (i : Fin 8) (g : ClkOut → ClkOut) : (s.updClk i g).sender = s.sender := rfl
@[simp] theorem updClk_gustq (s : State) (i : Fin 8) (g : ClkOut → ClkOut) : (s.updClk i g).gustq = s.gustq := rfl
@[simp] theorem updClk_mem (s : State) (i : Fin 8) (g : ClkOut → ClkOut) : (s.updClk i g).mem = s.mem := rfl
@[simp] theorem updClk_own (s : State) (i : Fin 8) (g : ClkOut → ClkOut) : (s.updClk i g).own = s.own := rfl
@[simp] theorem updClk_ring (s : State) (i : Fin 8) (g : ClkOut → ClkOut) : (s.updClk i g).ring = s.ring := rfl
@[simp] theorem updClk_merger (s : State) (i : Fin 8) (g : ClkOut → ClkOut) : (s.updClk i g).merger = s.merger := rfl
@[simp] theorem updClk_host (s : State) (i : Fin 8) (g : ClkOut → ClkOut) : (s.updClk i g).host = s.host := rfl
@[simp] theorem updClk_od (s : State) (i : Fin 8) (g : ClkOut → ClkOut) : (s.updClk i g).od = s.od := rfl
@[simp] theorem updClk_parity (s : State) (i : Fin 8) (g : ClkOut → ClkOut) : (s.updClk i g).parity = s.parity := rfl
@[simp] theorem updClk_commits (s : State) (i : Fin 8) (g : ClkOut → ClkOut) : (s.updClk i g).commits = s.commits := rfl
@[simp] theorem updClk_kpp (s : State) (i : Fin 8) (g : ClkOut → ClkOut) : (s.updClk i g).kpp = s.kpp := rfl
@[simp] theorem updClk_eth (s : State) (i : Fin 8) (g : ClkOut → ClkOut) : (s.updClk i g).eth = s.eth := rfl
@[simp] theorem updClk_spi (s : State) (i : Fin 8) (g : ClkOut → ClkOut) : (s.updClk i g).spi = s.spi := rfl
@[simp] theorem updClk_flash (s : State) (i : Fin 8) (g : ClkOut → ClkOut) : (s.updClk i g).flash = s.flash := rfl
@[simp] theorem updClk_persist (s : State) (i : Fin 8) (g : ClkOut → ClkOut) : (s.updClk i g).persist = s.persist := rfl
@[simp] theorem updClk_health (s : State) (i : Fin 8) (g : ClkOut → ClkOut) : (s.updClk i g).health = s.health := rfl
@[simp] theorem updClk_margin (s : State) (i : Fin 8) (g : ClkOut → ClkOut) : (s.updClk i g).margin = s.margin := rfl
@[simp] theorem updClk_pins (s : State) (i : Fin 8) (g : ClkOut → ClkOut) : (s.updClk i g).pins = s.pins := rfl
@[simp] theorem updClk_answer (s : State) (i : Fin 8) (g : ClkOut → ClkOut) : (s.updClk i g).answer = s.answer := rfl
@[simp] theorem updClk_free (s : State) (i : Fin 8) (g : ClkOut → ClkOut) : (s.updClk i g).free = s.free := rfl

/-! ## updEdge -/

@[simp] theorem updEdge_part (s : State) (i : Fin 64) (g : EdgeEngine → EdgeEngine) : (s.updEdge i g).part = s.part := rfl
@[simp] theorem updEdge_pending (s : State) (i : Fin 64) (g : EdgeEngine → EdgeEngine) : (s.updEdge i g).pending = s.pending := rfl
@[simp] theorem updEdge_boot (s : State) (i : Fin 64) (g : EdgeEngine → EdgeEngine) : (s.updEdge i g).boot = s.boot := rfl
@[simp] theorem updEdge_time (s : State) (i : Fin 64) (g : EdgeEngine → EdgeEngine) : (s.updEdge i g).time = s.time := rfl
@[simp] theorem updEdge_dev (s : State) (i : Fin 64) (g : EdgeEngine → EdgeEngine) : (s.updEdge i g).dev = s.dev := rfl
@[simp] theorem updEdge_csu (s : State) (i : Fin 64) (g : EdgeEngine → EdgeEngine) : (s.updEdge i g).csu = s.csu := rfl
@[simp] theorem updEdge_clkout (s : State) (i : Fin 64) (g : EdgeEngine → EdgeEngine) : (s.updEdge i g).clkout = s.clkout := rfl
@[simp] theorem updEdge_edge (s : State) (i : Fin 64) (g : EdgeEngine → EdgeEngine) : (s.updEdge i g).edge = upd s.edge i g := rfl
@[simp] theorem updEdge_delay (s : State) (i : Fin 64) (g : EdgeEngine → EdgeEngine) : (s.updEdge i g).delay = s.delay := rfl
@[simp] theorem updEdge_seq (s : State) (i : Fin 64) (g : EdgeEngine → EdgeEngine) : (s.updEdge i g).seq = s.seq := rfl
@[simp] theorem updEdge_drv (s : State) (i : Fin 64) (g : EdgeEngine → EdgeEngine) : (s.updEdge i g).drv = s.drv := rfl
@[simp] theorem updEdge_trip (s : State) (i : Fin 64) (g : EdgeEngine → EdgeEngine) : (s.updEdge i g).trip = s.trip := rfl
@[simp] theorem updEdge_store (s : State) (i : Fin 64) (g : EdgeEngine → EdgeEngine) : (s.updEdge i g).store = s.store := rfl
@[simp] theorem updEdge_sti (s : State) (i : Fin 64) (g : EdgeEngine → EdgeEngine) : (s.updEdge i g).sti = s.sti := rfl
@[simp] theorem updEdge_grp (s : State) (i : Fin 64) (g : EdgeEngine → EdgeEngine) : (s.updEdge i g).grp = s.grp := rfl
@[simp] theorem updEdge_stat (s : State) (i : Fin 64) (g : EdgeEngine → EdgeEngine) : (s.updEdge i g).stat = s.stat := rfl
@[simp] theorem updEdge_line (s : State) (i : Fin 64) (g : EdgeEngine → EdgeEngine) : (s.updEdge i g).line = s.line := rfl
@[simp] theorem updEdge_mon (s : State) (i : Fin 64) (g : EdgeEngine → EdgeEngine) : (s.updEdge i g).mon = s.mon := rfl
@[simp] theorem updEdge_tripin (s : State) (i : Fin 64) (g : EdgeEngine → EdgeEngine) : (s.updEdge i g).tripin = s.tripin := rfl
@[simp] theorem updEdge_xbar (s : State) (i : Fin 64) (g : EdgeEngine → EdgeEngine) : (s.updEdge i g).xbar = s.xbar := rfl
@[simp] theorem updEdge_trig (s : State) (i : Fin 64) (g : EdgeEngine → EdgeEngine) : (s.updEdge i g).trig = s.trig := rfl
@[simp] theorem updEdge_cap (s : State) (i : Fin 64) (g : EdgeEngine → EdgeEngine) : (s.updEdge i g).cap = s.cap := rfl
@[simp] theorem updEdge_drz (s : State) (i : Fin 64) (g : EdgeEngine → EdgeEngine) : (s.updEdge i g).drz = s.drz := rfl
@[simp] theorem updEdge_port (s : State) (i : Fin 64) (g : EdgeEngine → EdgeEngine) : (s.updEdge i g).port = s.port := rfl
@[simp] theorem updEdge_fab (s : State) (i : Fin 64) (g : EdgeEngine → EdgeEngine) : (s.updEdge i g).fab = s.fab := rfl
@[simp] theorem updEdge_armg (s : State) (i : Fin 64) (g : EdgeEngine → EdgeEngine) : (s.updEdge i g).armg = s.armg := rfl
@[simp] theorem updEdge_sender (s : State) (i : Fin 64) (g : EdgeEngine → EdgeEngine) : (s.updEdge i g).sender = s.sender := rfl
@[simp] theorem updEdge_gustq (s : State) (i : Fin 64) (g : EdgeEngine → EdgeEngine) : (s.updEdge i g).gustq = s.gustq := rfl
@[simp] theorem updEdge_mem (s : State) (i : Fin 64) (g : EdgeEngine → EdgeEngine) : (s.updEdge i g).mem = s.mem := rfl
@[simp] theorem updEdge_own (s : State) (i : Fin 64) (g : EdgeEngine → EdgeEngine) : (s.updEdge i g).own = s.own := rfl
@[simp] theorem updEdge_ring (s : State) (i : Fin 64) (g : EdgeEngine → EdgeEngine) : (s.updEdge i g).ring = s.ring := rfl
@[simp] theorem updEdge_merger (s : State) (i : Fin 64) (g : EdgeEngine → EdgeEngine) : (s.updEdge i g).merger = s.merger := rfl
@[simp] theorem updEdge_host (s : State) (i : Fin 64) (g : EdgeEngine → EdgeEngine) : (s.updEdge i g).host = s.host := rfl
@[simp] theorem updEdge_od (s : State) (i : Fin 64) (g : EdgeEngine → EdgeEngine) : (s.updEdge i g).od = s.od := rfl
@[simp] theorem updEdge_parity (s : State) (i : Fin 64) (g : EdgeEngine → EdgeEngine) : (s.updEdge i g).parity = s.parity := rfl
@[simp] theorem updEdge_commits (s : State) (i : Fin 64) (g : EdgeEngine → EdgeEngine) : (s.updEdge i g).commits = s.commits := rfl
@[simp] theorem updEdge_kpp (s : State) (i : Fin 64) (g : EdgeEngine → EdgeEngine) : (s.updEdge i g).kpp = s.kpp := rfl
@[simp] theorem updEdge_eth (s : State) (i : Fin 64) (g : EdgeEngine → EdgeEngine) : (s.updEdge i g).eth = s.eth := rfl
@[simp] theorem updEdge_spi (s : State) (i : Fin 64) (g : EdgeEngine → EdgeEngine) : (s.updEdge i g).spi = s.spi := rfl
@[simp] theorem updEdge_flash (s : State) (i : Fin 64) (g : EdgeEngine → EdgeEngine) : (s.updEdge i g).flash = s.flash := rfl
@[simp] theorem updEdge_persist (s : State) (i : Fin 64) (g : EdgeEngine → EdgeEngine) : (s.updEdge i g).persist = s.persist := rfl
@[simp] theorem updEdge_health (s : State) (i : Fin 64) (g : EdgeEngine → EdgeEngine) : (s.updEdge i g).health = s.health := rfl
@[simp] theorem updEdge_margin (s : State) (i : Fin 64) (g : EdgeEngine → EdgeEngine) : (s.updEdge i g).margin = s.margin := rfl
@[simp] theorem updEdge_pins (s : State) (i : Fin 64) (g : EdgeEngine → EdgeEngine) : (s.updEdge i g).pins = s.pins := rfl
@[simp] theorem updEdge_answer (s : State) (i : Fin 64) (g : EdgeEngine → EdgeEngine) : (s.updEdge i g).answer = s.answer := rfl
@[simp] theorem updEdge_free (s : State) (i : Fin 64) (g : EdgeEngine → EdgeEngine) : (s.updEdge i g).free = s.free := rfl

/-! ## updDelay -/

@[simp] theorem updDelay_part (s : State) (i : Fin 64) (g : Delay → Delay) : (s.updDelay i g).part = s.part := rfl
@[simp] theorem updDelay_pending (s : State) (i : Fin 64) (g : Delay → Delay) : (s.updDelay i g).pending = s.pending := rfl
@[simp] theorem updDelay_boot (s : State) (i : Fin 64) (g : Delay → Delay) : (s.updDelay i g).boot = s.boot := rfl
@[simp] theorem updDelay_time (s : State) (i : Fin 64) (g : Delay → Delay) : (s.updDelay i g).time = s.time := rfl
@[simp] theorem updDelay_dev (s : State) (i : Fin 64) (g : Delay → Delay) : (s.updDelay i g).dev = s.dev := rfl
@[simp] theorem updDelay_csu (s : State) (i : Fin 64) (g : Delay → Delay) : (s.updDelay i g).csu = s.csu := rfl
@[simp] theorem updDelay_clkout (s : State) (i : Fin 64) (g : Delay → Delay) : (s.updDelay i g).clkout = s.clkout := rfl
@[simp] theorem updDelay_edge (s : State) (i : Fin 64) (g : Delay → Delay) : (s.updDelay i g).edge = s.edge := rfl
@[simp] theorem updDelay_delay (s : State) (i : Fin 64) (g : Delay → Delay) : (s.updDelay i g).delay = upd s.delay i g := rfl
@[simp] theorem updDelay_seq (s : State) (i : Fin 64) (g : Delay → Delay) : (s.updDelay i g).seq = s.seq := rfl
@[simp] theorem updDelay_drv (s : State) (i : Fin 64) (g : Delay → Delay) : (s.updDelay i g).drv = s.drv := rfl
@[simp] theorem updDelay_trip (s : State) (i : Fin 64) (g : Delay → Delay) : (s.updDelay i g).trip = s.trip := rfl
@[simp] theorem updDelay_store (s : State) (i : Fin 64) (g : Delay → Delay) : (s.updDelay i g).store = s.store := rfl
@[simp] theorem updDelay_sti (s : State) (i : Fin 64) (g : Delay → Delay) : (s.updDelay i g).sti = s.sti := rfl
@[simp] theorem updDelay_grp (s : State) (i : Fin 64) (g : Delay → Delay) : (s.updDelay i g).grp = s.grp := rfl
@[simp] theorem updDelay_stat (s : State) (i : Fin 64) (g : Delay → Delay) : (s.updDelay i g).stat = s.stat := rfl
@[simp] theorem updDelay_line (s : State) (i : Fin 64) (g : Delay → Delay) : (s.updDelay i g).line = s.line := rfl
@[simp] theorem updDelay_mon (s : State) (i : Fin 64) (g : Delay → Delay) : (s.updDelay i g).mon = s.mon := rfl
@[simp] theorem updDelay_tripin (s : State) (i : Fin 64) (g : Delay → Delay) : (s.updDelay i g).tripin = s.tripin := rfl
@[simp] theorem updDelay_xbar (s : State) (i : Fin 64) (g : Delay → Delay) : (s.updDelay i g).xbar = s.xbar := rfl
@[simp] theorem updDelay_trig (s : State) (i : Fin 64) (g : Delay → Delay) : (s.updDelay i g).trig = s.trig := rfl
@[simp] theorem updDelay_cap (s : State) (i : Fin 64) (g : Delay → Delay) : (s.updDelay i g).cap = s.cap := rfl
@[simp] theorem updDelay_drz (s : State) (i : Fin 64) (g : Delay → Delay) : (s.updDelay i g).drz = s.drz := rfl
@[simp] theorem updDelay_port (s : State) (i : Fin 64) (g : Delay → Delay) : (s.updDelay i g).port = s.port := rfl
@[simp] theorem updDelay_fab (s : State) (i : Fin 64) (g : Delay → Delay) : (s.updDelay i g).fab = s.fab := rfl
@[simp] theorem updDelay_armg (s : State) (i : Fin 64) (g : Delay → Delay) : (s.updDelay i g).armg = s.armg := rfl
@[simp] theorem updDelay_sender (s : State) (i : Fin 64) (g : Delay → Delay) : (s.updDelay i g).sender = s.sender := rfl
@[simp] theorem updDelay_gustq (s : State) (i : Fin 64) (g : Delay → Delay) : (s.updDelay i g).gustq = s.gustq := rfl
@[simp] theorem updDelay_mem (s : State) (i : Fin 64) (g : Delay → Delay) : (s.updDelay i g).mem = s.mem := rfl
@[simp] theorem updDelay_own (s : State) (i : Fin 64) (g : Delay → Delay) : (s.updDelay i g).own = s.own := rfl
@[simp] theorem updDelay_ring (s : State) (i : Fin 64) (g : Delay → Delay) : (s.updDelay i g).ring = s.ring := rfl
@[simp] theorem updDelay_merger (s : State) (i : Fin 64) (g : Delay → Delay) : (s.updDelay i g).merger = s.merger := rfl
@[simp] theorem updDelay_host (s : State) (i : Fin 64) (g : Delay → Delay) : (s.updDelay i g).host = s.host := rfl
@[simp] theorem updDelay_od (s : State) (i : Fin 64) (g : Delay → Delay) : (s.updDelay i g).od = s.od := rfl
@[simp] theorem updDelay_parity (s : State) (i : Fin 64) (g : Delay → Delay) : (s.updDelay i g).parity = s.parity := rfl
@[simp] theorem updDelay_commits (s : State) (i : Fin 64) (g : Delay → Delay) : (s.updDelay i g).commits = s.commits := rfl
@[simp] theorem updDelay_kpp (s : State) (i : Fin 64) (g : Delay → Delay) : (s.updDelay i g).kpp = s.kpp := rfl
@[simp] theorem updDelay_eth (s : State) (i : Fin 64) (g : Delay → Delay) : (s.updDelay i g).eth = s.eth := rfl
@[simp] theorem updDelay_spi (s : State) (i : Fin 64) (g : Delay → Delay) : (s.updDelay i g).spi = s.spi := rfl
@[simp] theorem updDelay_flash (s : State) (i : Fin 64) (g : Delay → Delay) : (s.updDelay i g).flash = s.flash := rfl
@[simp] theorem updDelay_persist (s : State) (i : Fin 64) (g : Delay → Delay) : (s.updDelay i g).persist = s.persist := rfl
@[simp] theorem updDelay_health (s : State) (i : Fin 64) (g : Delay → Delay) : (s.updDelay i g).health = s.health := rfl
@[simp] theorem updDelay_margin (s : State) (i : Fin 64) (g : Delay → Delay) : (s.updDelay i g).margin = s.margin := rfl
@[simp] theorem updDelay_pins (s : State) (i : Fin 64) (g : Delay → Delay) : (s.updDelay i g).pins = s.pins := rfl
@[simp] theorem updDelay_answer (s : State) (i : Fin 64) (g : Delay → Delay) : (s.updDelay i g).answer = s.answer := rfl
@[simp] theorem updDelay_free (s : State) (i : Fin 64) (g : Delay → Delay) : (s.updDelay i g).free = s.free := rfl

/-! ## updSeq -/

@[simp] theorem updSeq_part (s : State) (i : Fin 64) (g : Sequencer → Sequencer) : (s.updSeq i g).part = s.part := rfl
@[simp] theorem updSeq_pending (s : State) (i : Fin 64) (g : Sequencer → Sequencer) : (s.updSeq i g).pending = s.pending := rfl
@[simp] theorem updSeq_boot (s : State) (i : Fin 64) (g : Sequencer → Sequencer) : (s.updSeq i g).boot = s.boot := rfl
@[simp] theorem updSeq_time (s : State) (i : Fin 64) (g : Sequencer → Sequencer) : (s.updSeq i g).time = s.time := rfl
@[simp] theorem updSeq_dev (s : State) (i : Fin 64) (g : Sequencer → Sequencer) : (s.updSeq i g).dev = s.dev := rfl
@[simp] theorem updSeq_csu (s : State) (i : Fin 64) (g : Sequencer → Sequencer) : (s.updSeq i g).csu = s.csu := rfl
@[simp] theorem updSeq_clkout (s : State) (i : Fin 64) (g : Sequencer → Sequencer) : (s.updSeq i g).clkout = s.clkout := rfl
@[simp] theorem updSeq_edge (s : State) (i : Fin 64) (g : Sequencer → Sequencer) : (s.updSeq i g).edge = s.edge := rfl
@[simp] theorem updSeq_delay (s : State) (i : Fin 64) (g : Sequencer → Sequencer) : (s.updSeq i g).delay = s.delay := rfl
@[simp] theorem updSeq_seq (s : State) (i : Fin 64) (g : Sequencer → Sequencer) : (s.updSeq i g).seq = upd s.seq i g := rfl
@[simp] theorem updSeq_drv (s : State) (i : Fin 64) (g : Sequencer → Sequencer) : (s.updSeq i g).drv = s.drv := rfl
@[simp] theorem updSeq_trip (s : State) (i : Fin 64) (g : Sequencer → Sequencer) : (s.updSeq i g).trip = s.trip := rfl
@[simp] theorem updSeq_store (s : State) (i : Fin 64) (g : Sequencer → Sequencer) : (s.updSeq i g).store = s.store := rfl
@[simp] theorem updSeq_sti (s : State) (i : Fin 64) (g : Sequencer → Sequencer) : (s.updSeq i g).sti = s.sti := rfl
@[simp] theorem updSeq_grp (s : State) (i : Fin 64) (g : Sequencer → Sequencer) : (s.updSeq i g).grp = s.grp := rfl
@[simp] theorem updSeq_stat (s : State) (i : Fin 64) (g : Sequencer → Sequencer) : (s.updSeq i g).stat = s.stat := rfl
@[simp] theorem updSeq_line (s : State) (i : Fin 64) (g : Sequencer → Sequencer) : (s.updSeq i g).line = s.line := rfl
@[simp] theorem updSeq_mon (s : State) (i : Fin 64) (g : Sequencer → Sequencer) : (s.updSeq i g).mon = s.mon := rfl
@[simp] theorem updSeq_tripin (s : State) (i : Fin 64) (g : Sequencer → Sequencer) : (s.updSeq i g).tripin = s.tripin := rfl
@[simp] theorem updSeq_xbar (s : State) (i : Fin 64) (g : Sequencer → Sequencer) : (s.updSeq i g).xbar = s.xbar := rfl
@[simp] theorem updSeq_trig (s : State) (i : Fin 64) (g : Sequencer → Sequencer) : (s.updSeq i g).trig = s.trig := rfl
@[simp] theorem updSeq_cap (s : State) (i : Fin 64) (g : Sequencer → Sequencer) : (s.updSeq i g).cap = s.cap := rfl
@[simp] theorem updSeq_drz (s : State) (i : Fin 64) (g : Sequencer → Sequencer) : (s.updSeq i g).drz = s.drz := rfl
@[simp] theorem updSeq_port (s : State) (i : Fin 64) (g : Sequencer → Sequencer) : (s.updSeq i g).port = s.port := rfl
@[simp] theorem updSeq_fab (s : State) (i : Fin 64) (g : Sequencer → Sequencer) : (s.updSeq i g).fab = s.fab := rfl
@[simp] theorem updSeq_armg (s : State) (i : Fin 64) (g : Sequencer → Sequencer) : (s.updSeq i g).armg = s.armg := rfl
@[simp] theorem updSeq_sender (s : State) (i : Fin 64) (g : Sequencer → Sequencer) : (s.updSeq i g).sender = s.sender := rfl
@[simp] theorem updSeq_gustq (s : State) (i : Fin 64) (g : Sequencer → Sequencer) : (s.updSeq i g).gustq = s.gustq := rfl
@[simp] theorem updSeq_mem (s : State) (i : Fin 64) (g : Sequencer → Sequencer) : (s.updSeq i g).mem = s.mem := rfl
@[simp] theorem updSeq_own (s : State) (i : Fin 64) (g : Sequencer → Sequencer) : (s.updSeq i g).own = s.own := rfl
@[simp] theorem updSeq_ring (s : State) (i : Fin 64) (g : Sequencer → Sequencer) : (s.updSeq i g).ring = s.ring := rfl
@[simp] theorem updSeq_merger (s : State) (i : Fin 64) (g : Sequencer → Sequencer) : (s.updSeq i g).merger = s.merger := rfl
@[simp] theorem updSeq_host (s : State) (i : Fin 64) (g : Sequencer → Sequencer) : (s.updSeq i g).host = s.host := rfl
@[simp] theorem updSeq_od (s : State) (i : Fin 64) (g : Sequencer → Sequencer) : (s.updSeq i g).od = s.od := rfl
@[simp] theorem updSeq_parity (s : State) (i : Fin 64) (g : Sequencer → Sequencer) : (s.updSeq i g).parity = s.parity := rfl
@[simp] theorem updSeq_commits (s : State) (i : Fin 64) (g : Sequencer → Sequencer) : (s.updSeq i g).commits = s.commits := rfl
@[simp] theorem updSeq_kpp (s : State) (i : Fin 64) (g : Sequencer → Sequencer) : (s.updSeq i g).kpp = s.kpp := rfl
@[simp] theorem updSeq_eth (s : State) (i : Fin 64) (g : Sequencer → Sequencer) : (s.updSeq i g).eth = s.eth := rfl
@[simp] theorem updSeq_spi (s : State) (i : Fin 64) (g : Sequencer → Sequencer) : (s.updSeq i g).spi = s.spi := rfl
@[simp] theorem updSeq_flash (s : State) (i : Fin 64) (g : Sequencer → Sequencer) : (s.updSeq i g).flash = s.flash := rfl
@[simp] theorem updSeq_persist (s : State) (i : Fin 64) (g : Sequencer → Sequencer) : (s.updSeq i g).persist = s.persist := rfl
@[simp] theorem updSeq_health (s : State) (i : Fin 64) (g : Sequencer → Sequencer) : (s.updSeq i g).health = s.health := rfl
@[simp] theorem updSeq_margin (s : State) (i : Fin 64) (g : Sequencer → Sequencer) : (s.updSeq i g).margin = s.margin := rfl
@[simp] theorem updSeq_pins (s : State) (i : Fin 64) (g : Sequencer → Sequencer) : (s.updSeq i g).pins = s.pins := rfl
@[simp] theorem updSeq_answer (s : State) (i : Fin 64) (g : Sequencer → Sequencer) : (s.updSeq i g).answer = s.answer := rfl
@[simp] theorem updSeq_free (s : State) (i : Fin 64) (g : Sequencer → Sequencer) : (s.updSeq i g).free = s.free := rfl

/-! ## updDrv -/

@[simp] theorem updDrv_part (s : State) (i : Fin 64) (g : Driver → Driver) : (s.updDrv i g).part = s.part := rfl
@[simp] theorem updDrv_pending (s : State) (i : Fin 64) (g : Driver → Driver) : (s.updDrv i g).pending = s.pending := rfl
@[simp] theorem updDrv_boot (s : State) (i : Fin 64) (g : Driver → Driver) : (s.updDrv i g).boot = s.boot := rfl
@[simp] theorem updDrv_time (s : State) (i : Fin 64) (g : Driver → Driver) : (s.updDrv i g).time = s.time := rfl
@[simp] theorem updDrv_dev (s : State) (i : Fin 64) (g : Driver → Driver) : (s.updDrv i g).dev = s.dev := rfl
@[simp] theorem updDrv_csu (s : State) (i : Fin 64) (g : Driver → Driver) : (s.updDrv i g).csu = s.csu := rfl
@[simp] theorem updDrv_clkout (s : State) (i : Fin 64) (g : Driver → Driver) : (s.updDrv i g).clkout = s.clkout := rfl
@[simp] theorem updDrv_edge (s : State) (i : Fin 64) (g : Driver → Driver) : (s.updDrv i g).edge = s.edge := rfl
@[simp] theorem updDrv_delay (s : State) (i : Fin 64) (g : Driver → Driver) : (s.updDrv i g).delay = s.delay := rfl
@[simp] theorem updDrv_seq (s : State) (i : Fin 64) (g : Driver → Driver) : (s.updDrv i g).seq = s.seq := rfl
@[simp] theorem updDrv_drv (s : State) (i : Fin 64) (g : Driver → Driver) : (s.updDrv i g).drv = upd s.drv i g := rfl
@[simp] theorem updDrv_trip (s : State) (i : Fin 64) (g : Driver → Driver) : (s.updDrv i g).trip = s.trip := rfl
@[simp] theorem updDrv_store (s : State) (i : Fin 64) (g : Driver → Driver) : (s.updDrv i g).store = s.store := rfl
@[simp] theorem updDrv_sti (s : State) (i : Fin 64) (g : Driver → Driver) : (s.updDrv i g).sti = s.sti := rfl
@[simp] theorem updDrv_grp (s : State) (i : Fin 64) (g : Driver → Driver) : (s.updDrv i g).grp = s.grp := rfl
@[simp] theorem updDrv_stat (s : State) (i : Fin 64) (g : Driver → Driver) : (s.updDrv i g).stat = s.stat := rfl
@[simp] theorem updDrv_line (s : State) (i : Fin 64) (g : Driver → Driver) : (s.updDrv i g).line = s.line := rfl
@[simp] theorem updDrv_mon (s : State) (i : Fin 64) (g : Driver → Driver) : (s.updDrv i g).mon = s.mon := rfl
@[simp] theorem updDrv_tripin (s : State) (i : Fin 64) (g : Driver → Driver) : (s.updDrv i g).tripin = s.tripin := rfl
@[simp] theorem updDrv_xbar (s : State) (i : Fin 64) (g : Driver → Driver) : (s.updDrv i g).xbar = s.xbar := rfl
@[simp] theorem updDrv_trig (s : State) (i : Fin 64) (g : Driver → Driver) : (s.updDrv i g).trig = s.trig := rfl
@[simp] theorem updDrv_cap (s : State) (i : Fin 64) (g : Driver → Driver) : (s.updDrv i g).cap = s.cap := rfl
@[simp] theorem updDrv_drz (s : State) (i : Fin 64) (g : Driver → Driver) : (s.updDrv i g).drz = s.drz := rfl
@[simp] theorem updDrv_port (s : State) (i : Fin 64) (g : Driver → Driver) : (s.updDrv i g).port = s.port := rfl
@[simp] theorem updDrv_fab (s : State) (i : Fin 64) (g : Driver → Driver) : (s.updDrv i g).fab = s.fab := rfl
@[simp] theorem updDrv_armg (s : State) (i : Fin 64) (g : Driver → Driver) : (s.updDrv i g).armg = s.armg := rfl
@[simp] theorem updDrv_sender (s : State) (i : Fin 64) (g : Driver → Driver) : (s.updDrv i g).sender = s.sender := rfl
@[simp] theorem updDrv_gustq (s : State) (i : Fin 64) (g : Driver → Driver) : (s.updDrv i g).gustq = s.gustq := rfl
@[simp] theorem updDrv_mem (s : State) (i : Fin 64) (g : Driver → Driver) : (s.updDrv i g).mem = s.mem := rfl
@[simp] theorem updDrv_own (s : State) (i : Fin 64) (g : Driver → Driver) : (s.updDrv i g).own = s.own := rfl
@[simp] theorem updDrv_ring (s : State) (i : Fin 64) (g : Driver → Driver) : (s.updDrv i g).ring = s.ring := rfl
@[simp] theorem updDrv_merger (s : State) (i : Fin 64) (g : Driver → Driver) : (s.updDrv i g).merger = s.merger := rfl
@[simp] theorem updDrv_host (s : State) (i : Fin 64) (g : Driver → Driver) : (s.updDrv i g).host = s.host := rfl
@[simp] theorem updDrv_od (s : State) (i : Fin 64) (g : Driver → Driver) : (s.updDrv i g).od = s.od := rfl
@[simp] theorem updDrv_parity (s : State) (i : Fin 64) (g : Driver → Driver) : (s.updDrv i g).parity = s.parity := rfl
@[simp] theorem updDrv_commits (s : State) (i : Fin 64) (g : Driver → Driver) : (s.updDrv i g).commits = s.commits := rfl
@[simp] theorem updDrv_kpp (s : State) (i : Fin 64) (g : Driver → Driver) : (s.updDrv i g).kpp = s.kpp := rfl
@[simp] theorem updDrv_eth (s : State) (i : Fin 64) (g : Driver → Driver) : (s.updDrv i g).eth = s.eth := rfl
@[simp] theorem updDrv_spi (s : State) (i : Fin 64) (g : Driver → Driver) : (s.updDrv i g).spi = s.spi := rfl
@[simp] theorem updDrv_flash (s : State) (i : Fin 64) (g : Driver → Driver) : (s.updDrv i g).flash = s.flash := rfl
@[simp] theorem updDrv_persist (s : State) (i : Fin 64) (g : Driver → Driver) : (s.updDrv i g).persist = s.persist := rfl
@[simp] theorem updDrv_health (s : State) (i : Fin 64) (g : Driver → Driver) : (s.updDrv i g).health = s.health := rfl
@[simp] theorem updDrv_margin (s : State) (i : Fin 64) (g : Driver → Driver) : (s.updDrv i g).margin = s.margin := rfl
@[simp] theorem updDrv_pins (s : State) (i : Fin 64) (g : Driver → Driver) : (s.updDrv i g).pins = s.pins := rfl
@[simp] theorem updDrv_answer (s : State) (i : Fin 64) (g : Driver → Driver) : (s.updDrv i g).answer = s.answer := rfl
@[simp] theorem updDrv_free (s : State) (i : Fin 64) (g : Driver → Driver) : (s.updDrv i g).free = s.free := rfl

/-! ## updTrip -/

@[simp] theorem updTrip_part (s : State) (i : Fin 64) (g : TripLatch → TripLatch) : (s.updTrip i g).part = s.part := rfl
@[simp] theorem updTrip_pending (s : State) (i : Fin 64) (g : TripLatch → TripLatch) : (s.updTrip i g).pending = s.pending := rfl
@[simp] theorem updTrip_boot (s : State) (i : Fin 64) (g : TripLatch → TripLatch) : (s.updTrip i g).boot = s.boot := rfl
@[simp] theorem updTrip_time (s : State) (i : Fin 64) (g : TripLatch → TripLatch) : (s.updTrip i g).time = s.time := rfl
@[simp] theorem updTrip_dev (s : State) (i : Fin 64) (g : TripLatch → TripLatch) : (s.updTrip i g).dev = s.dev := rfl
@[simp] theorem updTrip_csu (s : State) (i : Fin 64) (g : TripLatch → TripLatch) : (s.updTrip i g).csu = s.csu := rfl
@[simp] theorem updTrip_clkout (s : State) (i : Fin 64) (g : TripLatch → TripLatch) : (s.updTrip i g).clkout = s.clkout := rfl
@[simp] theorem updTrip_edge (s : State) (i : Fin 64) (g : TripLatch → TripLatch) : (s.updTrip i g).edge = s.edge := rfl
@[simp] theorem updTrip_delay (s : State) (i : Fin 64) (g : TripLatch → TripLatch) : (s.updTrip i g).delay = s.delay := rfl
@[simp] theorem updTrip_seq (s : State) (i : Fin 64) (g : TripLatch → TripLatch) : (s.updTrip i g).seq = s.seq := rfl
@[simp] theorem updTrip_drv (s : State) (i : Fin 64) (g : TripLatch → TripLatch) : (s.updTrip i g).drv = s.drv := rfl
@[simp] theorem updTrip_trip (s : State) (i : Fin 64) (g : TripLatch → TripLatch) : (s.updTrip i g).trip = upd s.trip i g := rfl
@[simp] theorem updTrip_store (s : State) (i : Fin 64) (g : TripLatch → TripLatch) : (s.updTrip i g).store = s.store := rfl
@[simp] theorem updTrip_sti (s : State) (i : Fin 64) (g : TripLatch → TripLatch) : (s.updTrip i g).sti = s.sti := rfl
@[simp] theorem updTrip_grp (s : State) (i : Fin 64) (g : TripLatch → TripLatch) : (s.updTrip i g).grp = s.grp := rfl
@[simp] theorem updTrip_stat (s : State) (i : Fin 64) (g : TripLatch → TripLatch) : (s.updTrip i g).stat = s.stat := rfl
@[simp] theorem updTrip_line (s : State) (i : Fin 64) (g : TripLatch → TripLatch) : (s.updTrip i g).line = s.line := rfl
@[simp] theorem updTrip_mon (s : State) (i : Fin 64) (g : TripLatch → TripLatch) : (s.updTrip i g).mon = s.mon := rfl
@[simp] theorem updTrip_tripin (s : State) (i : Fin 64) (g : TripLatch → TripLatch) : (s.updTrip i g).tripin = s.tripin := rfl
@[simp] theorem updTrip_xbar (s : State) (i : Fin 64) (g : TripLatch → TripLatch) : (s.updTrip i g).xbar = s.xbar := rfl
@[simp] theorem updTrip_trig (s : State) (i : Fin 64) (g : TripLatch → TripLatch) : (s.updTrip i g).trig = s.trig := rfl
@[simp] theorem updTrip_cap (s : State) (i : Fin 64) (g : TripLatch → TripLatch) : (s.updTrip i g).cap = s.cap := rfl
@[simp] theorem updTrip_drz (s : State) (i : Fin 64) (g : TripLatch → TripLatch) : (s.updTrip i g).drz = s.drz := rfl
@[simp] theorem updTrip_port (s : State) (i : Fin 64) (g : TripLatch → TripLatch) : (s.updTrip i g).port = s.port := rfl
@[simp] theorem updTrip_fab (s : State) (i : Fin 64) (g : TripLatch → TripLatch) : (s.updTrip i g).fab = s.fab := rfl
@[simp] theorem updTrip_armg (s : State) (i : Fin 64) (g : TripLatch → TripLatch) : (s.updTrip i g).armg = s.armg := rfl
@[simp] theorem updTrip_sender (s : State) (i : Fin 64) (g : TripLatch → TripLatch) : (s.updTrip i g).sender = s.sender := rfl
@[simp] theorem updTrip_gustq (s : State) (i : Fin 64) (g : TripLatch → TripLatch) : (s.updTrip i g).gustq = s.gustq := rfl
@[simp] theorem updTrip_mem (s : State) (i : Fin 64) (g : TripLatch → TripLatch) : (s.updTrip i g).mem = s.mem := rfl
@[simp] theorem updTrip_own (s : State) (i : Fin 64) (g : TripLatch → TripLatch) : (s.updTrip i g).own = s.own := rfl
@[simp] theorem updTrip_ring (s : State) (i : Fin 64) (g : TripLatch → TripLatch) : (s.updTrip i g).ring = s.ring := rfl
@[simp] theorem updTrip_merger (s : State) (i : Fin 64) (g : TripLatch → TripLatch) : (s.updTrip i g).merger = s.merger := rfl
@[simp] theorem updTrip_host (s : State) (i : Fin 64) (g : TripLatch → TripLatch) : (s.updTrip i g).host = s.host := rfl
@[simp] theorem updTrip_od (s : State) (i : Fin 64) (g : TripLatch → TripLatch) : (s.updTrip i g).od = s.od := rfl
@[simp] theorem updTrip_parity (s : State) (i : Fin 64) (g : TripLatch → TripLatch) : (s.updTrip i g).parity = s.parity := rfl
@[simp] theorem updTrip_commits (s : State) (i : Fin 64) (g : TripLatch → TripLatch) : (s.updTrip i g).commits = s.commits := rfl
@[simp] theorem updTrip_kpp (s : State) (i : Fin 64) (g : TripLatch → TripLatch) : (s.updTrip i g).kpp = s.kpp := rfl
@[simp] theorem updTrip_eth (s : State) (i : Fin 64) (g : TripLatch → TripLatch) : (s.updTrip i g).eth = s.eth := rfl
@[simp] theorem updTrip_spi (s : State) (i : Fin 64) (g : TripLatch → TripLatch) : (s.updTrip i g).spi = s.spi := rfl
@[simp] theorem updTrip_flash (s : State) (i : Fin 64) (g : TripLatch → TripLatch) : (s.updTrip i g).flash = s.flash := rfl
@[simp] theorem updTrip_persist (s : State) (i : Fin 64) (g : TripLatch → TripLatch) : (s.updTrip i g).persist = s.persist := rfl
@[simp] theorem updTrip_health (s : State) (i : Fin 64) (g : TripLatch → TripLatch) : (s.updTrip i g).health = s.health := rfl
@[simp] theorem updTrip_margin (s : State) (i : Fin 64) (g : TripLatch → TripLatch) : (s.updTrip i g).margin = s.margin := rfl
@[simp] theorem updTrip_pins (s : State) (i : Fin 64) (g : TripLatch → TripLatch) : (s.updTrip i g).pins = s.pins := rfl
@[simp] theorem updTrip_answer (s : State) (i : Fin 64) (g : TripLatch → TripLatch) : (s.updTrip i g).answer = s.answer := rfl
@[simp] theorem updTrip_free (s : State) (i : Fin 64) (g : TripLatch → TripLatch) : (s.updTrip i g).free = s.free := rfl

/-! ## updStore -/

@[simp] theorem updStore_part (s : State) (i : Fin 4) (g : Store → Store) : (s.updStore i g).part = s.part := rfl
@[simp] theorem updStore_pending (s : State) (i : Fin 4) (g : Store → Store) : (s.updStore i g).pending = s.pending := rfl
@[simp] theorem updStore_boot (s : State) (i : Fin 4) (g : Store → Store) : (s.updStore i g).boot = s.boot := rfl
@[simp] theorem updStore_time (s : State) (i : Fin 4) (g : Store → Store) : (s.updStore i g).time = s.time := rfl
@[simp] theorem updStore_dev (s : State) (i : Fin 4) (g : Store → Store) : (s.updStore i g).dev = s.dev := rfl
@[simp] theorem updStore_csu (s : State) (i : Fin 4) (g : Store → Store) : (s.updStore i g).csu = s.csu := rfl
@[simp] theorem updStore_clkout (s : State) (i : Fin 4) (g : Store → Store) : (s.updStore i g).clkout = s.clkout := rfl
@[simp] theorem updStore_edge (s : State) (i : Fin 4) (g : Store → Store) : (s.updStore i g).edge = s.edge := rfl
@[simp] theorem updStore_delay (s : State) (i : Fin 4) (g : Store → Store) : (s.updStore i g).delay = s.delay := rfl
@[simp] theorem updStore_seq (s : State) (i : Fin 4) (g : Store → Store) : (s.updStore i g).seq = s.seq := rfl
@[simp] theorem updStore_drv (s : State) (i : Fin 4) (g : Store → Store) : (s.updStore i g).drv = s.drv := rfl
@[simp] theorem updStore_trip (s : State) (i : Fin 4) (g : Store → Store) : (s.updStore i g).trip = s.trip := rfl
@[simp] theorem updStore_store (s : State) (i : Fin 4) (g : Store → Store) : (s.updStore i g).store = upd s.store i g := rfl
@[simp] theorem updStore_sti (s : State) (i : Fin 4) (g : Store → Store) : (s.updStore i g).sti = s.sti := rfl
@[simp] theorem updStore_grp (s : State) (i : Fin 4) (g : Store → Store) : (s.updStore i g).grp = s.grp := rfl
@[simp] theorem updStore_stat (s : State) (i : Fin 4) (g : Store → Store) : (s.updStore i g).stat = s.stat := rfl
@[simp] theorem updStore_line (s : State) (i : Fin 4) (g : Store → Store) : (s.updStore i g).line = s.line := rfl
@[simp] theorem updStore_mon (s : State) (i : Fin 4) (g : Store → Store) : (s.updStore i g).mon = s.mon := rfl
@[simp] theorem updStore_tripin (s : State) (i : Fin 4) (g : Store → Store) : (s.updStore i g).tripin = s.tripin := rfl
@[simp] theorem updStore_xbar (s : State) (i : Fin 4) (g : Store → Store) : (s.updStore i g).xbar = s.xbar := rfl
@[simp] theorem updStore_trig (s : State) (i : Fin 4) (g : Store → Store) : (s.updStore i g).trig = s.trig := rfl
@[simp] theorem updStore_cap (s : State) (i : Fin 4) (g : Store → Store) : (s.updStore i g).cap = s.cap := rfl
@[simp] theorem updStore_drz (s : State) (i : Fin 4) (g : Store → Store) : (s.updStore i g).drz = s.drz := rfl
@[simp] theorem updStore_port (s : State) (i : Fin 4) (g : Store → Store) : (s.updStore i g).port = s.port := rfl
@[simp] theorem updStore_fab (s : State) (i : Fin 4) (g : Store → Store) : (s.updStore i g).fab = s.fab := rfl
@[simp] theorem updStore_armg (s : State) (i : Fin 4) (g : Store → Store) : (s.updStore i g).armg = s.armg := rfl
@[simp] theorem updStore_sender (s : State) (i : Fin 4) (g : Store → Store) : (s.updStore i g).sender = s.sender := rfl
@[simp] theorem updStore_gustq (s : State) (i : Fin 4) (g : Store → Store) : (s.updStore i g).gustq = s.gustq := rfl
@[simp] theorem updStore_mem (s : State) (i : Fin 4) (g : Store → Store) : (s.updStore i g).mem = s.mem := rfl
@[simp] theorem updStore_own (s : State) (i : Fin 4) (g : Store → Store) : (s.updStore i g).own = s.own := rfl
@[simp] theorem updStore_ring (s : State) (i : Fin 4) (g : Store → Store) : (s.updStore i g).ring = s.ring := rfl
@[simp] theorem updStore_merger (s : State) (i : Fin 4) (g : Store → Store) : (s.updStore i g).merger = s.merger := rfl
@[simp] theorem updStore_host (s : State) (i : Fin 4) (g : Store → Store) : (s.updStore i g).host = s.host := rfl
@[simp] theorem updStore_od (s : State) (i : Fin 4) (g : Store → Store) : (s.updStore i g).od = s.od := rfl
@[simp] theorem updStore_parity (s : State) (i : Fin 4) (g : Store → Store) : (s.updStore i g).parity = s.parity := rfl
@[simp] theorem updStore_commits (s : State) (i : Fin 4) (g : Store → Store) : (s.updStore i g).commits = s.commits := rfl
@[simp] theorem updStore_kpp (s : State) (i : Fin 4) (g : Store → Store) : (s.updStore i g).kpp = s.kpp := rfl
@[simp] theorem updStore_eth (s : State) (i : Fin 4) (g : Store → Store) : (s.updStore i g).eth = s.eth := rfl
@[simp] theorem updStore_spi (s : State) (i : Fin 4) (g : Store → Store) : (s.updStore i g).spi = s.spi := rfl
@[simp] theorem updStore_flash (s : State) (i : Fin 4) (g : Store → Store) : (s.updStore i g).flash = s.flash := rfl
@[simp] theorem updStore_persist (s : State) (i : Fin 4) (g : Store → Store) : (s.updStore i g).persist = s.persist := rfl
@[simp] theorem updStore_health (s : State) (i : Fin 4) (g : Store → Store) : (s.updStore i g).health = s.health := rfl
@[simp] theorem updStore_margin (s : State) (i : Fin 4) (g : Store → Store) : (s.updStore i g).margin = s.margin := rfl
@[simp] theorem updStore_pins (s : State) (i : Fin 4) (g : Store → Store) : (s.updStore i g).pins = s.pins := rfl
@[simp] theorem updStore_answer (s : State) (i : Fin 4) (g : Store → Store) : (s.updStore i g).answer = s.answer := rfl
@[simp] theorem updStore_free (s : State) (i : Fin 4) (g : Store → Store) : (s.updStore i g).free = s.free := rfl

/-! ## updSti -/

@[simp] theorem updSti_part (s : State) (i : Fin 32) (g : StampInput → StampInput) : (s.updSti i g).part = s.part := rfl
@[simp] theorem updSti_pending (s : State) (i : Fin 32) (g : StampInput → StampInput) : (s.updSti i g).pending = s.pending := rfl
@[simp] theorem updSti_boot (s : State) (i : Fin 32) (g : StampInput → StampInput) : (s.updSti i g).boot = s.boot := rfl
@[simp] theorem updSti_time (s : State) (i : Fin 32) (g : StampInput → StampInput) : (s.updSti i g).time = s.time := rfl
@[simp] theorem updSti_dev (s : State) (i : Fin 32) (g : StampInput → StampInput) : (s.updSti i g).dev = s.dev := rfl
@[simp] theorem updSti_csu (s : State) (i : Fin 32) (g : StampInput → StampInput) : (s.updSti i g).csu = s.csu := rfl
@[simp] theorem updSti_clkout (s : State) (i : Fin 32) (g : StampInput → StampInput) : (s.updSti i g).clkout = s.clkout := rfl
@[simp] theorem updSti_edge (s : State) (i : Fin 32) (g : StampInput → StampInput) : (s.updSti i g).edge = s.edge := rfl
@[simp] theorem updSti_delay (s : State) (i : Fin 32) (g : StampInput → StampInput) : (s.updSti i g).delay = s.delay := rfl
@[simp] theorem updSti_seq (s : State) (i : Fin 32) (g : StampInput → StampInput) : (s.updSti i g).seq = s.seq := rfl
@[simp] theorem updSti_drv (s : State) (i : Fin 32) (g : StampInput → StampInput) : (s.updSti i g).drv = s.drv := rfl
@[simp] theorem updSti_trip (s : State) (i : Fin 32) (g : StampInput → StampInput) : (s.updSti i g).trip = s.trip := rfl
@[simp] theorem updSti_store (s : State) (i : Fin 32) (g : StampInput → StampInput) : (s.updSti i g).store = s.store := rfl
@[simp] theorem updSti_sti (s : State) (i : Fin 32) (g : StampInput → StampInput) : (s.updSti i g).sti = upd s.sti i g := rfl
@[simp] theorem updSti_grp (s : State) (i : Fin 32) (g : StampInput → StampInput) : (s.updSti i g).grp = s.grp := rfl
@[simp] theorem updSti_stat (s : State) (i : Fin 32) (g : StampInput → StampInput) : (s.updSti i g).stat = s.stat := rfl
@[simp] theorem updSti_line (s : State) (i : Fin 32) (g : StampInput → StampInput) : (s.updSti i g).line = s.line := rfl
@[simp] theorem updSti_mon (s : State) (i : Fin 32) (g : StampInput → StampInput) : (s.updSti i g).mon = s.mon := rfl
@[simp] theorem updSti_tripin (s : State) (i : Fin 32) (g : StampInput → StampInput) : (s.updSti i g).tripin = s.tripin := rfl
@[simp] theorem updSti_xbar (s : State) (i : Fin 32) (g : StampInput → StampInput) : (s.updSti i g).xbar = s.xbar := rfl
@[simp] theorem updSti_trig (s : State) (i : Fin 32) (g : StampInput → StampInput) : (s.updSti i g).trig = s.trig := rfl
@[simp] theorem updSti_cap (s : State) (i : Fin 32) (g : StampInput → StampInput) : (s.updSti i g).cap = s.cap := rfl
@[simp] theorem updSti_drz (s : State) (i : Fin 32) (g : StampInput → StampInput) : (s.updSti i g).drz = s.drz := rfl
@[simp] theorem updSti_port (s : State) (i : Fin 32) (g : StampInput → StampInput) : (s.updSti i g).port = s.port := rfl
@[simp] theorem updSti_fab (s : State) (i : Fin 32) (g : StampInput → StampInput) : (s.updSti i g).fab = s.fab := rfl
@[simp] theorem updSti_armg (s : State) (i : Fin 32) (g : StampInput → StampInput) : (s.updSti i g).armg = s.armg := rfl
@[simp] theorem updSti_sender (s : State) (i : Fin 32) (g : StampInput → StampInput) : (s.updSti i g).sender = s.sender := rfl
@[simp] theorem updSti_gustq (s : State) (i : Fin 32) (g : StampInput → StampInput) : (s.updSti i g).gustq = s.gustq := rfl
@[simp] theorem updSti_mem (s : State) (i : Fin 32) (g : StampInput → StampInput) : (s.updSti i g).mem = s.mem := rfl
@[simp] theorem updSti_own (s : State) (i : Fin 32) (g : StampInput → StampInput) : (s.updSti i g).own = s.own := rfl
@[simp] theorem updSti_ring (s : State) (i : Fin 32) (g : StampInput → StampInput) : (s.updSti i g).ring = s.ring := rfl
@[simp] theorem updSti_merger (s : State) (i : Fin 32) (g : StampInput → StampInput) : (s.updSti i g).merger = s.merger := rfl
@[simp] theorem updSti_host (s : State) (i : Fin 32) (g : StampInput → StampInput) : (s.updSti i g).host = s.host := rfl
@[simp] theorem updSti_od (s : State) (i : Fin 32) (g : StampInput → StampInput) : (s.updSti i g).od = s.od := rfl
@[simp] theorem updSti_parity (s : State) (i : Fin 32) (g : StampInput → StampInput) : (s.updSti i g).parity = s.parity := rfl
@[simp] theorem updSti_commits (s : State) (i : Fin 32) (g : StampInput → StampInput) : (s.updSti i g).commits = s.commits := rfl
@[simp] theorem updSti_kpp (s : State) (i : Fin 32) (g : StampInput → StampInput) : (s.updSti i g).kpp = s.kpp := rfl
@[simp] theorem updSti_eth (s : State) (i : Fin 32) (g : StampInput → StampInput) : (s.updSti i g).eth = s.eth := rfl
@[simp] theorem updSti_spi (s : State) (i : Fin 32) (g : StampInput → StampInput) : (s.updSti i g).spi = s.spi := rfl
@[simp] theorem updSti_flash (s : State) (i : Fin 32) (g : StampInput → StampInput) : (s.updSti i g).flash = s.flash := rfl
@[simp] theorem updSti_persist (s : State) (i : Fin 32) (g : StampInput → StampInput) : (s.updSti i g).persist = s.persist := rfl
@[simp] theorem updSti_health (s : State) (i : Fin 32) (g : StampInput → StampInput) : (s.updSti i g).health = s.health := rfl
@[simp] theorem updSti_margin (s : State) (i : Fin 32) (g : StampInput → StampInput) : (s.updSti i g).margin = s.margin := rfl
@[simp] theorem updSti_pins (s : State) (i : Fin 32) (g : StampInput → StampInput) : (s.updSti i g).pins = s.pins := rfl
@[simp] theorem updSti_answer (s : State) (i : Fin 32) (g : StampInput → StampInput) : (s.updSti i g).answer = s.answer := rfl
@[simp] theorem updSti_free (s : State) (i : Fin 32) (g : StampInput → StampInput) : (s.updSti i g).free = s.free := rfl

/-! ## updGrp -/

@[simp] theorem updGrp_part (s : State) (i : Fin 32) (g : Group → Group) : (s.updGrp i g).part = s.part := rfl
@[simp] theorem updGrp_pending (s : State) (i : Fin 32) (g : Group → Group) : (s.updGrp i g).pending = s.pending := rfl
@[simp] theorem updGrp_boot (s : State) (i : Fin 32) (g : Group → Group) : (s.updGrp i g).boot = s.boot := rfl
@[simp] theorem updGrp_time (s : State) (i : Fin 32) (g : Group → Group) : (s.updGrp i g).time = s.time := rfl
@[simp] theorem updGrp_dev (s : State) (i : Fin 32) (g : Group → Group) : (s.updGrp i g).dev = s.dev := rfl
@[simp] theorem updGrp_csu (s : State) (i : Fin 32) (g : Group → Group) : (s.updGrp i g).csu = s.csu := rfl
@[simp] theorem updGrp_clkout (s : State) (i : Fin 32) (g : Group → Group) : (s.updGrp i g).clkout = s.clkout := rfl
@[simp] theorem updGrp_edge (s : State) (i : Fin 32) (g : Group → Group) : (s.updGrp i g).edge = s.edge := rfl
@[simp] theorem updGrp_delay (s : State) (i : Fin 32) (g : Group → Group) : (s.updGrp i g).delay = s.delay := rfl
@[simp] theorem updGrp_seq (s : State) (i : Fin 32) (g : Group → Group) : (s.updGrp i g).seq = s.seq := rfl
@[simp] theorem updGrp_drv (s : State) (i : Fin 32) (g : Group → Group) : (s.updGrp i g).drv = s.drv := rfl
@[simp] theorem updGrp_trip (s : State) (i : Fin 32) (g : Group → Group) : (s.updGrp i g).trip = s.trip := rfl
@[simp] theorem updGrp_store (s : State) (i : Fin 32) (g : Group → Group) : (s.updGrp i g).store = s.store := rfl
@[simp] theorem updGrp_sti (s : State) (i : Fin 32) (g : Group → Group) : (s.updGrp i g).sti = s.sti := rfl
@[simp] theorem updGrp_grp (s : State) (i : Fin 32) (g : Group → Group) : (s.updGrp i g).grp = upd s.grp i g := rfl
@[simp] theorem updGrp_stat (s : State) (i : Fin 32) (g : Group → Group) : (s.updGrp i g).stat = s.stat := rfl
@[simp] theorem updGrp_line (s : State) (i : Fin 32) (g : Group → Group) : (s.updGrp i g).line = s.line := rfl
@[simp] theorem updGrp_mon (s : State) (i : Fin 32) (g : Group → Group) : (s.updGrp i g).mon = s.mon := rfl
@[simp] theorem updGrp_tripin (s : State) (i : Fin 32) (g : Group → Group) : (s.updGrp i g).tripin = s.tripin := rfl
@[simp] theorem updGrp_xbar (s : State) (i : Fin 32) (g : Group → Group) : (s.updGrp i g).xbar = s.xbar := rfl
@[simp] theorem updGrp_trig (s : State) (i : Fin 32) (g : Group → Group) : (s.updGrp i g).trig = s.trig := rfl
@[simp] theorem updGrp_cap (s : State) (i : Fin 32) (g : Group → Group) : (s.updGrp i g).cap = s.cap := rfl
@[simp] theorem updGrp_drz (s : State) (i : Fin 32) (g : Group → Group) : (s.updGrp i g).drz = s.drz := rfl
@[simp] theorem updGrp_port (s : State) (i : Fin 32) (g : Group → Group) : (s.updGrp i g).port = s.port := rfl
@[simp] theorem updGrp_fab (s : State) (i : Fin 32) (g : Group → Group) : (s.updGrp i g).fab = s.fab := rfl
@[simp] theorem updGrp_armg (s : State) (i : Fin 32) (g : Group → Group) : (s.updGrp i g).armg = s.armg := rfl
@[simp] theorem updGrp_sender (s : State) (i : Fin 32) (g : Group → Group) : (s.updGrp i g).sender = s.sender := rfl
@[simp] theorem updGrp_gustq (s : State) (i : Fin 32) (g : Group → Group) : (s.updGrp i g).gustq = s.gustq := rfl
@[simp] theorem updGrp_mem (s : State) (i : Fin 32) (g : Group → Group) : (s.updGrp i g).mem = s.mem := rfl
@[simp] theorem updGrp_own (s : State) (i : Fin 32) (g : Group → Group) : (s.updGrp i g).own = s.own := rfl
@[simp] theorem updGrp_ring (s : State) (i : Fin 32) (g : Group → Group) : (s.updGrp i g).ring = s.ring := rfl
@[simp] theorem updGrp_merger (s : State) (i : Fin 32) (g : Group → Group) : (s.updGrp i g).merger = s.merger := rfl
@[simp] theorem updGrp_host (s : State) (i : Fin 32) (g : Group → Group) : (s.updGrp i g).host = s.host := rfl
@[simp] theorem updGrp_od (s : State) (i : Fin 32) (g : Group → Group) : (s.updGrp i g).od = s.od := rfl
@[simp] theorem updGrp_parity (s : State) (i : Fin 32) (g : Group → Group) : (s.updGrp i g).parity = s.parity := rfl
@[simp] theorem updGrp_commits (s : State) (i : Fin 32) (g : Group → Group) : (s.updGrp i g).commits = s.commits := rfl
@[simp] theorem updGrp_kpp (s : State) (i : Fin 32) (g : Group → Group) : (s.updGrp i g).kpp = s.kpp := rfl
@[simp] theorem updGrp_eth (s : State) (i : Fin 32) (g : Group → Group) : (s.updGrp i g).eth = s.eth := rfl
@[simp] theorem updGrp_spi (s : State) (i : Fin 32) (g : Group → Group) : (s.updGrp i g).spi = s.spi := rfl
@[simp] theorem updGrp_flash (s : State) (i : Fin 32) (g : Group → Group) : (s.updGrp i g).flash = s.flash := rfl
@[simp] theorem updGrp_persist (s : State) (i : Fin 32) (g : Group → Group) : (s.updGrp i g).persist = s.persist := rfl
@[simp] theorem updGrp_health (s : State) (i : Fin 32) (g : Group → Group) : (s.updGrp i g).health = s.health := rfl
@[simp] theorem updGrp_margin (s : State) (i : Fin 32) (g : Group → Group) : (s.updGrp i g).margin = s.margin := rfl
@[simp] theorem updGrp_pins (s : State) (i : Fin 32) (g : Group → Group) : (s.updGrp i g).pins = s.pins := rfl
@[simp] theorem updGrp_answer (s : State) (i : Fin 32) (g : Group → Group) : (s.updGrp i g).answer = s.answer := rfl
@[simp] theorem updGrp_free (s : State) (i : Fin 32) (g : Group → Group) : (s.updGrp i g).free = s.free := rfl

/-! ## updStat -/

@[simp] theorem updStat_part (s : State) (i : Fin 32) (g : StatRun → StatRun) : (s.updStat i g).part = s.part := rfl
@[simp] theorem updStat_pending (s : State) (i : Fin 32) (g : StatRun → StatRun) : (s.updStat i g).pending = s.pending := rfl
@[simp] theorem updStat_boot (s : State) (i : Fin 32) (g : StatRun → StatRun) : (s.updStat i g).boot = s.boot := rfl
@[simp] theorem updStat_time (s : State) (i : Fin 32) (g : StatRun → StatRun) : (s.updStat i g).time = s.time := rfl
@[simp] theorem updStat_dev (s : State) (i : Fin 32) (g : StatRun → StatRun) : (s.updStat i g).dev = s.dev := rfl
@[simp] theorem updStat_csu (s : State) (i : Fin 32) (g : StatRun → StatRun) : (s.updStat i g).csu = s.csu := rfl
@[simp] theorem updStat_clkout (s : State) (i : Fin 32) (g : StatRun → StatRun) : (s.updStat i g).clkout = s.clkout := rfl
@[simp] theorem updStat_edge (s : State) (i : Fin 32) (g : StatRun → StatRun) : (s.updStat i g).edge = s.edge := rfl
@[simp] theorem updStat_delay (s : State) (i : Fin 32) (g : StatRun → StatRun) : (s.updStat i g).delay = s.delay := rfl
@[simp] theorem updStat_seq (s : State) (i : Fin 32) (g : StatRun → StatRun) : (s.updStat i g).seq = s.seq := rfl
@[simp] theorem updStat_drv (s : State) (i : Fin 32) (g : StatRun → StatRun) : (s.updStat i g).drv = s.drv := rfl
@[simp] theorem updStat_trip (s : State) (i : Fin 32) (g : StatRun → StatRun) : (s.updStat i g).trip = s.trip := rfl
@[simp] theorem updStat_store (s : State) (i : Fin 32) (g : StatRun → StatRun) : (s.updStat i g).store = s.store := rfl
@[simp] theorem updStat_sti (s : State) (i : Fin 32) (g : StatRun → StatRun) : (s.updStat i g).sti = s.sti := rfl
@[simp] theorem updStat_grp (s : State) (i : Fin 32) (g : StatRun → StatRun) : (s.updStat i g).grp = s.grp := rfl
@[simp] theorem updStat_stat (s : State) (i : Fin 32) (g : StatRun → StatRun) : (s.updStat i g).stat = upd s.stat i g := rfl
@[simp] theorem updStat_line (s : State) (i : Fin 32) (g : StatRun → StatRun) : (s.updStat i g).line = s.line := rfl
@[simp] theorem updStat_mon (s : State) (i : Fin 32) (g : StatRun → StatRun) : (s.updStat i g).mon = s.mon := rfl
@[simp] theorem updStat_tripin (s : State) (i : Fin 32) (g : StatRun → StatRun) : (s.updStat i g).tripin = s.tripin := rfl
@[simp] theorem updStat_xbar (s : State) (i : Fin 32) (g : StatRun → StatRun) : (s.updStat i g).xbar = s.xbar := rfl
@[simp] theorem updStat_trig (s : State) (i : Fin 32) (g : StatRun → StatRun) : (s.updStat i g).trig = s.trig := rfl
@[simp] theorem updStat_cap (s : State) (i : Fin 32) (g : StatRun → StatRun) : (s.updStat i g).cap = s.cap := rfl
@[simp] theorem updStat_drz (s : State) (i : Fin 32) (g : StatRun → StatRun) : (s.updStat i g).drz = s.drz := rfl
@[simp] theorem updStat_port (s : State) (i : Fin 32) (g : StatRun → StatRun) : (s.updStat i g).port = s.port := rfl
@[simp] theorem updStat_fab (s : State) (i : Fin 32) (g : StatRun → StatRun) : (s.updStat i g).fab = s.fab := rfl
@[simp] theorem updStat_armg (s : State) (i : Fin 32) (g : StatRun → StatRun) : (s.updStat i g).armg = s.armg := rfl
@[simp] theorem updStat_sender (s : State) (i : Fin 32) (g : StatRun → StatRun) : (s.updStat i g).sender = s.sender := rfl
@[simp] theorem updStat_gustq (s : State) (i : Fin 32) (g : StatRun → StatRun) : (s.updStat i g).gustq = s.gustq := rfl
@[simp] theorem updStat_mem (s : State) (i : Fin 32) (g : StatRun → StatRun) : (s.updStat i g).mem = s.mem := rfl
@[simp] theorem updStat_own (s : State) (i : Fin 32) (g : StatRun → StatRun) : (s.updStat i g).own = s.own := rfl
@[simp] theorem updStat_ring (s : State) (i : Fin 32) (g : StatRun → StatRun) : (s.updStat i g).ring = s.ring := rfl
@[simp] theorem updStat_merger (s : State) (i : Fin 32) (g : StatRun → StatRun) : (s.updStat i g).merger = s.merger := rfl
@[simp] theorem updStat_host (s : State) (i : Fin 32) (g : StatRun → StatRun) : (s.updStat i g).host = s.host := rfl
@[simp] theorem updStat_od (s : State) (i : Fin 32) (g : StatRun → StatRun) : (s.updStat i g).od = s.od := rfl
@[simp] theorem updStat_parity (s : State) (i : Fin 32) (g : StatRun → StatRun) : (s.updStat i g).parity = s.parity := rfl
@[simp] theorem updStat_commits (s : State) (i : Fin 32) (g : StatRun → StatRun) : (s.updStat i g).commits = s.commits := rfl
@[simp] theorem updStat_kpp (s : State) (i : Fin 32) (g : StatRun → StatRun) : (s.updStat i g).kpp = s.kpp := rfl
@[simp] theorem updStat_eth (s : State) (i : Fin 32) (g : StatRun → StatRun) : (s.updStat i g).eth = s.eth := rfl
@[simp] theorem updStat_spi (s : State) (i : Fin 32) (g : StatRun → StatRun) : (s.updStat i g).spi = s.spi := rfl
@[simp] theorem updStat_flash (s : State) (i : Fin 32) (g : StatRun → StatRun) : (s.updStat i g).flash = s.flash := rfl
@[simp] theorem updStat_persist (s : State) (i : Fin 32) (g : StatRun → StatRun) : (s.updStat i g).persist = s.persist := rfl
@[simp] theorem updStat_health (s : State) (i : Fin 32) (g : StatRun → StatRun) : (s.updStat i g).health = s.health := rfl
@[simp] theorem updStat_margin (s : State) (i : Fin 32) (g : StatRun → StatRun) : (s.updStat i g).margin = s.margin := rfl
@[simp] theorem updStat_pins (s : State) (i : Fin 32) (g : StatRun → StatRun) : (s.updStat i g).pins = s.pins := rfl
@[simp] theorem updStat_answer (s : State) (i : Fin 32) (g : StatRun → StatRun) : (s.updStat i g).answer = s.answer := rfl
@[simp] theorem updStat_free (s : State) (i : Fin 32) (g : StatRun → StatRun) : (s.updStat i g).free = s.free := rfl

/-! ## updMon -/

@[simp] theorem updMon_part (s : State) (i : Fin 32) (g : Monitor → Monitor) : (s.updMon i g).part = s.part := rfl
@[simp] theorem updMon_pending (s : State) (i : Fin 32) (g : Monitor → Monitor) : (s.updMon i g).pending = s.pending := rfl
@[simp] theorem updMon_boot (s : State) (i : Fin 32) (g : Monitor → Monitor) : (s.updMon i g).boot = s.boot := rfl
@[simp] theorem updMon_time (s : State) (i : Fin 32) (g : Monitor → Monitor) : (s.updMon i g).time = s.time := rfl
@[simp] theorem updMon_dev (s : State) (i : Fin 32) (g : Monitor → Monitor) : (s.updMon i g).dev = s.dev := rfl
@[simp] theorem updMon_csu (s : State) (i : Fin 32) (g : Monitor → Monitor) : (s.updMon i g).csu = s.csu := rfl
@[simp] theorem updMon_clkout (s : State) (i : Fin 32) (g : Monitor → Monitor) : (s.updMon i g).clkout = s.clkout := rfl
@[simp] theorem updMon_edge (s : State) (i : Fin 32) (g : Monitor → Monitor) : (s.updMon i g).edge = s.edge := rfl
@[simp] theorem updMon_delay (s : State) (i : Fin 32) (g : Monitor → Monitor) : (s.updMon i g).delay = s.delay := rfl
@[simp] theorem updMon_seq (s : State) (i : Fin 32) (g : Monitor → Monitor) : (s.updMon i g).seq = s.seq := rfl
@[simp] theorem updMon_drv (s : State) (i : Fin 32) (g : Monitor → Monitor) : (s.updMon i g).drv = s.drv := rfl
@[simp] theorem updMon_trip (s : State) (i : Fin 32) (g : Monitor → Monitor) : (s.updMon i g).trip = s.trip := rfl
@[simp] theorem updMon_store (s : State) (i : Fin 32) (g : Monitor → Monitor) : (s.updMon i g).store = s.store := rfl
@[simp] theorem updMon_sti (s : State) (i : Fin 32) (g : Monitor → Monitor) : (s.updMon i g).sti = s.sti := rfl
@[simp] theorem updMon_grp (s : State) (i : Fin 32) (g : Monitor → Monitor) : (s.updMon i g).grp = s.grp := rfl
@[simp] theorem updMon_stat (s : State) (i : Fin 32) (g : Monitor → Monitor) : (s.updMon i g).stat = s.stat := rfl
@[simp] theorem updMon_line (s : State) (i : Fin 32) (g : Monitor → Monitor) : (s.updMon i g).line = s.line := rfl
@[simp] theorem updMon_mon (s : State) (i : Fin 32) (g : Monitor → Monitor) : (s.updMon i g).mon = upd s.mon i g := rfl
@[simp] theorem updMon_tripin (s : State) (i : Fin 32) (g : Monitor → Monitor) : (s.updMon i g).tripin = s.tripin := rfl
@[simp] theorem updMon_xbar (s : State) (i : Fin 32) (g : Monitor → Monitor) : (s.updMon i g).xbar = s.xbar := rfl
@[simp] theorem updMon_trig (s : State) (i : Fin 32) (g : Monitor → Monitor) : (s.updMon i g).trig = s.trig := rfl
@[simp] theorem updMon_cap (s : State) (i : Fin 32) (g : Monitor → Monitor) : (s.updMon i g).cap = s.cap := rfl
@[simp] theorem updMon_drz (s : State) (i : Fin 32) (g : Monitor → Monitor) : (s.updMon i g).drz = s.drz := rfl
@[simp] theorem updMon_port (s : State) (i : Fin 32) (g : Monitor → Monitor) : (s.updMon i g).port = s.port := rfl
@[simp] theorem updMon_fab (s : State) (i : Fin 32) (g : Monitor → Monitor) : (s.updMon i g).fab = s.fab := rfl
@[simp] theorem updMon_armg (s : State) (i : Fin 32) (g : Monitor → Monitor) : (s.updMon i g).armg = s.armg := rfl
@[simp] theorem updMon_sender (s : State) (i : Fin 32) (g : Monitor → Monitor) : (s.updMon i g).sender = s.sender := rfl
@[simp] theorem updMon_gustq (s : State) (i : Fin 32) (g : Monitor → Monitor) : (s.updMon i g).gustq = s.gustq := rfl
@[simp] theorem updMon_mem (s : State) (i : Fin 32) (g : Monitor → Monitor) : (s.updMon i g).mem = s.mem := rfl
@[simp] theorem updMon_own (s : State) (i : Fin 32) (g : Monitor → Monitor) : (s.updMon i g).own = s.own := rfl
@[simp] theorem updMon_ring (s : State) (i : Fin 32) (g : Monitor → Monitor) : (s.updMon i g).ring = s.ring := rfl
@[simp] theorem updMon_merger (s : State) (i : Fin 32) (g : Monitor → Monitor) : (s.updMon i g).merger = s.merger := rfl
@[simp] theorem updMon_host (s : State) (i : Fin 32) (g : Monitor → Monitor) : (s.updMon i g).host = s.host := rfl
@[simp] theorem updMon_od (s : State) (i : Fin 32) (g : Monitor → Monitor) : (s.updMon i g).od = s.od := rfl
@[simp] theorem updMon_parity (s : State) (i : Fin 32) (g : Monitor → Monitor) : (s.updMon i g).parity = s.parity := rfl
@[simp] theorem updMon_commits (s : State) (i : Fin 32) (g : Monitor → Monitor) : (s.updMon i g).commits = s.commits := rfl
@[simp] theorem updMon_kpp (s : State) (i : Fin 32) (g : Monitor → Monitor) : (s.updMon i g).kpp = s.kpp := rfl
@[simp] theorem updMon_eth (s : State) (i : Fin 32) (g : Monitor → Monitor) : (s.updMon i g).eth = s.eth := rfl
@[simp] theorem updMon_spi (s : State) (i : Fin 32) (g : Monitor → Monitor) : (s.updMon i g).spi = s.spi := rfl
@[simp] theorem updMon_flash (s : State) (i : Fin 32) (g : Monitor → Monitor) : (s.updMon i g).flash = s.flash := rfl
@[simp] theorem updMon_persist (s : State) (i : Fin 32) (g : Monitor → Monitor) : (s.updMon i g).persist = s.persist := rfl
@[simp] theorem updMon_health (s : State) (i : Fin 32) (g : Monitor → Monitor) : (s.updMon i g).health = s.health := rfl
@[simp] theorem updMon_margin (s : State) (i : Fin 32) (g : Monitor → Monitor) : (s.updMon i g).margin = s.margin := rfl
@[simp] theorem updMon_pins (s : State) (i : Fin 32) (g : Monitor → Monitor) : (s.updMon i g).pins = s.pins := rfl
@[simp] theorem updMon_answer (s : State) (i : Fin 32) (g : Monitor → Monitor) : (s.updMon i g).answer = s.answer := rfl
@[simp] theorem updMon_free (s : State) (i : Fin 32) (g : Monitor → Monitor) : (s.updMon i g).free = s.free := rfl

/-! ## updXbar -/

@[simp] theorem updXbar_part (s : State) (i : Fin 4) (g : Crossbar → Crossbar) : (s.updXbar i g).part = s.part := rfl
@[simp] theorem updXbar_pending (s : State) (i : Fin 4) (g : Crossbar → Crossbar) : (s.updXbar i g).pending = s.pending := rfl
@[simp] theorem updXbar_boot (s : State) (i : Fin 4) (g : Crossbar → Crossbar) : (s.updXbar i g).boot = s.boot := rfl
@[simp] theorem updXbar_time (s : State) (i : Fin 4) (g : Crossbar → Crossbar) : (s.updXbar i g).time = s.time := rfl
@[simp] theorem updXbar_dev (s : State) (i : Fin 4) (g : Crossbar → Crossbar) : (s.updXbar i g).dev = s.dev := rfl
@[simp] theorem updXbar_csu (s : State) (i : Fin 4) (g : Crossbar → Crossbar) : (s.updXbar i g).csu = s.csu := rfl
@[simp] theorem updXbar_clkout (s : State) (i : Fin 4) (g : Crossbar → Crossbar) : (s.updXbar i g).clkout = s.clkout := rfl
@[simp] theorem updXbar_edge (s : State) (i : Fin 4) (g : Crossbar → Crossbar) : (s.updXbar i g).edge = s.edge := rfl
@[simp] theorem updXbar_delay (s : State) (i : Fin 4) (g : Crossbar → Crossbar) : (s.updXbar i g).delay = s.delay := rfl
@[simp] theorem updXbar_seq (s : State) (i : Fin 4) (g : Crossbar → Crossbar) : (s.updXbar i g).seq = s.seq := rfl
@[simp] theorem updXbar_drv (s : State) (i : Fin 4) (g : Crossbar → Crossbar) : (s.updXbar i g).drv = s.drv := rfl
@[simp] theorem updXbar_trip (s : State) (i : Fin 4) (g : Crossbar → Crossbar) : (s.updXbar i g).trip = s.trip := rfl
@[simp] theorem updXbar_store (s : State) (i : Fin 4) (g : Crossbar → Crossbar) : (s.updXbar i g).store = s.store := rfl
@[simp] theorem updXbar_sti (s : State) (i : Fin 4) (g : Crossbar → Crossbar) : (s.updXbar i g).sti = s.sti := rfl
@[simp] theorem updXbar_grp (s : State) (i : Fin 4) (g : Crossbar → Crossbar) : (s.updXbar i g).grp = s.grp := rfl
@[simp] theorem updXbar_stat (s : State) (i : Fin 4) (g : Crossbar → Crossbar) : (s.updXbar i g).stat = s.stat := rfl
@[simp] theorem updXbar_line (s : State) (i : Fin 4) (g : Crossbar → Crossbar) : (s.updXbar i g).line = s.line := rfl
@[simp] theorem updXbar_mon (s : State) (i : Fin 4) (g : Crossbar → Crossbar) : (s.updXbar i g).mon = s.mon := rfl
@[simp] theorem updXbar_tripin (s : State) (i : Fin 4) (g : Crossbar → Crossbar) : (s.updXbar i g).tripin = s.tripin := rfl
@[simp] theorem updXbar_xbar (s : State) (i : Fin 4) (g : Crossbar → Crossbar) : (s.updXbar i g).xbar = upd s.xbar i g := rfl
@[simp] theorem updXbar_trig (s : State) (i : Fin 4) (g : Crossbar → Crossbar) : (s.updXbar i g).trig = s.trig := rfl
@[simp] theorem updXbar_cap (s : State) (i : Fin 4) (g : Crossbar → Crossbar) : (s.updXbar i g).cap = s.cap := rfl
@[simp] theorem updXbar_drz (s : State) (i : Fin 4) (g : Crossbar → Crossbar) : (s.updXbar i g).drz = s.drz := rfl
@[simp] theorem updXbar_port (s : State) (i : Fin 4) (g : Crossbar → Crossbar) : (s.updXbar i g).port = s.port := rfl
@[simp] theorem updXbar_fab (s : State) (i : Fin 4) (g : Crossbar → Crossbar) : (s.updXbar i g).fab = s.fab := rfl
@[simp] theorem updXbar_armg (s : State) (i : Fin 4) (g : Crossbar → Crossbar) : (s.updXbar i g).armg = s.armg := rfl
@[simp] theorem updXbar_sender (s : State) (i : Fin 4) (g : Crossbar → Crossbar) : (s.updXbar i g).sender = s.sender := rfl
@[simp] theorem updXbar_gustq (s : State) (i : Fin 4) (g : Crossbar → Crossbar) : (s.updXbar i g).gustq = s.gustq := rfl
@[simp] theorem updXbar_mem (s : State) (i : Fin 4) (g : Crossbar → Crossbar) : (s.updXbar i g).mem = s.mem := rfl
@[simp] theorem updXbar_own (s : State) (i : Fin 4) (g : Crossbar → Crossbar) : (s.updXbar i g).own = s.own := rfl
@[simp] theorem updXbar_ring (s : State) (i : Fin 4) (g : Crossbar → Crossbar) : (s.updXbar i g).ring = s.ring := rfl
@[simp] theorem updXbar_merger (s : State) (i : Fin 4) (g : Crossbar → Crossbar) : (s.updXbar i g).merger = s.merger := rfl
@[simp] theorem updXbar_host (s : State) (i : Fin 4) (g : Crossbar → Crossbar) : (s.updXbar i g).host = s.host := rfl
@[simp] theorem updXbar_od (s : State) (i : Fin 4) (g : Crossbar → Crossbar) : (s.updXbar i g).od = s.od := rfl
@[simp] theorem updXbar_parity (s : State) (i : Fin 4) (g : Crossbar → Crossbar) : (s.updXbar i g).parity = s.parity := rfl
@[simp] theorem updXbar_commits (s : State) (i : Fin 4) (g : Crossbar → Crossbar) : (s.updXbar i g).commits = s.commits := rfl
@[simp] theorem updXbar_kpp (s : State) (i : Fin 4) (g : Crossbar → Crossbar) : (s.updXbar i g).kpp = s.kpp := rfl
@[simp] theorem updXbar_eth (s : State) (i : Fin 4) (g : Crossbar → Crossbar) : (s.updXbar i g).eth = s.eth := rfl
@[simp] theorem updXbar_spi (s : State) (i : Fin 4) (g : Crossbar → Crossbar) : (s.updXbar i g).spi = s.spi := rfl
@[simp] theorem updXbar_flash (s : State) (i : Fin 4) (g : Crossbar → Crossbar) : (s.updXbar i g).flash = s.flash := rfl
@[simp] theorem updXbar_persist (s : State) (i : Fin 4) (g : Crossbar → Crossbar) : (s.updXbar i g).persist = s.persist := rfl
@[simp] theorem updXbar_health (s : State) (i : Fin 4) (g : Crossbar → Crossbar) : (s.updXbar i g).health = s.health := rfl
@[simp] theorem updXbar_margin (s : State) (i : Fin 4) (g : Crossbar → Crossbar) : (s.updXbar i g).margin = s.margin := rfl
@[simp] theorem updXbar_pins (s : State) (i : Fin 4) (g : Crossbar → Crossbar) : (s.updXbar i g).pins = s.pins := rfl
@[simp] theorem updXbar_answer (s : State) (i : Fin 4) (g : Crossbar → Crossbar) : (s.updXbar i g).answer = s.answer := rfl
@[simp] theorem updXbar_free (s : State) (i : Fin 4) (g : Crossbar → Crossbar) : (s.updXbar i g).free = s.free := rfl

/-! ## updTrig -/

@[simp] theorem updTrig_part (s : State) (i : Fin 4) (g : TrigEngine → TrigEngine) : (s.updTrig i g).part = s.part := rfl
@[simp] theorem updTrig_pending (s : State) (i : Fin 4) (g : TrigEngine → TrigEngine) : (s.updTrig i g).pending = s.pending := rfl
@[simp] theorem updTrig_boot (s : State) (i : Fin 4) (g : TrigEngine → TrigEngine) : (s.updTrig i g).boot = s.boot := rfl
@[simp] theorem updTrig_time (s : State) (i : Fin 4) (g : TrigEngine → TrigEngine) : (s.updTrig i g).time = s.time := rfl
@[simp] theorem updTrig_dev (s : State) (i : Fin 4) (g : TrigEngine → TrigEngine) : (s.updTrig i g).dev = s.dev := rfl
@[simp] theorem updTrig_csu (s : State) (i : Fin 4) (g : TrigEngine → TrigEngine) : (s.updTrig i g).csu = s.csu := rfl
@[simp] theorem updTrig_clkout (s : State) (i : Fin 4) (g : TrigEngine → TrigEngine) : (s.updTrig i g).clkout = s.clkout := rfl
@[simp] theorem updTrig_edge (s : State) (i : Fin 4) (g : TrigEngine → TrigEngine) : (s.updTrig i g).edge = s.edge := rfl
@[simp] theorem updTrig_delay (s : State) (i : Fin 4) (g : TrigEngine → TrigEngine) : (s.updTrig i g).delay = s.delay := rfl
@[simp] theorem updTrig_seq (s : State) (i : Fin 4) (g : TrigEngine → TrigEngine) : (s.updTrig i g).seq = s.seq := rfl
@[simp] theorem updTrig_drv (s : State) (i : Fin 4) (g : TrigEngine → TrigEngine) : (s.updTrig i g).drv = s.drv := rfl
@[simp] theorem updTrig_trip (s : State) (i : Fin 4) (g : TrigEngine → TrigEngine) : (s.updTrig i g).trip = s.trip := rfl
@[simp] theorem updTrig_store (s : State) (i : Fin 4) (g : TrigEngine → TrigEngine) : (s.updTrig i g).store = s.store := rfl
@[simp] theorem updTrig_sti (s : State) (i : Fin 4) (g : TrigEngine → TrigEngine) : (s.updTrig i g).sti = s.sti := rfl
@[simp] theorem updTrig_grp (s : State) (i : Fin 4) (g : TrigEngine → TrigEngine) : (s.updTrig i g).grp = s.grp := rfl
@[simp] theorem updTrig_stat (s : State) (i : Fin 4) (g : TrigEngine → TrigEngine) : (s.updTrig i g).stat = s.stat := rfl
@[simp] theorem updTrig_line (s : State) (i : Fin 4) (g : TrigEngine → TrigEngine) : (s.updTrig i g).line = s.line := rfl
@[simp] theorem updTrig_mon (s : State) (i : Fin 4) (g : TrigEngine → TrigEngine) : (s.updTrig i g).mon = s.mon := rfl
@[simp] theorem updTrig_tripin (s : State) (i : Fin 4) (g : TrigEngine → TrigEngine) : (s.updTrig i g).tripin = s.tripin := rfl
@[simp] theorem updTrig_xbar (s : State) (i : Fin 4) (g : TrigEngine → TrigEngine) : (s.updTrig i g).xbar = s.xbar := rfl
@[simp] theorem updTrig_trig (s : State) (i : Fin 4) (g : TrigEngine → TrigEngine) : (s.updTrig i g).trig = upd s.trig i g := rfl
@[simp] theorem updTrig_cap (s : State) (i : Fin 4) (g : TrigEngine → TrigEngine) : (s.updTrig i g).cap = s.cap := rfl
@[simp] theorem updTrig_drz (s : State) (i : Fin 4) (g : TrigEngine → TrigEngine) : (s.updTrig i g).drz = s.drz := rfl
@[simp] theorem updTrig_port (s : State) (i : Fin 4) (g : TrigEngine → TrigEngine) : (s.updTrig i g).port = s.port := rfl
@[simp] theorem updTrig_fab (s : State) (i : Fin 4) (g : TrigEngine → TrigEngine) : (s.updTrig i g).fab = s.fab := rfl
@[simp] theorem updTrig_armg (s : State) (i : Fin 4) (g : TrigEngine → TrigEngine) : (s.updTrig i g).armg = s.armg := rfl
@[simp] theorem updTrig_sender (s : State) (i : Fin 4) (g : TrigEngine → TrigEngine) : (s.updTrig i g).sender = s.sender := rfl
@[simp] theorem updTrig_gustq (s : State) (i : Fin 4) (g : TrigEngine → TrigEngine) : (s.updTrig i g).gustq = s.gustq := rfl
@[simp] theorem updTrig_mem (s : State) (i : Fin 4) (g : TrigEngine → TrigEngine) : (s.updTrig i g).mem = s.mem := rfl
@[simp] theorem updTrig_own (s : State) (i : Fin 4) (g : TrigEngine → TrigEngine) : (s.updTrig i g).own = s.own := rfl
@[simp] theorem updTrig_ring (s : State) (i : Fin 4) (g : TrigEngine → TrigEngine) : (s.updTrig i g).ring = s.ring := rfl
@[simp] theorem updTrig_merger (s : State) (i : Fin 4) (g : TrigEngine → TrigEngine) : (s.updTrig i g).merger = s.merger := rfl
@[simp] theorem updTrig_host (s : State) (i : Fin 4) (g : TrigEngine → TrigEngine) : (s.updTrig i g).host = s.host := rfl
@[simp] theorem updTrig_od (s : State) (i : Fin 4) (g : TrigEngine → TrigEngine) : (s.updTrig i g).od = s.od := rfl
@[simp] theorem updTrig_parity (s : State) (i : Fin 4) (g : TrigEngine → TrigEngine) : (s.updTrig i g).parity = s.parity := rfl
@[simp] theorem updTrig_commits (s : State) (i : Fin 4) (g : TrigEngine → TrigEngine) : (s.updTrig i g).commits = s.commits := rfl
@[simp] theorem updTrig_kpp (s : State) (i : Fin 4) (g : TrigEngine → TrigEngine) : (s.updTrig i g).kpp = s.kpp := rfl
@[simp] theorem updTrig_eth (s : State) (i : Fin 4) (g : TrigEngine → TrigEngine) : (s.updTrig i g).eth = s.eth := rfl
@[simp] theorem updTrig_spi (s : State) (i : Fin 4) (g : TrigEngine → TrigEngine) : (s.updTrig i g).spi = s.spi := rfl
@[simp] theorem updTrig_flash (s : State) (i : Fin 4) (g : TrigEngine → TrigEngine) : (s.updTrig i g).flash = s.flash := rfl
@[simp] theorem updTrig_persist (s : State) (i : Fin 4) (g : TrigEngine → TrigEngine) : (s.updTrig i g).persist = s.persist := rfl
@[simp] theorem updTrig_health (s : State) (i : Fin 4) (g : TrigEngine → TrigEngine) : (s.updTrig i g).health = s.health := rfl
@[simp] theorem updTrig_margin (s : State) (i : Fin 4) (g : TrigEngine → TrigEngine) : (s.updTrig i g).margin = s.margin := rfl
@[simp] theorem updTrig_pins (s : State) (i : Fin 4) (g : TrigEngine → TrigEngine) : (s.updTrig i g).pins = s.pins := rfl
@[simp] theorem updTrig_answer (s : State) (i : Fin 4) (g : TrigEngine → TrigEngine) : (s.updTrig i g).answer = s.answer := rfl
@[simp] theorem updTrig_free (s : State) (i : Fin 4) (g : TrigEngine → TrigEngine) : (s.updTrig i g).free = s.free := rfl

/-! ## updCap -/

@[simp] theorem updCap_part (s : State) (i : Fin 4) (g : Capture → Capture) : (s.updCap i g).part = s.part := rfl
@[simp] theorem updCap_pending (s : State) (i : Fin 4) (g : Capture → Capture) : (s.updCap i g).pending = s.pending := rfl
@[simp] theorem updCap_boot (s : State) (i : Fin 4) (g : Capture → Capture) : (s.updCap i g).boot = s.boot := rfl
@[simp] theorem updCap_time (s : State) (i : Fin 4) (g : Capture → Capture) : (s.updCap i g).time = s.time := rfl
@[simp] theorem updCap_dev (s : State) (i : Fin 4) (g : Capture → Capture) : (s.updCap i g).dev = s.dev := rfl
@[simp] theorem updCap_csu (s : State) (i : Fin 4) (g : Capture → Capture) : (s.updCap i g).csu = s.csu := rfl
@[simp] theorem updCap_clkout (s : State) (i : Fin 4) (g : Capture → Capture) : (s.updCap i g).clkout = s.clkout := rfl
@[simp] theorem updCap_edge (s : State) (i : Fin 4) (g : Capture → Capture) : (s.updCap i g).edge = s.edge := rfl
@[simp] theorem updCap_delay (s : State) (i : Fin 4) (g : Capture → Capture) : (s.updCap i g).delay = s.delay := rfl
@[simp] theorem updCap_seq (s : State) (i : Fin 4) (g : Capture → Capture) : (s.updCap i g).seq = s.seq := rfl
@[simp] theorem updCap_drv (s : State) (i : Fin 4) (g : Capture → Capture) : (s.updCap i g).drv = s.drv := rfl
@[simp] theorem updCap_trip (s : State) (i : Fin 4) (g : Capture → Capture) : (s.updCap i g).trip = s.trip := rfl
@[simp] theorem updCap_store (s : State) (i : Fin 4) (g : Capture → Capture) : (s.updCap i g).store = s.store := rfl
@[simp] theorem updCap_sti (s : State) (i : Fin 4) (g : Capture → Capture) : (s.updCap i g).sti = s.sti := rfl
@[simp] theorem updCap_grp (s : State) (i : Fin 4) (g : Capture → Capture) : (s.updCap i g).grp = s.grp := rfl
@[simp] theorem updCap_stat (s : State) (i : Fin 4) (g : Capture → Capture) : (s.updCap i g).stat = s.stat := rfl
@[simp] theorem updCap_line (s : State) (i : Fin 4) (g : Capture → Capture) : (s.updCap i g).line = s.line := rfl
@[simp] theorem updCap_mon (s : State) (i : Fin 4) (g : Capture → Capture) : (s.updCap i g).mon = s.mon := rfl
@[simp] theorem updCap_tripin (s : State) (i : Fin 4) (g : Capture → Capture) : (s.updCap i g).tripin = s.tripin := rfl
@[simp] theorem updCap_xbar (s : State) (i : Fin 4) (g : Capture → Capture) : (s.updCap i g).xbar = s.xbar := rfl
@[simp] theorem updCap_trig (s : State) (i : Fin 4) (g : Capture → Capture) : (s.updCap i g).trig = s.trig := rfl
@[simp] theorem updCap_cap (s : State) (i : Fin 4) (g : Capture → Capture) : (s.updCap i g).cap = upd s.cap i g := rfl
@[simp] theorem updCap_drz (s : State) (i : Fin 4) (g : Capture → Capture) : (s.updCap i g).drz = s.drz := rfl
@[simp] theorem updCap_port (s : State) (i : Fin 4) (g : Capture → Capture) : (s.updCap i g).port = s.port := rfl
@[simp] theorem updCap_fab (s : State) (i : Fin 4) (g : Capture → Capture) : (s.updCap i g).fab = s.fab := rfl
@[simp] theorem updCap_armg (s : State) (i : Fin 4) (g : Capture → Capture) : (s.updCap i g).armg = s.armg := rfl
@[simp] theorem updCap_sender (s : State) (i : Fin 4) (g : Capture → Capture) : (s.updCap i g).sender = s.sender := rfl
@[simp] theorem updCap_gustq (s : State) (i : Fin 4) (g : Capture → Capture) : (s.updCap i g).gustq = s.gustq := rfl
@[simp] theorem updCap_mem (s : State) (i : Fin 4) (g : Capture → Capture) : (s.updCap i g).mem = s.mem := rfl
@[simp] theorem updCap_own (s : State) (i : Fin 4) (g : Capture → Capture) : (s.updCap i g).own = s.own := rfl
@[simp] theorem updCap_ring (s : State) (i : Fin 4) (g : Capture → Capture) : (s.updCap i g).ring = s.ring := rfl
@[simp] theorem updCap_merger (s : State) (i : Fin 4) (g : Capture → Capture) : (s.updCap i g).merger = s.merger := rfl
@[simp] theorem updCap_host (s : State) (i : Fin 4) (g : Capture → Capture) : (s.updCap i g).host = s.host := rfl
@[simp] theorem updCap_od (s : State) (i : Fin 4) (g : Capture → Capture) : (s.updCap i g).od = s.od := rfl
@[simp] theorem updCap_parity (s : State) (i : Fin 4) (g : Capture → Capture) : (s.updCap i g).parity = s.parity := rfl
@[simp] theorem updCap_commits (s : State) (i : Fin 4) (g : Capture → Capture) : (s.updCap i g).commits = s.commits := rfl
@[simp] theorem updCap_kpp (s : State) (i : Fin 4) (g : Capture → Capture) : (s.updCap i g).kpp = s.kpp := rfl
@[simp] theorem updCap_eth (s : State) (i : Fin 4) (g : Capture → Capture) : (s.updCap i g).eth = s.eth := rfl
@[simp] theorem updCap_spi (s : State) (i : Fin 4) (g : Capture → Capture) : (s.updCap i g).spi = s.spi := rfl
@[simp] theorem updCap_flash (s : State) (i : Fin 4) (g : Capture → Capture) : (s.updCap i g).flash = s.flash := rfl
@[simp] theorem updCap_persist (s : State) (i : Fin 4) (g : Capture → Capture) : (s.updCap i g).persist = s.persist := rfl
@[simp] theorem updCap_health (s : State) (i : Fin 4) (g : Capture → Capture) : (s.updCap i g).health = s.health := rfl
@[simp] theorem updCap_margin (s : State) (i : Fin 4) (g : Capture → Capture) : (s.updCap i g).margin = s.margin := rfl
@[simp] theorem updCap_pins (s : State) (i : Fin 4) (g : Capture → Capture) : (s.updCap i g).pins = s.pins := rfl
@[simp] theorem updCap_answer (s : State) (i : Fin 4) (g : Capture → Capture) : (s.updCap i g).answer = s.answer := rfl
@[simp] theorem updCap_free (s : State) (i : Fin 4) (g : Capture → Capture) : (s.updCap i g).free = s.free := rfl

/-! ## updDrz -/

@[simp] theorem updDrz_part (s : State) (i : Fin 4) (g : Drizzle → Drizzle) : (s.updDrz i g).part = s.part := rfl
@[simp] theorem updDrz_pending (s : State) (i : Fin 4) (g : Drizzle → Drizzle) : (s.updDrz i g).pending = s.pending := rfl
@[simp] theorem updDrz_boot (s : State) (i : Fin 4) (g : Drizzle → Drizzle) : (s.updDrz i g).boot = s.boot := rfl
@[simp] theorem updDrz_time (s : State) (i : Fin 4) (g : Drizzle → Drizzle) : (s.updDrz i g).time = s.time := rfl
@[simp] theorem updDrz_dev (s : State) (i : Fin 4) (g : Drizzle → Drizzle) : (s.updDrz i g).dev = s.dev := rfl
@[simp] theorem updDrz_csu (s : State) (i : Fin 4) (g : Drizzle → Drizzle) : (s.updDrz i g).csu = s.csu := rfl
@[simp] theorem updDrz_clkout (s : State) (i : Fin 4) (g : Drizzle → Drizzle) : (s.updDrz i g).clkout = s.clkout := rfl
@[simp] theorem updDrz_edge (s : State) (i : Fin 4) (g : Drizzle → Drizzle) : (s.updDrz i g).edge = s.edge := rfl
@[simp] theorem updDrz_delay (s : State) (i : Fin 4) (g : Drizzle → Drizzle) : (s.updDrz i g).delay = s.delay := rfl
@[simp] theorem updDrz_seq (s : State) (i : Fin 4) (g : Drizzle → Drizzle) : (s.updDrz i g).seq = s.seq := rfl
@[simp] theorem updDrz_drv (s : State) (i : Fin 4) (g : Drizzle → Drizzle) : (s.updDrz i g).drv = s.drv := rfl
@[simp] theorem updDrz_trip (s : State) (i : Fin 4) (g : Drizzle → Drizzle) : (s.updDrz i g).trip = s.trip := rfl
@[simp] theorem updDrz_store (s : State) (i : Fin 4) (g : Drizzle → Drizzle) : (s.updDrz i g).store = s.store := rfl
@[simp] theorem updDrz_sti (s : State) (i : Fin 4) (g : Drizzle → Drizzle) : (s.updDrz i g).sti = s.sti := rfl
@[simp] theorem updDrz_grp (s : State) (i : Fin 4) (g : Drizzle → Drizzle) : (s.updDrz i g).grp = s.grp := rfl
@[simp] theorem updDrz_stat (s : State) (i : Fin 4) (g : Drizzle → Drizzle) : (s.updDrz i g).stat = s.stat := rfl
@[simp] theorem updDrz_line (s : State) (i : Fin 4) (g : Drizzle → Drizzle) : (s.updDrz i g).line = s.line := rfl
@[simp] theorem updDrz_mon (s : State) (i : Fin 4) (g : Drizzle → Drizzle) : (s.updDrz i g).mon = s.mon := rfl
@[simp] theorem updDrz_tripin (s : State) (i : Fin 4) (g : Drizzle → Drizzle) : (s.updDrz i g).tripin = s.tripin := rfl
@[simp] theorem updDrz_xbar (s : State) (i : Fin 4) (g : Drizzle → Drizzle) : (s.updDrz i g).xbar = s.xbar := rfl
@[simp] theorem updDrz_trig (s : State) (i : Fin 4) (g : Drizzle → Drizzle) : (s.updDrz i g).trig = s.trig := rfl
@[simp] theorem updDrz_cap (s : State) (i : Fin 4) (g : Drizzle → Drizzle) : (s.updDrz i g).cap = s.cap := rfl
@[simp] theorem updDrz_drz (s : State) (i : Fin 4) (g : Drizzle → Drizzle) : (s.updDrz i g).drz = upd s.drz i g := rfl
@[simp] theorem updDrz_port (s : State) (i : Fin 4) (g : Drizzle → Drizzle) : (s.updDrz i g).port = s.port := rfl
@[simp] theorem updDrz_fab (s : State) (i : Fin 4) (g : Drizzle → Drizzle) : (s.updDrz i g).fab = s.fab := rfl
@[simp] theorem updDrz_armg (s : State) (i : Fin 4) (g : Drizzle → Drizzle) : (s.updDrz i g).armg = s.armg := rfl
@[simp] theorem updDrz_sender (s : State) (i : Fin 4) (g : Drizzle → Drizzle) : (s.updDrz i g).sender = s.sender := rfl
@[simp] theorem updDrz_gustq (s : State) (i : Fin 4) (g : Drizzle → Drizzle) : (s.updDrz i g).gustq = s.gustq := rfl
@[simp] theorem updDrz_mem (s : State) (i : Fin 4) (g : Drizzle → Drizzle) : (s.updDrz i g).mem = s.mem := rfl
@[simp] theorem updDrz_own (s : State) (i : Fin 4) (g : Drizzle → Drizzle) : (s.updDrz i g).own = s.own := rfl
@[simp] theorem updDrz_ring (s : State) (i : Fin 4) (g : Drizzle → Drizzle) : (s.updDrz i g).ring = s.ring := rfl
@[simp] theorem updDrz_merger (s : State) (i : Fin 4) (g : Drizzle → Drizzle) : (s.updDrz i g).merger = s.merger := rfl
@[simp] theorem updDrz_host (s : State) (i : Fin 4) (g : Drizzle → Drizzle) : (s.updDrz i g).host = s.host := rfl
@[simp] theorem updDrz_od (s : State) (i : Fin 4) (g : Drizzle → Drizzle) : (s.updDrz i g).od = s.od := rfl
@[simp] theorem updDrz_parity (s : State) (i : Fin 4) (g : Drizzle → Drizzle) : (s.updDrz i g).parity = s.parity := rfl
@[simp] theorem updDrz_commits (s : State) (i : Fin 4) (g : Drizzle → Drizzle) : (s.updDrz i g).commits = s.commits := rfl
@[simp] theorem updDrz_kpp (s : State) (i : Fin 4) (g : Drizzle → Drizzle) : (s.updDrz i g).kpp = s.kpp := rfl
@[simp] theorem updDrz_eth (s : State) (i : Fin 4) (g : Drizzle → Drizzle) : (s.updDrz i g).eth = s.eth := rfl
@[simp] theorem updDrz_spi (s : State) (i : Fin 4) (g : Drizzle → Drizzle) : (s.updDrz i g).spi = s.spi := rfl
@[simp] theorem updDrz_flash (s : State) (i : Fin 4) (g : Drizzle → Drizzle) : (s.updDrz i g).flash = s.flash := rfl
@[simp] theorem updDrz_persist (s : State) (i : Fin 4) (g : Drizzle → Drizzle) : (s.updDrz i g).persist = s.persist := rfl
@[simp] theorem updDrz_health (s : State) (i : Fin 4) (g : Drizzle → Drizzle) : (s.updDrz i g).health = s.health := rfl
@[simp] theorem updDrz_margin (s : State) (i : Fin 4) (g : Drizzle → Drizzle) : (s.updDrz i g).margin = s.margin := rfl
@[simp] theorem updDrz_pins (s : State) (i : Fin 4) (g : Drizzle → Drizzle) : (s.updDrz i g).pins = s.pins := rfl
@[simp] theorem updDrz_answer (s : State) (i : Fin 4) (g : Drizzle → Drizzle) : (s.updDrz i g).answer = s.answer := rfl
@[simp] theorem updDrz_free (s : State) (i : Fin 4) (g : Drizzle → Drizzle) : (s.updDrz i g).free = s.free := rfl

/-! ## updPort -/

@[simp] theorem updPort_part (s : State) (i : Fin 8) (g : Port → Port) : (s.updPort i g).part = s.part := rfl
@[simp] theorem updPort_pending (s : State) (i : Fin 8) (g : Port → Port) : (s.updPort i g).pending = s.pending := rfl
@[simp] theorem updPort_boot (s : State) (i : Fin 8) (g : Port → Port) : (s.updPort i g).boot = s.boot := rfl
@[simp] theorem updPort_time (s : State) (i : Fin 8) (g : Port → Port) : (s.updPort i g).time = s.time := rfl
@[simp] theorem updPort_dev (s : State) (i : Fin 8) (g : Port → Port) : (s.updPort i g).dev = s.dev := rfl
@[simp] theorem updPort_csu (s : State) (i : Fin 8) (g : Port → Port) : (s.updPort i g).csu = s.csu := rfl
@[simp] theorem updPort_clkout (s : State) (i : Fin 8) (g : Port → Port) : (s.updPort i g).clkout = s.clkout := rfl
@[simp] theorem updPort_edge (s : State) (i : Fin 8) (g : Port → Port) : (s.updPort i g).edge = s.edge := rfl
@[simp] theorem updPort_delay (s : State) (i : Fin 8) (g : Port → Port) : (s.updPort i g).delay = s.delay := rfl
@[simp] theorem updPort_seq (s : State) (i : Fin 8) (g : Port → Port) : (s.updPort i g).seq = s.seq := rfl
@[simp] theorem updPort_drv (s : State) (i : Fin 8) (g : Port → Port) : (s.updPort i g).drv = s.drv := rfl
@[simp] theorem updPort_trip (s : State) (i : Fin 8) (g : Port → Port) : (s.updPort i g).trip = s.trip := rfl
@[simp] theorem updPort_store (s : State) (i : Fin 8) (g : Port → Port) : (s.updPort i g).store = s.store := rfl
@[simp] theorem updPort_sti (s : State) (i : Fin 8) (g : Port → Port) : (s.updPort i g).sti = s.sti := rfl
@[simp] theorem updPort_grp (s : State) (i : Fin 8) (g : Port → Port) : (s.updPort i g).grp = s.grp := rfl
@[simp] theorem updPort_stat (s : State) (i : Fin 8) (g : Port → Port) : (s.updPort i g).stat = s.stat := rfl
@[simp] theorem updPort_line (s : State) (i : Fin 8) (g : Port → Port) : (s.updPort i g).line = s.line := rfl
@[simp] theorem updPort_mon (s : State) (i : Fin 8) (g : Port → Port) : (s.updPort i g).mon = s.mon := rfl
@[simp] theorem updPort_tripin (s : State) (i : Fin 8) (g : Port → Port) : (s.updPort i g).tripin = s.tripin := rfl
@[simp] theorem updPort_xbar (s : State) (i : Fin 8) (g : Port → Port) : (s.updPort i g).xbar = s.xbar := rfl
@[simp] theorem updPort_trig (s : State) (i : Fin 8) (g : Port → Port) : (s.updPort i g).trig = s.trig := rfl
@[simp] theorem updPort_cap (s : State) (i : Fin 8) (g : Port → Port) : (s.updPort i g).cap = s.cap := rfl
@[simp] theorem updPort_drz (s : State) (i : Fin 8) (g : Port → Port) : (s.updPort i g).drz = s.drz := rfl
@[simp] theorem updPort_port (s : State) (i : Fin 8) (g : Port → Port) : (s.updPort i g).port = upd s.port i g := rfl
@[simp] theorem updPort_fab (s : State) (i : Fin 8) (g : Port → Port) : (s.updPort i g).fab = s.fab := rfl
@[simp] theorem updPort_armg (s : State) (i : Fin 8) (g : Port → Port) : (s.updPort i g).armg = s.armg := rfl
@[simp] theorem updPort_sender (s : State) (i : Fin 8) (g : Port → Port) : (s.updPort i g).sender = s.sender := rfl
@[simp] theorem updPort_gustq (s : State) (i : Fin 8) (g : Port → Port) : (s.updPort i g).gustq = s.gustq := rfl
@[simp] theorem updPort_mem (s : State) (i : Fin 8) (g : Port → Port) : (s.updPort i g).mem = s.mem := rfl
@[simp] theorem updPort_own (s : State) (i : Fin 8) (g : Port → Port) : (s.updPort i g).own = s.own := rfl
@[simp] theorem updPort_ring (s : State) (i : Fin 8) (g : Port → Port) : (s.updPort i g).ring = s.ring := rfl
@[simp] theorem updPort_merger (s : State) (i : Fin 8) (g : Port → Port) : (s.updPort i g).merger = s.merger := rfl
@[simp] theorem updPort_host (s : State) (i : Fin 8) (g : Port → Port) : (s.updPort i g).host = s.host := rfl
@[simp] theorem updPort_od (s : State) (i : Fin 8) (g : Port → Port) : (s.updPort i g).od = s.od := rfl
@[simp] theorem updPort_parity (s : State) (i : Fin 8) (g : Port → Port) : (s.updPort i g).parity = s.parity := rfl
@[simp] theorem updPort_commits (s : State) (i : Fin 8) (g : Port → Port) : (s.updPort i g).commits = s.commits := rfl
@[simp] theorem updPort_kpp (s : State) (i : Fin 8) (g : Port → Port) : (s.updPort i g).kpp = s.kpp := rfl
@[simp] theorem updPort_eth (s : State) (i : Fin 8) (g : Port → Port) : (s.updPort i g).eth = s.eth := rfl
@[simp] theorem updPort_spi (s : State) (i : Fin 8) (g : Port → Port) : (s.updPort i g).spi = s.spi := rfl
@[simp] theorem updPort_flash (s : State) (i : Fin 8) (g : Port → Port) : (s.updPort i g).flash = s.flash := rfl
@[simp] theorem updPort_persist (s : State) (i : Fin 8) (g : Port → Port) : (s.updPort i g).persist = s.persist := rfl
@[simp] theorem updPort_health (s : State) (i : Fin 8) (g : Port → Port) : (s.updPort i g).health = s.health := rfl
@[simp] theorem updPort_margin (s : State) (i : Fin 8) (g : Port → Port) : (s.updPort i g).margin = s.margin := rfl
@[simp] theorem updPort_pins (s : State) (i : Fin 8) (g : Port → Port) : (s.updPort i g).pins = s.pins := rfl
@[simp] theorem updPort_answer (s : State) (i : Fin 8) (g : Port → Port) : (s.updPort i g).answer = s.answer := rfl
@[simp] theorem updPort_free (s : State) (i : Fin 8) (g : Port → Port) : (s.updPort i g).free = s.free := rfl

/-! ## updArm -/

@[simp] theorem updArm_part (s : State) (i : Fin 16) (g : ArmGroup → ArmGroup) : (s.updArm i g).part = s.part := rfl
@[simp] theorem updArm_pending (s : State) (i : Fin 16) (g : ArmGroup → ArmGroup) : (s.updArm i g).pending = s.pending := rfl
@[simp] theorem updArm_boot (s : State) (i : Fin 16) (g : ArmGroup → ArmGroup) : (s.updArm i g).boot = s.boot := rfl
@[simp] theorem updArm_time (s : State) (i : Fin 16) (g : ArmGroup → ArmGroup) : (s.updArm i g).time = s.time := rfl
@[simp] theorem updArm_dev (s : State) (i : Fin 16) (g : ArmGroup → ArmGroup) : (s.updArm i g).dev = s.dev := rfl
@[simp] theorem updArm_csu (s : State) (i : Fin 16) (g : ArmGroup → ArmGroup) : (s.updArm i g).csu = s.csu := rfl
@[simp] theorem updArm_clkout (s : State) (i : Fin 16) (g : ArmGroup → ArmGroup) : (s.updArm i g).clkout = s.clkout := rfl
@[simp] theorem updArm_edge (s : State) (i : Fin 16) (g : ArmGroup → ArmGroup) : (s.updArm i g).edge = s.edge := rfl
@[simp] theorem updArm_delay (s : State) (i : Fin 16) (g : ArmGroup → ArmGroup) : (s.updArm i g).delay = s.delay := rfl
@[simp] theorem updArm_seq (s : State) (i : Fin 16) (g : ArmGroup → ArmGroup) : (s.updArm i g).seq = s.seq := rfl
@[simp] theorem updArm_drv (s : State) (i : Fin 16) (g : ArmGroup → ArmGroup) : (s.updArm i g).drv = s.drv := rfl
@[simp] theorem updArm_trip (s : State) (i : Fin 16) (g : ArmGroup → ArmGroup) : (s.updArm i g).trip = s.trip := rfl
@[simp] theorem updArm_store (s : State) (i : Fin 16) (g : ArmGroup → ArmGroup) : (s.updArm i g).store = s.store := rfl
@[simp] theorem updArm_sti (s : State) (i : Fin 16) (g : ArmGroup → ArmGroup) : (s.updArm i g).sti = s.sti := rfl
@[simp] theorem updArm_grp (s : State) (i : Fin 16) (g : ArmGroup → ArmGroup) : (s.updArm i g).grp = s.grp := rfl
@[simp] theorem updArm_stat (s : State) (i : Fin 16) (g : ArmGroup → ArmGroup) : (s.updArm i g).stat = s.stat := rfl
@[simp] theorem updArm_line (s : State) (i : Fin 16) (g : ArmGroup → ArmGroup) : (s.updArm i g).line = s.line := rfl
@[simp] theorem updArm_mon (s : State) (i : Fin 16) (g : ArmGroup → ArmGroup) : (s.updArm i g).mon = s.mon := rfl
@[simp] theorem updArm_tripin (s : State) (i : Fin 16) (g : ArmGroup → ArmGroup) : (s.updArm i g).tripin = s.tripin := rfl
@[simp] theorem updArm_xbar (s : State) (i : Fin 16) (g : ArmGroup → ArmGroup) : (s.updArm i g).xbar = s.xbar := rfl
@[simp] theorem updArm_trig (s : State) (i : Fin 16) (g : ArmGroup → ArmGroup) : (s.updArm i g).trig = s.trig := rfl
@[simp] theorem updArm_cap (s : State) (i : Fin 16) (g : ArmGroup → ArmGroup) : (s.updArm i g).cap = s.cap := rfl
@[simp] theorem updArm_drz (s : State) (i : Fin 16) (g : ArmGroup → ArmGroup) : (s.updArm i g).drz = s.drz := rfl
@[simp] theorem updArm_port (s : State) (i : Fin 16) (g : ArmGroup → ArmGroup) : (s.updArm i g).port = s.port := rfl
@[simp] theorem updArm_fab (s : State) (i : Fin 16) (g : ArmGroup → ArmGroup) : (s.updArm i g).fab = s.fab := rfl
@[simp] theorem updArm_armg (s : State) (i : Fin 16) (g : ArmGroup → ArmGroup) : (s.updArm i g).armg = upd s.armg i g := rfl
@[simp] theorem updArm_sender (s : State) (i : Fin 16) (g : ArmGroup → ArmGroup) : (s.updArm i g).sender = s.sender := rfl
@[simp] theorem updArm_gustq (s : State) (i : Fin 16) (g : ArmGroup → ArmGroup) : (s.updArm i g).gustq = s.gustq := rfl
@[simp] theorem updArm_mem (s : State) (i : Fin 16) (g : ArmGroup → ArmGroup) : (s.updArm i g).mem = s.mem := rfl
@[simp] theorem updArm_own (s : State) (i : Fin 16) (g : ArmGroup → ArmGroup) : (s.updArm i g).own = s.own := rfl
@[simp] theorem updArm_ring (s : State) (i : Fin 16) (g : ArmGroup → ArmGroup) : (s.updArm i g).ring = s.ring := rfl
@[simp] theorem updArm_merger (s : State) (i : Fin 16) (g : ArmGroup → ArmGroup) : (s.updArm i g).merger = s.merger := rfl
@[simp] theorem updArm_host (s : State) (i : Fin 16) (g : ArmGroup → ArmGroup) : (s.updArm i g).host = s.host := rfl
@[simp] theorem updArm_od (s : State) (i : Fin 16) (g : ArmGroup → ArmGroup) : (s.updArm i g).od = s.od := rfl
@[simp] theorem updArm_parity (s : State) (i : Fin 16) (g : ArmGroup → ArmGroup) : (s.updArm i g).parity = s.parity := rfl
@[simp] theorem updArm_commits (s : State) (i : Fin 16) (g : ArmGroup → ArmGroup) : (s.updArm i g).commits = s.commits := rfl
@[simp] theorem updArm_kpp (s : State) (i : Fin 16) (g : ArmGroup → ArmGroup) : (s.updArm i g).kpp = s.kpp := rfl
@[simp] theorem updArm_eth (s : State) (i : Fin 16) (g : ArmGroup → ArmGroup) : (s.updArm i g).eth = s.eth := rfl
@[simp] theorem updArm_spi (s : State) (i : Fin 16) (g : ArmGroup → ArmGroup) : (s.updArm i g).spi = s.spi := rfl
@[simp] theorem updArm_flash (s : State) (i : Fin 16) (g : ArmGroup → ArmGroup) : (s.updArm i g).flash = s.flash := rfl
@[simp] theorem updArm_persist (s : State) (i : Fin 16) (g : ArmGroup → ArmGroup) : (s.updArm i g).persist = s.persist := rfl
@[simp] theorem updArm_health (s : State) (i : Fin 16) (g : ArmGroup → ArmGroup) : (s.updArm i g).health = s.health := rfl
@[simp] theorem updArm_margin (s : State) (i : Fin 16) (g : ArmGroup → ArmGroup) : (s.updArm i g).margin = s.margin := rfl
@[simp] theorem updArm_pins (s : State) (i : Fin 16) (g : ArmGroup → ArmGroup) : (s.updArm i g).pins = s.pins := rfl
@[simp] theorem updArm_answer (s : State) (i : Fin 16) (g : ArmGroup → ArmGroup) : (s.updArm i g).answer = s.answer := rfl
@[simp] theorem updArm_free (s : State) (i : Fin 16) (g : ArmGroup → ArmGroup) : (s.updArm i g).free = s.free := rfl

/-! ## updSender -/

@[simp] theorem updSender_part (s : State) (i : Fin 32) (g : Egress → Egress) : (s.updSender i g).part = s.part := rfl
@[simp] theorem updSender_pending (s : State) (i : Fin 32) (g : Egress → Egress) : (s.updSender i g).pending = s.pending := rfl
@[simp] theorem updSender_boot (s : State) (i : Fin 32) (g : Egress → Egress) : (s.updSender i g).boot = s.boot := rfl
@[simp] theorem updSender_time (s : State) (i : Fin 32) (g : Egress → Egress) : (s.updSender i g).time = s.time := rfl
@[simp] theorem updSender_dev (s : State) (i : Fin 32) (g : Egress → Egress) : (s.updSender i g).dev = s.dev := rfl
@[simp] theorem updSender_csu (s : State) (i : Fin 32) (g : Egress → Egress) : (s.updSender i g).csu = s.csu := rfl
@[simp] theorem updSender_clkout (s : State) (i : Fin 32) (g : Egress → Egress) : (s.updSender i g).clkout = s.clkout := rfl
@[simp] theorem updSender_edge (s : State) (i : Fin 32) (g : Egress → Egress) : (s.updSender i g).edge = s.edge := rfl
@[simp] theorem updSender_delay (s : State) (i : Fin 32) (g : Egress → Egress) : (s.updSender i g).delay = s.delay := rfl
@[simp] theorem updSender_seq (s : State) (i : Fin 32) (g : Egress → Egress) : (s.updSender i g).seq = s.seq := rfl
@[simp] theorem updSender_drv (s : State) (i : Fin 32) (g : Egress → Egress) : (s.updSender i g).drv = s.drv := rfl
@[simp] theorem updSender_trip (s : State) (i : Fin 32) (g : Egress → Egress) : (s.updSender i g).trip = s.trip := rfl
@[simp] theorem updSender_store (s : State) (i : Fin 32) (g : Egress → Egress) : (s.updSender i g).store = s.store := rfl
@[simp] theorem updSender_sti (s : State) (i : Fin 32) (g : Egress → Egress) : (s.updSender i g).sti = s.sti := rfl
@[simp] theorem updSender_grp (s : State) (i : Fin 32) (g : Egress → Egress) : (s.updSender i g).grp = s.grp := rfl
@[simp] theorem updSender_stat (s : State) (i : Fin 32) (g : Egress → Egress) : (s.updSender i g).stat = s.stat := rfl
@[simp] theorem updSender_line (s : State) (i : Fin 32) (g : Egress → Egress) : (s.updSender i g).line = s.line := rfl
@[simp] theorem updSender_mon (s : State) (i : Fin 32) (g : Egress → Egress) : (s.updSender i g).mon = s.mon := rfl
@[simp] theorem updSender_tripin (s : State) (i : Fin 32) (g : Egress → Egress) : (s.updSender i g).tripin = s.tripin := rfl
@[simp] theorem updSender_xbar (s : State) (i : Fin 32) (g : Egress → Egress) : (s.updSender i g).xbar = s.xbar := rfl
@[simp] theorem updSender_trig (s : State) (i : Fin 32) (g : Egress → Egress) : (s.updSender i g).trig = s.trig := rfl
@[simp] theorem updSender_cap (s : State) (i : Fin 32) (g : Egress → Egress) : (s.updSender i g).cap = s.cap := rfl
@[simp] theorem updSender_drz (s : State) (i : Fin 32) (g : Egress → Egress) : (s.updSender i g).drz = s.drz := rfl
@[simp] theorem updSender_port (s : State) (i : Fin 32) (g : Egress → Egress) : (s.updSender i g).port = s.port := rfl
@[simp] theorem updSender_fab (s : State) (i : Fin 32) (g : Egress → Egress) : (s.updSender i g).fab = s.fab := rfl
@[simp] theorem updSender_armg (s : State) (i : Fin 32) (g : Egress → Egress) : (s.updSender i g).armg = s.armg := rfl
@[simp] theorem updSender_sender (s : State) (i : Fin 32) (g : Egress → Egress) : (s.updSender i g).sender = upd s.sender i g := rfl
@[simp] theorem updSender_gustq (s : State) (i : Fin 32) (g : Egress → Egress) : (s.updSender i g).gustq = s.gustq := rfl
@[simp] theorem updSender_mem (s : State) (i : Fin 32) (g : Egress → Egress) : (s.updSender i g).mem = s.mem := rfl
@[simp] theorem updSender_own (s : State) (i : Fin 32) (g : Egress → Egress) : (s.updSender i g).own = s.own := rfl
@[simp] theorem updSender_ring (s : State) (i : Fin 32) (g : Egress → Egress) : (s.updSender i g).ring = s.ring := rfl
@[simp] theorem updSender_merger (s : State) (i : Fin 32) (g : Egress → Egress) : (s.updSender i g).merger = s.merger := rfl
@[simp] theorem updSender_host (s : State) (i : Fin 32) (g : Egress → Egress) : (s.updSender i g).host = s.host := rfl
@[simp] theorem updSender_od (s : State) (i : Fin 32) (g : Egress → Egress) : (s.updSender i g).od = s.od := rfl
@[simp] theorem updSender_parity (s : State) (i : Fin 32) (g : Egress → Egress) : (s.updSender i g).parity = s.parity := rfl
@[simp] theorem updSender_commits (s : State) (i : Fin 32) (g : Egress → Egress) : (s.updSender i g).commits = s.commits := rfl
@[simp] theorem updSender_kpp (s : State) (i : Fin 32) (g : Egress → Egress) : (s.updSender i g).kpp = s.kpp := rfl
@[simp] theorem updSender_eth (s : State) (i : Fin 32) (g : Egress → Egress) : (s.updSender i g).eth = s.eth := rfl
@[simp] theorem updSender_spi (s : State) (i : Fin 32) (g : Egress → Egress) : (s.updSender i g).spi = s.spi := rfl
@[simp] theorem updSender_flash (s : State) (i : Fin 32) (g : Egress → Egress) : (s.updSender i g).flash = s.flash := rfl
@[simp] theorem updSender_persist (s : State) (i : Fin 32) (g : Egress → Egress) : (s.updSender i g).persist = s.persist := rfl
@[simp] theorem updSender_health (s : State) (i : Fin 32) (g : Egress → Egress) : (s.updSender i g).health = s.health := rfl
@[simp] theorem updSender_margin (s : State) (i : Fin 32) (g : Egress → Egress) : (s.updSender i g).margin = s.margin := rfl
@[simp] theorem updSender_pins (s : State) (i : Fin 32) (g : Egress → Egress) : (s.updSender i g).pins = s.pins := rfl
@[simp] theorem updSender_answer (s : State) (i : Fin 32) (g : Egress → Egress) : (s.updSender i g).answer = s.answer := rfl
@[simp] theorem updSender_free (s : State) (i : Fin 32) (g : Egress → Egress) : (s.updSender i g).free = s.free := rfl

/-! ## updGustq -/

@[simp] theorem updGustq_part (s : State) (i : Fin 64) (g : Egress → Egress) : (s.updGustq i g).part = s.part := rfl
@[simp] theorem updGustq_pending (s : State) (i : Fin 64) (g : Egress → Egress) : (s.updGustq i g).pending = s.pending := rfl
@[simp] theorem updGustq_boot (s : State) (i : Fin 64) (g : Egress → Egress) : (s.updGustq i g).boot = s.boot := rfl
@[simp] theorem updGustq_time (s : State) (i : Fin 64) (g : Egress → Egress) : (s.updGustq i g).time = s.time := rfl
@[simp] theorem updGustq_dev (s : State) (i : Fin 64) (g : Egress → Egress) : (s.updGustq i g).dev = s.dev := rfl
@[simp] theorem updGustq_csu (s : State) (i : Fin 64) (g : Egress → Egress) : (s.updGustq i g).csu = s.csu := rfl
@[simp] theorem updGustq_clkout (s : State) (i : Fin 64) (g : Egress → Egress) : (s.updGustq i g).clkout = s.clkout := rfl
@[simp] theorem updGustq_edge (s : State) (i : Fin 64) (g : Egress → Egress) : (s.updGustq i g).edge = s.edge := rfl
@[simp] theorem updGustq_delay (s : State) (i : Fin 64) (g : Egress → Egress) : (s.updGustq i g).delay = s.delay := rfl
@[simp] theorem updGustq_seq (s : State) (i : Fin 64) (g : Egress → Egress) : (s.updGustq i g).seq = s.seq := rfl
@[simp] theorem updGustq_drv (s : State) (i : Fin 64) (g : Egress → Egress) : (s.updGustq i g).drv = s.drv := rfl
@[simp] theorem updGustq_trip (s : State) (i : Fin 64) (g : Egress → Egress) : (s.updGustq i g).trip = s.trip := rfl
@[simp] theorem updGustq_store (s : State) (i : Fin 64) (g : Egress → Egress) : (s.updGustq i g).store = s.store := rfl
@[simp] theorem updGustq_sti (s : State) (i : Fin 64) (g : Egress → Egress) : (s.updGustq i g).sti = s.sti := rfl
@[simp] theorem updGustq_grp (s : State) (i : Fin 64) (g : Egress → Egress) : (s.updGustq i g).grp = s.grp := rfl
@[simp] theorem updGustq_stat (s : State) (i : Fin 64) (g : Egress → Egress) : (s.updGustq i g).stat = s.stat := rfl
@[simp] theorem updGustq_line (s : State) (i : Fin 64) (g : Egress → Egress) : (s.updGustq i g).line = s.line := rfl
@[simp] theorem updGustq_mon (s : State) (i : Fin 64) (g : Egress → Egress) : (s.updGustq i g).mon = s.mon := rfl
@[simp] theorem updGustq_tripin (s : State) (i : Fin 64) (g : Egress → Egress) : (s.updGustq i g).tripin = s.tripin := rfl
@[simp] theorem updGustq_xbar (s : State) (i : Fin 64) (g : Egress → Egress) : (s.updGustq i g).xbar = s.xbar := rfl
@[simp] theorem updGustq_trig (s : State) (i : Fin 64) (g : Egress → Egress) : (s.updGustq i g).trig = s.trig := rfl
@[simp] theorem updGustq_cap (s : State) (i : Fin 64) (g : Egress → Egress) : (s.updGustq i g).cap = s.cap := rfl
@[simp] theorem updGustq_drz (s : State) (i : Fin 64) (g : Egress → Egress) : (s.updGustq i g).drz = s.drz := rfl
@[simp] theorem updGustq_port (s : State) (i : Fin 64) (g : Egress → Egress) : (s.updGustq i g).port = s.port := rfl
@[simp] theorem updGustq_fab (s : State) (i : Fin 64) (g : Egress → Egress) : (s.updGustq i g).fab = s.fab := rfl
@[simp] theorem updGustq_armg (s : State) (i : Fin 64) (g : Egress → Egress) : (s.updGustq i g).armg = s.armg := rfl
@[simp] theorem updGustq_sender (s : State) (i : Fin 64) (g : Egress → Egress) : (s.updGustq i g).sender = s.sender := rfl
@[simp] theorem updGustq_gustq (s : State) (i : Fin 64) (g : Egress → Egress) : (s.updGustq i g).gustq = upd s.gustq i g := rfl
@[simp] theorem updGustq_mem (s : State) (i : Fin 64) (g : Egress → Egress) : (s.updGustq i g).mem = s.mem := rfl
@[simp] theorem updGustq_own (s : State) (i : Fin 64) (g : Egress → Egress) : (s.updGustq i g).own = s.own := rfl
@[simp] theorem updGustq_ring (s : State) (i : Fin 64) (g : Egress → Egress) : (s.updGustq i g).ring = s.ring := rfl
@[simp] theorem updGustq_merger (s : State) (i : Fin 64) (g : Egress → Egress) : (s.updGustq i g).merger = s.merger := rfl
@[simp] theorem updGustq_host (s : State) (i : Fin 64) (g : Egress → Egress) : (s.updGustq i g).host = s.host := rfl
@[simp] theorem updGustq_od (s : State) (i : Fin 64) (g : Egress → Egress) : (s.updGustq i g).od = s.od := rfl
@[simp] theorem updGustq_parity (s : State) (i : Fin 64) (g : Egress → Egress) : (s.updGustq i g).parity = s.parity := rfl
@[simp] theorem updGustq_commits (s : State) (i : Fin 64) (g : Egress → Egress) : (s.updGustq i g).commits = s.commits := rfl
@[simp] theorem updGustq_kpp (s : State) (i : Fin 64) (g : Egress → Egress) : (s.updGustq i g).kpp = s.kpp := rfl
@[simp] theorem updGustq_eth (s : State) (i : Fin 64) (g : Egress → Egress) : (s.updGustq i g).eth = s.eth := rfl
@[simp] theorem updGustq_spi (s : State) (i : Fin 64) (g : Egress → Egress) : (s.updGustq i g).spi = s.spi := rfl
@[simp] theorem updGustq_flash (s : State) (i : Fin 64) (g : Egress → Egress) : (s.updGustq i g).flash = s.flash := rfl
@[simp] theorem updGustq_persist (s : State) (i : Fin 64) (g : Egress → Egress) : (s.updGustq i g).persist = s.persist := rfl
@[simp] theorem updGustq_health (s : State) (i : Fin 64) (g : Egress → Egress) : (s.updGustq i g).health = s.health := rfl
@[simp] theorem updGustq_margin (s : State) (i : Fin 64) (g : Egress → Egress) : (s.updGustq i g).margin = s.margin := rfl
@[simp] theorem updGustq_pins (s : State) (i : Fin 64) (g : Egress → Egress) : (s.updGustq i g).pins = s.pins := rfl
@[simp] theorem updGustq_answer (s : State) (i : Fin 64) (g : Egress → Egress) : (s.updGustq i g).answer = s.answer := rfl
@[simp] theorem updGustq_free (s : State) (i : Fin 64) (g : Egress → Egress) : (s.updGustq i g).free = s.free := rfl

/-! ## updItem -/

@[simp] theorem updItem_part (s : State) (i : Fin 27) (g : MarginItem → MarginItem) : (s.updItem i g).part = s.part := rfl
@[simp] theorem updItem_pending (s : State) (i : Fin 27) (g : MarginItem → MarginItem) : (s.updItem i g).pending = s.pending := rfl
@[simp] theorem updItem_boot (s : State) (i : Fin 27) (g : MarginItem → MarginItem) : (s.updItem i g).boot = s.boot := rfl
@[simp] theorem updItem_time (s : State) (i : Fin 27) (g : MarginItem → MarginItem) : (s.updItem i g).time = s.time := rfl
@[simp] theorem updItem_dev (s : State) (i : Fin 27) (g : MarginItem → MarginItem) : (s.updItem i g).dev = s.dev := rfl
@[simp] theorem updItem_csu (s : State) (i : Fin 27) (g : MarginItem → MarginItem) : (s.updItem i g).csu = s.csu := rfl
@[simp] theorem updItem_clkout (s : State) (i : Fin 27) (g : MarginItem → MarginItem) : (s.updItem i g).clkout = s.clkout := rfl
@[simp] theorem updItem_edge (s : State) (i : Fin 27) (g : MarginItem → MarginItem) : (s.updItem i g).edge = s.edge := rfl
@[simp] theorem updItem_delay (s : State) (i : Fin 27) (g : MarginItem → MarginItem) : (s.updItem i g).delay = s.delay := rfl
@[simp] theorem updItem_seq (s : State) (i : Fin 27) (g : MarginItem → MarginItem) : (s.updItem i g).seq = s.seq := rfl
@[simp] theorem updItem_drv (s : State) (i : Fin 27) (g : MarginItem → MarginItem) : (s.updItem i g).drv = s.drv := rfl
@[simp] theorem updItem_trip (s : State) (i : Fin 27) (g : MarginItem → MarginItem) : (s.updItem i g).trip = s.trip := rfl
@[simp] theorem updItem_store (s : State) (i : Fin 27) (g : MarginItem → MarginItem) : (s.updItem i g).store = s.store := rfl
@[simp] theorem updItem_sti (s : State) (i : Fin 27) (g : MarginItem → MarginItem) : (s.updItem i g).sti = s.sti := rfl
@[simp] theorem updItem_grp (s : State) (i : Fin 27) (g : MarginItem → MarginItem) : (s.updItem i g).grp = s.grp := rfl
@[simp] theorem updItem_stat (s : State) (i : Fin 27) (g : MarginItem → MarginItem) : (s.updItem i g).stat = s.stat := rfl
@[simp] theorem updItem_line (s : State) (i : Fin 27) (g : MarginItem → MarginItem) : (s.updItem i g).line = s.line := rfl
@[simp] theorem updItem_mon (s : State) (i : Fin 27) (g : MarginItem → MarginItem) : (s.updItem i g).mon = s.mon := rfl
@[simp] theorem updItem_tripin (s : State) (i : Fin 27) (g : MarginItem → MarginItem) : (s.updItem i g).tripin = s.tripin := rfl
@[simp] theorem updItem_xbar (s : State) (i : Fin 27) (g : MarginItem → MarginItem) : (s.updItem i g).xbar = s.xbar := rfl
@[simp] theorem updItem_trig (s : State) (i : Fin 27) (g : MarginItem → MarginItem) : (s.updItem i g).trig = s.trig := rfl
@[simp] theorem updItem_cap (s : State) (i : Fin 27) (g : MarginItem → MarginItem) : (s.updItem i g).cap = s.cap := rfl
@[simp] theorem updItem_drz (s : State) (i : Fin 27) (g : MarginItem → MarginItem) : (s.updItem i g).drz = s.drz := rfl
@[simp] theorem updItem_port (s : State) (i : Fin 27) (g : MarginItem → MarginItem) : (s.updItem i g).port = s.port := rfl
@[simp] theorem updItem_fab (s : State) (i : Fin 27) (g : MarginItem → MarginItem) : (s.updItem i g).fab = s.fab := rfl
@[simp] theorem updItem_armg (s : State) (i : Fin 27) (g : MarginItem → MarginItem) : (s.updItem i g).armg = s.armg := rfl
@[simp] theorem updItem_sender (s : State) (i : Fin 27) (g : MarginItem → MarginItem) : (s.updItem i g).sender = s.sender := rfl
@[simp] theorem updItem_gustq (s : State) (i : Fin 27) (g : MarginItem → MarginItem) : (s.updItem i g).gustq = s.gustq := rfl
@[simp] theorem updItem_mem (s : State) (i : Fin 27) (g : MarginItem → MarginItem) : (s.updItem i g).mem = s.mem := rfl
@[simp] theorem updItem_own (s : State) (i : Fin 27) (g : MarginItem → MarginItem) : (s.updItem i g).own = s.own := rfl
@[simp] theorem updItem_ring (s : State) (i : Fin 27) (g : MarginItem → MarginItem) : (s.updItem i g).ring = s.ring := rfl
@[simp] theorem updItem_merger (s : State) (i : Fin 27) (g : MarginItem → MarginItem) : (s.updItem i g).merger = s.merger := rfl
@[simp] theorem updItem_host (s : State) (i : Fin 27) (g : MarginItem → MarginItem) : (s.updItem i g).host = s.host := rfl
@[simp] theorem updItem_od (s : State) (i : Fin 27) (g : MarginItem → MarginItem) : (s.updItem i g).od = s.od := rfl
@[simp] theorem updItem_parity (s : State) (i : Fin 27) (g : MarginItem → MarginItem) : (s.updItem i g).parity = s.parity := rfl
@[simp] theorem updItem_commits (s : State) (i : Fin 27) (g : MarginItem → MarginItem) : (s.updItem i g).commits = s.commits := rfl
@[simp] theorem updItem_kpp (s : State) (i : Fin 27) (g : MarginItem → MarginItem) : (s.updItem i g).kpp = s.kpp := rfl
@[simp] theorem updItem_eth (s : State) (i : Fin 27) (g : MarginItem → MarginItem) : (s.updItem i g).eth = s.eth := rfl
@[simp] theorem updItem_spi (s : State) (i : Fin 27) (g : MarginItem → MarginItem) : (s.updItem i g).spi = s.spi := rfl
@[simp] theorem updItem_flash (s : State) (i : Fin 27) (g : MarginItem → MarginItem) : (s.updItem i g).flash = s.flash := rfl
@[simp] theorem updItem_persist (s : State) (i : Fin 27) (g : MarginItem → MarginItem) : (s.updItem i g).persist = s.persist := rfl
@[simp] theorem updItem_health (s : State) (i : Fin 27) (g : MarginItem → MarginItem) : (s.updItem i g).health = s.health := rfl
@[simp] theorem updItem_margin (s : State) (i : Fin 27) (g : MarginItem → MarginItem) : (s.updItem i g).margin = upd s.margin i g := rfl
@[simp] theorem updItem_pins (s : State) (i : Fin 27) (g : MarginItem → MarginItem) : (s.updItem i g).pins = s.pins := rfl
@[simp] theorem updItem_answer (s : State) (i : Fin 27) (g : MarginItem → MarginItem) : (s.updItem i g).answer = s.answer := rfl
@[simp] theorem updItem_free (s : State) (i : Fin 27) (g : MarginItem → MarginItem) : (s.updItem i g).free = s.free := rfl

/-! ## arrive -/

@[simp] theorem arrive_part (s : State) (a : TE) : (s.arrive a).part = s.part := rfl
@[simp] theorem arrive_pending (s : State) (a : TE) : (s.arrive a).pending = s.pending := rfl
@[simp] theorem arrive_boot (s : State) (a : TE) : (s.arrive a).boot = s.boot := rfl
@[simp] theorem arrive_dev (s : State) (a : TE) : (s.arrive a).dev = s.dev := rfl
@[simp] theorem arrive_csu (s : State) (a : TE) : (s.arrive a).csu = s.csu := rfl
@[simp] theorem arrive_clkout (s : State) (a : TE) : (s.arrive a).clkout = s.clkout := rfl
@[simp] theorem arrive_edge (s : State) (a : TE) : (s.arrive a).edge = s.edge := rfl
@[simp] theorem arrive_delay (s : State) (a : TE) : (s.arrive a).delay = s.delay := rfl
@[simp] theorem arrive_seq (s : State) (a : TE) : (s.arrive a).seq = s.seq := rfl
@[simp] theorem arrive_drv (s : State) (a : TE) : (s.arrive a).drv = s.drv := rfl
@[simp] theorem arrive_trip (s : State) (a : TE) : (s.arrive a).trip = s.trip := rfl
@[simp] theorem arrive_store (s : State) (a : TE) : (s.arrive a).store = s.store := rfl
@[simp] theorem arrive_sti (s : State) (a : TE) : (s.arrive a).sti = s.sti := rfl
@[simp] theorem arrive_grp (s : State) (a : TE) : (s.arrive a).grp = s.grp := rfl
@[simp] theorem arrive_stat (s : State) (a : TE) : (s.arrive a).stat = s.stat := rfl
@[simp] theorem arrive_line (s : State) (a : TE) : (s.arrive a).line = s.line := rfl
@[simp] theorem arrive_mon (s : State) (a : TE) : (s.arrive a).mon = s.mon := rfl
@[simp] theorem arrive_tripin (s : State) (a : TE) : (s.arrive a).tripin = s.tripin := rfl
@[simp] theorem arrive_xbar (s : State) (a : TE) : (s.arrive a).xbar = s.xbar := rfl
@[simp] theorem arrive_trig (s : State) (a : TE) : (s.arrive a).trig = s.trig := rfl
@[simp] theorem arrive_cap (s : State) (a : TE) : (s.arrive a).cap = s.cap := rfl
@[simp] theorem arrive_drz (s : State) (a : TE) : (s.arrive a).drz = s.drz := rfl
@[simp] theorem arrive_port (s : State) (a : TE) : (s.arrive a).port = s.port := rfl
@[simp] theorem arrive_fab (s : State) (a : TE) : (s.arrive a).fab = s.fab := rfl
@[simp] theorem arrive_armg (s : State) (a : TE) : (s.arrive a).armg = s.armg := rfl
@[simp] theorem arrive_sender (s : State) (a : TE) : (s.arrive a).sender = s.sender := rfl
@[simp] theorem arrive_gustq (s : State) (a : TE) : (s.arrive a).gustq = s.gustq := rfl
@[simp] theorem arrive_mem (s : State) (a : TE) : (s.arrive a).mem = s.mem := rfl
@[simp] theorem arrive_own (s : State) (a : TE) : (s.arrive a).own = s.own := rfl
@[simp] theorem arrive_ring (s : State) (a : TE) : (s.arrive a).ring = s.ring := rfl
@[simp] theorem arrive_merger (s : State) (a : TE) : (s.arrive a).merger = s.merger := rfl
@[simp] theorem arrive_host (s : State) (a : TE) : (s.arrive a).host = s.host := rfl
@[simp] theorem arrive_od (s : State) (a : TE) : (s.arrive a).od = s.od := rfl
@[simp] theorem arrive_parity (s : State) (a : TE) : (s.arrive a).parity = s.parity := rfl
@[simp] theorem arrive_commits (s : State) (a : TE) : (s.arrive a).commits = s.commits := rfl
@[simp] theorem arrive_kpp (s : State) (a : TE) : (s.arrive a).kpp = s.kpp := rfl
@[simp] theorem arrive_eth (s : State) (a : TE) : (s.arrive a).eth = s.eth := rfl
@[simp] theorem arrive_spi (s : State) (a : TE) : (s.arrive a).spi = s.spi := rfl
@[simp] theorem arrive_flash (s : State) (a : TE) : (s.arrive a).flash = s.flash := rfl
@[simp] theorem arrive_persist (s : State) (a : TE) : (s.arrive a).persist = s.persist := rfl
@[simp] theorem arrive_health (s : State) (a : TE) : (s.arrive a).health = s.health := rfl
@[simp] theorem arrive_margin (s : State) (a : TE) : (s.arrive a).margin = s.margin := rfl
@[simp] theorem arrive_pins (s : State) (a : TE) : (s.arrive a).pins = s.pins := rfl
@[simp] theorem arrive_answer (s : State) (a : TE) : (s.arrive a).answer = s.answer := rfl
@[simp] theorem arrive_free (s : State) (a : TE) : (s.arrive a).free = s.free := rfl

/-! ## reply -/

@[simp] theorem reply_part (s : State) (st : W32) (n : W64) (p : List Byte) : (s.reply st n p).part = s.part := rfl
@[simp] theorem reply_pending (s : State) (st : W32) (n : W64) (p : List Byte) : (s.reply st n p).pending = s.pending := rfl
@[simp] theorem reply_boot (s : State) (st : W32) (n : W64) (p : List Byte) : (s.reply st n p).boot = s.boot := rfl
@[simp] theorem reply_time (s : State) (st : W32) (n : W64) (p : List Byte) : (s.reply st n p).time = s.time := rfl
@[simp] theorem reply_dev (s : State) (st : W32) (n : W64) (p : List Byte) : (s.reply st n p).dev = s.dev := rfl
@[simp] theorem reply_csu (s : State) (st : W32) (n : W64) (p : List Byte) : (s.reply st n p).csu = s.csu := rfl
@[simp] theorem reply_clkout (s : State) (st : W32) (n : W64) (p : List Byte) : (s.reply st n p).clkout = s.clkout := rfl
@[simp] theorem reply_edge (s : State) (st : W32) (n : W64) (p : List Byte) : (s.reply st n p).edge = s.edge := rfl
@[simp] theorem reply_delay (s : State) (st : W32) (n : W64) (p : List Byte) : (s.reply st n p).delay = s.delay := rfl
@[simp] theorem reply_seq (s : State) (st : W32) (n : W64) (p : List Byte) : (s.reply st n p).seq = s.seq := rfl
@[simp] theorem reply_drv (s : State) (st : W32) (n : W64) (p : List Byte) : (s.reply st n p).drv = s.drv := rfl
@[simp] theorem reply_trip (s : State) (st : W32) (n : W64) (p : List Byte) : (s.reply st n p).trip = s.trip := rfl
@[simp] theorem reply_store (s : State) (st : W32) (n : W64) (p : List Byte) : (s.reply st n p).store = s.store := rfl
@[simp] theorem reply_sti (s : State) (st : W32) (n : W64) (p : List Byte) : (s.reply st n p).sti = s.sti := rfl
@[simp] theorem reply_grp (s : State) (st : W32) (n : W64) (p : List Byte) : (s.reply st n p).grp = s.grp := rfl
@[simp] theorem reply_stat (s : State) (st : W32) (n : W64) (p : List Byte) : (s.reply st n p).stat = s.stat := rfl
@[simp] theorem reply_line (s : State) (st : W32) (n : W64) (p : List Byte) : (s.reply st n p).line = s.line := rfl
@[simp] theorem reply_mon (s : State) (st : W32) (n : W64) (p : List Byte) : (s.reply st n p).mon = s.mon := rfl
@[simp] theorem reply_tripin (s : State) (st : W32) (n : W64) (p : List Byte) : (s.reply st n p).tripin = s.tripin := rfl
@[simp] theorem reply_xbar (s : State) (st : W32) (n : W64) (p : List Byte) : (s.reply st n p).xbar = s.xbar := rfl
@[simp] theorem reply_trig (s : State) (st : W32) (n : W64) (p : List Byte) : (s.reply st n p).trig = s.trig := rfl
@[simp] theorem reply_cap (s : State) (st : W32) (n : W64) (p : List Byte) : (s.reply st n p).cap = s.cap := rfl
@[simp] theorem reply_drz (s : State) (st : W32) (n : W64) (p : List Byte) : (s.reply st n p).drz = s.drz := rfl
@[simp] theorem reply_port (s : State) (st : W32) (n : W64) (p : List Byte) : (s.reply st n p).port = s.port := rfl
@[simp] theorem reply_fab (s : State) (st : W32) (n : W64) (p : List Byte) : (s.reply st n p).fab = s.fab := rfl
@[simp] theorem reply_armg (s : State) (st : W32) (n : W64) (p : List Byte) : (s.reply st n p).armg = s.armg := rfl
@[simp] theorem reply_sender (s : State) (st : W32) (n : W64) (p : List Byte) : (s.reply st n p).sender = s.sender := rfl
@[simp] theorem reply_gustq (s : State) (st : W32) (n : W64) (p : List Byte) : (s.reply st n p).gustq = s.gustq := rfl
@[simp] theorem reply_mem (s : State) (st : W32) (n : W64) (p : List Byte) : (s.reply st n p).mem = s.mem := rfl
@[simp] theorem reply_own (s : State) (st : W32) (n : W64) (p : List Byte) : (s.reply st n p).own = s.own := rfl
@[simp] theorem reply_ring (s : State) (st : W32) (n : W64) (p : List Byte) : (s.reply st n p).ring = s.ring := rfl
@[simp] theorem reply_merger (s : State) (st : W32) (n : W64) (p : List Byte) : (s.reply st n p).merger = s.merger := rfl
@[simp] theorem reply_host (s : State) (st : W32) (n : W64) (p : List Byte) : (s.reply st n p).host = s.host := rfl
@[simp] theorem reply_od (s : State) (st : W32) (n : W64) (p : List Byte) : (s.reply st n p).od = s.od := rfl
@[simp] theorem reply_parity (s : State) (st : W32) (n : W64) (p : List Byte) : (s.reply st n p).parity = s.parity := rfl
@[simp] theorem reply_commits (s : State) (st : W32) (n : W64) (p : List Byte) : (s.reply st n p).commits = s.commits := rfl
@[simp] theorem reply_kpp (s : State) (st : W32) (n : W64) (p : List Byte) : (s.reply st n p).kpp = s.kpp := rfl
@[simp] theorem reply_eth (s : State) (st : W32) (n : W64) (p : List Byte) : (s.reply st n p).eth = s.eth := rfl
@[simp] theorem reply_spi (s : State) (st : W32) (n : W64) (p : List Byte) : (s.reply st n p).spi = s.spi := rfl
@[simp] theorem reply_flash (s : State) (st : W32) (n : W64) (p : List Byte) : (s.reply st n p).flash = s.flash := rfl
@[simp] theorem reply_persist (s : State) (st : W32) (n : W64) (p : List Byte) : (s.reply st n p).persist = s.persist := rfl
@[simp] theorem reply_health (s : State) (st : W32) (n : W64) (p : List Byte) : (s.reply st n p).health = s.health := rfl
@[simp] theorem reply_margin (s : State) (st : W32) (n : W64) (p : List Byte) : (s.reply st n p).margin = s.margin := rfl
@[simp] theorem reply_pins (s : State) (st : W32) (n : W64) (p : List Byte) : (s.reply st n p).pins = s.pins := rfl
@[simp] theorem reply_free (s : State) (st : W32) (n : W64) (p : List Byte) : (s.reply st n p).free = s.free := rfl

/-! ## setFlag -/

@[simp] theorem setFlag_part (s : State) (p : Nat) (g : PanFlag) : (s.setFlag p g).part = s.part := rfl
@[simp] theorem setFlag_pending (s : State) (p : Nat) (g : PanFlag) : (s.setFlag p g).pending = s.pending := rfl
@[simp] theorem setFlag_boot (s : State) (p : Nat) (g : PanFlag) : (s.setFlag p g).boot = s.boot := rfl
@[simp] theorem setFlag_time (s : State) (p : Nat) (g : PanFlag) : (s.setFlag p g).time = s.time := rfl
@[simp] theorem setFlag_dev (s : State) (p : Nat) (g : PanFlag) : (s.setFlag p g).dev = s.dev := rfl
@[simp] theorem setFlag_csu (s : State) (p : Nat) (g : PanFlag) : (s.setFlag p g).csu = s.csu := rfl
@[simp] theorem setFlag_clkout (s : State) (p : Nat) (g : PanFlag) : (s.setFlag p g).clkout = s.clkout := rfl
@[simp] theorem setFlag_edge (s : State) (p : Nat) (g : PanFlag) : (s.setFlag p g).edge = s.edge := rfl
@[simp] theorem setFlag_delay (s : State) (p : Nat) (g : PanFlag) : (s.setFlag p g).delay = s.delay := rfl
@[simp] theorem setFlag_seq (s : State) (p : Nat) (g : PanFlag) : (s.setFlag p g).seq = s.seq := rfl
@[simp] theorem setFlag_drv (s : State) (p : Nat) (g : PanFlag) : (s.setFlag p g).drv = s.drv := rfl
@[simp] theorem setFlag_trip (s : State) (p : Nat) (g : PanFlag) : (s.setFlag p g).trip = s.trip := rfl
@[simp] theorem setFlag_store (s : State) (p : Nat) (g : PanFlag) : (s.setFlag p g).store = s.store := rfl
@[simp] theorem setFlag_sti (s : State) (p : Nat) (g : PanFlag) : (s.setFlag p g).sti = s.sti := rfl
@[simp] theorem setFlag_grp (s : State) (p : Nat) (g : PanFlag) : (s.setFlag p g).grp = s.grp := rfl
@[simp] theorem setFlag_stat (s : State) (p : Nat) (g : PanFlag) : (s.setFlag p g).stat = s.stat := rfl
@[simp] theorem setFlag_line (s : State) (p : Nat) (g : PanFlag) : (s.setFlag p g).line = s.line := rfl
@[simp] theorem setFlag_mon (s : State) (p : Nat) (g : PanFlag) : (s.setFlag p g).mon = s.mon := rfl
@[simp] theorem setFlag_tripin (s : State) (p : Nat) (g : PanFlag) : (s.setFlag p g).tripin = s.tripin := rfl
@[simp] theorem setFlag_xbar (s : State) (p : Nat) (g : PanFlag) : (s.setFlag p g).xbar = s.xbar := rfl
@[simp] theorem setFlag_trig (s : State) (p : Nat) (g : PanFlag) : (s.setFlag p g).trig = s.trig := rfl
@[simp] theorem setFlag_cap (s : State) (p : Nat) (g : PanFlag) : (s.setFlag p g).cap = s.cap := rfl
@[simp] theorem setFlag_drz (s : State) (p : Nat) (g : PanFlag) : (s.setFlag p g).drz = s.drz := rfl
@[simp] theorem setFlag_port (s : State) (p : Nat) (g : PanFlag) : (s.setFlag p g).port = s.port := rfl
@[simp] theorem setFlag_fab (s : State) (p : Nat) (g : PanFlag) : (s.setFlag p g).fab = s.fab := rfl
@[simp] theorem setFlag_armg (s : State) (p : Nat) (g : PanFlag) : (s.setFlag p g).armg = s.armg := rfl
@[simp] theorem setFlag_sender (s : State) (p : Nat) (g : PanFlag) : (s.setFlag p g).sender = s.sender := rfl
@[simp] theorem setFlag_gustq (s : State) (p : Nat) (g : PanFlag) : (s.setFlag p g).gustq = s.gustq := rfl
@[simp] theorem setFlag_mem (s : State) (p : Nat) (g : PanFlag) : (s.setFlag p g).mem = s.mem := rfl
@[simp] theorem setFlag_ring (s : State) (p : Nat) (g : PanFlag) : (s.setFlag p g).ring = s.ring := rfl
@[simp] theorem setFlag_merger (s : State) (p : Nat) (g : PanFlag) : (s.setFlag p g).merger = s.merger := rfl
@[simp] theorem setFlag_host (s : State) (p : Nat) (g : PanFlag) : (s.setFlag p g).host = s.host := rfl
@[simp] theorem setFlag_od (s : State) (p : Nat) (g : PanFlag) : (s.setFlag p g).od = s.od := rfl
@[simp] theorem setFlag_parity (s : State) (p : Nat) (g : PanFlag) : (s.setFlag p g).parity = s.parity := rfl
@[simp] theorem setFlag_commits (s : State) (p : Nat) (g : PanFlag) : (s.setFlag p g).commits = s.commits := rfl
@[simp] theorem setFlag_kpp (s : State) (p : Nat) (g : PanFlag) : (s.setFlag p g).kpp = s.kpp := rfl
@[simp] theorem setFlag_eth (s : State) (p : Nat) (g : PanFlag) : (s.setFlag p g).eth = s.eth := rfl
@[simp] theorem setFlag_spi (s : State) (p : Nat) (g : PanFlag) : (s.setFlag p g).spi = s.spi := rfl
@[simp] theorem setFlag_flash (s : State) (p : Nat) (g : PanFlag) : (s.setFlag p g).flash = s.flash := rfl
@[simp] theorem setFlag_persist (s : State) (p : Nat) (g : PanFlag) : (s.setFlag p g).persist = s.persist := rfl
@[simp] theorem setFlag_health (s : State) (p : Nat) (g : PanFlag) : (s.setFlag p g).health = s.health := rfl
@[simp] theorem setFlag_margin (s : State) (p : Nat) (g : PanFlag) : (s.setFlag p g).margin = s.margin := rfl
@[simp] theorem setFlag_pins (s : State) (p : Nat) (g : PanFlag) : (s.setFlag p g).pins = s.pins := rfl
@[simp] theorem setFlag_answer (s : State) (p : Nat) (g : PanFlag) : (s.setFlag p g).answer = s.answer := rfl
@[simp] theorem setFlag_free (s : State) (p : Nat) (g : PanFlag) : (s.setFlag p g).free = s.free := rfl

/-! ## handOver -/

@[simp] theorem handOver_part (s : State) (p : Nat) (w : Owner) (b : Byte) : (s.handOver p w b).part = s.part := rfl
@[simp] theorem handOver_pending (s : State) (p : Nat) (w : Owner) (b : Byte) : (s.handOver p w b).pending = s.pending := rfl
@[simp] theorem handOver_boot (s : State) (p : Nat) (w : Owner) (b : Byte) : (s.handOver p w b).boot = s.boot := rfl
@[simp] theorem handOver_time (s : State) (p : Nat) (w : Owner) (b : Byte) : (s.handOver p w b).time = s.time := rfl
@[simp] theorem handOver_dev (s : State) (p : Nat) (w : Owner) (b : Byte) : (s.handOver p w b).dev = s.dev := rfl
@[simp] theorem handOver_csu (s : State) (p : Nat) (w : Owner) (b : Byte) : (s.handOver p w b).csu = s.csu := rfl
@[simp] theorem handOver_clkout (s : State) (p : Nat) (w : Owner) (b : Byte) : (s.handOver p w b).clkout = s.clkout := rfl
@[simp] theorem handOver_edge (s : State) (p : Nat) (w : Owner) (b : Byte) : (s.handOver p w b).edge = s.edge := rfl
@[simp] theorem handOver_delay (s : State) (p : Nat) (w : Owner) (b : Byte) : (s.handOver p w b).delay = s.delay := rfl
@[simp] theorem handOver_seq (s : State) (p : Nat) (w : Owner) (b : Byte) : (s.handOver p w b).seq = s.seq := rfl
@[simp] theorem handOver_drv (s : State) (p : Nat) (w : Owner) (b : Byte) : (s.handOver p w b).drv = s.drv := rfl
@[simp] theorem handOver_trip (s : State) (p : Nat) (w : Owner) (b : Byte) : (s.handOver p w b).trip = s.trip := rfl
@[simp] theorem handOver_store (s : State) (p : Nat) (w : Owner) (b : Byte) : (s.handOver p w b).store = s.store := rfl
@[simp] theorem handOver_sti (s : State) (p : Nat) (w : Owner) (b : Byte) : (s.handOver p w b).sti = s.sti := rfl
@[simp] theorem handOver_grp (s : State) (p : Nat) (w : Owner) (b : Byte) : (s.handOver p w b).grp = s.grp := rfl
@[simp] theorem handOver_stat (s : State) (p : Nat) (w : Owner) (b : Byte) : (s.handOver p w b).stat = s.stat := rfl
@[simp] theorem handOver_line (s : State) (p : Nat) (w : Owner) (b : Byte) : (s.handOver p w b).line = s.line := rfl
@[simp] theorem handOver_mon (s : State) (p : Nat) (w : Owner) (b : Byte) : (s.handOver p w b).mon = s.mon := rfl
@[simp] theorem handOver_tripin (s : State) (p : Nat) (w : Owner) (b : Byte) : (s.handOver p w b).tripin = s.tripin := rfl
@[simp] theorem handOver_xbar (s : State) (p : Nat) (w : Owner) (b : Byte) : (s.handOver p w b).xbar = s.xbar := rfl
@[simp] theorem handOver_trig (s : State) (p : Nat) (w : Owner) (b : Byte) : (s.handOver p w b).trig = s.trig := rfl
@[simp] theorem handOver_cap (s : State) (p : Nat) (w : Owner) (b : Byte) : (s.handOver p w b).cap = s.cap := rfl
@[simp] theorem handOver_drz (s : State) (p : Nat) (w : Owner) (b : Byte) : (s.handOver p w b).drz = s.drz := rfl
@[simp] theorem handOver_port (s : State) (p : Nat) (w : Owner) (b : Byte) : (s.handOver p w b).port = s.port := rfl
@[simp] theorem handOver_fab (s : State) (p : Nat) (w : Owner) (b : Byte) : (s.handOver p w b).fab = s.fab := rfl
@[simp] theorem handOver_armg (s : State) (p : Nat) (w : Owner) (b : Byte) : (s.handOver p w b).armg = s.armg := rfl
@[simp] theorem handOver_sender (s : State) (p : Nat) (w : Owner) (b : Byte) : (s.handOver p w b).sender = s.sender := rfl
@[simp] theorem handOver_gustq (s : State) (p : Nat) (w : Owner) (b : Byte) : (s.handOver p w b).gustq = s.gustq := rfl
@[simp] theorem handOver_mem (s : State) (p : Nat) (w : Owner) (b : Byte) : (s.handOver p w b).mem = s.mem := rfl
@[simp] theorem handOver_ring (s : State) (p : Nat) (w : Owner) (b : Byte) : (s.handOver p w b).ring = s.ring := rfl
@[simp] theorem handOver_merger (s : State) (p : Nat) (w : Owner) (b : Byte) : (s.handOver p w b).merger = s.merger := rfl
@[simp] theorem handOver_host (s : State) (p : Nat) (w : Owner) (b : Byte) : (s.handOver p w b).host = s.host := rfl
@[simp] theorem handOver_od (s : State) (p : Nat) (w : Owner) (b : Byte) : (s.handOver p w b).od = s.od := rfl
@[simp] theorem handOver_parity (s : State) (p : Nat) (w : Owner) (b : Byte) : (s.handOver p w b).parity = s.parity := rfl
@[simp] theorem handOver_commits (s : State) (p : Nat) (w : Owner) (b : Byte) : (s.handOver p w b).commits = s.commits := rfl
@[simp] theorem handOver_kpp (s : State) (p : Nat) (w : Owner) (b : Byte) : (s.handOver p w b).kpp = s.kpp := rfl
@[simp] theorem handOver_eth (s : State) (p : Nat) (w : Owner) (b : Byte) : (s.handOver p w b).eth = s.eth := rfl
@[simp] theorem handOver_spi (s : State) (p : Nat) (w : Owner) (b : Byte) : (s.handOver p w b).spi = s.spi := rfl
@[simp] theorem handOver_flash (s : State) (p : Nat) (w : Owner) (b : Byte) : (s.handOver p w b).flash = s.flash := rfl
@[simp] theorem handOver_persist (s : State) (p : Nat) (w : Owner) (b : Byte) : (s.handOver p w b).persist = s.persist := rfl
@[simp] theorem handOver_health (s : State) (p : Nat) (w : Owner) (b : Byte) : (s.handOver p w b).health = s.health := rfl
@[simp] theorem handOver_margin (s : State) (p : Nat) (w : Owner) (b : Byte) : (s.handOver p w b).margin = s.margin := rfl
@[simp] theorem handOver_pins (s : State) (p : Nat) (w : Owner) (b : Byte) : (s.handOver p w b).pins = s.pins := rfl
@[simp] theorem handOver_answer (s : State) (p : Nat) (w : Owner) (b : Byte) : (s.handOver p w b).answer = s.answer := rfl
@[simp] theorem handOver_free (s : State) (p : Nat) (w : Owner) (b : Byte) : (s.handOver p w b).free = s.free := rfl

/-! ## store1 -/

@[simp] theorem store1_part (s : State) (i j : Nat) (v : OdVal) : (s.store1 i j v).part = s.part := rfl
@[simp] theorem store1_pending (s : State) (i j : Nat) (v : OdVal) : (s.store1 i j v).pending = s.pending := rfl
@[simp] theorem store1_boot (s : State) (i j : Nat) (v : OdVal) : (s.store1 i j v).boot = s.boot := rfl
@[simp] theorem store1_time (s : State) (i j : Nat) (v : OdVal) : (s.store1 i j v).time = s.time := rfl
@[simp] theorem store1_dev (s : State) (i j : Nat) (v : OdVal) : (s.store1 i j v).dev = s.dev := rfl
@[simp] theorem store1_csu (s : State) (i j : Nat) (v : OdVal) : (s.store1 i j v).csu = s.csu := rfl
@[simp] theorem store1_clkout (s : State) (i j : Nat) (v : OdVal) : (s.store1 i j v).clkout = s.clkout := rfl
@[simp] theorem store1_edge (s : State) (i j : Nat) (v : OdVal) : (s.store1 i j v).edge = s.edge := rfl
@[simp] theorem store1_delay (s : State) (i j : Nat) (v : OdVal) : (s.store1 i j v).delay = s.delay := rfl
@[simp] theorem store1_seq (s : State) (i j : Nat) (v : OdVal) : (s.store1 i j v).seq = s.seq := rfl
@[simp] theorem store1_drv (s : State) (i j : Nat) (v : OdVal) : (s.store1 i j v).drv = s.drv := rfl
@[simp] theorem store1_trip (s : State) (i j : Nat) (v : OdVal) : (s.store1 i j v).trip = s.trip := rfl
@[simp] theorem store1_store (s : State) (i j : Nat) (v : OdVal) : (s.store1 i j v).store = s.store := rfl
@[simp] theorem store1_sti (s : State) (i j : Nat) (v : OdVal) : (s.store1 i j v).sti = s.sti := rfl
@[simp] theorem store1_grp (s : State) (i j : Nat) (v : OdVal) : (s.store1 i j v).grp = s.grp := rfl
@[simp] theorem store1_stat (s : State) (i j : Nat) (v : OdVal) : (s.store1 i j v).stat = s.stat := rfl
@[simp] theorem store1_line (s : State) (i j : Nat) (v : OdVal) : (s.store1 i j v).line = s.line := rfl
@[simp] theorem store1_mon (s : State) (i j : Nat) (v : OdVal) : (s.store1 i j v).mon = s.mon := rfl
@[simp] theorem store1_tripin (s : State) (i j : Nat) (v : OdVal) : (s.store1 i j v).tripin = s.tripin := rfl
@[simp] theorem store1_xbar (s : State) (i j : Nat) (v : OdVal) : (s.store1 i j v).xbar = s.xbar := rfl
@[simp] theorem store1_trig (s : State) (i j : Nat) (v : OdVal) : (s.store1 i j v).trig = s.trig := rfl
@[simp] theorem store1_cap (s : State) (i j : Nat) (v : OdVal) : (s.store1 i j v).cap = s.cap := rfl
@[simp] theorem store1_drz (s : State) (i j : Nat) (v : OdVal) : (s.store1 i j v).drz = s.drz := rfl
@[simp] theorem store1_port (s : State) (i j : Nat) (v : OdVal) : (s.store1 i j v).port = s.port := rfl
@[simp] theorem store1_fab (s : State) (i j : Nat) (v : OdVal) : (s.store1 i j v).fab = s.fab := rfl
@[simp] theorem store1_armg (s : State) (i j : Nat) (v : OdVal) : (s.store1 i j v).armg = s.armg := rfl
@[simp] theorem store1_sender (s : State) (i j : Nat) (v : OdVal) : (s.store1 i j v).sender = s.sender := rfl
@[simp] theorem store1_gustq (s : State) (i j : Nat) (v : OdVal) : (s.store1 i j v).gustq = s.gustq := rfl
@[simp] theorem store1_mem (s : State) (i j : Nat) (v : OdVal) : (s.store1 i j v).mem = s.mem := rfl
@[simp] theorem store1_own (s : State) (i j : Nat) (v : OdVal) : (s.store1 i j v).own = s.own := rfl
@[simp] theorem store1_ring (s : State) (i j : Nat) (v : OdVal) : (s.store1 i j v).ring = s.ring := rfl
@[simp] theorem store1_merger (s : State) (i j : Nat) (v : OdVal) : (s.store1 i j v).merger = s.merger := rfl
@[simp] theorem store1_host (s : State) (i j : Nat) (v : OdVal) : (s.store1 i j v).host = s.host := rfl
@[simp] theorem store1_commits (s : State) (i j : Nat) (v : OdVal) : (s.store1 i j v).commits = s.commits := rfl
@[simp] theorem store1_kpp (s : State) (i j : Nat) (v : OdVal) : (s.store1 i j v).kpp = s.kpp := rfl
@[simp] theorem store1_eth (s : State) (i j : Nat) (v : OdVal) : (s.store1 i j v).eth = s.eth := rfl
@[simp] theorem store1_spi (s : State) (i j : Nat) (v : OdVal) : (s.store1 i j v).spi = s.spi := rfl
@[simp] theorem store1_flash (s : State) (i j : Nat) (v : OdVal) : (s.store1 i j v).flash = s.flash := rfl
@[simp] theorem store1_persist (s : State) (i j : Nat) (v : OdVal) : (s.store1 i j v).persist = s.persist := rfl
@[simp] theorem store1_health (s : State) (i j : Nat) (v : OdVal) : (s.store1 i j v).health = s.health := rfl
@[simp] theorem store1_margin (s : State) (i j : Nat) (v : OdVal) : (s.store1 i j v).margin = s.margin := rfl
@[simp] theorem store1_pins (s : State) (i j : Nat) (v : OdVal) : (s.store1 i j v).pins = s.pins := rfl
@[simp] theorem store1_answer (s : State) (i j : Nat) (v : OdVal) : (s.store1 i j v).answer = s.answer := rfl
@[simp] theorem store1_free (s : State) (i j : Nat) (v : OdVal) : (s.store1 i j v).free = s.free := rfl

/-! ## confGen -/

@[simp] theorem confGen_part (s : State)  : (s.confGen).part = s.part := rfl
@[simp] theorem confGen_pending (s : State)  : (s.confGen).pending = s.pending := rfl
@[simp] theorem confGen_boot (s : State)  : (s.confGen).boot = s.boot := rfl
@[simp] theorem confGen_time (s : State)  : (s.confGen).time = s.time := rfl
@[simp] theorem confGen_dev (s : State)  : (s.confGen).dev = s.dev := rfl
@[simp] theorem confGen_csu (s : State)  : (s.confGen).csu = s.csu := rfl
@[simp] theorem confGen_clkout (s : State)  : (s.confGen).clkout = s.clkout := rfl
@[simp] theorem confGen_edge (s : State)  : (s.confGen).edge = s.edge := rfl
@[simp] theorem confGen_delay (s : State)  : (s.confGen).delay = s.delay := rfl
@[simp] theorem confGen_seq (s : State)  : (s.confGen).seq = s.seq := rfl
@[simp] theorem confGen_drv (s : State)  : (s.confGen).drv = s.drv := rfl
@[simp] theorem confGen_trip (s : State)  : (s.confGen).trip = s.trip := rfl
@[simp] theorem confGen_store (s : State)  : (s.confGen).store = s.store := rfl
@[simp] theorem confGen_sti (s : State)  : (s.confGen).sti = s.sti := rfl
@[simp] theorem confGen_grp (s : State)  : (s.confGen).grp = s.grp := rfl
@[simp] theorem confGen_stat (s : State)  : (s.confGen).stat = s.stat := rfl
@[simp] theorem confGen_line (s : State)  : (s.confGen).line = s.line := rfl
@[simp] theorem confGen_mon (s : State)  : (s.confGen).mon = s.mon := rfl
@[simp] theorem confGen_tripin (s : State)  : (s.confGen).tripin = s.tripin := rfl
@[simp] theorem confGen_xbar (s : State)  : (s.confGen).xbar = s.xbar := rfl
@[simp] theorem confGen_trig (s : State)  : (s.confGen).trig = s.trig := rfl
@[simp] theorem confGen_cap (s : State)  : (s.confGen).cap = s.cap := rfl
@[simp] theorem confGen_drz (s : State)  : (s.confGen).drz = s.drz := rfl
@[simp] theorem confGen_port (s : State)  : (s.confGen).port = s.port := rfl
@[simp] theorem confGen_fab (s : State)  : (s.confGen).fab = s.fab := rfl
@[simp] theorem confGen_armg (s : State)  : (s.confGen).armg = s.armg := rfl
@[simp] theorem confGen_sender (s : State)  : (s.confGen).sender = s.sender := rfl
@[simp] theorem confGen_gustq (s : State)  : (s.confGen).gustq = s.gustq := rfl
@[simp] theorem confGen_mem (s : State)  : (s.confGen).mem = s.mem := rfl
@[simp] theorem confGen_own (s : State)  : (s.confGen).own = s.own := rfl
@[simp] theorem confGen_ring (s : State)  : (s.confGen).ring = s.ring := rfl
@[simp] theorem confGen_merger (s : State)  : (s.confGen).merger = s.merger := rfl
@[simp] theorem confGen_host (s : State)  : (s.confGen).host = s.host := rfl
@[simp] theorem confGen_od (s : State)  : (s.confGen).od = s.od := rfl
@[simp] theorem confGen_parity (s : State)  : (s.confGen).parity = s.parity := rfl
@[simp] theorem confGen_kpp (s : State)  : (s.confGen).kpp = s.kpp := rfl
@[simp] theorem confGen_eth (s : State)  : (s.confGen).eth = s.eth := rfl
@[simp] theorem confGen_spi (s : State)  : (s.confGen).spi = s.spi := rfl
@[simp] theorem confGen_flash (s : State)  : (s.confGen).flash = s.flash := rfl
@[simp] theorem confGen_persist (s : State)  : (s.confGen).persist = s.persist := rfl
@[simp] theorem confGen_health (s : State)  : (s.confGen).health = s.health := rfl
@[simp] theorem confGen_margin (s : State)  : (s.confGen).margin = s.margin := rfl
@[simp] theorem confGen_pins (s : State)  : (s.confGen).pins = s.pins := rfl
@[simp] theorem confGen_answer (s : State)  : (s.confGen).answer = s.answer := rfl
@[simp] theorem confGen_free (s : State)  : (s.confGen).free = s.free := rfl

/-! ## msix -/

@[simp] theorem msix_part (s : State) (v : Nat) : (s.msix v).part = s.part := rfl
@[simp] theorem msix_pending (s : State) (v : Nat) : (s.msix v).pending = s.pending := rfl
@[simp] theorem msix_boot (s : State) (v : Nat) : (s.msix v).boot = s.boot := rfl
@[simp] theorem msix_time (s : State) (v : Nat) : (s.msix v).time = s.time := rfl
@[simp] theorem msix_dev (s : State) (v : Nat) : (s.msix v).dev = s.dev := rfl
@[simp] theorem msix_csu (s : State) (v : Nat) : (s.msix v).csu = s.csu := rfl
@[simp] theorem msix_clkout (s : State) (v : Nat) : (s.msix v).clkout = s.clkout := rfl
@[simp] theorem msix_edge (s : State) (v : Nat) : (s.msix v).edge = s.edge := rfl
@[simp] theorem msix_delay (s : State) (v : Nat) : (s.msix v).delay = s.delay := rfl
@[simp] theorem msix_seq (s : State) (v : Nat) : (s.msix v).seq = s.seq := rfl
@[simp] theorem msix_drv (s : State) (v : Nat) : (s.msix v).drv = s.drv := rfl
@[simp] theorem msix_trip (s : State) (v : Nat) : (s.msix v).trip = s.trip := rfl
@[simp] theorem msix_store (s : State) (v : Nat) : (s.msix v).store = s.store := rfl
@[simp] theorem msix_sti (s : State) (v : Nat) : (s.msix v).sti = s.sti := rfl
@[simp] theorem msix_grp (s : State) (v : Nat) : (s.msix v).grp = s.grp := rfl
@[simp] theorem msix_stat (s : State) (v : Nat) : (s.msix v).stat = s.stat := rfl
@[simp] theorem msix_line (s : State) (v : Nat) : (s.msix v).line = s.line := rfl
@[simp] theorem msix_mon (s : State) (v : Nat) : (s.msix v).mon = s.mon := rfl
@[simp] theorem msix_tripin (s : State) (v : Nat) : (s.msix v).tripin = s.tripin := rfl
@[simp] theorem msix_xbar (s : State) (v : Nat) : (s.msix v).xbar = s.xbar := rfl
@[simp] theorem msix_trig (s : State) (v : Nat) : (s.msix v).trig = s.trig := rfl
@[simp] theorem msix_cap (s : State) (v : Nat) : (s.msix v).cap = s.cap := rfl
@[simp] theorem msix_drz (s : State) (v : Nat) : (s.msix v).drz = s.drz := rfl
@[simp] theorem msix_port (s : State) (v : Nat) : (s.msix v).port = s.port := rfl
@[simp] theorem msix_fab (s : State) (v : Nat) : (s.msix v).fab = s.fab := rfl
@[simp] theorem msix_armg (s : State) (v : Nat) : (s.msix v).armg = s.armg := rfl
@[simp] theorem msix_sender (s : State) (v : Nat) : (s.msix v).sender = s.sender := rfl
@[simp] theorem msix_gustq (s : State) (v : Nat) : (s.msix v).gustq = s.gustq := rfl
@[simp] theorem msix_mem (s : State) (v : Nat) : (s.msix v).mem = s.mem := rfl
@[simp] theorem msix_own (s : State) (v : Nat) : (s.msix v).own = s.own := rfl
@[simp] theorem msix_ring (s : State) (v : Nat) : (s.msix v).ring = s.ring := rfl
@[simp] theorem msix_merger (s : State) (v : Nat) : (s.msix v).merger = s.merger := rfl
@[simp] theorem msix_od (s : State) (v : Nat) : (s.msix v).od = s.od := rfl
@[simp] theorem msix_parity (s : State) (v : Nat) : (s.msix v).parity = s.parity := rfl
@[simp] theorem msix_commits (s : State) (v : Nat) : (s.msix v).commits = s.commits := rfl
@[simp] theorem msix_kpp (s : State) (v : Nat) : (s.msix v).kpp = s.kpp := rfl
@[simp] theorem msix_eth (s : State) (v : Nat) : (s.msix v).eth = s.eth := rfl
@[simp] theorem msix_spi (s : State) (v : Nat) : (s.msix v).spi = s.spi := rfl
@[simp] theorem msix_flash (s : State) (v : Nat) : (s.msix v).flash = s.flash := rfl
@[simp] theorem msix_persist (s : State) (v : Nat) : (s.msix v).persist = s.persist := rfl
@[simp] theorem msix_health (s : State) (v : Nat) : (s.msix v).health = s.health := rfl
@[simp] theorem msix_margin (s : State) (v : Nat) : (s.msix v).margin = s.margin := rfl
@[simp] theorem msix_pins (s : State) (v : Nat) : (s.msix v).pins = s.pins := rfl
@[simp] theorem msix_answer (s : State) (v : Nat) : (s.msix v).answer = s.answer := rfl
@[simp] theorem msix_free (s : State) (v : Nat) : (s.msix v).free = s.free := rfl

/-! ## endTideAt -/

@[simp] theorem endTideAt_part (s : State) (n : W64) : (s.endTideAt n).part = s.part := rfl
@[simp] theorem endTideAt_pending (s : State) (n : W64) : (s.endTideAt n).pending = s.pending := rfl
@[simp] theorem endTideAt_boot (s : State) (n : W64) : (s.endTideAt n).boot = s.boot := rfl
@[simp] theorem endTideAt_time (s : State) (n : W64) : (s.endTideAt n).time = s.time := rfl
@[simp] theorem endTideAt_dev (s : State) (n : W64) : (s.endTideAt n).dev = s.dev := rfl
@[simp] theorem endTideAt_csu (s : State) (n : W64) : (s.endTideAt n).csu = s.csu := rfl
@[simp] theorem endTideAt_clkout (s : State) (n : W64) : (s.endTideAt n).clkout = s.clkout := rfl
@[simp] theorem endTideAt_edge (s : State) (n : W64) : (s.endTideAt n).edge = s.edge := rfl
@[simp] theorem endTideAt_delay (s : State) (n : W64) : (s.endTideAt n).delay = s.delay := rfl
@[simp] theorem endTideAt_seq (s : State) (n : W64) : (s.endTideAt n).seq = s.seq := rfl
@[simp] theorem endTideAt_drv (s : State) (n : W64) : (s.endTideAt n).drv = s.drv := rfl
@[simp] theorem endTideAt_trip (s : State) (n : W64) : (s.endTideAt n).trip = s.trip := rfl
@[simp] theorem endTideAt_store (s : State) (n : W64) : (s.endTideAt n).store = s.store := rfl
@[simp] theorem endTideAt_sti (s : State) (n : W64) : (s.endTideAt n).sti = s.sti := rfl
@[simp] theorem endTideAt_grp (s : State) (n : W64) : (s.endTideAt n).grp = s.grp := rfl
@[simp] theorem endTideAt_stat (s : State) (n : W64) : (s.endTideAt n).stat = s.stat := rfl
@[simp] theorem endTideAt_line (s : State) (n : W64) : (s.endTideAt n).line = s.line := rfl
@[simp] theorem endTideAt_mon (s : State) (n : W64) : (s.endTideAt n).mon = s.mon := rfl
@[simp] theorem endTideAt_tripin (s : State) (n : W64) : (s.endTideAt n).tripin = s.tripin := rfl
@[simp] theorem endTideAt_xbar (s : State) (n : W64) : (s.endTideAt n).xbar = s.xbar := rfl
@[simp] theorem endTideAt_trig (s : State) (n : W64) : (s.endTideAt n).trig = s.trig := rfl
@[simp] theorem endTideAt_cap (s : State) (n : W64) : (s.endTideAt n).cap = s.cap := rfl
@[simp] theorem endTideAt_drz (s : State) (n : W64) : (s.endTideAt n).drz = s.drz := rfl
@[simp] theorem endTideAt_port (s : State) (n : W64) : (s.endTideAt n).port = s.port := rfl
@[simp] theorem endTideAt_fab (s : State) (n : W64) : (s.endTideAt n).fab = s.fab := rfl
@[simp] theorem endTideAt_armg (s : State) (n : W64) : (s.endTideAt n).armg = s.armg := rfl
@[simp] theorem endTideAt_sender (s : State) (n : W64) : (s.endTideAt n).sender = s.sender := rfl
@[simp] theorem endTideAt_gustq (s : State) (n : W64) : (s.endTideAt n).gustq = s.gustq := rfl
@[simp] theorem endTideAt_mem (s : State) (n : W64) : (s.endTideAt n).mem = s.mem := rfl
@[simp] theorem endTideAt_own (s : State) (n : W64) : (s.endTideAt n).own = s.own := rfl
@[simp] theorem endTideAt_ring (s : State) (n : W64) : (s.endTideAt n).ring = s.ring := rfl
@[simp] theorem endTideAt_host (s : State) (n : W64) : (s.endTideAt n).host = s.host := rfl
@[simp] theorem endTideAt_od (s : State) (n : W64) : (s.endTideAt n).od = s.od := rfl
@[simp] theorem endTideAt_parity (s : State) (n : W64) : (s.endTideAt n).parity = s.parity := rfl
@[simp] theorem endTideAt_commits (s : State) (n : W64) : (s.endTideAt n).commits = s.commits := rfl
@[simp] theorem endTideAt_kpp (s : State) (n : W64) : (s.endTideAt n).kpp = s.kpp := rfl
@[simp] theorem endTideAt_eth (s : State) (n : W64) : (s.endTideAt n).eth = s.eth := rfl
@[simp] theorem endTideAt_spi (s : State) (n : W64) : (s.endTideAt n).spi = s.spi := rfl
@[simp] theorem endTideAt_flash (s : State) (n : W64) : (s.endTideAt n).flash = s.flash := rfl
@[simp] theorem endTideAt_persist (s : State) (n : W64) : (s.endTideAt n).persist = s.persist := rfl
@[simp] theorem endTideAt_health (s : State) (n : W64) : (s.endTideAt n).health = s.health := rfl
@[simp] theorem endTideAt_margin (s : State) (n : W64) : (s.endTideAt n).margin = s.margin := rfl
@[simp] theorem endTideAt_pins (s : State) (n : W64) : (s.endTideAt n).pins = s.pins := rfl
@[simp] theorem endTideAt_answer (s : State) (n : W64) : (s.endTideAt n).answer = s.answer := rfl
@[simp] theorem endTideAt_free (s : State) (n : W64) : (s.endTideAt n).free = s.free := rfl

/-- The count after an arrival. -/
@[simp] theorem arrive_count (s : State) (a : TE) : (s.arrive a).time.count = max s.time.count a := rfl
/-- The answer after a reply. -/
@[simp] theorem reply_answer (s : State) (st : W32) (n : W64) (p : List Byte) :
    (s.reply st n p).answer = { status := st, tide := n, payload := p } := rfl

end Sys2Proof.Machine
end

