-- ==== Sys2Proof/Laws/Memory.lean ====
section
/-!
SUPPORT. Keyed lists and the Saltern: what a write leaves to be read, and that every memory operation keeps the canonical
form (R365, R366; log entry 7).
-/
namespace Sys2Proof.Machine

variable {α : Type}

/-- A put into a list that has a first entry. -/
theorem assocPut_cons (i : Nat) (w : α) (l : List (Nat × α)) (k : Nat) (v : Option α) : assocPut ((i, w) :: l) k v =
    if k < i then (match v with | some x => (k, x) :: (i, w) :: l | none => (i, w) :: l)
    else if k = i then (match v with | some x => (k, x) :: l | none => l) else (i, w) :: assocPut l k v := by
  cases v <;> rfl

/-- What is found under another key is as before. -/
theorem assocFind_put_ne {l : List (Nat × α)} {k c : Nat} {v : Option α} (h : c ≠ k) :
    assocFind (assocPut l k v) c = assocFind l c := by
  induction l with
  | nil => cases v <;> simp [assocPut, assocFind, h.symm]
  | cons p l ih =>
    obtain ⟨i, w⟩ := p
    rw [assocPut_cons]
    split
    · cases v <;> simp [assocFind, h.symm]
    · split
      · subst_vars
        cases v <;> simp [assocFind, h.symm]
      · simp only [assocFind, ih]

/-- What is put under a key is found there. -/
theorem assocFind_put_some {l : List (Nat × α)} {k : Nat} {x : α} : assocFind (assocPut l k (some x)) k = some x := by
  induction l with
  | nil => simp [assocPut, assocFind]
  | cons p l ih =>
    obtain ⟨i, w⟩ := p
    rw [assocPut_cons]
    split
    · simp [assocFind]
    · split
      · simp [assocFind]
      · rename_i h; simp [assocFind, Ne.symm h, ih]

/-- The tail of a rising list rises. -/
theorem assocSorted_tail {p : Nat × α} {l : List (Nat × α)} (h : assocSorted (p :: l) = true) : assocSorted l = true := by
  cases l with
  | nil => rfl
  | cons q l => simp only [assocSorted, Bool.and_eq_true] at h; exact h.2

/-- In a rising list no key below the first is found. -/
theorem assocFind_below {l : List (Nat × α)} {p : Nat × α} {k : Nat} (h : assocSorted (p :: l) = true) (hk : k ≤ p.1) :
    assocFind l k = none := by
  induction l generalizing p with
  | nil => rfl
  | cons q l ih =>
    simp only [assocSorted, Bool.and_eq_true, decide_eq_true_eq] at h
    simp only [assocFind]
    rw [if_neg (by omega), ih h.2 (by omega)]

/-- In a rising list a key that is removed is found no more. -/
theorem assocFind_put_none {l : List (Nat × α)} {k : Nat} (h : assocSorted l = true) : assocFind (assocPut l k none) k = none := by
  induction l with
  | nil => rfl
  | cons p l ih =>
    obtain ⟨i, w⟩ := p
    rw [assocPut_cons]
    split
    · rename_i hk
      simp only [assocFind]
      rw [if_neg (by omega), assocFind_below h (by simp only; omega)]
    · split
      · subst_vars; exact assocFind_below h (Nat.le_refl _)
      · rename_i hk
        simp only [assocFind]
        rw [if_neg (Ne.symm hk), ih (assocSorted_tail h)]

/-- A list rises behind a key when each of its keys is greater and it rises itself. -/
theorem assocSorted_cons {p : Nat × α} {l : List (Nat × α)} (h : assocSorted l = true) (hp : ∀ q ∈ l, p.1 < q.1) :
    assocSorted (p :: l) = true := by
  cases l with
  | nil => rfl
  | cons q l => simp only [assocSorted, Bool.and_eq_true, decide_eq_true_eq]; exact ⟨hp q (by simp), h⟩

/-- Every later key of a rising list is greater than its first. -/
theorem assocSorted_lt {p : Nat × α} {l : List (Nat × α)} (h : assocSorted (p :: l) = true) : ∀ q ∈ l, p.1 < q.1 := by
  induction l generalizing p with
  | nil => simp
  | cons r l ih =>
    simp only [assocSorted, Bool.and_eq_true, decide_eq_true_eq] at h
    intro q hq
    rcases List.mem_cons.mp hq with rfl | hq
    · exact h.1
    · exact Nat.lt_trans h.1 (ih h.2 q hq)

/-- An entry after a put is an entry of before or the one put. -/
theorem mem_assocPut {l : List (Nat × α)} {k : Nat} {v : Option α} {q : Nat × α} (h : q ∈ assocPut l k v) :
    q ∈ l ∨ (q.1 = k ∧ v = some q.2) := by
  induction l with
  | nil => cases v <;> simp_all [assocPut]
  | cons p l ih =>
    obtain ⟨i, w⟩ := p
    rw [assocPut_cons] at h
    split at h
    · cases v <;> simp_all
      grind
    · split at h
      · cases v <;> simp_all
        grind
      · grind

/-- A put keeps the keys rising. -/
theorem assocPut_sorted {l : List (Nat × α)} {k : Nat} {v : Option α} (h : assocSorted l = true) :
    assocSorted (assocPut l k v) = true := by
  induction l with
  | nil => cases v <;> rfl
  | cons p l ih =>
    obtain ⟨i, w⟩ := p
    have ht := assocSorted_tail h
    have hl := assocSorted_lt h
    rw [assocPut_cons]
    split
    · rename_i hk
      cases v with
      | none => exact h
      | some x => exact assocSorted_cons h (fun q hq => by rcases List.mem_cons.mp hq with rfl | hq <;> [exact hk; exact Nat.lt_trans hk (hl q hq)])
    · split
      · subst_vars
        cases v with
        | none => exact ht
        | some x => exact assocSorted_cons ht hl
      · refine assocSorted_cons (ih ht) (fun q hq => ?_)
        rcases mem_assocPut hq with hq | ⟨hq, _⟩
        · exact hl q hq
        · simp only; omega

/-- Writing a byte keeps the canonical form. -/
theorem Memory.put_wf {m : List Host.Cell} {a : Nat} {b : Byte} (h : Memory.wf m = true) : Memory.wf (Memory.put m a b) = true := by
  unfold Memory.put
  split
  · rename_i ha
    simp only [Memory.wf, Bool.and_eq_true, List.all_eq_true, decide_eq_true_eq, bne_iff_ne, ne_eq] at h ⊢
    refine ⟨assocPut_sorted h.1, fun c hc => ?_⟩
    rcases mem_assocPut hc with hc | ⟨hc, hv⟩
    · exact h.2 c hc
    · split at hv
      · cases hv
      · rename_i hb
        cases hv
        exact ⟨by omega, hb⟩
  · exact h

/-- Writing some bytes keeps it. -/
theorem Memory.putAll_wf {m : List Host.Cell} {a : Nat} {bs : List (Option Byte)} (h : Memory.wf m = true) :
    Memory.wf (Memory.putAll m a bs) = true := by
  induction bs generalizing m a with
  | nil => exact h
  | cons b bs ih => cases b with
    | none => exact ih h
    | some x => exact ih (Memory.put_wf h)

/-- Raising an event leaves the memory. -/
@[simp] theorem raiseAt_mem (s : State) (x : Instant) (n : Nat) (d : W32) (f : Nat) : (s.raiseAt x n d f).mem = s.mem := by
  unfold State.raiseAt; cases s.dev.st <;> rfl

/-- Raising an event at most once a Tide leaves the memory. -/
@[simp] theorem raiseOnceAt_mem (s : State) (x : Instant) (n k d f : Nat) : (s.raiseOnceAt x n k d f).mem = s.mem := by
  unfold State.raiseOnceAt; split <;> simp

/-- Counting a case of a summary event leaves the memory. -/
@[simp] theorem raiseSumAt_mem (s : State) (x : Instant) (n k : Nat) (d : W32) (g : W32 → W32) (f : Nat) :
    (s.raiseSumAt x n k d g f).mem = s.mem := by
  unfold State.raiseSumAt
  split
  · simp
  · simp
  · dsimp only; split <;> rfl

/-- Reporting a memory error leaves the memory (R479). -/
@[simp] theorem memoryEvent_mem (w : MemWord) (u b : Bool) (s : State) : (memoryEvent w u b s).mem = s.mem := by
  unfold memoryEvent State.raiseOnce State.raiseCount State.raiseCountAt; split <;> [skip; split] <;> simp

/-- A correction changes no word as the device reads it (R462). -/
@[simp] theorem correctWord_mem (w : MemWord) (b : Bool) (s : State) : (correctWord w b s).mem = s.mem := by
  simp [correctWord]

/-- Freezing a program's Pan leaves its data (R376). -/
@[simp] theorem freezeProgramPan_mem (p : Nat) (s : State) : (freezeProgramPan p s).mem = s.mem := by
  unfold freezeProgramPan; simp only []; split <;> rfl

/-- Poisoning keeps the data as read (R463). -/
@[simp] theorem poisonWord_mem (w : MemWord) (b : Bool) (s : State) : (poisonWord w b s).mem = s.mem := by
  unfold poisonWord
  split
  · rfl
  · dsimp only
    split <;> split <;> simp

/-- A read leaves the data (R462). -/
@[simp] theorem readWord_mem (w : MemWord) (s : State) : (readWord w s).mem = s.mem := by
  unfold readWord; split <;> simp

/-- An injection leaves the data: the error stands beside it (R466). -/
@[simp] theorem inject_mem (s : State) (f : MemWord → Bool) : (s.inject f).mem = s.mem := by
  unfold State.inject; split <;> rfl

/-- A write of a word touches its memory and the error state alone. -/
theorem wordWritten_mem (s : State) (w : MemWord) : (s.wordWritten w).mem = s.mem := by
  simp [State.wordWritten, State.wordsWritten]

/-- Writing a word keeps the form. -/
theorem State.putWord_wf {s : State} {w : Nat} {bs : List (Option Byte)} (h : Memory.wf s.mem = true) :
    Memory.wf (s.putWord w bs).mem = true := by
  have h' : Memory.wf (readWord (salternWord w) s).mem = true := by rw [readWord_mem]; exact h
  unfold State.putWord
  split
  · exact h
  · split
    · rw [wordWritten_mem]; exact Memory.putAll_wf h
    · dsimp only
      split
      · exact h'
      · rw [inject_mem]; exact Memory.putAll_wf h'

/-- Writing words keeps it. -/
theorem State.putWords_wf {s : State} {w n : Nat} {bs : List (Option Byte)} (h : Memory.wf s.mem = true) :
    Memory.wf (s.putWords w n bs).mem = true := by
  induction n generalizing s w bs with
  | zero => exact h
  | succ n ih => exact ih (State.putWord_wf h)

/-- The device's own writes keep it. -/
theorem State.writeBytes_wf {s : State} {a : Nat} {bs : List Byte} (h : Memory.wf s.mem = true) :
    Memory.wf (s.writeBytes a bs).mem = true := State.putWords_wf h

/-- Writing a record keeps it. -/
theorem State.writeRecord_wf {s : State} {a : Nat} {r : W128} (h : Memory.wf s.mem = true) :
    Memory.wf (s.writeRecord a r).mem = true := State.writeBytes_wf h

/-- The ownership store and the flags do not touch the memory. -/
@[simp] theorem State.setFlag_mem (s : State) (p : Nat) (f : PanFlag) : (s.setFlag p f).mem = s.mem := rfl
/-- Nor does handing a Pan over. -/
@[simp] theorem State.handOver_mem (s : State) (p : Nat) (o : Owner) (u : Byte) : (s.handOver p o u).mem = s.mem := rfl

end Sys2Proof.Machine
end

