-- ==== Sys2Proof/Laws/Request.lean ====
section
/-!
SUPPORT. What the gate of host requests does, and what raising an event leaves.
-/
namespace Sys2Proof.Machine

/-- No check fails when each passes. -/
@[simp] theorem firstFail_nil : firstFail [] = none := rfl
/-- A passing check is skipped. -/
@[simp] theorem firstFail_none (l : List (Option W32)) : firstFail (none :: l) = firstFail l := rfl
/-- A failing check answers. -/
@[simp] theorem firstFail_some (c : W32) (l : List (Option W32)) : firstFail (some c :: l) = some c := rfl
/-- A check that holds. -/
@[simp] theorem need_true (c : W32) : need true c = none := rfl
/-- A check that fails. -/
@[simp] theorem need_false (c : W32) : need false c = some c := rfl

/-- A request whose checks all pass has its effect (R399). -/
theorem request_granted {s : State} {r : Requester} {idx sub : Nat} {acc : Access} {early late : List (Option W32)}
    {effect : State → State} (h : Admitted s idx sub acc) (he : firstFail early = none) (hl : firstFail late = none) :
    s.request r idx sub acc early late effect = effect s := by
  obtain ⟨hx, hp⟩ := h
  unfold State.request
  cases hd : s.dev.st <;> simp_all [Access.permits] <;> cases acc <;> simp_all

/-- Where an ended Tide takes an event, the event and all that stood in ended Tides stand there. -/
theorem inEnded_events {e : Event} {a : TE} {l m : List EndedTide}
    (h : inEnded (fun b => { b with events := b.events ++ [e] }) a l = some m) :
    (e ∈ (m.map (fun b => b.events)).flatten ∧ ∀ x ∈ (l.map (fun b => b.events)).flatten, x ∈ (m.map (fun b => b.events)).flatten) ∧
      m.map (fun b => b.sums) = l.map (fun b => b.sums) := by
  induction l generalizing m with
  | nil => simp [inEnded] at h
  | cons b rest ih =>
    simp only [inEnded] at h
    split at h
    · obtain rfl := Option.some.inj h
      simp only [List.map_cons, List.flatten_cons, List.mem_append]
      exact ⟨⟨.inl (.inr (by simp)), fun x hx => hx.imp .inl id⟩, by simp⟩
    · obtain ⟨r, hr, rfl⟩ := Option.map_eq_some_iff.mp h
      obtain ⟨⟨h1, h2⟩, h3⟩ := ih hr
      simp only [List.map_cons, List.flatten_cons, List.mem_append]
      exact ⟨⟨.inr h1, fun x hx => hx.imp id (h2 x)⟩, by rw [h3]⟩

/-- The events of a merger after one more. -/
theorem Merger.add_events (m : Merger) (e : Event) :
    (e.at_, e.source, e.detail) ∈ (m.add e).events ∧ ∀ x ∈ m.events, x ∈ (m.add e).events := by
  unfold Merger.add Merger.events
  cases h : inEnded (fun b => { b with events := b.events ++ [e] }) (teOf e.at_) m.ended with
  | none =>
    refine ⟨by simp, fun x hx => ?_⟩
    simp only [List.map_append, List.mem_append] at hx ⊢
    rcases hx with (h1 | h1) | h1
    · exact .inl (.inl (.inl h1))
    · exact .inl (.inr h1)
    · exact .inr h1
  | some l =>
    obtain ⟨⟨h1, h2⟩, h3⟩ := inEnded_events h
    simp only [h3]
    refine ⟨List.mem_append_left _ (List.mem_map_of_mem (f := fun e : Event => (e.at_, e.source, e.detail))
      (List.mem_append_right _ h1)), fun x hx => ?_⟩
    simp only [List.map_append, List.mem_append] at hx ⊢
    rcases hx with (hx | hx) | hx
    · exact .inl (.inl hx)
    · obtain ⟨y, hy, rfl⟩ := List.mem_map.mp hx
      exact .inl (.inr (List.mem_map_of_mem (f := fun e : Event => (e.at_, e.source, e.detail)) (h2 y hy)))
    · exact .inr hx

/-- An event raised stands in the merger (R65, R438). -/
theorem raiseAt_raised (s : State) (x : Instant) (source detail flags : Nat) :
    Raised (s.raiseAt x source (BitVec.ofNat 32 detail) flags) x source detail := by
  unfold State.raiseAt Raised
  cases hd : s.dev.st
  case boot => exact .inr ⟨.inl (by simp [hd]), BitVec.ofNat 8 flags, by simp⟩
  case load => exact .inr ⟨.inr (by simp [hd]), BitVec.ofNat 8 flags, by simp⟩
  all_goals exact .inl (Merger.add_events _ _).1

/-- An event raised in the present T_E. -/
theorem raise_raised (s : State) (source detail flags : Nat) :
    Raised (s.raise source detail flags) s.nowAt source detail := raiseAt_raised s _ source detail flags

/-- Raising an event changes the merger alone. -/
theorem raiseAt_frame (s : State) (x : Instant) (source : Nat) (d : W32) (flags : Nat) :
    s.raiseAt x source d flags = { s with merger := (s.raiseAt x source d flags).merger } := by
  unfold State.raiseAt
  cases s.dev.st <;> rfl

/-- Raising an event changes the merger alone. -/
theorem raise_frame (s : State) (source detail flags : Nat) :
    s.raise source detail flags = { s with merger := (s.raise source detail flags).merger } := raiseAt_frame ..

end Sys2Proof.Machine
end

