-- ==== Sys2Proof/Tests/Slice0.lean ====
section
/-!
SUPPORT. Tests: ill-formed terms that the well-formedness check refuses, single steps against the spec's own numbers, and
for every statement with hypotheses concrete states and operands that meet them.
-/
namespace Sys2Proof.Tests

open Sys2Proof Sys2Proof.Machine

set_option Elab.async false

/-! ## Ill-formed commands (WellFormed) -/

/-- A message header with a payload. -/
def msg (opcode : Byte) (payload : List Byte) : KppMsg where
  magic := 0x5A4B
  version := 1
  resv := 0
  opcode := opcode
  response := false
  hold := false
  staged := false
  descriptor := false
  lastSeg := false
  resvHi := 0
  session := 1
  destination := 0xFFFF
  transaction := 7
  length := BitVec.ofNat 16 payload.length
  status := 0
  payload := payload

/-- A requester on a path. -/
def rq : Requester := ⟨.spi, 0, 1⟩

/-- Durations of 2^40 T_E and more (R159), a pulse below 1,000 fu, a burst of no pulses (R162). -/
theorem test_ill_formed_edges : (Instr.edge 0 .high .cursor true (2 ^ 40 * 3200)).wellFormed = false ∧
    (Instr.pulse 0 false .cursor true 0 999).wellFormed = false ∧
    (Instr.burst 0 false .cursor true 0 0 1000 2000).wellFormed = false ∧
    (Instr.burst 0 false .cursor true 0 2 1500 2400).wellFormed = false ∧
    (Instr.wait 0 .cursor (2 ^ 40 * 3200)).wellFormed = false := by decide +kernel

/-- Pan 0 as a target, an empty mask, a target without a timeout, Tide multiples of 0 and 2^20 (R160 to R164). -/
theorem test_ill_formed_flow : (Instr.jump 0 ⟨0, 4⟩).wellFormed = false ∧ (Instr.loop 0 1 ⟨0, 4⟩).wellFormed = false ∧
    (Instr.branch 0 ⟨.mask 0 true, true, false⟩ ⟨1, 0⟩).wellFormed = false ∧
    (Instr.branch 0 ⟨.bit 3, true, false⟩ ⟨0, 0⟩).wellFormed = false ∧
    (Instr.waitcond 0 ⟨.bit 3, true, false⟩ 0 ⟨1, 0⟩).wellFormed = false ∧
    (Instr.waitcond 0 ⟨.bit 3, true, false⟩ 10 ⟨0, 0⟩).wellFormed = false ∧
    (Instr.syncTide 0 0).wellFormed = false ∧ (Instr.syncTide 0 (2 ^ 20)).wellFormed = false ∧
    (Instr.syncFront 0 0).wellFormed = false ∧ (Instr.syncGust 0 0).wellFormed = false ∧
    (Instr.panhint 0 0).wellFormed = false := by decide +kernel

/-- Operands longer or shorter than their rows have. -/
theorem test_ill_formed_sizes : (Instr.tideBoundary ⟨0, 0, [], [], [], false, none, []⟩).wellFormed = false ∧
    (Instr.hourlyUpdate ⟨[], [], [], []⟩).wellFormed = false ∧ (Instr.scrubRead 0 0 2097152 .clean).wellFormed = false ∧
    (Instr.stiEdge 0 true [none]).wellFormed = false ∧
    (Instr.collectionComplete (.input 0) [⟨[1], 0, [], false⟩]).wellFormed = false ∧
    (Instr.hostBlockWrite (2 ^ 58) (List.replicate 64 none)).wellFormed = false ∧ (Instr.hostBlockWrite 5 [some 1]).wellFormed = false ∧
    (Instr.bar2Read (2 ^ 64) 2).wellFormed = false ∧ (Instr.bar2Read 0 4097).wellFormed = false ∧
    (Instr.joinRequest 0 ⟨List.replicate 16 0, 0, 0, 0, true⟩).wellFormed = false ∧
    (Instr.joinReply 0 ⟨List.replicate 16 0, 0, 0, 0, true⟩).wellFormed = false ∧
    (Instr.joinRefused 0 ⟨List.replicate 16 0, 0, 0, 0, true⟩).wellFormed = false := by decide +kernel

/-- Data beyond the largest message or segmented value (R417, R421). -/
theorem test_ill_formed_data : (Instr.panData rq (List.replicate 65537 0)).wellFormed = false ∧
    (Instr.odWrite rq 0x7001 2 (List.replicate 65537 0) false).wellFormed = false ∧
    (Instr.spiRequest (List.replicate 65536 0)).wellFormed = false ∧
    (Instr.read rq (msg 1 (List.replicate 65536 0))).wellFormed = false := by
  refine ⟨?_, ?_, ?_, ?_⟩ <;>
    (simp only [Instr.wellFormed, KppMsg.sized, msg, List.length_replicate]; decide +kernel)

/-! ## Program words written out from the encoding tables (R158 to R163) -/

/-- EDGE: opcode 1 in [63:58], state H in [57:56], base and advance, time in T_E and fine below (R161). -/
theorem test_word_edge : decode 5 0x05C0000000002003 0 0 = some (.edge 5 .high .origin true 6403) := by decide +kernel

/-- HALT is opcode 63, NOP the zero word (R161). -/
theorem test_word_halt : decode 3 0xFC00000000000000 0 0 = some (.halt 3) ∧ decode 3 0 0 0 = some (.nop 3) := by decide +kernel

/-- JUMP's target: the Pan in [19:9], the word in [8:0] (R160). -/
theorem test_word_jump : decode 0 0x2000000000000E07 0 0 = some (.jump 0 ⟨7, 7⟩) := by decide +kernel

/-! ## Single steps -/

/-- A device in IDLE, in T_E 2,000,000, aligned. -/
def idle : State := { State.reset with
  dev := { st := .idle }, csu := { st := .aligned, present := true, qualified := true, everAligned := true }
  time := { count := 2000000, running := true, lastTide := some 2000000, marked := 0, histFrom := 0 }, boot := { alignDone := true } }

/-- With a setting at a number. -/
def setTo (idx sub n : Nat) (s : State) : State := { s with od := s.od.set idx sub (.num n) }

/-- GO pends for the first boundary at least 25,000 T_E ahead (R403). -/
theorem test_go_pends : (match exec (.go rq) idle with | .next t => t.dev.pendCmd | _ => none) = some (1, 3000000) := by
  decide +kernel

/-- A host block write lands at its byte (R372): block 64 is the first of Pan 1. -/
theorem test_block_write : (match exec (.hostBlockWrite 64 (some 0xAB :: List.replicate 63 none)) idle with
    | .next t => (t.byte 4096, t.byte 4097) | _ => (0, 0)) = (0xAB, 0) := by decide +kernel

/-- The first flag of Pan 0 reads 0x03, its use 0xD0 (R366). -/
theorem test_pan_zero : idle.byte 0 = 0x03 ∧ idle.byte 2048 = 0xD0 := by decide +kernel

/-- R80's table of charge-pump currents, in µA, and the ends of the other two. -/
theorem test_loop_filter_codes : (List.range 16).map chargePumpMicroAmps =
      [100, 126, 159, 200, 252, 317, 400, 504, 635, 800, 1008, 1270, 1600, 2016, 2540, 3200] ∧
    seriesOhms 0 = 125 ∧ seriesOhms 7 = 16000 ∧ shuntPicofarads 0 = 10 ∧ shuntPicofarads 15 = 310 := by decide +kernel

/-- The spec's worked loops (03_clock_synthesis.md, after R81 and in the worked configuration): f_c 191 kHz, f_z 40.8 kHz and f_p
758 kHz at the ROM defaults, f_c 303 kHz and f_z 67.7 kHz in the other. -/
theorem test_loop_bandwidth : loopBandwidth 150000 9 3 100 / 1000 = 190 ∧ loopBandwidth 150000 9 3 100 % 1000 ≥ 500 ∧
    zeroHz 3 3900 / 100 = 408 ∧ poleHz 3 10 / 1000 = 757 ∧ poleHz 3 10 % 1000 ≥ 500 ∧
    loopBandwidth 150000 11 2 50 / 1000 = 303 ∧ zeroHz 2 4700 / 100 = 677 := by decide +kernel

/-- CRC-8 with x^8 + x^2 + x + 1 from 0, and CRC-16 with x^16 + x^12 + x^5 + 1 from 0xFFFF, of the nine digits (R333, R335; the
published check values of these polynomials are 0xF4 and 0x29B1). -/
theorem test_crc : crc8 [0x31, 0x32, 0x33, 0x34, 0x35, 0x36, 0x37, 0x38, 0x39] = 0xF4 ∧
    crc16 [0x31, 0x32, 0x33, 0x34, 0x35, 0x36, 0x37, 0x38, 0x39] = 0x29B1 := by decide +kernel

/-- R490: full load draws 12.4 W (R489), the node of the worked example 5.74 W. -/
theorem test_power :
    let full : PowerUnits := ⟨8, 0, 64, 32, 32, [], 8⟩
    let rack : PowerUnits := ⟨4, 0, 40, 16, 8, [], 4⟩
    (full.typical ⟨32000000000, 5000000000, 2500000000⟩ + 50000000000) / 100000000000 = 124 ∧
    (rack.typical ⟨4000000000, 160000000, 160000000⟩ + 5000000000) / 10000000000 = 574 := by decide +kernel

/-- R134's example: fine code 2,234 is phase 5, interpolator 234; the entry 0x0AED is three steps more. -/
theorem test_identity_entry : bits (identityEntry 2234) 9 3 = 5 ∧ bits (identityEntry 2234) 0 9 = 234 ∧
    identityEntry 2234 + 3 = 0x0AED := by decide +kernel

/-- R43's worked carry: fine fields 3,199 and 1 carry into the count. -/
theorem test_carry : addTime 0 (BitVec.ofNat 64 (5 * 4096 + 3199)) 1 = (0, BitVec.ofNat 64 (6 * 4096)) := by decide +kernel


/-! ## Witnesses: for every statement with hypotheses, states and operands that meet them, clause by clause -/

/-- A channel, a cluster, an input and so on with a change, on top of `idle`. -/
def inState (d : DevState) : State := { idle with dev := { st := d } }

/-- A state without supply, or after a shutdown, hot or cool. -/
def off (p : Power) (cool : Bool) : State := { idle with boot := { power := p, cool := cool } }

theorem witness_power_and_shutdown :
    (off .unpowered true).boot.power = .unpowered ∧ (off .unpowered false).boot.cool = false ∧
    idle.boot.power = .running ∧ (off .shutThermal true).boot.cool = true ∧ (off .shutThermal false).boot.power = .shutThermal ∧
    { off .shutThermal false with boot := { power := .shutThermal, cool := false, restartReq := true } }.boot.restartReq = true ∧
    1250 ≤ (1250 : W16).toInt := by decide +kernel

/-- A device in LOAD with its CSU in a state. -/
def loading (c : CsuSt) : State := { State.reset with dev := { st := .load }, csu := { st := c } }

/-- A device in IDLE that still owes the fabric ALIGN, its upstream reference on port 0. -/
def owesAlign : State := { idle with
  boot := { alignDone := true, fabricAlign := some 7 }, csu := { st := .locked, act := { src := 1 } }
  port := Vector.replicate 8 { haveAvg := true } }

/-- LOAD whose stages are over, in the T_E of a served boundary. -/
def readyToIdle : State := { State.reset with
  dev := { st := .load }, boot := { alignDone := true }, time := { count := 3000000, running := true, lastTide := some 3000000 } }

theorem witness_start_up :
    State.reset.boot.power = .running ∧ State.reset.dev.st = .boot ∧ 128 ≤ ({ jedec := 0, density := 128 } : FlashChip).density ∧
    ({ jedec := 0, density := 127 } : FlashChip).density < 128 ∧ (loading .off).dev.st = .load ∧ (loading .off).csu.st = .off ∧
    (loading .off).flash.chip = none ∧
    (setTo 0x2002 3 1 (setTo 0x2002 1 0 (loading .locked))).startUpAligns = true ∧
    (setTo 0x2002 3 1 (setTo 0x2002 1 0 (loading .locked))).boot.alignDone = false ∧
    owesAlign.boot.fabricAlign = some 7 ∧ owesAlign.upPort = some 0 ∧ owesAlign.port[(0 : Fin 8)].haveAvg = true ∧
    (loading .acquire).csu.st.isLocked = false ∧ (loading .acquire).boot.alignDone = false ∧
    readyToIdle.dev.st = .load ∧ readyToIdle.boot.calStage = false ∧ readyToIdle.time.lastTide = some readyToIdle.now := by
  decide +kernel

theorem witness_state_commands :
    idle.dev.pendCmd = none ∧ idle.dev.calibrating = false ∧ (inState .run).dev.st = .run ∧ (inState .hold).dev.st = .hold ∧
    (inState .safe).dev.st = .safe ∧ commandPermits 1 (inState .run).dev.st = false ∧ commandPermits 2 idle.dev.st = false ∧
    commandPermits 3 (inState .run).dev.st = false ∧ commandPermits 4 idle.dev.st = false ∧ commandPermits 6 idle.dev.st = false ∧
    commandPermits 8 (inState .run).dev.st = false ∧ commandPermits 9 (inState .load).dev.st = false ∧
    { idle with dev := { st := .idle, pendCmd := some (1, 3000000) } }.dev.pendCmd ≠ none ∧ Admitted idle 0x1300 3 .rw ∧
    (commandPermits 1 idle.dev.st = true ∧ idle.now + 25000 ≤ (3 : W64).toNat * 1000000 ∧
      (2 ^ 20 + 2 : W64).toNat ≤ idle.now / 1000000 + 2 ^ 20) ∧
    (commandPermits 2 DevState.run = true ∧ commandPermits 3 DevState.hold = true ∧ commandPermits 4 DevState.hold = true ∧
      commandPermits 6 DevState.safe = true ∧ commandPermits 8 DevState.idle = true) := by
  unfold Admitted; decide +kernel

/-- A device with a flash and a SAVE that writes slot 2. -/
def saves : State := { idle with
  flash := { chip := some { jedec := 0, density := 128 } }, dev := { st := .idle, saving := true }
  persist := { target := some (2, ⟨0x5A54494D, 1, 1, 0, 0, 0, 0, 0, 0, [], none⟩) } }

theorem witness_reset_save_align_safe :
    idle.served = true ∧ (inState .safe).served = true ∧ { idle with flash := { chip := some { jedec := 0, density := 128 } } }.flash.chip.isSome = true ∧
    { idle with flash := { chip := some { jedec := 0, density := 128 } }, persist := { bootedFrom := 1 } }.persist.bootedFrom = 1 ∧
    idle.persist.bootedFrom ≠ 1 ∧ idle.dev.saving = false ∧ saves.dev.saving = true ∧ saves.persist.target.isSome = true ∧
    saves.persist.deferred = 0 ∧ idle.csu.st = .aligned ∧ idle.nat 0x2002 1 ≠ 2 ∧ idle.nat 0x2202 1 % 4096 = 0 ∧
    { idle with csu := { st := .locked } }.csu.st = .locked := by decide +kernel

/-- At the boundary of a Tide whose number is a multiple of 4,500,000. -/
def hourTide : State := { idle with time := { count := 4500000000000, running := true, lastTide := some 4500000000000 } }

theorem witness_boundaries :
    idle.time.running = true ∧ State.reset.time.lastTide = none ∧ hourTide.time.lastTide = some hourTide.now ∧
    hourTide.tideNow.toNat % 4500000 = 0 ∧ hourTide.health.hourAt ≠ some hourTide.now ∧ (setTo 0x1201 1 1 idle).cadence ≠ 0 ∧
    (setTo 0x1201 1 1 idle).served = true := by decide +kernel

/-- A device that keeps a log of a length in slot 1. -/
def logs (n : Nat) : State := { idle with
  persist := { logSlot := 1 }
  flash := { chip := some { jedec := 0, density := 128 }, slotA := some ⟨0x5A54494D, 1, 1, 0, 0, 0, 1, 0, 0, [], some ⟨n, []⟩⟩ } }

theorem witness_housekeeping :
    Admitted (logs 4096) 0x1201 5 .wo ∧ (logs 4096).dev.saving = false ∧
    ((logs 4096).flash.slot (logs 4096).persist.logSlot).bind (fun m => m.log) = some ⟨4096, []⟩ ∧
    (logRecord (logs 4096).persist.logSeq (logs 4096).tideNow ((logs 4096).items.flatMap (itemRecord (logs 4096)))).length ≤ 4096 ∧
    1 < (logRecord (logs 1).persist.logSeq (logs 1).tideNow ((logs 1).items.flatMap (itemRecord (logs 1)))).length ∧
    2097151 < memoryWords 0 ∧ (placeOf 0 3 2097151).cl < idle.part.clusters ∧ (placeOf 2 3 0).cl < idle.part.clusters ∧
    idle.isPoisoned (placeOf 0 3 2097151) = false ∧ idle.health.errs.find? (fun e => e.1 = placeOf 0 3 2097151) = none ∧
    (2 : Fin 6) ≠ 1 ∧ ¬ ((0 : Fin 6) = 0 ∧ 1024 < 1024) ∧ Admitted idle 0x7804 3 .rwi ∧ Admitted idle 0x7801 6 .wo := by
  unfold Admitted; decide +kernel

theorem witness_empty_queue_and_front :
    idle.pending = [] ∧ resetDue idle = false ∧ { idle with pending := [.evrProd, .mbxAck] }.pending = .evrProd :: [.mbxAck] := by
  decide +kernel

/-- A device in IDLE with its CSU in a state. -/
def csuIn (c : CsuSt) : State := { idle with csu := { st := c, present := true } }

/-- With a hold value of source 1. -/
def holds (c : CsuSt) (present : Bool) : State := setTo 0x2001 3 1000 (setTo 0x2001 4 4 { idle with
  csu := { st := c, present := present, hold := { full := some (5, 0) }, run := 3 } })

/-- With lock windows of 400 and 1,000 (80 fu each) and counts of 8 and 4. -/
def compares (run : Nat) : State := setTo 0x2001 1 400 (setTo 0x2001 2 8 { idle with csu := { st := .acquire, present := true, run := run } })

theorem witness_frequency_windows :
    (compares 5).csu.st = .acquire ∧ (compares 5).dev.st ≠ .load ∧ (-32000 : Int).natAbs ≤ 80 * (compares 5).nat 0x2001 1 ∧
    80 * (compares 5).nat 0x2001 1 < (32001 : Int).natAbs ∧ (compares 5).nat 0x2001 2 ≤ (compares 5).csu.run + 3 ∧
    (compares 5).csu.run + 2 < (compares 5).nat 0x2001 2 ∧ (csuIn .freerun).csu.present = true ∧
    ((1000 * ((csuIn .freerun).csu.act.win + 30) : Nat) : Int).natAbs ≤ 1000 * ((csuIn .freerun).csu.act.win + 30) ∧
    1000 * ((csuIn .freerun).csu.act.win + 30) < ((1000 * ((csuIn .freerun).csu.act.win + 30) + 1 : Nat) : Int).natAbs ∧
    80 * (holds .locked true).nat 0x2001 3 < (-80001 : Int).natAbs ∧
    (holds .locked true).nat 0x2001 4 ≤ (holds .locked true).csu.run + 1 ∧ (csuIn .ret).csu.present = true ∧
    (2000 : Int).natAbs ≤ (if (csuIn .ret).csu.afterBypass then 1000 * (csuIn .ret).csu.act.win else 2000) ∧
    (if (csuIn .ret).csu.afterBypass then 1000 * (csuIn .ret).csu.act.win else 2000) < (2001 : Int).natAbs ∧
    (csuIn .bypass).csu.present = true ∧ (0 : Int).natAbs ≤ 1000 * (csuIn .bypass).csu.act.win := by decide +kernel

theorem witness_lock_states :
    (csuIn .freerun).csu.st = .freerun ∧ (csuIn .acquire).csu.st = .acquire ∧ (csuIn .acquire).dev.st ≠ .load ∧
    (csuIn .ret).csu.st = .ret ∧ (csuIn .lull).csu.st = .lull ∧ (csuIn .locked).csu.st ≠ .lull ∧
    (holds .locked true).csu.st.isLocked = true ∧ (holds .locked true).csu.align = none ∧
    (holds .locked true).csu.hold.fromLocked = some (5, 0, 1) ∧ (holds .aligned false).csu.hold.fromLocked = some (5, 0, 1) ∧
    (csuIn .aligned).csu.st.isLocked = true ∧ (csuIn .aligned).csu.hold.fromLocked = none := by decide +kernel

/-- In LULL, or FREERUN, under the loss policy BYPASS with a delay of 1 ms. -/
def bypasses (c : CsuSt) : State := setTo 0x2004 1 1 (setTo 0x2004 2 1 (csuIn c))

theorem witness_bypass :
    (bypasses .freerun).bypassAt = some 1250000 ∧ 1250000 ≤ (bypasses .freerun).now ∧
    { bypasses .lull with csu := { st := .lull, lullStart := some 2000000 } }.bypassAt = some 3250000 ∧
    idle.now < 3250000 ∧ (bypasses .freerun).csu.noBypass = false ∧
    { idle with csu := { st := .bypass } }.csu.present = false ∧ { idle with csu := { st := .bypass } }.csu.bypLocked = false ∧
    { idle with csu := { st := .bypass, hold := { bypEntry := some 9 } } }.csu.hold.fromBypass 0 = some (9, 0) ∧
    { idle with csu := { st := .bypass } }.csu.hold.fromBypass idle.temp0 = none := by decide +kernel

/-- An ALIGN runs, before or after its marked edge. -/
def aligns (restarted : Bool) (m : Nat) : State := { idle with csu := { st := .aligning, align := some ⟨7, 2000100, m, false, restarted, none⟩ } }

theorem witness_configuration_and_align :
    Admitted idle 0x2000 0x0B .wo ∧ (stagedCsu idle.od).valid = true ∧ (aligns false 0).csu.align = some ⟨7, 2000100, 0, false, false, none⟩ ∧
    (aligns false 1).upPort = none ∧ (aligns true 0).csu.align = some ⟨7, 2000100, 0, false, true, none⟩ ∧ (400 : Int).natAbs ≤ 400 ∧
    400 < (-401 : Int).natAbs ∧ alignInEdge [true, false, false, true] = some 4 ∧ alignInEdge [true, true] = none ∧
    max (aligns false 1).now (7 + (aligns false 1).refPeriods 4) ≤ 2000100 := by unfold Admitted; decide +kernel

/-- In LOCKED with an action. -/
def acts (a : CsuAction) (d : Int) : State := { idle with csu := { st := .locked, delta := d, action := a } }

theorem witness_phase_actions :
    Admitted (csuIn .locked) 0x2006 3 .wo ∧
    (setTo 0x2006 6 (2012500 * 4096) (csuIn .locked)).actionTimeOk = true ∧ (csuIn .locked).csu.st = .locked ∧
    (acts (.slewAt 9 1) 0).csu.action = .slewAt 9 1 ∧ (acts (.slewing 9 1 8000) 8000).csu.delta = 8000 ∧
    (acts (.stepAt 9) 0).csu.action = .stepAt 9 := by unfold Admitted; decide +kernel

theorem witness_level_ticks_and_clock_faults :
    ((2 ≤ 10 ∧ 399 < 400 ∧ 400 ≤ 6400000000) ∧ (({ edge0 := some 6400000000, coarse := 9 } : ClkOut).edge0 = some 6400000000 ∧
      2 ≤ ({ coarse := 9 } : ClkOut).div ∧ ({ coarse := 9 } : ClkOut).coarse < ({} : ClkOut).div ∧ 0 < ({} : ClkOut).div)) ∧
    { idle with clkout := Vector.replicate 8 { st := 2 } }.clkout[(7 : Fin 8)].st = 2 ∧
    { idle with clkout := Vector.replicate 8 { st := 3, before := 2 } }.clkout[(7 : Fin 8)].st = 3 ∧
    (({ queue := [⟨0xC4000000, none, 0⟩] } : Driver).tick 125).ranging = some (125, 2625) ∧
    (({ queue := [⟨0xC0000000, none, 0⟩] } : Driver).tick 125).ranging = none := by decide +kernel

theorem witness_level_entries :
    idle.levelFull 63 = false ∧ entryOk 0 = true ∧ entryOk (2 ^ 32 - 1 - 2 ^ 28 * 3 - 2 ^ 24 * 3) = true ∧
    Admitted idle (chIdx 63) 0x17 .wo ∧ Admitted idle (chIdx 63) 0x16 .rwi ∧ entryKind 0xC0000000 = 3 ∧
    Admitted idle (chIdx 0) 0x18 .wo ∧ fineOk 3199 = true ∧ idle.within48 (idle.named 0 ((2000000 + 2 ^ 51) * 4096)) = true ∧
    idle.within48 (idle.named 0 (0 : W64).toNat) = true ∧
    { idle with drv := Vector.replicate 64 { ranging := some (9, 2509) } }.drv[(0 : Fin 64)].ranging = some (9, 2509) := by
  unfold Admitted; decide +kernel

/-- Every driver in FAULT with no cause present. -/
def faulted : State := { idle with drv := Vector.replicate 64 { fault := some 9, latched := 1 } }

theorem witness_driver_faults :
    (63 : Fin 64).val < 16 * idle.part.clusters ∧ (setTo (chIdx 63) 0x15 2 idle).nat (chIdx 63) 0x15 / 2 % 2 = 1 ∧
    (setTo (chIdx 63) 0x15 0 idle).nat (chIdx 63) 0x15 / 2 % 2 = 0 ∧ idle.health.outside[(8 : Fin 12)] = false ∧
    { idle with health := { outside := Vector.replicate 12 true } }.health.outside[(11 : Fin 12)] = true ∧
    Admitted idle (chIdx 63) 0x1A .wo ∧ faulted.drv[(63 : Fin 64)].present &&& faulted.armedCauses 63 = 0 ∧
    faulted.drv[(63 : Fin 64)].fault.isSome = true ∧ faulted.drv[(63 : Fin 64)].releaseAt = none ∧
    { faulted with drv := Vector.replicate 64 { fault := some 9, releaseAt := some (idle.now + 4) } }.now < tickFrom (idle.now + 4) ∧
    idle.drv[(63 : Fin 64)].faultFrom idle.now = none := by unfold Admitted; decide +kernel

/-- Bands around 1 V and 0 V, 0.1 V wide. -/
def someBands : Bands := ⟨1000000 * 12288, 0, 50000 * 12288⟩

theorem witness_classification :
    0 ≤ someBands.half ∧ someBands.lower ≤ someBands.upper ∧ someBands.upper - someBands.half ≤ 950000 * 12288 ∧
    (950000 : Int) * 12288 ≤ someBands.upper + someBands.half ∧ someBands.start 950000 = .unresolved ∧
    someBands.lower - someBands.half ≤ (50000 : Int) * 12288 ∧ (50000 : Int) * 12288 ≤ someBands.lower + someBands.half := by
  decide +kernel

/-- Every monitor routed to channel 5, TRIPIN too. -/
def routed : State := setTo (chIdx 5) 0x1B (2 ^ 33 - 1) idle

/-- The same with every latch set by source 3. -/
def tripped : State := { routed with trip := Vector.replicate 64 { latched := true, first := 3, setAt := 5 } }

theorem witness_trip_network :
    (5 : Fin 64).val < 16 * idle.part.clusters ∧ bit (routed.nat (chIdx 5) 0x1B) 32 = true ∧ bit (routed.nat (chIdx 5) 0x1B) 0 = true ∧
    routed.trip[(5 : Fin 64)].latched = false ∧ bit (idle.nat (chIdx 5) 0x1B) 0 = false ∧ idle.tripin.active = false ∧
    { idle with tripin := { active := true } }.tripin.active = true ∧ Admitted routed (chIdx 5) 0x1D .rw ∧
    routed.settle.routedAsserts 5 = false ∧ tripped.settle.routedAsserts 5 = false ∧
    tripped.settle.trip[(5 : Fin 64)].trippedAt tripped.now = true ∧ routed.settle.trip[(5 : Fin 64)].trippedAt routed.now = false ∧
    { routed with tripin := { active := true } }.settle.routedAsserts 5 = true ∧
    bit ((setTo (chIdx 5) 0x1C 4 tripped).nat (chIdx 5) 0x1C) 2 = true ∧ tripped.trip[(5 : Fin 64)].latched = true ∧
    tripped.trip[(5 : Fin 64)].setAt < 2000004 ∧ { tripped with tripin := { active := true } }.routedAsserts 5 = true ∧
    tripped.trip[(5 : Fin 64)].withheld < 65535 ∧
    ((addDue [(2000005, LineDue.clear 5)] tripped).reach 2000004).line = [(2000005, .clear 5)] := by
  unfold Admitted; decide +kernel

/-- R297: what a clear puts on the way releases the latch in its T_E and not before. -/
theorem test_trip_clear_acts_in_its_te :
    let s := addDue [(2000004, LineDue.clear 5)] tripped
    (s.reach 2000003).trip[(5 : Fin 64)].latched = true ∧ (s.reach 2000004).trip[(5 : Fin 64)].latched = false := by
  decide +kernel

/-- Every monitor in a phase, thresholds at the ends of the range. -/
def monitors (m : Monitor) : State := { idle with mon := Vector.replicate 32 m }

theorem witness_monitors :
    (let u := (monitors { phase := .watching }).settle.updMon 3 (fun m => { m with vin := 0 })
     u.watches 3 = true ∧ u.blanked 3 = false ∧ (u.bands 3).next 0 u.mon[(3 : Fin 32)].raw = u.mon[(3 : Fin 32)].raw) ∧
    (let u := (monitors { phase := .watching }).settle.updMon 3 (fun m => { m with vin := 4000000 })
     u.watches 3 = true ∧ u.blanked 3 = false ∧ (u.bands 3).next 4000000 u.mon[(3 : Fin 32)].raw ≠ u.mon[(3 : Fin 32)].raw ∧
       u.filtered 3 = false) ∧
    (let u := (setTo (monIdx 3) 8 3 (monitors { phase := .watching })).settle.updMon 3 (fun m => { m with vin := 4000000 })
     u.watches 3 = true ∧ u.blanked 3 = false ∧ u.filtered 3 = true) ∧
    (monitors { phase := .settling 9 }).mon[(31 : Fin 32)].phase = .settling 9 ∧
    (((monitors { phase := .settling 9 }).reach 9).updMon 31 (fun m => { m with vin := 0, phase := .watching })).blanked 31 = false ∧
    (let s := monitors { phase := .watching, blank := some (2000001 * 3200) }
     s.mon[(0 : Fin 32)].blank = some (2000001 * 3200) ∧
       ((s.reach 2000001).updMon 0 (fun m => { m with vin := 0, blank := none })).watches 0 = true) ∧
    (let s := setTo (monIdx 0) 9 1 (setTo (monIdx 0) 1 1 (monitors { phase := .watching }))
     s.sampledMode 0 = true ∧ s.on (monIdx 0) 1 = true ∧
       (let u := (s.reach (s.nextSample 0)).updMon 0 (fun m => { m with vin := 0, sampled := some (s.nextSample 0) })
        u.mon[(0 : Fin 32)].live = true ∧ u.checking 0 = false ∧ u.blanked 0 = false)) := by
  decide +kernel

/-- Thresholds of a monitor far from both tie voltages. -/
def farBands (c : Classn) : State := setTo (monIdx 3) 2 3000 (setTo (monIdx 3) 3 1000 (monitors { phase := .watching, cls := c, raw := c }))

theorem witness_self_checks :
    Admitted (farBands .inside) (monIdx 3) 0x0C .wo ∧ (farBands .inside).settle.checkable 3 = true ∧
    (farBands .inside).settle.mon[(3 : Fin 32)].busy = false ∧ (farBands .inside).dev.st ≠ .run ∧
    (farBands .inside).routedByEnabled 3 = false ∧ (farBands .inside).settle.mon[(3 : Fin 32)].cls = .inside ∧
    (farBands .above).tieTooNear 3 2 = false ∧ (farBands .above).tieTooNear 3 3 = false ∧
    (monitors { phase := .selfCheck 1 9 }).mon[(31 : Fin 32)].phase = .selfCheck 1 9 ∧ 1 ∈ [1, 2, 3] ∧ 3 ∈ [1, 2, 3] ∧
    Admitted (farBands .inside) (monIdx 3) 0x0E .rw ∧ (monitors { rbBusy := true }).mon[(0 : Fin 32)].rbBusy = true := by
  unfold Admitted; decide +kernel

/-- Conditions 2 and 9 of cluster 1 rise in the present T_E: signal 0 is asserted from it on. -/
def rises : State := { idle with
  trig := (Vector.replicate 4 {}).set 1 { words := ((Vector.replicate 16 []).set 2 [(0, 0x3500, 0)]).set 9 [(0, 0x1500, 0)] }
  xbar := Vector.replicate 4 { signals := Vector.replicate 8 [(2000000, true)] } }

theorem witness_exttrig_and_conditions :
    idle.extSample 3 idle.now = false ∧ idle.extSample 0 idle.now ≠ true ∧
    rises.settle.trig[(1 : Fin 4)].evaluated ≠ some rises.settle.now ∧
    (trueConds rises.settle 1 rises.settle.now).filter (fun c => !condBefore rises.settle 1 c rises.settle.now) = [2, 9] ∧
    (trueConds rises.settle 0 rises.settle.now).filter (fun c => !condBefore rises.settle 0 c rises.settle.now) = [] := by
  decide +kernel

/-- Every capture engine alike. -/
def caps (c : Capture) : State := { idle with cap := Vector.replicate 4 c }

theorem witness_capture_arming :
    Admitted idle (clIdx 3 5) 1 .wo ∧ armCheck idle 3 = none ∧ (caps { armAt := some 2000008 }).cap[(0 : Fin 4)].armAt = some 2000008 ∧
    3 ∈ idle.armMembers 3 ∧ 0 ∉ idle.armMembers 3 := by unfold Admitted; decide +kernel

theorem witness_capture_ends :
    Admitted (caps { st := .armed }) (clIdx 3 5) 1 .wo ∧ (3 : Fin 4).val < idle.part.clusters ∧
    (caps { st := .armed }).cap[(3 : Fin 4)].st = .armed ∧ (caps { st := .freezing }).cap[(0 : Fin 4)].storing = true ∧
    (let s := caps { st := .armed, fire := some ⟨2000000, 0, 0, 0, true⟩ }
     s.cap[(0 : Fin 4)].fire = some ⟨2000000, 0, 0, 0, true⟩ ∧ (s.reach (2000000 + 7)).cap[(0 : Fin 4)].storing = true ∧
       (s.reach (2000000 + 7)).cap[(0 : Fin 4)].st = .armed) ∧
    (let s := caps { st := .armed, freezeAt := some 2000004, cfg := { v := 3 } }
     s.settle.cap[(1 : Fin 4)].freezeAt = some 2000004 ∧ (s.reach 2000004).cap[(1 : Fin 4)].cfg.v ≠ 0 ∧
       (s.reach 2000004).cap[(1 : Fin 4)].freezeAt = some 2000004) ∧
    (let s := caps { st := .armed, freezeAt := some 2000004 }
     s.settle.cap[(1 : Fin 4)].freezeAt = some 2000004 ∧ (s.reach 2000004).cap[(1 : Fin 4)].cfg.v = 0 ∧
       (s.reach 2000004).cap[(1 : Fin 4)].freezeAt = some 2000004) := by
  unfold Admitted; decide +kernel

/-- R317: a stop on the way ends storing in its T_E and not before, with the stopped bit of :0A. -/
theorem test_stop_acts_in_its_te :
    let s := addDue [(2000004, LineDue.stop 1)] (caps { st := .armed })
    (s.reach 2000003).cap[(1 : Fin 4)].st = .armed ∧ (s.reach 2000004).cap[(1 : Fin 4)].st = .done ∧
      (s.reach 2000004).cap[(1 : Fin 4)].status = 0x10 := by decide +kernel

/-- An engine with a spill ring of Pans 5 and 6, in a state, holding records; Pan 5 belongs to it. -/
def spills (st : CapSt) (n : Nat) : State := { caps { st := st, cfg := { spill := true, first := 5, count := 2 }, next := 5, marked := true
                                                      pre := List.replicate n 0 } with
  own := [(0, { owner := .frozen, use := 0xD0 }), (5, { owner := .device, gen := 3, use := 0x12 })] }

theorem witness_capture_port :
    (let s := caps { st := .armed, chain := [1, 2] }
     (s.reach (2 * nextCycle s.now s.cap[(0 : Fin 4)].slotAt)).cap[(0 : Fin 4)].chain = 1 :: [2]) ∧
    (let s := caps { st := .armed, written := [⟨1999999, false, 7, none⟩] }
     let u := (s.reach (2 * nextCycle s.now s.cap[(0 : Fin 4)].slotAt)).updCap 0 (fun c => { c with slotAt := some 1000000 })
     u.cap[(0 : Fin 4)].chain = [] ∧ u.cap[(0 : Fin 4)].written = ⟨1999999, false, 7, none⟩ :: [] ∧
       requesterReady u 0 (u.captureCode 0 (1000000 % 64)) = []) ∧
    (let s := caps { st := .armed, written := [⟨1999992, false, 7, none⟩] }
     (s.reach (2 * nextCycle s.now s.cap[(0 : Fin 4)].slotAt)).cap[(0 : Fin 4)].written = [⟨1999992, false, 7, none⟩] ∧
       1999992 + 8 ≤ (s.reach 2000000).now) ∧
    (caps { st := .armed }).cap[(3 : Fin 4)].written = [] ∧
    (let s := setTo (clIdx 0 5) 0x12 0x1FFFF (caps { st := .armed, written := [⟨1999999, false, 7, none⟩], stamps := [(0, 1)] })
     let u := (s.reach (2 * nextCycle s.now s.cap[(0 : Fin 4)].slotAt)).updCap 0 (fun c => { c with slotAt := some 1000000 })
     u.cap[(0 : Fin 4)].chain = [] ∧ u.now < 1999999 + 8 ∧ u.cap[(0 : Fin 4)].holds 0 = false) ∧
    (spills .draining 255).cap[(2 : Fin 4)].spilling = true ∧
    255 ≤ (spills .draining 255).cap[(2 : Fin 4)].stored - (spills .draining 255).cap[(2 : Fin 4)].drained ∧
    0 < (spills .draining 255).cap[(2 : Fin 4)].next ∧ ((spills .draining 255).flag 5).owner = .device ∧
    ((spills .draining 255).flag 5).use = BitVec.ofNat 8 (0x10 + (2 : Fin 4).val) ∧
    Memory.wf (spills .draining 255).mem = true ∧ (spills .draining 0).cap[(2 : Fin 4)].st = .draining ∧
    (let u := drainPans (spills .draining 0).cap[(2 : Fin 4)].stored 2 (spills .draining 0)
     u.cap[(2 : Fin 4)].stored ≤ u.cap[(2 : Fin 4)].drained) := by decide +kernel

/-- Every edge engine alike. -/
def edgesAs (g : EdgeEngine) : State := { idle with edge := Vector.replicate 64 g }

theorem witness_edges :
    6400000000 / 3200 < 1999997 + 4 ∧ 1999996 + 4 ≤ 6400000000 / 3200 ∧ OutState.low = (edgesAs {}).edge[(0 : Fin 64)].progState ∧
    OutState.high ≠ (edgesAs { prev := some 6399999001 }).edge[(0 : Fin 64)].progState ∧ 6400000000 < 6399999001 + 1000 ∧
    (edgesAs { prev := some 6399999001 }).edge[(0 : Fin 64)].prev = some 6399999001 ∧
    6399999000 + 1000 ≤ 6400000000 ∧ idle.override 63 6400000000 = none ∧
    ({ idle with trip := Vector.replicate 64 { latched := true } }).override 63 6400000000 ≠ none ∧
    (edgesAs { fifo := [.train 6400000000 2 2000 1000 false 1 true none 7] }).edge[(0 : Fin 64)].fifo =
      .train 6400000000 2 2000 1000 false 1 true none 7 :: [] ∧
    (FifoEntry.train 6400000000 2 2000 1000 false 1 true none 7).head = some (6400003000, .low) ∧
    idle.knownTriggers 0 = [] ∧
    (let s := setTo (chIdx 0) 9 1 (setTo (chIdx 0) 1 1 (setTo (chIdx 0) 2 1 { inState .run with
        delay := Vector.replicate 64 { transit := [6400000000], pending := [⟨6399999000, 6400100000, 1, 0, 1000, none⟩] } }))
     (s.knownTriggers 0).any (fun y => (s.restartFrom 0 y).isSome) = true) := by decide +kernel

/-- Channel 3 in delay mode, enabled, its source EXTTRIG 0, in RUN. -/
def delays (d : Delay) : State := setTo (chIdx 3) 1 1 (setTo (chIdx 3) 2 1 (setTo (chIdx 3) 3 0x03000000 { inState .run with
  delay := Vector.replicate 64 d }))

/-- Eight sequences whose edges are all still to come. -/
def eight : List Sequence := List.replicate 8 ⟨6400000000, 6400100000, 1, 0, 1000, none⟩

theorem witness_delay_triggers :
    Admitted (setTo (chIdx 3) 3 0x09000000 idle) (chIdx 3) 0x0B .wo ∧ (setTo (chIdx 3) 3 0x09000000 idle).source 3 / 2 ^ 24 = 9 ∧
    (delays {}).nat (chIdx 3) 1 = 1 ∧ (delays {}).on (chIdx 3) 2 = true ∧ (delays {}).dev.st = .run ∧
    (delays {}).delay[(3 : Fin 64)].lastCycle ≠ some (6400000000 / 3200 / 2) ∧ (delays {}).delay[(3 : Fin 64)].pending = [] ∧
    (delays {}).chDelta 3 0x0A = 0 ∧ (setTo (chIdx 3) 2 0 (delays {})).on (chIdx 3) 2 = false ∧
    (delays { lastCycle := some 1000000 }).delay[(3 : Fin 64)].lastCycle = some (6400000000 / 3200 / 2) ∧
    0 < (setTo (chIdx 3) 0x0A 4096 (delays {})).chDelta 3 0x0A ∧
    6400000000 < 6399996801 + (setTo (chIdx 3) 0x0A 4096 (delays {})).chDelta 3 0x0A ∧
    8 ≤ ((delays { pending := eight }).delay[(3 : Fin 64)].pending.filter (fun q => q.pendingAt 6400000000)).length ∧
    firstTransit (delays { transit := [6400003200, 6400000000] }).delay[(3 : Fin 64)] = some 6400000000 := by
  unfold Admitted; decide +kernel

/-- Every input with a collection of line 1 under way, or in raw mode. -/
def collects (c : LineCal) : State := { idle with sti := Vector.replicate 32 { cal := c } }

/-- Hits that pass, and hits that do not. -/
def goodHits : LineHits := ⟨List.replicate 320 14000 ++ List.replicate 64 0, 0, [], false⟩

theorem witness_sweeps_and_calibration :
    (edgesAs { sweeping := some 1 }).edge[(63 : Fin 64)].sweeping = some 1 ∧ Admitted idle (inIdx 31) 0x12 .wo ∧
    idle.onOrStaged (inIdx 31) 1 = false ∧ idle.sti[(31 : Fin 32)].cal.calState ≠ 5 ∧
    (collects { calState := 1, busy := true }).sti[(31 : Fin 32)].cal.busy = true ∧ (31 : Fin 32).val < 8 * idle.part.clusters ∧
    (collects { calState := 1, busy := true }).sti[(31 : Fin 32)].cal.collected.length = 1 ∧
    (((collects { calState := 1, busy := true }).sti[(31 : Fin 32)].cal.collected.zip [goodHits]).all
      (fun p => lineFault p.2 22 false 0 = 0)) = true ∧
    (((collects { calState := 1, busy := true }).sti[(31 : Fin 32)].cal.collected.zip [⟨List.replicate 384 0, 0, [], false⟩]).all
      (fun p => lineFault p.2 22 false 0 = 0)) = false := by
  unfold Admitted; decide +kernel

/-- Every channel runs the program that begins with an instruction in word 0 of Pan 1, at a cursor; the cluster's frame 0 holds
the Pan. -/
def runs (i : Instr) (cursor : Instant) : State := { inState .run with
  mem := Memory.putAll [] 4096 (((encode i).flatMap (toBytes 8)).map some)
  store := Vector.replicate 4 { frames := [⟨0, 1, 0, true⟩] }
  seq := Vector.replicate 64 { pstate := 2, pc := ⟨1, 0⟩, cursor := cursor, nextIssue := 2000000, regs := Vector.replicate 8 1 } }

/-- An instruction of `n` words issues in that state. -/
def goes (i : Instr) (cursor : Instant) (n : Nat) : Bool :=
  ((runs i cursor).fetch 3 == some (i, n)) && (runs i cursor).ready 3

/-- Cursors behind, in and ahead of the T_E of the issue. -/
abbrev past : Instant := 1999990 * 3200 + 5
abbrev present_ : Instant := 2000000 * 3200 + 5
abbrev ahead : Instant := 2000001 * 3200 + 5

theorem witness_program_words :
    (Instr.burst 63 true .origin true (2 ^ 40 * 3200 - 4001) 2 1000 3000).wellFormed = true ∧
    (Instr.burst 63 true .origin true 0 2 1000 2000).channel = some 63 ∧ (Instr.nop 0).wellFormed = true ∧
    decode 0 0 0 0 = some (.nop 0) ∧ (Instr.waitcond 0 ⟨.mask 1 true, true, true⟩ 1 ⟨2047, 511⟩).wellFormed = true := by decide +kernel

theorem witness_sequencer_instructions :
    goes (.nop 3) past 1 = true ∧ goes (.wait 3 .cursor 6401) past 1 = true ∧ goes (.wait 3 .origin 0) past 1 = true ∧
    goes (.setregLoad 3 7 5) past 1 = true ∧ goes (.setregAdd 3 0 0xFFFFFFFF) past 1 = true ∧ goes (.setregCopy 3 0 7) past 1 = true ∧
    goes (.setregOrigin 3) past 1 = true ∧ goes (.jump 3 ⟨2047, 511⟩) past 1 = true ∧ goes (.loop 3 7 ⟨1, 0⟩) past 1 = true ∧
    (issued (runs (.loop 3 7 ⟨1, 0⟩) past) 3 1).seq[(3 : Fin 64)].regs[(7 : Fin 8)] ≠ 0 ∧
    (issued { runs (.loop 3 7 ⟨1, 0⟩) past with seq := Vector.replicate 64 { pstate := 2, pc := ⟨1, 0⟩ } } 3 1).seq[(3 : Fin 64)].regs[(7 : Fin 8)] = 0 ∧
    goes (.halt 3) past 1 = true ∧ goes (.setregClear 3 0x801) ahead 1 = true ∧
    (runs (.setregClear 3 0x801) ahead).issueAt 3 < (issued (runs (.setregClear 3 0x801) ahead) 3 1).seq[(3 : Fin 64)].cursor / 3200 ∧
    goes (.setregClear 3 0x801) present_ 1 = true ∧
    (let s := runs (.setregClear 3 0x801) present_
     (issued s 3 1).seq[(3 : Fin 64)].cursor / 3200 ≤ s.issueAt 3 ∧
       (issued s 3 1).oldest (s.issueAt 3) ≤ (issued s 3 1).seq[(3 : Fin 64)].cursor / 3200) := by decide +kernel

theorem witness_edge_and_level_instructions :
    goes (.edge 3 .hiz .cursor true 6401) past 1 = true ∧ goes (.pulse 3 true .origin false 0 1000) past 2 = true ∧
    goes (.burst 3 false .cursor true 0 2 1000 2000) past 3 = true ∧
    (runs (.edge 3 .hiz .cursor true 6401) past).edge[(3 : Fin 64)].fifo.length + 2 ≤ 32 ∧
    goes (.level 3 true 0x40000000) past 2 = false ∧ goes (.level 3 true 0x40000000) past 1 = true ∧
    goes (.level 3 false 0) past 1 = true ∧ (runs (.level 3 false 0) past).levelFull 3 = false ∧
    goes (.panhint 3 2047) past 1 = true := by decide +kernel

theorem witness_actions :
    goes (.period 3) past 1 = true ∧ goes (.stamp 3 (.operand 9)) present_ 1 = true ∧ goes (.stamp 3 (.reg 7)) ahead 1 = true ∧
    goes (.gustLocal 3 15) past 1 = true ∧ goes (.gustFabric 3 0) past 1 = true ∧ goes (.signal 3 2 7 true) ahead 1 = true ∧
    (runs (.period 3) ahead).issueAt 3 < (issued (runs (.period 3) ahead) 3 1).seq[(3 : Fin 64)].cursor / 3200 ∧
    (runs (.period 3) present_).issueAt 3 = (issued (runs (.period 3) present_) 3 1).seq[(3 : Fin 64)].cursor / 3200 ∧
    (issued (runs (.period 3) past) 3 1).seq[(3 : Fin 64)].cursor / 3200 < (runs (.period 3) past).issueAt 3 ∧
    firstAction [(ahead, SeqAction.period), (present_, .stamp 1)] = some (present_, .stamp 1) ∧
    (let s : State := { idle with od := [(odKey (clIdx 0 2) 1, .bytes (List.replicate 64 3))] }
     s.ownsCapture (clusterOf 3) ((3 : Fin 64).val % 16) = true ∧
       (s.cap[clusterOf 3].stamps.filter (fun p => p.1 = (3 : Fin 64).val % 16)).length < 4) := by decide +kernel

/-- A sequencer that waits. -/
def waiting (w : SeqWait) (cursor : Instant) : State := { inState .run with
  seq := Vector.replicate 64 { pstate := 3, wait := w, cursor := cursor } }

/-- The condition that bit 1 is clear, met in every T_E here, and that it is set, never met. -/
abbrev met : Cond := ⟨.bit 1, true, false⟩
abbrev unmet : Cond := ⟨.bit 1, false, false⟩

theorem witness_waits :
    goes (.syncTide 3 1048575) past 1 = true ∧ goes (.syncFront 3 1) past 1 = true ∧ goes (.syncGust 3 0x8000) past 1 = true ∧
    goes (.syncTrigger 3) past 1 = true ∧ goes (.waitcond 3 met 6400 ⟨1, 0⟩) present_ 2 = true ∧
    (issued (runs (.waitcond 3 met 6400 ⟨1, 0⟩) present_) 3 2).oldest 2000000 ≤
      (issued (runs (.waitcond 3 met 6400 ⟨1, 0⟩) present_) 3 2).seq[(3 : Fin 64)].cursor / 3200 ∧
    goes (.branch 3 met ⟨1, 0⟩) ahead 1 = true ∧ (runs (.branch 3 met ⟨1, 0⟩) ahead).issueAt 3 < ahead / 3200 ∧
    goes (.branch 3 unmet ⟨1, 0⟩) present_ 1 = true ∧ present_ / 3200 ≤ (runs (.branch 3 unmet ⟨1, 0⟩) present_).issueAt 3 ∧
    met.consume = false ∧ (waiting (.branch met ⟨1, 0⟩) present_).seq[(3 : Fin 64)].wait = .branch met ⟨1, 0⟩ ∧
    (((waiting (.branch met ⟨1, 0⟩) present_).reach (present_ / 3200)).updSeq 3 (fun q => { q with pstate := 2, wait := .none })).oldest
      (present_ / 3200) ≤ present_ / 3200 ∧
    (waiting .none 0).dev.st ≠ .hold ∧ condHolds met (snapshot idle 3 2000000) = true ∧ condHolds unmet (snapshot idle 3 2000000) = false ∧
    firstMet (waiting (.cond met 1999998 6400 present_ ⟨1, 0⟩) past).settle 3 met 1999998 (timeoutAt present_ 6400) = some 1999998 ∧
    timeoutAt present_ 6400 = some 6400006405 ∧
    firstMet ((waiting (.cond unmet 2000000 6400 present_ ⟨1, 0⟩) present_).reach (6400006405 / 3200)) 3 unmet 2000000
      (some 6400006405) = none ∧
    syncEvent (waiting (.tide 1) 0) 3 ≠ none ∧
    syncEvent { waiting .trigger 0 with seq := Vector.replicate 64 { pstate := 3, wait := .trigger, trigQ := [present_] } } 3 ≠ none := by
  decide +kernel

/-- Every cluster's pager alike. -/
def stores (u : Store) : State := { inState .run with store := Vector.replicate 4 u }

theorem witness_hints_and_pins :
    (stores { hints := [⟨5, 0, 3, 0, false⟩] }).store[(0 : Fin 4)].hints = ⟨5, 0, 3, 0, false⟩ :: [] ∧
    ((stores { hints := [⟨5, 0, 3, 0, false⟩] }).slotFor 0 5).isSome = true ∧
    ((stores { hints := [⟨5, 0, 3, 0, false⟩] }).freeSlot 0).isSome = true ∧
    ((stores { hints := [⟨5, 0, 3, 0, false⟩], frames := [⟨0, 5, 0, true⟩] }).frameOf 0 5).isSome = true ∧
    (∀ f ∈ (stores { work := [⟨5, 0, 3, 0, false⟩] }).store[(0 : Fin 4)].work, f.repair = false) ∧
    { idle with seq := Vector.replicate 64 { loading := some rq } }.seq[(63 : Fin 64)].loading = some rq := by decide +kernel

/-- The copy of word 0 of Pan 1 in frame 0 of every cluster is poisoned. -/
def misses : State := { runs (.nop 3) past with
  health := { poisoned := (List.range 4).flatMap (fun cl => (frameWords ⟨cl % 4, by omega⟩ 0 0)) } }

theorem witness_misses_and_repairs :
    misses.missAt 3 = some ⟨1, 0⟩ ∧ misses.ready 3 = true ∧ misses.nat (chIdx 3) 0x1E = 0 ∧
    (setTo (chIdx 3) 0x1E 1 misses).missAt 3 = some ⟨1, 0⟩ ∧ (setTo (chIdx 3) 0x1E 1 misses).nat (chIdx 3) 0x1E ≠ 0 ∧
    { idle with seq := Vector.replicate 64 { parkAt := some present_ } }.seq[(3 : Fin 64)].parkAt = some present_ ∧
    (stores { work := [⟨5, 0, 3, 0, false⟩, ⟨6, 0, 3, 0, true⟩] }).store[(3 : Fin 4)].work =
      [⟨5, 0, 3, 0, false⟩] ++ ⟨6, 0, 3, 0, true⟩ :: [] ∧ clusterOf 47 ≠ 3 ∧
    (waiting (.repair ⟨1, 0⟩ 7) past).seq[(3 : Fin 64)].wait = .repair ⟨1, 0⟩ 7 ∧
    (waiting (.repair ⟨1, 0⟩ 7) past).salternBad ⟨1, 0⟩ = false ∧
    { waiting (.repair ⟨1, 0⟩ 7) past with health := { poisoned := [salternWord 1025] } }.salternBad ⟨1, 0⟩ = true := by decide +kernel

/-- Channel 3 in program mode with its entry point at word 0 of Pan 1, which holds an instruction and a HALT. -/
def loads (i : Instr) (owner : Owner) : State := setTo (chIdx 3) 1 2 (setTo (seqIdx 3) 1 512 { idle with
  mem := Memory.putAll [] 4096 (((encode i ++ [0xFC00000000000000]).flatMap (toBytes 8)).map some)
  own := [(0, { owner := .frozen, use := 0xD0 }), (1, { owner := owner, use := 1 })]
  store := Vector.replicate 4 { check := some ⟨3, ⟨1, 0⟩, rq, []⟩ } })

theorem witness_sluice :
    Admitted (loads (.nop 3) .host) (seqIdx 3) 2 .wo ∧ (loads (.nop 3) .host).onOrStaged (chIdx 3) 2 = false ∧
    (loads (.nop 3) .host).nat (chIdx 3) 1 = 2 ∧
    { loads (.nop 3) .host with store := Vector.replicate 4 {} }.store[clusterOf 3].check = none ∧
    (walkFrom (loads (.nop 3) .host) 3 512).pans = [1] ∧ ((loads (.nop 3) .host).flag 1).owner = .host ∧
    (loads (.nop 3) .device).store[(0 : Fin 4)].check = some ⟨3, ⟨1, 0⟩, rq, []⟩ ∧ clusterOf 3 = 0 ∧
    (walkFrom (loads (.nop 3) .device) 3 512).bad = none ∧
    (match admissionOf (loads (.nop 3) .device) 3 512 [1] (walkFrom (loads (.nop 3) .device) 3 512) with | .ok a => a.set | .error _ => []) = [1] ∧
    (match admissionOf (loads (.nop 3) .frozen) 3 512 [] (walkFrom (loads (.nop 3) .frozen) 3 512) with | .ok _ => 0 | .error e => e.1) = 6 ∧
    (walkFrom { loads (.nop 3) .device with mem := [(4103, 0xF8)] } 3 512).bad = some 512 := by
  unfold Admitted; decide +kernel

/-- Egress entry 0 of every cluster is a channel's or a sender's, whose queue holds an item. -/
def egress (code : Byte) : State := { idle with
  od := (List.range 4).map (fun cl => (odKey (clIdx cl 2) 3, .bytes (List.replicate 8 code)))
  gustq := Vector.replicate 64 { items := [.gust 1 2 3] }, sender := Vector.replicate 32 { items := [.code 7 2000000 3] } }

theorem witness_slots :
    (let s := egress 15
     field (s.od.bytes (clIdx 3 2) 3) (nextEgress 3 s.now s.store[(3 : Fin 4)].egressAt % 256 / 32) 1 = 15 ∧
       s.gustq[(63 : Fin 64)].items = .gust 1 2 3 :: [] ∧ (63 : Fin 64).val = 16 * (3 : Fin 4).val + 15) ∧
    (let s := egress 16
     field (s.od.bytes (clIdx 0 2) 3) (nextEgress 0 s.now s.store[(0 : Fin 4)].egressAt % 256 / 32) 1 = 16 ∧
       (s.reach (nextEgress 0 s.now s.store[(0 : Fin 4)].egressAt)).sender[(0 : Fin 32)].items = .code 7 2000000 3 :: []) ∧
    (let s := setTo (grpIdx 1) 0x13 1 (setTo (grpIdx 1) 0x12 2 { idle with
        sti := Vector.replicate 32 { fifo := [.interval 1 0 5 false 6400000000 0 false true true] }
        stat := Vector.replicate 32 { opened := true } })
     s.sti[(2 : Fin 32)].fifo = .interval 1 0 5 false 6400000000 0 false true true :: [] ∧ s.stat[(1 : Fin 32)].opened = true ∧
       bit (s.nat (grpIdx 1) 0x13) 0 = true ∧ s.stat[(1 : Fin 32)].taken + 1 < s.nat (grpIdx 1) 0x12) := by decide +kernel

/-- Every input in service and open for both slopes, alike. -/
def inputs (u : StampInput) : State := { idle with sti := Vector.replicate 32 { u with gate := [(0, some 2)] } }

/-- The taps of a crossing. -/
abbrev taps : List (Option (Fin 384)) := [some 10, some 11, none, some 383]

theorem witness_sti_edge :
    ((31 : Fin 32).val < 8 * (inputs {}).part.clusters ∧ (inputs {}).time.running = true ∧
      (inputs {}).sti[(31 : Fin 32)].cal.calState ≠ 5 ∧ (stampAt 31 taps (inputs {}).settle).1 / 3200 ≤ (inputs {}).now) ∧
    (inputs {}).now < (stampAt 31 [some 0, some 0, some 0, some 0]
      (inputs { cal := { table := some (List.replicate 3072 0) } }).settle).1 / 3200 ∧
    (inputs { cal := { calState := 5 } }).sti[(31 : Fin 32)].cal.calState = 5 ∧ idle.gateOpen 31 true 2000000 = false ∧
    (let s := inputs { blankUntil := 2000001, dead := 2000002 * 3200 }
     s.gateOpen 31 true 2000000 = true ∧ s.gateOpen 31 false 2000002 = true ∧ s.sti[(31 : Fin 32)].cal.calState ≠ 5 ∧
       2000001 * 3200 - 1 < s.sti[(31 : Fin 32)].blankUntil * 3200 ∧
       (s.sti[(31 : Fin 32)].blankUntil * 3200 ≤ 2000001 * 3200 ∧ 2000001 * 3200 < s.sti[(31 : Fin 32)].dead) ∧
       (s.sti[(31 : Fin 32)].blankUntil * 3200 ≤ 2000002 * 3200 ∧ s.sti[(31 : Fin 32)].dead ≤ 2000002 * 3200)) := by
  decide +kernel

/-- A window of group 1 that closed with its one stop missing. -/
def missedStop : Measurement := ⟨6399000000, 0, 0, 0, false, 0, 1, 1, 6399000000, 6399993600, true, []⟩

theorem witness_measurement_timeout_and_restart :
    idle.settle.grp[(0 : Fin 32)].nextClose = none ∧
    (let s : State := { idle with grp := Vector.replicate 32 { closing := [missedStop] } }
     let u := s.reach (missedStop.close / 3200 + 2 - 1)
     s.settle.grp[(1 : Fin 32)].closing = missedStop :: [] ∧ u.grp[(1 : Fin 32)].closing = missedStop :: [] ∧
       u.grp[(1 : Fin 32)].openM = none ∧ 0 ∈ missedStop.expected ∧ 0 ∉ missedStop.taken) ∧
    Admitted (setTo (grpIdx 31) 0x10 1 idle) (grpIdx 31) 0x14 .wo ∧
    (setTo (grpIdx 31) 0x10 1 idle).staged.nat (grpIdx 31) 0x10 ≠ 0 ∧
    (setTo (grpIdx 31) 0x10 1 idle).commits.size (setTo (grpIdx 31) 0x10 1 idle).nextTide < 512 ∧
    512 ≤ ({ restart := List.replicate 512 (0, usableBoundary idle.now) } : Commits).size idle.nextTide := by unfold Admitted; decide +kernel

/-- Pan 5 with a flag. -/
def panFive (f : PanFlag) : State := { idle with
  own := [(0, { owner := .frozen, use := 0xD0 }), (5, f)], od := Settings.set [] 0x7001 1 (.num 5) }

theorem witness_flags :
    idle.judgeFlag 5 0x05 = .accepted { owner := .host, gen := 1 } ∧ (panFive { owner := .host, gen := 63 }).judgeFlag 5 0 = .accepted {} ∧
    (spills .armed 0).judgeFlag 5 0x11 = .violates 2 ∧ (0x11 : Byte) ≠ ((spills .armed 0).flag 5).byte ∧
    (match ({ spills .armed 0 with own := [(0, { owner := .frozen, use := 0xD0 }), (6, { owner := .host, gen := 3 })] }).judgeFlag 6 0x12 with
      | .accepted f => f.owner == .device | _ => false) = true ∧
    Admitted idle 0x7001 3 .wo ∧ (5 : BitVec 11) ≠ 0 ∧ assocSorted idle.own = true ∧ idle.judgeFlag 5 0 = .unchanged ∧
    idle.judgeFlag 2047 0x01 = .violates 3 := by unfold Admitted; decide +kernel

theorem witness_host_data :
    131071 < 131072 ∧ State.reset.pcieOpen = false ∧ idle.pcieOpen = true ∧ idle.hostWritable (64 / 64) = true ∧
    (panFive { owner := .host }).hostWritable (383 / 64) = true ∧ (List.replicate 64 (some (1 : Byte))).length = 64 ∧
    Memory.wf idle.mem = true ∧ idle.health.poisoned = [] ∧ (panFive { owner := .device }).hostWritable (320 / 64) = false ∧
    (∃ b ∈ [none, some (1 : Byte)], b.isSome = true) ∧ 0 < (panFive {}).nat 0x7001 1 ∧ (panFive {}).nat 0x7001 1 < 2048 ∧
    Admitted (panFive {}) 0x7001 2 .rw ∧ (List.replicate 4096 (1 : Byte)).length = 4096 ∧ (panFive {}).hostWritable 5 = true := by
  refine ⟨by decide, by decide, by decide, by decide +kernel, by decide +kernel, rfl, by decide, rfl, by decide +kernel,
    by decide, by decide +kernel, by decide +kernel, by unfold Admitted; decide +kernel, List.length_replicate, by decide +kernel⟩

theorem witness_thaw :
    (panFive {}).nat 0x7001 1 < 2048 ∧ Memory.wf (panFive {}).mem = true ∧ Admitted (panFive {}) 0x7001 4 .wo ∧
    ((panFive { owner := .frozen, use := 0xF0 }).flag 5).owner = .frozen ∧ (panFive { owner := .frozen }).heldByProgram 5 = false ∧
    ((panFive { owner := .host }).flag 5).owner ≠ .frozen ∧ (setTo 0x7001 1 0 idle).nat 0x7001 1 = 0 ∧
    { panFive { owner := .frozen } with seq := Vector.replicate 64 { panSet := [5] } }.heldByProgram 5 = true ∧
    (panFive {}).dev.st ≠ .boot := by unfold Admitted; decide +kernel

theorem witness_saltern_transfer :
    (let s := panFive { owner := .host }
     s.dev.st ≠ .boot ∧ s.dev.st ≠ .load ∧ 5 + 1 ≤ 2048 ∧ (0x6001 : W16) ≠ 0x1302 ∧
       s.allHost ((List.range ((4096 + 4095) / 4096)).map (5 + ·)) = true ∧ s.health.errs = [] ∧ s.health.poisoned = [] ∧
       s.parity = [] ∧ Memory.wf s.mem = true) ∧
    (match odEntry idle.part 0x6001 2 with | some e => e.type.isDomain | none => false) = true ∧
    (match (panFive { owner := .host }).readable rq 0x6001 2 false 4096 with | .ok (e, v) => e.type.isDomain && v.length ≤ 4096 | .error _ => false) = true := by
  decide +kernel

theorem witness_memory_laws :
    Memory.wf [(4096, 1), (8388607, 2)] = true ∧ 4096 ≤ 8388607 ∧ 8388607 < 8388608 ∧ Owner.host ≠ .free ∧
    ((panFive { owner := .host }).flag 5).owner ≠ .device := by decide +kernel

/-- A step from a state with something in memory. -/
theorem witness_memory_form_kept :
    Memory.wf { idle with mem := [(4096, 1)], pending := [.evrProd] }.mem = true ∧
    ∃ t, StepsOn { idle with mem := [(4096, 1)], pending := [.evrProd] } t := ⟨by decide, ⟨_, rfl⟩⟩

/-- Ten records in the ring. -/
def ring10 : State := { idle with ring := { on := true, prod := 5, cons := 0xFFFFFFFB } }

theorem witness_pci_express :
    idle.pcieOpen = true ∧ idle.health.errs = [] ∧ idle.isPoisoned (salternWord (8388604 / 4)) = false ∧
    ((5 : W32) - (takePending ring10).ring.cons).toNat ≤ ((takePending ring10).ring.prod - (takePending ring10).ring.cons).toNat ∧
    ((takePending ring10).ring.prod - (takePending ring10).ring.cons).toNat < ((6 : W32) - (takePending ring10).ring.cons).toNat ∧
    idle.boot.power = .running := by decide +kernel

theorem witness_batches :
    ({ idle with merger := { ended := [⟨1, 2000000, [⟨6399999999, 498, 7, 0, false⟩], []⟩] } }).merger.ended ≠ [] ∧
    ({ ring10 with merger := { closed := [⟨1, [⟨6399999999, 498, 7, 0, false⟩], 6⟩] } }).merger.closed =
      ⟨1, [⟨6399999999, 498, 7, 0, false⟩], 6⟩ :: [] ∧ ring10.ring.on = true ∧ idle.ring.on = false := by decide +kernel

/-- The root of a fabric with a lead. -/
def root : State := setTo 0x6400 1 2000 (setTo 0x6000 1 1 { idle with fab := { state := 3, nodeId := 0, frontFresh := false, frontSeq := 7 } })

theorem witness_fronts :
    Admitted root 0x6400 2 .wo ∧ (0x8000 : W16) ≠ 0 ∧ root.fab.state = 3 ∧ 120 * root.fab.maxDepth.toNat + 16 ≤ root.nat 0x6400 1 ∧
    earliest [(FrontItem.mk 8 1 300 0 true, 2000016), (FrontItem.mk 9 1 300 0 true, 2000017)] = some (FrontItem.mk 8 1 300 0 true, 2000016) ∧
    newer 8 8 root.fab.frontSeq.toNat = true ∧
    (let s : State := { idle with fab := { state := 2, frontFresh := false, frontSeq := 7, frontWait := [(FrontItem.mk 7 1 300 0 true, 2000016)] } }
     ¬ (s.fab.state = 3 ∨ s.fab.frontFresh = true ∨ newer 8 7 s.fab.frontSeq.toNat = true)) := by unfold Admitted; decide +kernel

/-- Every group alike. -/
def groups (g : ArmGroup) : State := { idle with armg := Vector.replicate 16 g }

theorem witness_gusts_and_codes :
    (groups { armed := true, cand := some (6400000000, 3), latency := 300 }).armg[(15 : Fin 16)].cand = some (6400000000, 3) ∧
    (groups { armed := true, seq := 7 }).staleGust 0 8 = true ∧ (groups { armed := true, seq := 7 }).staleGust 0 7 = false ∧
    (groups { seq := 7 }).armg[(15 : Fin 16)].executed = false ∧ (groups { seq := 7 }).armg[(15 : Fin 16)].armed = false ∧
    (groups { armed := true, seq := 7 }).armg[(15 : Fin 16)].executed = false ∧
    idle.nowAt + 51200 ≤ 6399999000 + 300 * 3200 ∧ keyLess (6399999000, 4) (6399999001, 3) = true ∧
    earliest [((7 : W16), 2000001), (8, 2000000)] = some (8, 2000000) ∧ (3 : Fin 4).val < idle.part.clusters ∧
    matcherMeets ((setTo (clIdx 3 9) 4 0xFFFF0008 idle).nat (clIdx 3 9) 4) 8 = true ∧
    matcherMeets ((setTo (clIdx 3 9) 4 0xFFFF0008 idle).nat (clIdx 3 9) 4) 9 = false := by decide +kernel

/-- Every port alike. -/
def portsAs (p : Port) : State := { idle with port := Vector.replicate 8 p, csu := { idle.csu with act := { src := 1 } }
                                              fab := { state := 2, nodeId := 9 } }

/-- A HELLO. -/
def helloOf (up seen good : Bool) : HelloItem := ⟨5, up, seen, 2, 3, 1, 70, good⟩

theorem witness_ports :
    (7 : Fin 8).val < 2 * idle.part.clusters ∧ (portsAs { st := .up }).port[(7 : Fin 8)].st.active = true ∧
    (portsAs { st := .hello }).port[(0 : Fin 8)].st = .hello ∧ (helloOf true true false).crcOk = false ∧
    (portsAs { st := .hello }).isUp 0 ≠ (helloOf false true true).upstream ∧
    (portsAs { st := .hello }).isUp 7 ≠ (helloOf true false true).upstream ∧
    (portsAs { st := .hello }).isUp 7 = (helloOf false true true).upstream ∧
    (∃ i : GustItem, Instr.gust 3 ⟨7, 15, 3, 0, 3199, false⟩ = .gust 3 i ∧ i.crcOk = false) :=
  ⟨by decide, by decide +kernel, by decide +kernel, rfl, by decide +kernel, by decide +kernel, by decide +kernel,
    ⟨⟨7, 15, 3, 0, 3199, false⟩, rfl, rfl⟩⟩

theorem witness_time_and_fabric_items :
    (portsAs { st := .up }).port[(7 : Fin 8)].st = .up ∧ (portsAs { st := .up }).isUp 7 = false ∧ (portsAs { st := .up }).isUp 0 = true ∧
    { portsAs { st := .up } with fab := { setPending := true } }.fab.setPending = true ∧
    idle.now ≤ expandTE idle.now 20 (2000000 % 2 ^ 20) ∧
    (2 ≤ (2 : BitVec 4).toNat ∧ (portsAs { st := .up }).inTree = true ∧ 7 ∈ (portsAs { st := .up }).upPorts ∧ (7 : Fin 8) ≠ 0) ∧
    (portsAs { st := .up, lastFront := some ⟨7, 1, 300, 5, true⟩ }).port[(0 : Fin 8)].lastFront = some ⟨7, 1, 300, 5, true⟩ ∧
    (portsAs { st := .up }).port[(0 : Fin 8)].lastFront ≠ some ⟨7, 1, 300, 5, true⟩ ∧
    idle.now + 16 ≤ expandTE idle.now 32 2000016 ∧
    (portsAs { st := .up }).port[(7 : Fin 8)].lastGust ≠ some ⟨7, 15, 3, 0, 3199, true⟩ := by decide +kernel

/-- The root with its ports up and two nodes, node 6 behind node 5. -/
def tree : State := { root with
  port := Vector.replicate 8 { st := .up, behind := [5, 6] }
  fab := { root.fab with roster := [⟨5, 50, [1]⟩, ⟨6, 60, [1, 2]⟩], leases := [⟨7, 70, 9⟩] } }

theorem witness_joining_and_leaving :
    tree.port[(1 : Fin 8)].st = .up ∧ tree.isUp 1 = false ∧ tree.fab.state = 3 ∧
    (portsAs { st := .up }).isUp 0 = true ∧ { portsAs {} with fab := { state := 1 } }.upstream = some 0 ∧
    (JoinItem.mk [] Config.uniqueId 5 1 true).uid = Config.uniqueId ∧
    tree.fab.leases.find? (fun l => l.node = 7) = some ⟨7, 70, 9⟩ ∧ (portsAs { st := .up }).fab.state ≠ 0 ∧
    tree.fab.roster.find? (fun m => m.node = 5) = some ⟨5, 50, [1]⟩ ∧ ⟨6, 60, [1, 2]⟩ ∈ membersBehind tree.fab.roster [1] 2 :=
  ⟨by decide +kernel, by decide +kernel, by decide +kernel, by decide +kernel, by decide +kernel, rfl, by decide +kernel,
    by decide +kernel, by decide +kernel, by decide +kernel⟩

/-- The root gives ID 1 to a node whose identifier is not its own. -/
theorem witness_join_answer : root.joinAnswer ⟨[], Config.uniqueId + 1, 0, 0, true⟩ = .inl 1 := by
  have h1 : root.pinned = [] := by decide +kernel
  have h2 : root.fab.leases = [] := rfl
  have h3 : ((List.range 16383).map (· + 1)).find? (root.idFree []) = some 1 := by decide +kernel
  have h4 : root.fab.roster = [] := rfl
  simp only [State.joinAnswer, State.idFor, h1, h2, h3, h4, List.find?_nil, List.any_nil]
  simp

/-- A node in the tree with Pans 5 and 6 of an owner and use. -/
def pansOf (o : Owner) (use : Byte) : State := { portsAs { st := .up } with
  own := [(0, { owner := .frozen, use := 0xD0 }), (5, { owner := o, use := use }), (6, { owner := o, use := use })] }

/-- With a window open over both. -/
def window : State := { pansOf .device 0x22 with
  fab := { state := 2, nodeId := 9, windowOn := true, windowHeld := [5, 6], winFirst := 5, winCount := 2 } }

theorem witness_bulk_and_tunnel :
    Admitted (pansOf .host 0) 0x6300 1 .wo ∧ (pansOf .host 0).inTree = true ∧ (pansOf .host 0).fab.sendSt ≠ 1 ∧
    (pansOf .host 0).allHost ((List.range 2).map (5 + ·)) = true ∧ (pansOf .host 0).isMine 16383 = false ∧
    ((pansOf .host 0).routeTo 16383).isSome = true ∧ Admitted (pansOf .host 0) 0x6300 6 .rwh ∧
    (setTo 0x6300 4 5 (setTo 0x6300 5 2 (pansOf .host 0))).fab.windowOn = false ∧
    (setTo 0x6300 4 5 (setTo 0x6300 5 2 (pansOf .host 0))).allHost ((List.range 2).map (5 + ·)) = true ∧
    (setTo 0x6300 4 5 (setTo 0x6300 5 2 (pansOf .host 0))).nat 0x6300 4 = 5 ∧
    window.port[(0 : Fin 8)].st = .up ∧ window.isMine 9 = true ∧ window.windowTakes 1 = true ∧ window.windowTakes 2 = false ∧
    Memory.wf window.mem = true ∧
    (let s : State := { pansOf .device 0x21 with fab := { state := 2, nodeId := 9, sendReq := some (8, 5, 2, 2046) } }
     s.fab.sendReq = some (8, 5, 2, 2046) ∧ 2046 ≤ (2047 : BitVec 11).toNat ∧ (2047 : BitVec 11).toNat < 2046 + 2 ∧
       (s.fab.sent + 1).toNat ≠ 2) ∧
    State.reset.inTree = false ∧ (portsAs { st := .up }).routeTo 8 = some 0 ∧ (0 : Fin 8) ≠ 7 ∧
    (decodeMsg (encodeMsg (msg 1 [0, 0, 0]))).response = false := by unfold Admitted; decide +kernel

/-- A value passes every check of an object's class (R399). -/
def passes (s : State) (idx sub : Nat) (v : List Byte) (acc : Access) : Bool :=
  s.exists_ idx sub == none && match odEntry s.part idx sub with
    | some e => e.acc == acc && lengthOk idx sub e.type v && s.inRange idx sub e v && (rowWrite rq idx sub v).isNone &&
        e.acc.permits s.dev.st && unitOk s idx sub (ofBytes v) && depState s idx sub (ofBytes v)
    | none => false

/-- What an RWT entry must meet in a set, for a held set or the next one. -/
def joins (s : State) (before : List SetEntry) (entry : SetEntry) (hold : Bool) : Bool :=
  let d := s.commits.add s.nextTide (before ++ [entry])
  entryOk411 (Commits.overlay s.od (d.upTo s.nextTide)) entry && d.okFrom s.od (s.nextTide + 1) && s.roomFor rq hold entry

/-- An entry for a channel's delay. -/
def delayEntry : SetEntry := { key := odKey (chIdx 63) 4, value := .num 5, by_ := rq }

theorem witness_object_access :
    passes idle 0x7001 1 [5, 0] .rw = true ∧ depOk (idle.staged.set 0x7001 1 (.num 5)) 0x7001 1 = true ∧
    passes idle 0x2000 1 [1] .rwi = true ∧ depOk (idle.staged.set 0x2000 1 (.num 1)) 0x2000 1 = true ∧
    passes idle 0x6300 4 [5, 0] .rwh = true ∧ depOk (idle.staged.set 0x6300 4 (.num 5)) 0x6300 4 = true ∧
    passes idle (chIdx 63) 4 [5, 0, 0, 0, 0, 0, 0, 0] .rwt = true ∧ joins idle [] delayEntry false = true ∧
    joins idle [] delayEntry true = true ∧ joins idle [delayEntry] delayEntry true = true ∧
    idle.exists_ 0x1FFF 0 = some 0x01010000 ∧ idle.exists_ 0x7001 0xEE = some 0x01020000 ∧ passes idle 0x7001 1 [5] .rw = false ∧
    (match odEntry idle.part 0x7000 6 with | some e => e.acc | none => .rw) = .ro ∧
    (match odEntry idle.part 0x7001 1 with | some e => lengthOk 0x7001 1 e.type [5] | none => true) = false ∧
    (match odEntry idle.part 0x7001 1 with | some e => idle.inRange 0x7001 1 e [0, 8] | none => true) = false ∧
    Access.rwi.permits DevState.run = false := by decide +kernel

theorem witness_ztime_read :
    idle.dev.st ≠ .boot ∧ idle.dev.st ≠ .load ∧ idle.parity = [] ∧
    (odEntry .zt6432 0x2200 2).map (·.type) = some .u32 ∧ (odEntry .zt6432 0x2201 1).map (·.type) = some .u64 ∧
    (∀ x ∈ idle.time.latched, x.1 ≠ .spi) := by decide +kernel

/-- A READ of 0x1000:00's address, and a message with a payload of `n` bytes. -/
def readMsg : KppMsg := { msg 1 [0x00, 0x10, 0x00, 0] with length := 4 }

/-- A response to it remembered until 1 s has run. -/
def remembers : State := { idle with
  time := { idle.time with count := 1252000000 }
  kpp := { memory := [⟨requesterOf rq readMsg, 7, 1, { status := 0, tide := 0, payload := [] }, false, 2000000⟩] } }

theorem witness_kpp_requests :
    Arrives idle rq readMsg 1 ∧ idle.remembered (requesterOf rq readMsg) readMsg = none ∧
    (remembers.remembered (requesterOf rq readMsg) readMsg).isSome = true ∧
    Arrives idle rq (msg 2 [0, 0, 0, 0, 1]) 2 ∧ Arrives idle rq (msg 3 [0, 0, 0, 0, 0, 0, 0, 0]) 3 ∧
    Arrives idle rq (msg 4 [0, 0, 0, 0, 0, 0, 0, 0, 2, 0, 0, 0, 1]) 4 ∧ Arrives idle rq (msg 5 (List.replicate 64 1 ++ [3, 0, 0, 0])) 5 ∧
    Arrives idle rq (msg 7 (List.replicate 8 0)) 7 ∧ Arrives idle rq (msg 8 (List.replicate 8 0)) 8 := by
  unfold Arrives; decide +kernel

/-- A segmented write under way, or none. -/
def writing : State := { idle with kpp := { writeSegs := [⟨rq, odKey 0x6001 2, 30, List.replicate 10 1, false, 1⟩] } }

/-- Eight subscriptions, of others. -/
def subscribed : State := { idle with kpp := { subs := (List.range 8).map (fun k => { by_ := ⟨.ethernet, k, 1⟩, mask := 1, empty := false, renewed := 0 }) } }

/-- A held set with one entry. -/
def holding : State := { idle with commits := { held := [{ by_ := rq, entries := [delayEntry], touched := 5 }] } }

theorem witness_kpp_effects :
    (match idle.readable rq 0x7000 6 false 1396 with | .ok _ => true | .error _ => false) = true ∧
    (match idle.readable rq 0x7001 3 false 1396 with | .ok _ => 0 | .error c => c) = 0x02020000 ∧
    ((KppMsg.address (msg 2 [1, 0x70, 1, 0, 5, 0])) = (0x7001, 1) ∧ ∀ ch : Fin 64, (0x7001, 1) ≠ (seqIdx ch.val, 2)) ∧
    (let m := msg 4 ([1, 0x60, 2, 0, 10, 0, 0, 0, 30, 0, 0, 0] ++ List.replicate 19 1)
     field m.payload 4 4 = 10 ∧ field m.payload 8 4 = 30 ∧ KppMsg.address m = (0x6001, 2) ∧ m.lastSeg = false ∧
       10 + (m.payload.drop 12).length < 30 ∧
       writing.kpp.writeSegs.find? (fun y => y.by_ = rq) = some ⟨rq, odKey 0x6001 2, 30, List.replicate 10 1, false, 1⟩ ∧
       idle.kpp.writeSegs.find? (fun y => y.by_ = rq) = none) ∧
    (match idle.readable rq 0x6001 2 false 65536 with | .ok _ => true | .error _ => false) = true ∧
    (let m := msg 5 (List.replicate 64 1 ++ [0, 0, 0, 0])
     BitVec.ofNat 512 (field m.payload 0 64) ≠ 0 ∧ bit (field m.payload 64 1) 1 = false ∧ idle.subAt rq = none ∧
       idle.kpp.subs.length < 8 ∧ subscribed.subAt rq = none ∧ 8 ≤ subscribed.kpp.subs.length) ∧
    (holding.heldSet rq = some { by_ := rq, entries := [delayEntry], touched := 5 } ∧
      holding.commitFault holding.nextTide [{ delayEntry with committed := true }] = none) ∧
    field (msg 8 (List.replicate 8 0)).payload 0 8 = 0 := by decide +kernel

theorem witness_lapses_mailbox_spi_lane :
    (subscribed.kpp.subs.find? (fun u => u.by_ = ⟨.ethernet, 7, 1⟩)).isSome = true ∧ (holding.heldSet rq).isSome = true ∧
    (writing.kpp.writeSegs.find? (fun y => y.by_ = rq)).isSome = true ∧
    ({ idle with kpp := { readSegs := writing.kpp.writeSegs } } : State).kpp.readSegs.any (fun y => y.by_ = rq) = true ∧
    (({ idle with fab := { outstanding := [(1, 7, rq, 9)] } } : State).fab.outstanding.find? (fun y => y.1 = 1 && y.2.1 = 7)) = some (1, 7, rq, 9) ∧
    idle.pcieOpen = true ∧ { idle with host := { mbxBusy := true } }.host.mbxBusy = true ∧ idle.host.mbxReady = false ∧
    (20 : W32).toNat = 16 + (decodeMsg (slice (encodeMsg readMsg) 0 (min 20 2048))).length.toNat ∧ (15 : W32).toNat < 16 ∧
    2048 < (2049 : W32).toNat ∧ (21 : W32).toNat ≠ 16 + (decodeMsg (slice (encodeMsg readMsg) 0 (min 21 2048))).length.toNat ∧
    (encodeMsg readMsg).length = 16 + (decodeMsg (encodeMsg readMsg)).length.toNat ∧ idle.spi.busy = false ∧ idle.spi.ready = false ∧
    idle.eth.linkUp ≠ true ∧
    (let s := setTo 0x1100 2 1 { idle with eth := { linkUp := true } }
     s.nat 0x1100 2 = 1 ∧ s.eth.linkUp = true ∧ s.dev.st ≠ .boot ∧ s.eth.lease ≠ some 0xC0A80005) ∧
    (let s := setTo 0x1100 2 1 { idle with eth := { linkUp := true, lease := some 0xC0A80005 } }
     s.lanOpen = true ∧ (0xC0A80005 : W32).toNat = s.address) ∧ idle.boot.power ≠ .unpowered := by decide +kernel

/-- A LOCKED CSU without a hold value, before an unlock. -/
def unheld : State := setTo 0x2001 3 1000 (setTo 0x2001 4 4 { idle with csu := { st := .locked, present := true, run := 3 } })

/-- The hypotheses of the completion statements that no other witness meets. -/
theorem witness_completions :
    (unheld.csu.st = .locked ∧ unheld.csu.align = none ∧ unheld.csu.hold.fromLocked = none ∧
      80 * unheld.nat 0x2001 3 < (80001 : Int).natAbs ∧ unheld.nat 0x2001 4 ≤ unheld.csu.run + 1) ∧
    ((csuIn .ret).csu.st = .ret ∧ (csuIn .ret).csu.present = true) ∧ (bypasses .freerun).bypassAt.isSome = true ∧
    ((acts (.slewAt 9 1) 0).csu.delta = 0) ∧
    ((setTo (monIdx 3) 8 3 (monitors { phase := .watching })).settle.watches 3 = true ∧
      (setTo (monIdx 3) 8 3 (monitors { phase := .watching })).settle.blanked 3 = false ∧
      (setTo (monIdx 3) 8 3 (monitors { phase := .watching })).settle.filtered 3 = true) ∧
    (monitors { phase := .settling 9 }).mon[(3 : Fin 32)].blank = none ∧
    (let s := inputs {}
     let x := (stampAt 31 taps s.settle).1
     let u := (stampAt 31 taps s.settle).2
     x / 3200 ≤ s.now ∧ u.gateOpen 31 true (x / 3200) = true ∧ u.sti[(31 : Fin 32)].cal.calState ≠ 5 ∧
       u.sti[(31 : Fin 32)].blankUntil * 3200 ≤ x ∧ u.sti[(31 : Fin 32)].dead ≤ x) ∧
    (waiting (.branch met ⟨1, 0⟩) present_).time.histFrom ≤ (waiting (.branch met ⟨1, 0⟩) present_).seq[(3 : Fin 64)].cursor / 3200 ∧
    misses.nat (chIdx 3) 0x1E = 0 ∧ (misses.missAt 3).isSome = true ∧
    (stores { work := [⟨6, 0, 3, 0, true⟩] }).store[(3 : Fin 4)].work = ⟨6, 0, 3, 0, true⟩ :: [] ∧
    idle.exists_ 0x7001 1 = none ∧ ((panFive { owner := .host }).flag 5).owner = .host := by decide +kernel

/-! ### Further clauses -/

/-- A device that programs a record of its log. -/
def appending : State := { logs 4096 with persist := { logSlot := 1, lastRecord := 40, logNext := 100, appendEnd := 3000000 } }

/-- A device in IDLE with a RESET that is due at a T_E. -/
def resets (a : TE) : State := { idle with dev := { st := .idle, resetAt := some a } }

theorem witness_supply_reset_log :
    (off .resetLow true).boot.power = .resetLow ∧ (off .shutCurrent true).boot.power = .shutCurrent ∧
    (appending.now < appending.persist.appendEnd ∧ appending.persist.lastRecord < appending.persist.logNext ∧
      (appending.flash.slot appending.persist.logSlot).bind (fun m => m.log) = some ⟨4096, []⟩) ∧
    saves.persist.appendEnd ≤ saves.now ∧
    (idle.now + 25000 ≤ tideNamed idle.now (3 : W64).toNat * 1000000 ∧
      tideNamed idle.now (2 ^ 20 + 2 : W64).toNat ≤ idle.now / 1000000 + 2 ^ 20) ∧
    (resets 3000000).resetBy (resets 3000000).nextBoundary = true ∧ (resets 3000001).resetBy (resets 3000001).nextBoundary = false ∧
    ((resets 2000001).pending = [] ∧ (resets 2000001).resetBy 2000001 = true ∧ (resets 2000002).resetBy 2000001 = false) ∧
    ((logs 1).persist.logFull = false ∧ (State.reset.persist.logFull = false)) ∧
    ((logs 4096).flash.slot (logs 4096).persist.logSlot).isSome = true := by decide +kernel

/-- Measurements of an hour: none, or of two ring oscillators. -/
def hourly (s : State) (v : Option Int) (i : Fin 27) : Option Int := measured ⟨[v, v, v, v], [], [], []⟩ s i

/-- Margin items with a history of an age, and a Tide's value for item 0. -/
def aged (n : Nat) (v : Option Int) : State := { hourTide with
  margin := Vector.replicate 27 { age := n, measurement := 5, hour := v, points := List.replicate 23 (some (1, 2)) } }

theorem witness_hourly_items :
    (0 : Fin 27) ∈ (aged 0 none).items ∧ hourly (aged 0 none) none 0 = none ∧ (aged 0 none).margin[(0 : Fin 27)].age + 1 < 3 ∧
    3 ≤ (aged 2 none).margin[(0 : Fin 27)].age + 1 ∧ hourly (aged 0 (some 7)) none 0 = some 7 ∧
    (let s := setTo 0x7820 4 7 (aged 0 (some 7))
     (s.nat 0x7820 4 : Int) - 7 ≤ 0) ∧
    ((some (hourTide.tideNow.toNat, (0 : Int)) :: (hourTide.margin[(0 : Fin 27)]).points).take 720).length < 24 ∧
    0 < ((setTo 0x7820 4 9 hourTide).nat 0x7820 4 : Int) - 7 := by decide +kernel

theorem witness_clock_comparisons :
    (let s := setTo 0x2001 1 400 (setTo 0x2001 2 8 (csuIn .ret))
     s.csu.st = .ret ∧ s.csu.present = true ∧ (countRun s.withinLock (s.nat 0x2001 2) s.csu.run [(0, 8)]).2 = true ∧
       (countRun s.withinLock (s.nat 0x2001 2) s.csu.run [(32001, 1), (0, 7)]).2 = false) ∧
    (let s := setTo 0x2001 1 400 (setTo 0x2001 2 8 (csuIn .bypass))
     s.csu.st = .bypass ∧ s.csu.bypLocked = false ∧ (countRun s.withinLock (s.nat 0x2001 2) s.csu.run [(0, 3), (5, 5)]).2 = true) ∧
    (let s := setTo 0x2004 3 100 (bypasses .freerun)
     let f := s.csu.act.rootTwice / 16
     (16 * (f : Int) - s.csu.act.rootTwice).natAbs * 1000000 ≤ s.nat 0x2004 3 * s.csu.act.rootTwice ∧
       ¬ (16 * ((f / 2 : Nat) : Int) - s.csu.act.rootTwice).natAbs * 1000000 ≤ s.nat 0x2004 3 * s.csu.act.rootTwice ∧
       s.bypassAt.isSome = true ∧ s.bypclkOk f = true) ∧
    8 < (-9 : Int).natAbs ∧ (-8 : Int).natAbs ≤ 8 := by decide +kernel

theorem witness_rails_tripin_freezing :
    idle.health.outside[(0 : Fin 12)] = false ∧ railAgrees 0 false 5000 = true ∧ railAgrees 0 false 3300 = false ∧
    { idle with health := { outside := Vector.replicate 12 true } }.health.outside[(0 : Fin 12)] = true ∧ railAgrees 0 true 3300 = true ∧
    railAgrees 0 true 5000 = false ∧ (State.reset.served = false ∧ State.reset.tripin.active = false) ∧
    (idle.served = true ∧ idle.tripin.active = false) ∧
    (let s := setTo (clIdx 1 7) 1 0 (caps { st := .armed, freezeAt := some 2000004, cfg := { v := 3 }, fire := some ⟨2000001, 0, 0, 0, true⟩ })
     s.settle.cap[(1 : Fin 4)].freezeAt = some 2000004 ∧ (s.reach 2000004).cap[(1 : Fin 4)].freezeAt = some 2000004 ∧
       (s.reach 2000004).ignoresFire 1 2000004 = true) := by decide +kernel

/-- Channel 3 as in `delays`, the setting before the last boundary another. -/
def beforeBoundary : State := { delays {} with
  od := (setTo (chIdx 3) 2 0 (delays {})).od, commits := { prior := (delays {}).od, priorEnd := 2000001 } }

theorem witness_delay_settings_before_a_boundary :
    (let v : State := { beforeBoundary with od := if 6400000000 / 3200 < beforeBoundary.commits.priorEnd then beforeBoundary.commits.prior
                          else beforeBoundary.od }
     v.nat (chIdx 3) 1 = 1 ∧ v.on (chIdx 3) 2 = true) ∧ beforeBoundary.on (chIdx 3) 2 = false ∧ beforeBoundary.dev.st = .run ∧
    beforeBoundary.delay[(3 : Fin 64)].pending = [] := by decide +kernel

/-- Every slice with a collection of line 1 under way. -/
def slices : State := { idle with drz := Vector.replicate 4 { slices := Vector.replicate 2 { calState := 1, busy := true } } }

theorem witness_slice_collections :
    (slices.cal (.slice 7)).busy = true ∧ slices.hasUnit (.slice 7) = true ∧ (slices.cal (.slice 7)).collected.length = 1 ∧
    (((slices.cal (.slice 7)).collected.zip [goodHits]).all (fun p => lineFault p.2 22 false 0 = 0)) = true ∧
    (collects { calState := 5, busy := true }).hasUnit (.input 31) = true ∧
    ((collects { calState := 5, busy := true }).cal (.input 31)).calState = 5 ∧
    (let c := (collects { calState := 5, calTarget := 16, busy := true }).cal (.input 31)
     c.collected.length = 4 ∧ (c.collected.zip (List.replicate 4 goodHits)).all (fun p =>
       lineFault p.2 c.calTarget true (if p.1 = 0 then 0 else entryOffset goodHits p.2) = 0) = true) := by decide +kernel

/-- A condition on latched bit 4 that is met when it is clear, with consume. -/
abbrev consuming : Cond := ⟨.bit 4, true, true⟩

theorem witness_consuming_conditions :
    consuming.consume = true ∧ condHolds consuming (snapshot idle 3 2000000) = true ∧
    (waiting (.branch consuming ⟨1, 0⟩) present_).time.histFrom ≤ present_ / 3200 ∧ goes (.branch 3 consuming ⟨1, 0⟩) present_ 1 = true ∧
    (issued (runs (.branch 3 consuming ⟨1, 0⟩) present_) 3 1).oldest 2000000 ≤
      (issued (runs (.branch 3 consuming ⟨1, 0⟩) present_) 3 1).seq[(3 : Fin 64)].cursor / 3200 ∧
    firstMet (waiting (.cond consuming 1999998 6400 present_ ⟨1, 0⟩) past).settle 3 consuming 1999998 (timeoutAt present_ 6400) =
      some 1999998 ∧ misses.hasRoom 3 = true := by decide +kernel

/-- The end of a check that has not reached the one Pan of its program, which the host owns: admitted, and refused where another
Pan's owner stands against it. -/
def checks (o : Owner) (f : State → State) : State × Walk × List Nat :=
  let s := f (loads (.nop 3) o)
  let t := s.updStore 0 (fun x => { x with check := none })
  let w := walkFrom t 3 512
  let (more, u) := reachPans w.pans t
  (u.updSeq 3 (fun q => { q with refused := 0xFFFFFFFF }), w, more)

theorem witness_ends_of_checks :
    (let (v, w, more) := checks .host id
     w.bad = none ∧ (match admissionOf v 3 512 ([] ++ more) w with | .ok a => a.set | .error _ => []) = [1]) ∧
    (let (v, w, more) := checks .frozen id
     w.bad = none ∧ (match admissionOf v 3 512 ([] ++ more) w with | .ok _ => 0 | .error e => e.1) = 6) ∧
    (checks .host (fun s => { s with mem := [(4103, 0xF8)] })).2.1.bad = some 512 := by decide +kernel

/-- A statistics table of one code, and an interval of group 1 at the head of every FIFO. -/
def statistics (code : Byte) : State := { idle with
  od := (List.range 4).map (fun cl => (odKey (clIdx cl 2) 2, .bytes (List.replicate 64 code)))
  sti := Vector.replicate 32 { fifo := [.interval 1 0 5 false 6400000000 0 false true true] } }

theorem witness_statistics_slot :
    (let s := statistics 1
     let n := nextCycle s.now s.store[(0 : Fin 4)].statAt
     let u := (s.reach (2 * n)).updStore 0 (fun x => { x with statAt := some n })
     field (u.od.bytes (clIdx 0 2) 2) (n % 64) 1 = 1 ∧ u.statInput 1 = some 0) ∧
    (let s := statistics 2
     let n := nextCycle s.now s.store[(0 : Fin 4)].statAt
     let u := (s.reach (2 * n)).updStore 0 (fun x => { x with statAt := some n })
     field (u.od.bytes (clIdx 0 2) 2) (n % 64) 1 = 2 ∧ u.statInput 2 = none) ∧
    (let s := statistics 8
     let n := nextCycle s.now s.store[(0 : Fin 4)].statAt
     let u := (s.reach (2 * n)).updStore 0 (fun x => { x with statAt := some n })
     8 ≤ field (u.od.bytes (clIdx 0 2) 2) (n % 64) 1) ∧ (egress 15).inTree = false := by decide +kernel

theorem witness_stamps_and_timeouts :
    (let s := inputs { blankUntil := 2000001, dead := 2000002 * 3200 }
     let x := s.placedAgain 31 (2000001 * 3200 - 1) taps
     s.gateOpen 31 true (x / 3200) = true ∧ s.sti[(31 : Fin 32)].cal.calState ≠ 5 ∧
       s.sti[(31 : Fin 32)].blankUntil * 3200 ≤ x + 8000000 ∧ x < s.sti[(31 : Fin 32)].blankUntil * 3200) ∧
    (let s := inputs { blankUntil := 2010001, dead := 2000000 * 3200 }
     let x := s.placedAgain 31 (2000001 * 3200) taps
     s.gateOpen 31 true (x / 3200) = true ∧ x + 8000000 < s.sti[(31 : Fin 32)].blankUntil * 3200 ∧
       s.sti[(31 : Fin 32)].dead ≤ x) ∧
    (let s := inputs { blankUntil := 2000000, dead := 2000002 * 3200 }
     let x := s.placedAgain 31 (2000001 * 3200) taps
     s.gateOpen 31 true (x / 3200) = true ∧ s.sti[(31 : Fin 32)].blankUntil * 3200 ≤ x ∧ x < s.sti[(31 : Fin 32)].dead) ∧
    (inputs {}).sti[(31 : Fin 32)].blanks 6400000000 = false ∧
    (let s : State := { idle with grp := Vector.replicate 32 { closing := [missedStop] } }
     let v := missedStop.close / 3200 + 2
     s.settle.grp[(1 : Fin 32)].formed = 0 ∧ s.settle.grp[(1 : Fin 32)].nextClose = some missedStop.close ∧
       (judgeGroup ((v - 1) * 3200) 1 (s.reach (v - 1))).grp[(1 : Fin 32)].closing = missedStop :: [] ∧
       0 ∈ missedStop.expected ∧ 0 ∉ missedStop.taken) ∧
    (idle.settle.grp[(1 : Fin 32)].formed = 0 ∧ idle.settle.grp[(1 : Fin 32)].nextClose = none) ∧
    0 < { idle with grp := Vector.replicate 32 { formed := 1 } }.settle.grp[(1 : Fin 32)].formed := by decide +kernel

/-- PCI Express with its link up and MSI-X enabled, every vector's mask bit as given. -/
def linked (mask : Bool) : State := { idle with host := { linkUp := true, config := { msixOn := true }, msixPending := 0xFFFFFFFF
                                                          msixTable := Vector.replicate 32 (if mask then 1 <<< 96 else 5) } }

theorem witness_pci_express_requests :
    idle.dev.st ≠ .boot ∧ idle.dev.st ≠ .load ∧ 131072 ≤ 131072 ∧
    { idle with host := { config := { d3hot := true } } }.host.config.d3hot = true ∧ (499, 4) ∉ idle.merger.once ∧
    (4096 ≤ 4096 ∧ 4096 % 4096 + 4096 ≤ 4096 ∧ 8384512 + 4096 ≤ 8388608) ∧ ¬ (8 ≤ 4096 ∧ 4092 % 4096 + 8 ≤ 4096) ∧
    8388608 < 8388607 + 2 ∧
    (linked false).host.sends 31 = true ∧ (linked true).host.sends 31 = false ∧ (linked false).host.msixPending.getLsbD 31 = true ∧
    idle.host.sends 0 = false ∧ (127 < 128 ∧ 0x14 ≠ 0x18 ∧ 0x2200 ≤ 0x2200) ∧ (off .unpowered true).boot.power ≠ .running ∧
    (∃ i, i < 8 ∧ ({ idle with health := { poisoned := [salternWord 1025] } } : State).isPoisoned (salternWord ((4096 + i) / 4)) = true) ∧
    State.reset.dev.st = .boot ∧
    ({ linked false with merger := { closed := [⟨1, [⟨6399999999, 498, 7, 0, false⟩], 6⟩] } }).host.sends 1 = true := by
  refine ⟨?_, ?_, ?_, ?_, ?_, ?_, ?_, ?_, ?_, ?_, ?_, ?_, ?_, ?_, ⟨4, ?_⟩, ?_⟩ <;> decide +kernel

/-- A time item whose frame echoes frame 0. -/
def item (valid good : Bool) : TimeItem := ⟨0, 0, false, true, valid, 0, 0, 0, { number := 1, chars := [], crc := 0, broken := 0 }, 6400000000, good⟩

/-- The node waits for the fabric marker of its ALIGN. -/
def marks : State := { portsAs { st := .up, haveAvg := true } with
  csu := { (portsAs {}).csu with st := .aligning, align := some ⟨7, 2000100, 2, false, false, none⟩ }
  fab := { state := 2, nodeId := 9, txBase := 0 } }

theorem witness_frames :
    (portsAs { st := .mismatch }).port[(7 : Fin 8)].st = .mismatch ∧ (portsAs { st := .training }).port[(7 : Fin 8)].st = .training ∧
    (item true false).crcOk = false ∧ (item true true).crcOk = true ∧
    marks.departure 0 (marks.inTurn 6400000000) ≠ none ∧ ({ marks with fab := { marks.fab with setPending := true } } : State).fab.setPending = true ∧
    ({ idle with fab := { txBase := 2000001 } } : State).departure 0 (idle.inTurn 6400000000) = none ∧
    (portsAs { st := .up }).fab.setPending = false ∧ (∀ a, (portsAs { st := .up }).csu.align = some a → a.marker ≠ 2) ∧
    marks.csu.align = some ⟨7, 2000100, 2, false, false, none⟩ ∧ marks.upPort = some 0 ∧ marks.fab.setPending = false ∧
    marks.port[(0 : Fin 8)].haveAvg = true ∧ 7 + 640 ≤ marks.inTurn 6400000000 / 3200 := by
  refine ⟨by decide, by decide, by decide, by decide, by decide +kernel, by decide, by decide +kernel, by decide, ?_, rfl, by decide +kernel,
    rfl, by decide, by decide +kernel⟩
  intro a h
  have h' : (portsAs { st := .up }).csu.align = none := rfl
  rw [h'] at h
  cases h

theorem witness_failed_bulk_transfers :
    (let s : State := { window with fab := { window.fab with failed := [(8, 1)] } }
     s.port[(0 : Fin 8)].st = .up ∧ s.isMine 9 = true ∧ ((8 : BitVec 14), 1) ∈ s.fab.failed ∧ ((8 : BitVec 14), 2) ∉ s.fab.failed ∧
       s.windowTakes 2 = false ∧ s.windowTakes 1 = true) ∧
    (let s : State := { pansOf .device 0x21 with fab := { state := 2, nodeId := 9, sendReq := some (8, 5, 2, 2046) } }
     s.port[(0 : Fin 8)].st = .up ∧ s.isMine 9 = true ∧ 2046 ≤ 2047 ∧ 2047 < 2046 + 2) ∧ (pansOf .host 0).nat 0x6300 4 ≤ 2048 := by
  decide +kernel

/-- On Ethernet, with an address. -/
def onLan : State := setTo 0x1100 2 0 (setTo 0x1100 3 0xC0A80005 { idle with eth := { linkUp := true } })

/-- A requester on Ethernet. -/
def lanRq : Requester := ⟨.ethernet, 0xC0A80006 * 65536 + 4000, 1⟩

theorem witness_ethernet_requests :
    onLan.lanOpen = true ∧ lanRq.path = .ethernet ∧ onLan.admitsSource (lanRq.addr / 2 ^ 16) = true ∧ readMsg.magic = 0x5A4B ∧
    64 ≤ ({ queued := 64 } : Arrival).queued ∧ ({ queued := 64 } : Arrival).fragment = false ∧ ({ fragment := true } : Arrival).fragment = true ∧
    onLan.merger.sumsOf 494 5 = [] ∧ Arrives onLan lanRq readMsg 1 ∧ onLan.csu.st ≠ .off ∧ State.reset.csu.st = .off ∧
    (0xC0A80005 : W32).toNat = onLan.address ∧ onLan.eth.linkUp ≠ false ∧ onLan.merger.sumsOf 494 3 = [] := by
  unfold Arrives; decide +kernel

theorem witness_mailbox_spi_tap :
    (linked false).pcieOpen = true ∧ (linked false).host.mbxBusy = false ∧ (linked false).host.mbxReady = false ∧
    (linked false).host.sends 0 = true ∧ (linked true).host.sends 0 = false ∧ (499, 5) ∉ (linked true).merger.once ∧
    (off .unpowered true).boot.power ≠ .running ∧ (off .resetLow true).boot.power = .resetLow ∧ idle.boot.power ≠ .resetLow ∧
    (subscribed.kpp.subs.find? (fun u => Requester.sameHost u.by_ ⟨.ethernet, 7, 9⟩)).isSome = true := by decide +kernel

/-- A Tide's measurements, all zero. -/
def quietTide : TideMeas := ⟨0, 0, [], [], [], false, none, []⟩

/-- A set of settings for the next boundary, Tide 3. -/
def sets (l : List (Nat × Nat × Nat)) (s : State) : State := { s with commits := { s.commits with
  sets := [(3, l.map (fun x => { key := odKey x.1 x.2.1, value := .num x.2.2, by_ := rq }))] } }

/-- What a boundary's statement asks of a state. -/
def atBoundary (s : State) : Bool :=
  s.time.running && s.served && !s.resetBy s.nextBoundary && s.dev.pendCmd == none && s.dev.sched == none &&
    decide (s.now ≤ s.nextBoundary) && (s.commits.upTo (s.nextBoundary / 1000000)).all (fun e => isRwt s.part e.key)

/-- The state after the next boundary. -/
def served (s : State) : State := match exec (.tideBoundary quietTide) s with | .next t => t | _ => s

/-- Channel 3 in program mode with an admitted program, disabled. -/
def admitted : State := setTo (chIdx 3) 1 2 { inState .run with seq := Vector.replicate 64 { pstate := 1, panSet := [1], pc := ⟨1, 0⟩ } }

/-- Clock output 7, monitor 31, the ring, a route of TRIPIN. -/
def turned (on : Nat) (s : State) : State :=
  sets [(clkIdx 7, 1, on), (monIdx 31, 1, on), (0x1400, 3, on), (chIdx 3, 2, on), (chIdx 5, 0x1B, 2 ^ 32 * on)] s

theorem witness_boundary_settings :
    (let s := turned 1 admitted
     let t := served s
     atBoundary s = true ∧ t.on (clkIdx 7) 1 = true ∧ t.csu.everAligned = true ∧ s.on (monIdx 31) 1 = false ∧
       t.on (monIdx 31) 1 = true ∧ s.on 0x1400 3 = false ∧ t.on 0x1400 3 = true ∧ s.dev.st = .run ∧ t.chOn 3 = true ∧
       t.nat (chIdx 3) 1 = 2 ∧ s.seq[(3 : Fin 64)].pstate = 1 ∧ bit (s.nat (chIdx 5) 0x1B) 32 = false ∧
       bit (t.nat (chIdx 5) 0x1B) 32 = true) ∧
    (let s := turned 1 { idle with tripin := { level := idle.nat 0x4A00 1 == 0, active := true }, csu := { idle.csu with everAligned := false } }
     atBoundary s = true ∧ (served s).tripin.active = true ∧ (served s).csu.everAligned = false ∧
       (served s).on (clkIdx 7) 7 = false ∧ s.clkout[(7 : Fin 8)].st ≠ 2 ∧ s.clkout[(7 : Fin 8)].st ≠ 3) ∧
    (let s := turned 0 (setTo (clkIdx 7) 1 1 (setTo (monIdx 31) 1 1 (setTo 0x1400 3 1 (setTo (chIdx 3) 2 1 admitted))))
     atBoundary s = true ∧ (served s).on (clkIdx 7) 1 = false ∧ s.on (monIdx 31) 1 = true ∧ (served s).on (monIdx 31) 1 = false ∧
       s.on 0x1400 3 = true ∧ (served s).on 0x1400 3 = false ∧ s.chOn 3 = true ∧ (served s).chOn 3 = false) ∧
    (let s := setTo (clkIdx 7) 1 1 (setTo (clkIdx 7) 0x0B 1 (inState .safe))
     atBoundary s = true ∧ (served s).on (clkIdx 7) 1 = true ∧ s.dev.st = .safe ∧ (served s).on (clkIdx 7) 0x0B = true) := by
  decide +kernel

/-- Pans 5 and 6 of the host, named as the ring's. -/
def ringPans : State := setTo 0x1400 1 5 (setTo 0x1400 2 2 (panFive { owner := .host }))

theorem witness_ring_and_tables :
    (let s := sets [(0x1400, 3, 1)] (setTo 0x1400 2 1 ringPans)
     atBoundary s = true ∧ (served s).nat 0x1400 1 = 5 ∧ (served s).nat 0x1400 2 = 1 ∧ s.allHost ((List.range 1).map (5 + ·)) = true) ∧
    (let s := sets [(0x1400, 3, 1)] ringPans
     atBoundary s = true ∧ s.allHost ((List.range 2).map (5 + ·)) = false) ∧
    (let e : SetEntry := { key := odKey 0x7F03 1, value := .bytes (List.replicate 64 1), by_ := rq }
     let s : State := { idle with commits := { sets := [(3, [e])] } }
     atBoundary s = true ∧ (s.commits.upTo 3).filter (fun e => isTable e.key) = [e] ∧ s.edge[(3 : Fin 64)].newTable = none) ∧
    (let s := collects { newLines := [(1, [], none)] }
     atBoundary s = true ∧ (s.cal (.input 31)).newLines ≠ [] ∧
       (served s).on (inIdx 31) 0x10 = s.on (inIdx 31) 0x10) ∧
    (32 < 33 ∧ bit ((setTo (chIdx 5) 0x1B (2 ^ 32) idle).nat (chIdx 5) 0x1B) 32 = true ∧
      ({ setTo (chIdx 5) 0x1B (2 ^ 32) idle with tripin := { active := true } }).sourceAsserts 32 = true ∧
      bit (idle.nat (chIdx 5) 0x1B) 32 = false) := by decide +kernel

/-- With a command that is due, or scheduled for a Tide. -/
def commanded (d : DevState) (c : Byte) : State := { inState d with dev := { st := d, pendCmd := some (c, 3000000) } }
def scheduled (d : DevState) (c : Byte) (x : W64) : State := { inState d with dev := { st := d, sched := some (c, x) } }

theorem witness_boundary_commands :
    (∀ p ∈ [(DevState.idle, (1 : Byte)), (.run, 2), (.hold, 3), (.run, 4), (.safe, 6), (.idle, 8), (.idle, 9)],
      let s := commanded p.1 p.2
      s.time.running = true ∧ s.served = true ∧ s.resetBy s.nextBoundary = false ∧ s.now ≤ s.nextBoundary ∧ s.nextBoundary = 3000000 ∧
        s.commits.upTo 3 = [] ∧ s.health.passErrs = []) ∧
    (let s := scheduled .idle 1 3
     tideNamed s.nextBoundary (3 : W64).toNat ≤ s.nextBoundary / 1000000 ∧ commandPermits 1 s.dev.st = true ∧
       s.nextBoundary / 1000000 < tideNamed s.nextBoundary (4 : W64).toNat) ∧
    (commandPermits 2 (scheduled .idle 2 3).dev.st = false ∧ ∀ e ∈ (scheduled .idle 2 3).merger.ended, e.at_ ≠ 3000000) := by
  decide +kernel

/-- The bounds hold in a state with something in every queue, and a step goes on from it. -/
theorem witness_queue_bounds :
    let s : State := { idle with
      pending := [.evrProd], ring := { on := true, pans := 1, capacity := 255, prod := 5, cons := 0xFFFFFFFB, wr := 7 }
      merger := { closed := [⟨1, [], 6⟩, ⟨2, [], 7⟩] }
      drv := Vector.replicate 64 { queue := List.replicate 16 { entry := 0, tag := none, at_ := 0 } }
      commits := { sets := [(3, [delayEntry])], held := [{ by_ := rq, entries := [delayEntry], touched := 5 }] } }
    QueueInv s ∧ ∃ t, StepsOn s t := by
  refine ⟨?_, ⟨_, rfl⟩⟩
  unfold QueueInv upTo
  refine ⟨?_, ?_, ?_, ?_, ?_, ?_⟩ <;> decide +kernel

theorem witness_time_arithmetic :
    (5 * 4096 + 3199 : W64).toNat % 4096 < 3200 ∧ ((2 ^ 84 - 1) * 3200 + 3199) / 3200 < 2 ^ 84 ∧ 2 ^ 84 - 1 < 2 ^ 84 := by decide +kernel

end Sys2Proof.Tests
end

/-!
SUPPORT. What a restart, a shutdown and the loss of supply leave, and the statement about them (spec 00, R15 to R18;
spec 16, R434, R439, R440, R458; spec 18, R485, R499).
-/
namespace Sys2Proof.Machine

/-! ## A fresh start (R434, R440) -/

/-- The change to BOOT is one event, held for IDLE (R406, R438). -/
theorem stateEvent_boot {s : State} (h : s.dev.st = .boot) :
    stateEvent s = { s with merger := { s.merger with held := s.merger.held ++ [(491, 0x13000006, 0)] } } := by
  simp [stateEvent, State.raise, State.raiseAt, h, DevState.code]

/-- Every restart is a fresh start; outside BOOT the change to BOOT is the one event held (R406, R438). -/
theorem restart_freshStart (s : State) : FreshStart s (restart s) := by
  unfold FreshStart restart
  split
  · exact ⟨rfl, rfl, rfl, rfl⟩
  · rw [stateEvent_boot rfl]
    exact ⟨rfl, rfl, rfl, rfl⟩

namespace FreshStart

variable {s t : State}

theorem dev (h : FreshStart s t) : t.dev = {} := congrArg State.dev h.1
theorem csu (h : FreshStart s t) : t.csu = {} := congrArg State.csu h.1
theorem mem (h : FreshStart s t) : t.mem = [] := congrArg State.mem h.1
theorem host (h : FreshStart s t) : t.host = {} := congrArg State.host h.1
theorem eth (h : FreshStart s t) : t.eth = {} := congrArg State.eth h.1
theorem flash (h : FreshStart s t) : t.flash = { s.flash with chip := none } := congrArg State.flash h.1

theorem slotA (h : FreshStart s t) : t.flash.slotA = s.flash.slotA := by rw [h.flash]
theorem slotB (h : FreshStart s t) : t.flash.slotB = s.flash.slotB := by rw [h.flash]

/-- The shutdown-cause record stays, all other health is as at t_P (R18, R470). -/
theorem health (h : FreshStart s t) : t.health =
    { causes := s.health.causes, sensor := s.health.sensor, regulator := s.health.regulator
      shutTemp := s.health.shutTemp, shutdowns := s.health.shutdowns, unreported := s.health.unreported } :=
  congrArg State.health h.1

end FreshStart

/-! ## VIN_VALID, RESET_N, SHUTDOWN_RESTART (R17, R434, R439, R440) -/

theorem vinValid_cool {s : State} (hp : s.boot.power = .unpowered) (hc : s.boot.cool = true) :
    vinValid s = restart s := by
  simp [vinValid, hp, hc]

theorem vinValid_hot {s : State} (hp : s.boot.power = .unpowered) (hc : s.boot.cool = false) :
    vinValid s = { s with boot := { s.boot with power := .shutThermal, restartReq := true }
                          pins := { s.pins with ready := .low, alertN := .low } } := by
  simp [vinValid, hp, hc]

/-- The states of the supply in which a pulse of RESET_N restarts the device at once (R17, R440). -/
theorem resetPulse_restarts {s : State} (h : s.boot.power = .running ∨ s.boot.power = .resetLow ∨
    s.boot.power = .shutCurrent ∨ (s.boot.power = .shutThermal ∧ s.boot.cool = true)) :
    resetPulse s = restart s := by
  unfold resetPulse
  rcases h with hp | hp | hp | ⟨hp, hc⟩
  · simp only [hp]
  · simp only [hp]
  · simp only [hp]
  · simp only [hp, hc, if_true]

theorem resetPulse_hot {s : State} (hp : s.boot.power = .shutThermal) (hc : s.boot.cool = false) :
    resetPulse s = { s with boot := { s.boot with restartReq := true } } := by
  simp [resetPulse, hp, hc]

theorem holdReset_running {s : State} (hp : s.boot.power = .running) :
    holdReset s = { restart s with
      boot := { (restart s).boot with power := .resetLow }
      pins := { (restart s).pins with ready := .z, alertN := .z } } := by
  simp only [holdReset, hp]

/-- The release restarts the device; that it ends EXTEST and HIGHZ shows at the balls alone (R440, R501). -/
theorem releaseReset_freshStart {s : State} (hp : s.boot.power = .resetLow) : FreshStart s (releaseReset s) := by
  simp only [releaseReset, hp]
  exact restart_freshStart { s with pins := _ }

theorem shutdownRestart_freshStart {s : State} (hp : s.boot.power = .shutThermal) (hr : s.boot.restartReq = true) :
    FreshStart s (shutdownRestart s) := by
  simp only [shutdownRestart, hp, hr, if_true]
  exact restart_freshStart { s with boot := { s.boot with cool := true } }

/-! ## BROWNOUT (R458, R485, R499) -/

/-- With no record being programmed the supply's failure leaves the log alone. -/
theorem cutAppend_idle {s : State} (h : s.persist.appendEnd ≤ s.now) : cutAppend s = s := by
  simp only [cutAppend, if_neg (Nat.not_lt.mpr h)]
  split
  · rfl
  · split
    · rfl
    · rfl

/-- Of a record being programmed a part short of its last byte stands in the log (R458). -/
theorem cutAppend_flash {s : State} {m : Image} {a : LogArea} (hm : s.flash.slot s.persist.logSlot = some m)
    (ha : m.log = some a) (hlt : s.now < s.persist.appendEnd) (hrec : s.persist.lastRecord < s.persist.logNext) :
    ∃ n, s.persist.lastRecord ≤ n ∧ n < s.persist.logNext ∧
      (cutAppend s).flash =
        s.flash.put s.persist.logSlot (some { m with log := some { a with bytes := a.bytes.take n } }) := by
  have hmod := Nat.mod_lt (Config.bytesProgrammed s.free) (Nat.sub_pos_of_lt hrec)
  refine ⟨s.persist.lastRecord + Config.bytesProgrammed s.free % (s.persist.logNext - s.persist.lastRecord),
    Nat.le_add_right _ _, by omega, ?_⟩
  simp only [cutAppend, hm, ha, hlt, if_true]
  rfl

theorem execBrownout_powered {s : State} (hp : s.boot.power ≠ .unpowered) : execBrownout s = .next (unpower s) := by
  unfold execBrownout
  cases h : s.boot.power
  case unpowered => exact absurd h hp
  all_goals rfl

/-- The slots after the loss of supply are those that the cut of an append left (R458). -/
theorem unpower_flash (s : State) : (unpower s).flash = { (cutAppend s).flash with chip := none } :=
  (restart_freshStart (cutAppend s)).flash

/-- BROWNOUT leaves nothing volatile, and every ball Z (R485, R499). -/
theorem unpower_volatile (s : State) :
    (unpower s).boot.power = .unpowered ∧ (unpower s).pins.ready = .z ∧ (unpower s).pins.alertN = .z ∧
      (unpower s).dev.st = .boot ∧ (unpower s).mem = [] ∧ (unpower s).host.linkUp = false ∧
      (unpower s).eth.linkUp = false := by
  have hf := restart_freshStart (cutAppend s)
  exact ⟨rfl, rfl, rfl, congrArg Dev.st hf.dev, hf.mem, congrArg HostIf.linkUp hf.host,
    congrArg Ethernet.linkUp hf.eth⟩

/-! ## Hard-wired shutdown (R15 to R18, R470) -/

theorem thermalShutdown_running {s : State} (hp : s.boot.power = .running) (k : Fin 8) {x : W16}
    (hx : 1250 ≤ x.toInt) :
    thermalShutdown k x s = shutDown .shutThermal (fun h => thermalCause k x (newRecord h)) s := by
  simp only [thermalShutdown, hp, if_neg (Int.not_lt.mpr hx)]

theorem overcurrentShutdown_running {s : State} (hp : s.boot.power = .running) (k : Fin 3) :
    overcurrentShutdown k s = shutDown .shutCurrent (fun h => currentCause k (newRecord h)) s := by
  simp only [overcurrentShutdown, hp]

/-- A shutdown takes READY and ALERT_N low and everything volatile, and keeps the slots (R15, R16). -/
theorem shutDown_volatile (p : Power) (r : Health → Health) (s : State) :
    let t := shutDown p r s
    t.boot.power = p ∧ t.boot.cool = (p != .shutThermal) ∧ t.pins.ready = .low ∧ t.pins.alertN = .low ∧
      t.dev.st = .boot ∧ t.csu.st = .off ∧ t.mem = [] ∧ t.flash.slotA = s.flash.slotA ∧
      t.flash.slotB = s.flash.slotB := by
  have hf := restart_freshStart s
  exact ⟨rfl, rfl, rfl, rfl, congrArg Dev.st hf.dev, congrArg Csu.st hf.csu, hf.mem, hf.slotA, hf.slotB⟩

/-- The record is written on top of the one that the restart keeps (R18). -/
theorem shutDown_health (p : Power) (r : Health → Health) (s : State) :
    (shutDown p r s).health = r
      { causes := s.health.causes, sensor := s.health.sensor, regulator := s.health.regulator
        shutTemp := s.health.shutTemp, shutdowns := s.health.shutdowns, unreported := true } := by
  simp only [shutDown, (restart_freshStart s).health]

/-- The record of a thermal shutdown names its cause alone and counts one more (R18, R470). -/
theorem thermalCause_newRecord (k : Fin 8) (x : W16) (h : Health) : thermalCause k x (newRecord h) =
    { h with causes := 1, sensor := BitVec.ofNat 8 k.val, regulator := 0xFF, shutTemp := x
             shutdowns := h.shutdowns + 1 } := by
  simp [thermalCause, newRecord]

/-- The record of an overcurrent shutdown names its cause alone and counts one more (R18, R470). -/
theorem currentCause_newRecord (k : Fin 3) (h : Health) : currentCause k (newRecord h) =
    { h with causes := 2, sensor := 0xFF, regulator := BitVec.ofNat 8 (k.val + 1), shutTemp := 0
             shutdowns := h.shutdowns + 1 } := by
  simp [currentCause, newRecord]

/-! ## The statement -/

/-- Settles O2: every start is `restart`, a fresh start; BROWNOUT is one from the log as the cut left it; a shutdown is
one with the record written anew. -/
theorem powerAndShutdown : Obligations.power_and_shutdown := by
  unfold Obligations.power_and_shutdown
  refine ⟨fun s => ⟨?_, ?_, ?_, ?_, ?_, ?_, ?_, ?_⟩, fun s hp => ⟨?_, ?_⟩⟩
  case refine_1 =>
    intro hp hc
    exact ⟨_, rfl, vinValid_cool hp hc ▸ restart_freshStart s⟩
  case refine_2 =>
    intro hp hc
    exact ⟨_, rfl, vinValid_hot hp hc⟩
  case refine_3 =>
    intro h
    exact ⟨_, rfl, resetPulse_restarts h ▸ restart_freshStart s⟩
  case refine_4 =>
    intro hp
    exact ⟨_, _, rfl, restart_freshStart s, holdReset_running hp⟩
  case refine_5 =>
    intro hp
    exact ⟨_, rfl, releaseReset_freshStart hp⟩
  case refine_6 =>
    intro hp hc
    exact congrArg Host.Outcome.next (resetPulse_hot hp hc)
  case refine_7 =>
    intro hp hr
    exact ⟨_, rfl, shutdownRestart_freshStart hp hr⟩
  case refine_8 =>
    intro hp
    obtain ⟨hpow, hready, halert, hdev, hmem, hhost, heth⟩ := unpower_volatile s
    refine ⟨unpower s, execBrownout_powered hp, hpow, hready, halert, hdev, hmem, hhost, heth, fun hend => ?_, ?_⟩
    · rw [unpower_flash, cutAppend_idle hend]
      exact ⟨rfl, rfl⟩
    · intro m a hm ha hlt hrec
      obtain ⟨n, hle, hn, hflash⟩ := cutAppend_flash hm ha hlt hrec
      exact ⟨n, hle, hn, by rw [unpower_flash, hflash]⟩
  case refine_9 =>
    intro k x hx
    obtain ⟨hpow, hcool, hready, halert, hdev, hcsu, hmem, hA, hB⟩ :=
      shutDown_volatile .shutThermal (fun h => thermalCause k x (newRecord h)) s
    refine ⟨_, congrArg Host.Outcome.next (thermalShutdown_running hp k hx),
      hpow, hcool, hready, halert, hdev, hcsu, hmem, hA, hB, ?_⟩
    rw [shutDown_health, thermalCause_newRecord]
    exact ⟨rfl, rfl, rfl, rfl⟩
  case refine_10 =>
    intro k
    obtain ⟨hpow, -, hready, halert, hdev, hcsu, hmem, hA, hB⟩ :=
      shutDown_volatile .shutCurrent (fun h => currentCause k (newRecord h)) s
    refine ⟨_, congrArg Host.Outcome.next (overcurrentShutdown_running hp k),
      hpow, hready, halert, hdev, hcsu, hmem, hA, hB, ?_⟩
    rw [shutDown_health, currentCause_newRecord]
    exact ⟨rfl, rfl, rfl⟩

end Sys2Proof.Machine

/-!
SUPPORT. The statement about what a Tide boundary leaves (spec 05, R145, R150; spec 11, R291, R297; spec 15, R408), and a
state that it does not hold of.
-/
namespace Sys2Proof.Machine

/-- A Tide in which nothing was measured. -/
def unmeasuredTide : TideMeas where
  tuningCode := 0
  tuningUv := 0
  temps := List.replicate 8 0
  rails := List.replicate 12 0
  live := List.replicate 4 (0, 0)
  overrun := false
  returnPpb := none

/-- In RUN in Tide 2, TRIPIN asserting, a set for Tide 3 that routes TRIPIN to channel 0. The channel is enabled in delay mode
on host fires, a period boundary releases its latch, which a source not routed any more has set. A happening of Tide 2
still stands among those that wait for the settings of the boundary: nothing in the statement rules that out. -/
def overtakenFire : State := { State.reset with
  dev := { st := .run }
  time := { count := 2500000, running := true, lastTide := some 2000000 }
  od := [(odKey (chIdx 0) 1, .num 1), (odKey (chIdx 0) 2, .num 1), (odKey (chIdx 0) 3, .num (9 * 2 ^ 24)),
    (odKey (chIdx 0) 0x1C, .num 4)]
  tripin := { level := true, active := true }
  trip := upd State.reset.trip 0 (fun _ => { latched := true, first := 0, setAt := 2000000 })
  delay := upd State.reset.delay 0 (fun _ => { ahead := [(.fire 0, startOf 2600000)] })
  commits := { sets := [(3, [{ key := odKey (chIdx 0) 0x1B, value := .num (2 ^ 32), by_ := ⟨.spi, 0, 1⟩ }])] } }

/-- The set of Tide 3 is one setting of class RWT, the route. -/
theorem overtakenFire_upTo : ∀ e ∈ overtakenFire.commits.upTo 3, isRwt overtakenFire.part e.key = true := by
  decide +kernel

/-- Before the boundary TRIPIN is not routed to the channel. -/
theorem overtakenFire_unrouted : bit (overtakenFire.nat (chIdx 0) 0x1B) 32 = false := by decide +kernel

/-- After the boundary TRIPIN asserts and is routed to the channel, but the latch is released: the happening triggers the
channel once the routes are in force, and as its t_ref lies before the boundary its period boundary is judged by the
settings before it, which route nothing. -/
theorem tideBoundary_overtakenFire : (tideBoundary unmeasuredTide overtakenFire).tripin.active = true ∧
    bit ((tideBoundary unmeasuredTide overtakenFire).nat (chIdx 0) 0x1B) 32 = true ∧
    (tideBoundary unmeasuredTide overtakenFire).trip[(0 : Fin 64)].latched = false := by decide +kernel

/-- Refutes O58: a route that begins at a boundary while its source asserts does not leave its channel's latch set where a
happening from before the boundary waits in `Delay.ahead`; it marks a period boundary that the settings before the route
judge, and that releases the latch. -/
theorem not_boundarySettings : ¬ Obligations.boundary_settings := by
  unfold Obligations.boundary_settings
  rintro ⟨hboundary, -⟩
  obtain ⟨t, hstep, -, -, -, -, -, -, -, hchannels, -⟩ := hboundary overtakenFire unmeasuredTide rfl rfl rfl
    (by decide +kernel) rfl rfl overtakenFire_upTo
  have ht : tideBoundary unmeasuredTide overtakenFire = t := Host.Outcome.next.inj hstep
  obtain ⟨-, -, hroute, -⟩ := hchannels 0 (by decide +kernel)
  obtain ⟨hactive, hrouted, hreleased⟩ := tideBoundary_overtakenFire
  rw [ht] at hactive hrouted hreleased
  exact Bool.false_ne_true (hreleased.symm.trans (hroute overtakenFire_unrouted hrouted hactive))

end Sys2Proof.Machine

/-!
SUPPORT. A read of device time, and the statement about it (spec 02, R38, R52; spec 15, R399, R401).
-/
namespace Sys2Proof.Machine

/-! ## Reading device time (R52) -/

/-- 0x2200:01 is an RO entry of type ZTIME on both parts. -/
theorem odEntry_deviceTime (p : Part) : ∃ e, odEntry p 0x2200 1 = some e ∧ e.type = .ztime ∧ e.acc = .ro := by
  cases p <;> exact ⟨_, rfl, rfl, rfl⟩

theorem exists_deviceTime (s : State) : s.exists_ 0x2200 1 = none := by
  have hrecord : (odRecord s.part 0x2200).isSome := by cases s.part <;> rfl
  obtain ⟨x, hx⟩ := Option.isSome_iff_exists.mp hrecord
  obtain ⟨e, he, -, -⟩ := odEntry_deviceTime s.part
  simp [State.exists_, hx, he]

/-- The ZTIME of the start of a T_E, as a number: the coarse count, with fine 0. -/
theorem ztimeTE_toNat (a : TE) : (ztimeTE a).toNat = a % 2 ^ 52 * 4096 := by
  simp only [ztimeTE, ztime, coarseOf, fuPerTE, BitVec.toNat_ofNat]
  omega

theorem value_deviceTime (s : State) (p : Path) (e : OdEntry) :
    s.value p 0x2200 1 e = toBytes e.type.len (s.time.count % 2 ^ 52 * 4096) := by
  rw [← ztimeTE_toNat]; rfl

theorem value_epoch (s : State) (p : Path) (e : OdEntry) :
    s.value p 0x2200 2 e = toBytes e.type.len (s.timeLatch p).1.toNat := rfl

theorem value_tideNumber (s : State) (p : Path) (e : OdEntry) :
    s.value p 0x2201 1 e = toBytes e.type.len (s.timeLatch p).2.toNat := rfl

/-- Device time stands in no ECC word: a read of it meets no memory error. -/
theorem meetObject_deviceTime (s : State) : meetObject 0x2200 1 s = s := by
  have hnone : s.health.errs.filter (fun e => s.objectWord 0x2200 1 e.1) = [] :=
    List.filter_eq_nil_iff.mpr fun _ _ => by simp [State.objectWord]
  rw [meetObject, hnone]; rfl

theorem objectBad_deviceTime (s : State) : s.objectBad 0x2200 1 = false := by
  simp [State.objectBad, State.objectWord]

theorem timeLatch_none {s : State} {p : Path} (h : ∀ x ∈ s.time.latched, x.1 ≠ p) :
    s.timeLatch p = (epochOf s.time.count, tideWord s.time.count) := by
  have hnone : s.time.latched.find? (fun x => x.1 = p) = none := by simpa using h
  rw [State.timeLatch, hnone]; rfl

/-- The path that reads device time has the present epoch and Tide number latched. -/
theorem timeLatch_latchTime_same (p : Path) (s : State) :
    (latchTime p s).timeLatch p = (epochOf s.time.count, tideWord s.time.count) := by
  simp [State.timeLatch, latchTime, State.now, State.tideNow]

/-- What the other paths have latched stays. -/
theorem timeLatch_latchTime_other {p q : Path} (h : q ≠ p) (s : State) :
    (latchTime p s).timeLatch q = s.timeLatch q := by
  have hfind : (latchTime p s).time.latched.find? (fun x => x.1 = q) = s.time.latched.find? (fun x => x.1 = q) := by
    simp only [latchTime, List.find?_cons, h.symm, decide_false, List.find?_filter]
    congr 1; funext x
    by_cases hx : x.1 = q <;> simp [hx, h]
  rw [State.timeLatch, hfind]; rfl

/-- Out of BOOT and LOAD, where no stored value meets a parity error, a read of 0x2200:01 answers and latches. -/
theorem ztimeRead_served {s : State} (r : Requester) (hboot : s.dev.st ≠ .boot) (hload : s.dev.st ≠ .load)
    (hparity : s.parity = []) :
    ztimeRead r s = (latchTime r.path s).reply 0 0 (toBytes 8 (s.time.count % 2 ^ 52 * 4096)) := by
  obtain ⟨e, he, htype, hacc⟩ := odEntry_deviceTime s.part
  let v := toBytes 8 (s.time.count % 2 ^ 52 * 4096)
  have hvalue : s.value r.path 0x2200 1 e = v := by rw [value_deviceTime, htype]; rfl
  have hlen : v.length = 8 := rfl
  have hread : s.readable r 0x2200 1 false 1396 = .ok (e, v) := by
    simp [State.readable, exists_deviceTime, he, hacc, hvalue, hlen, hload, State.unitReads]
  have hobject : readObject r 0x2200 1 false 1396 s = (.ok (e, v), latchTime r.path s) := by
    have hlatched : (latchTime r.path s).value r.path 0x2200 1 e = v := by rw [value_deviceTime, htype]; rfl
    simp [readObject, hread, State.parityBad, hparity, meetObject_deviceTime, objectBad_deviceTime, hlatched]
  rw [ztimeRead, hobject]
  cases hst : s.dev.st with
  | boot => exact absurd hst hboot
  | load | idle | run | hold | safe => rfl

/-- Settles O50: the read passes every check of R399, and latches for its own path alone. -/
theorem ztimeReadLatches : Obligations.ztime_read := by
  unfold Obligations.ztime_read
  refine ⟨fun s r hboot hload hparity => ⟨_, rfl, ?_⟩, fun s p e he => ?_, fun s p e he => ?_,
    fun s p h => timeLatch_none h⟩
  · rw [ztimeRead_served r hboot hload hparity]
    exact ⟨rfl, timeLatch_latchTime_same r.path s, fun p hp => timeLatch_latchTime_other hp s, rfl⟩
  · rw [value_epoch, he]; rfl
  · rw [value_tideNumber, he]; rfl

end Sys2Proof.Machine

/-!
SUPPORT. What the data plane leaves unchanged. `State.bare` blanks the fields that edges, triggers, captures, trips and
the events they raise change; two states with the same bare state agree on everything else.
-/
namespace Sys2Proof.Machine

/-! ## The bare state -/

/-- An ended Tide without what was raised in it. -/
def EndedTide.shell (b : EndedTide) : EndedTide := { b with events := [], sums := [] }

/-- The merger without the events and summaries it holds. -/
def Merger.shell (m : Merger) : Merger :=
  { m with open_ := [], sums := [], once := [], held := [], ended := m.ended.map EndedTide.shell }

/-- Health without what reads and writes of ECC words change (R462, R463, R466). -/
def Health.shell (h : Health) : Health :=
  { h with errs := [], poisoned := [], corrected := 0, poisons := 0, lastPoison := 0, injArmed := false }

/-- The state without the fields that the data plane changes. -/
def State.bare (s : State) : State :=
  { s with
    edge := State.reset.edge, delay := State.reset.delay, seq := State.reset.seq, trip := State.reset.trip
    store := State.reset.store, sti := State.reset.sti, grp := State.reset.grp, stat := State.reset.stat
    line := [], mon := State.reset.mon, tripin := {}, xbar := State.reset.xbar, trig := State.reset.trig
    cap := State.reset.cap, sender := State.reset.sender, margin := State.reset.margin, free := 0
    fab := { s.fab with codesDue := [] }, merger := s.merger.shell, health := s.health.shell }

section
variable (s : State)

@[simp] theorem bare_updEdge (i : Fin 64) (f : EdgeEngine → EdgeEngine) : (s.updEdge i f).bare = s.bare := rfl
@[simp] theorem bare_updDelay (i : Fin 64) (f : Delay → Delay) : (s.updDelay i f).bare = s.bare := rfl
@[simp] theorem bare_updSeq (i : Fin 64) (f : Sequencer → Sequencer) : (s.updSeq i f).bare = s.bare := rfl
@[simp] theorem bare_updTrip (i : Fin 64) (f : TripLatch → TripLatch) : (s.updTrip i f).bare = s.bare := rfl
@[simp] theorem bare_updStore (i : Fin 4) (f : Store → Store) : (s.updStore i f).bare = s.bare := rfl
@[simp] theorem bare_updSti (i : Fin 32) (f : StampInput → StampInput) : (s.updSti i f).bare = s.bare := rfl
@[simp] theorem bare_updGrp (i : Fin 32) (f : Group → Group) : (s.updGrp i f).bare = s.bare := rfl
@[simp] theorem bare_updStat (i : Fin 32) (f : StatRun → StatRun) : (s.updStat i f).bare = s.bare := rfl
@[simp] theorem bare_updMon (i : Fin 32) (f : Monitor → Monitor) : (s.updMon i f).bare = s.bare := rfl
@[simp] theorem bare_updXbar (i : Fin 4) (f : Crossbar → Crossbar) : (s.updXbar i f).bare = s.bare := rfl
@[simp] theorem bare_updTrig (i : Fin 4) (f : TrigEngine → TrigEngine) : (s.updTrig i f).bare = s.bare := rfl
@[simp] theorem bare_updCap (i : Fin 4) (f : Capture → Capture) : (s.updCap i f).bare = s.bare := rfl
@[simp] theorem bare_updSender (i : Fin 32) (f : Egress → Egress) : (s.updSender i f).bare = s.bare := rfl
@[simp] theorem bare_updItem (i : Fin 27) (f : MarginItem → MarginItem) : (s.updItem i f).bare = s.bare := rfl
@[simp] theorem bare_line (l : List (TE × LineDue)) : ({ s with line := l } : State).bare = s.bare := rfl

theorem bare_od (o : Settings) : ({ s with od := o } : State).bare = { s.bare with od := o } := rfl

/-- A choice between two states is seen in the bare state as a choice. -/
@[simp] theorem bare_ite (c : Prop) [Decidable c] (s t : State) :
    (if c then s else t).bare = if c then s.bare else t.bare := apply_ite State.bare c s t

/-- Steps that each keep the bare state keep it together. -/
@[simp] theorem bare_each {α : Type} {f : α → State → State} (h : ∀ a t, (f a t).bare = t.bare) (l : List α) :
    (each l f s).bare = s.bare := by
  unfold each
  induction l generalizing s with
  | nil => rfl
  | cons a rest ih => rw [List.foldl_cons, ih, h]

/-- What is done under the settings before a boundary keeps the bare state, as it does under the settings in force. -/
@[simp] theorem bare_asOf {f : State → State} (h : ∀ t, (f t).bare = t.bare) (x : Instant) :
    (s.asOf x f).bare = s.bare := by
  unfold State.asOf
  split
  · rw [bare_od, h, bare_od]; rfl
  · exact h s

/-! ## Events -/

/-- A change of one ended Tide's events and summaries keeps the shells of the ended Tides. -/
theorem inEnded_shell {f : EndedTide → EndedTide} (hf : ∀ b, (f b).shell = b.shell) {a : TE} {l m : List EndedTide}
    (h : inEnded f a l = some m) : m.map EndedTide.shell = l.map EndedTide.shell := by
  induction l generalizing m with
  | nil => cases h
  | cons b rest ih =>
    rw [inEnded] at h
    split at h
    · obtain rfl := Option.some.inj h
      simp [hf]
    · obtain ⟨r, hr, rfl⟩ := Option.map_eq_some_iff.mp h
      simp [ih hr]

theorem Merger.shell_add (m : Merger) (e : Event) : (m.add e).shell = m.shell := by
  unfold Merger.add
  split
  next l h => simp only [Merger.shell, inEnded_shell (fun b => by rfl) h]
  next => rfl

/-- A merger with the same shell is not seen in the bare state. -/
theorem bare_merger {m : Merger} (h : m.shell = s.merger.shell) : ({ s with merger := m } : State).bare = s.bare := by
  simp only [State.bare, h]

@[simp] theorem bare_raiseAt (x : Instant) (source : Nat) (d : W32) (flags : Nat) :
    (s.raiseAt x source d flags).bare = s.bare := by
  unfold State.raiseAt
  cases s.dev.st with
  | boot | load => rfl
  | idle | run | hold | safe => exact bare_merger s (Merger.shell_add _ _)

@[simp] theorem bare_raise (source d flags : Nat) : (s.raise source d flags).bare = s.bare := bare_raiseAt ..

@[simp] theorem bare_raiseOnceAt (x : Instant) (source key d flags : Nat) :
    (s.raiseOnceAt x source key d flags).bare = s.bare := by
  unfold State.raiseOnceAt
  split
  · rfl
  · rw [bare_raiseAt]; rfl

@[simp] theorem bare_raiseOnce (source key d flags : Nat) : (s.raiseOnce source key d flags).bare = s.bare :=
  bare_raiseOnceAt ..

@[simp] theorem bare_raiseSumAt (x : Instant) (source key : Nat) (first : W32) (again : W32 → W32) (flags : Nat) :
    (s.raiseSumAt x source key first again flags).bare = s.bare := by
  unfold State.raiseSumAt
  cases s.dev.st with
  | boot | load => exact bare_raiseAt ..
  | idle | run | hold | safe =>
    dsimp only
    split
    next l h => exact bare_merger s (by simp only [Merger.shell, inEnded_shell (fun b => by rfl) h])
    next => rfl

@[simp] theorem bare_raiseCountAt (x : Instant) (source key low flags : Nat) :
    (s.raiseCountAt x source key low flags).bare = s.bare := bare_raiseSumAt ..

@[simp] theorem bare_raiseCount (source key low flags : Nat) : (s.raiseCount source key low flags).bare = s.bare :=
  bare_raiseCountAt ..

/-! ## ECC words -/

@[simp] theorem bare_inject (written : MemWord → Bool) : (s.inject written).bare = s.bare := by
  unfold State.inject
  split <;> rfl

@[simp] theorem bare_wordsWritten (written : MemWord → Bool) : (s.wordsWritten written).bare = s.bare := by
  rw [State.wordsWritten, bare_inject]; rfl

@[simp] theorem bare_wordWritten (w : MemWord) : (s.wordWritten w).bare = s.bare := bare_wordsWritten ..

/-! ## Triggers, stamps and captures -/

@[simp] theorem bare_swapNow (ch : Fin 64) : (swapNow ch s).bare = s.bare := rfl

@[simp] theorem bare_storeOne (cl : Fin 4) (r : W128) : (storeOne cl r s).bare = s.bare := by simp [storeOne]

@[simp] theorem bare_loseRecords (cl : Fin 4) (origin n : Nat) (x : Instant) (lull : Bool) :
    (loseRecords cl origin n x lull s).bare = s.bare := rfl

@[simp] theorem bare_loseAtQueue (cl : Fin 4) (code n : Nat) (x : Instant) (lull : Bool) :
    (loseAtQueue cl code n x lull s).bare = s.bare := by simp [loseAtQueue]

@[simp] theorem bare_presentTrigger (cl : Fin 4) (c : Nat) (mask : W16) (f : TE) :
    (presentTrigger cl c mask f s).bare = s.bare := by simp [presentTrigger]

@[simp] theorem bare_dropFire (cl : Fin 4) : (dropFire cl s).bare = s.bare := by
  unfold dropFire
  split
  · simp
  · rfl

@[simp] theorem bare_captureDone (cl : Fin 4) (t : TE) : (captureDone cl t s).bare = s.bare := by simp [captureDone]

@[simp] theorem bare_finishChain (cl : Fin 4) : (finishChain cl s).bare = s.bare := by simp [finishChain]

@[simp] theorem bare_endStoring (cl : Fin 4) (extra : BitVec 8) (t : TE) : (endStoring cl extra t s).bare = s.bare := by
  unfold endStoring
  simp only []
  split <;> simp

@[simp] theorem bare_violate (cl : Fin 4) (v : TE) (test cause : Nat) : (violate cl v test cause s).bare = s.bare := by
  simp [violate]

@[simp] theorem bare_intervalTest (g : Fin 32) (v : TE) (value : Int) (timeout : Bool) :
    (intervalTest g v value timeout s).bare = s.bare := by simp [intervalTest]

@[simp] theorem bare_monitorTest (wm : Fin 32) (v : TE) (c : Classn) : (monitorTest wm v c s).bare = s.bare := by
  simp [monitorTest]

@[simp] theorem bare_countLostFire (cl : Nat) : (countLostFire cl s).bare = s.bare := by
  unfold countLostFire
  split <;> rfl

@[simp] theorem bare_offerFire (cl : Fin 4) (x : CapFire) : (offerFire cl x s).bare = s.bare := by
  unfold offerFire
  dsimp only
  rw [bare_each]
  · split <;> simp
  · exact fun _ _ => rfl

@[simp] theorem bare_sendTrigger (x : Instant) (ch : Fin 64) : (sendTrigger x ch s).bare = s.bare := by simp [sendTrigger]

@[simp] theorem bare_deliverTriggers (e : TrigEv) (x : Instant) : (deliverTriggers e x s).bare = s.bare := by
  unfold deliverTriggers
  split
  · simp
  · exact bare_each s (fun _ _ => by rfl) _

@[simp] theorem bare_loseEgress (cl : Fin 4) : (loseEgress cl s).bare = s.bare := rfl

@[simp] theorem bare_codesDue (l : List (TE × W16)) :
    ({ s with fab := { s.fab with codesDue := l } } : State).bare = s.bare := rfl

@[simp] theorem bare_sendCode (c : TE) (i : Fin 32) : (sendCode c i s).bare = s.bare := by simp [sendCode]

@[simp] theorem bare_sendCodes (e : TrigEv) (cl : Fin 4) (c : TE) : (sendCodes e cl c s).bare = s.bare := by
  simp [sendCodes]

@[simp] theorem bare_presentDisplaced (cl : Fin 4) (x : CapFire) : (presentDisplaced cl x s).bare = s.bare := by
  unfold presentDisplaced
  split
  · repeat' split
    all_goals simp
  · rfl

@[simp] theorem bare_addDue (l : List (TE × LineDue)) : (addDue l s).bare = s.bare := rfl

@[simp] theorem bare_pushFifo (i : Fin 32) (e : StampEntry) (kind n : Nat) (t : TE) :
    (pushFifo i e kind n t s).bare = s.bare := by simp [pushFifo]

@[simp] theorem bare_formInterval (g : Fin 32) (m : Measurement) (hit : Nat) (value : Int) (timeout : Bool) (v : TE) :
    (formInterval g m hit value timeout v s).bare = s.bare := by simp [formInterval]

@[simp] theorem bare_decideStop (g inp : Fin 32) (x : Instant) (seq : W16) (taken : Bool) (d : TE) :
    (decideStop g inp x seq taken d s).bare = s.bare := by simp [decideStop]

@[simp] theorem bare_judgeSpan (c : GroupCfg) (x : Instant) : (judgeSpan c x s).bare = s.bare := by simp [judgeSpan]

@[simp] theorem bare_judgeGroup (x : Instant) (g : Fin 32) : (judgeGroup x g s).bare = s.bare := by simp [judgeGroup]

@[simp] theorem bare_judgeGroups : (judgeGroups s).bare = s.bare := by simp [judgeGroups]

@[simp] theorem bare_deliverStamp (i : Fin 32) (x : Instant) (rising : Bool) (seq : W16) (gen : BitVec 4) :
    (deliverStamp i x rising seq gen s).bare = s.bare := by
  unfold deliverStamp
  dsimp only
  rw [bare_ite, bare_addDue, bare_each]
  · simp
  · exact fun _ _ => rfl

@[simp] theorem bare_takeEdge (i : Fin 32) (rising : Bool) (x : Instant) : (takeEdge i rising x s).bare = s.bare := by
  simp [takeEdge]

@[simp] theorem bare_doDue (p : TE × LineDue) : (doDue p s).bare = s.bare := by
  unfold doDue
  cases p.2 <;> simp

/-! ## Trips and monitors -/

@[simp] theorem bare_tripSetEvent (ch : Fin 64) (src : Nat) (t : TE) : (tripSetEvent ch src t s).bare = s.bare :=
  bare_raiseSumAt ..

@[simp] theorem bare_tripReleaseEvent (ch : Fin 64) (src : Nat) (t : TE) :
    (tripReleaseEvent ch src t s).bare = s.bare := bare_raiseSumAt ..

@[simp] theorem bare_tripRenamed (ch : Fin 64) (src : Nat) (was tj : TE) :
    (tripRenamed ch src was tj s).bare = s.bare := by
  unfold tripRenamed
  dsimp only
  split
  next l h => exact bare_merger s (by simp only [Merger.shell, inEnded_shell (fun b => by rfl) h])
  next => rfl

@[simp] theorem bare_setLatch (src : Nat) (t : TE) (ch : Fin 64) : (setLatch src t ch s).bare = s.bare := by
  simp [setLatch]

@[simp] theorem bare_releaseLatch (ch : Fin 64) (t : TE) : (releaseLatch ch t s).bare = s.bare := by simp [releaseLatch]

@[simp] theorem bare_setLatches (src : Nat) (t : TE) (chs : List (Fin 64)) : (setLatches src t chs s).bare = s.bare := by
  simp [setLatches]

@[simp] theorem bare_assertTrip (src : Nat) (t : TE) : (assertTrip src t s).bare = s.bare := by
  unfold assertTrip
  dsimp only
  split <;> simp

@[simp] theorem bare_remoteArrives (wm : Fin 32) (t : TE) : (remoteArrives wm t s).bare = s.bare := bare_setLatches ..

@[simp] theorem bare_periodActs (ch : Fin 64) (t : TE) : (periodActs ch t s).bare = s.bare := by simp [periodActs]

@[simp] theorem bare_clearActs (ch : Fin 64) (t : TE) : (clearActs ch t s).bare = s.bare := by simp [clearActs]

@[simp] theorem bare_followAssert (wm : Fin 32) (t : TE) : (followAssert wm t s).bare = s.bare := by simp [followAssert]

@[simp] theorem bare_syncClass (wm : Fin 32) (t : TE) (c : Classn) : (syncClass wm t c s).bare = s.bare := by
  simp [syncClass]

@[simp] theorem bare_applyDue (wm : Fin 32) (t : TE) (c : Classn) : (applyDue wm t c s).bare = s.bare := by
  simp [applyDue]

@[simp] theorem bare_settleMon (a : TE) (wm : Fin 32) : (settleMon a wm s).bare = s.bare := by simp [settleMon]

/-! ## Settling -/

@[simp] theorem bare_settleLine (a : TE) : (settleLine a s).bare = s.bare := by simp [settleLine]

@[simp] theorem bare_swapPath (ch : Fin 64) (t : TE) : (swapPath ch t s).bare = s.bare := by simp [swapPath]

@[simp] theorem bare_doLate (p : TE × LineDue) : (doLate p s).bare = s.bare := by
  unfold doLate
  cases p.2 <;> simp

@[simp] theorem bare_settleLate (a : TE) : (settleLate a s).bare = s.bare := by simp [settleLate]

@[simp] theorem bare_settleAt (t : TE) : (settleAt t s).bare = s.bare := by simp [settleAt]

@[simp] theorem bare_settleBy (fuel : Nat) : (settleBy fuel s).bare = s.bare := by
  induction fuel generalizing s with
  | zero => rfl
  | succ fuel ih =>
    unfold settleBy
    dsimp only
    split
    · exact bare_judgeGroups s
    · rw [ih, bare_settleAt, bare_judgeGroups]

/-- Settling changes the data plane alone. -/
@[simp] theorem bare_settle : s.settle.bare = s.bare := bare_settleBy ..

/-- Time that passes changes the clock and the data plane alone. -/
theorem bare_reach (a : TE) : (s.reach a).bare = (s.arrive a).bare := bare_settle _

end

/-! ## What states with the same bare state agree on -/

section
variable {s t : State} (h : s.bare = t.bare)
include h

theorem bare_eq_answer : s.answer = t.answer := congrArg (fun x => x.answer) h
theorem bare_eq_dev : s.dev = t.dev := congrArg (fun x => x.dev) h
theorem bare_eq_hourAt : s.health.hourAt = t.health.hourAt := congrArg (fun x => x.health.hourAt) h
theorem bare_eq_time : s.time = t.time := congrArg (fun x => x.time) h

end

end Sys2Proof.Machine

/-!
SUPPORT. What reads and writes of ECC words leave unchanged. `State.widen` blanks, beside the data plane, what a write of the
Saltern, a change of ownership and an alert change.
-/
namespace Sys2Proof.Machine

/-! ## The widened bare state -/

/-- A bare state without the Saltern, its ownership store, the event ring, the host interface, the pins, the events taken,
and the drivers, clock outputs and Drizzles. -/
def State.widen (s : State) : State :=
  { s with
    mem := [], own := [], ring := {}, host := {}, pins := {}, drv := State.reset.drv, clkout := State.reset.clkout
    drz := State.reset.drz, merger := { s.merger with taken := [] } }

section
variable (s : State)

@[simp] theorem widen_ite (c : Prop) [Decidable c] (s t : State) :
    (if c then s else t).widen = if c then s.widen else t.widen := apply_ite State.widen c s t

/-- Steps that each keep the widened bare state keep it together. -/
@[simp] theorem widen_each {α : Type} {f : α → State → State} (h : ∀ a t, (f a t).bare.widen = t.bare.widen) (l : List α) :
    (each l f s).bare.widen = s.bare.widen := by
  unfold each
  induction l generalizing s with
  | nil => rfl
  | cons a rest ih => rw [List.foldl_cons, ih, h]

@[simp] theorem widen_mem (m : List Host.Cell) : ({ s with mem := m } : State).bare.widen = s.bare.widen := rfl
@[simp] theorem widen_own (o : List (Nat × PanFlag)) : ({ s with own := o } : State).bare.widen = s.bare.widen := rfl
@[simp] theorem widen_ring (r : Ring) : ({ s with ring := r } : State).bare.widen = s.bare.widen := rfl
@[simp] theorem widen_host (h : HostIf) : ({ s with host := h } : State).bare.widen = s.bare.widen := rfl
@[simp] theorem widen_pins (p : Pins) : ({ s with pins := p } : State).bare.widen = s.bare.widen := rfl
@[simp] theorem widen_setFlag (pan : Nat) (f : PanFlag) : (s.setFlag pan f).bare.widen = s.bare.widen := rfl
@[simp] theorem widen_handOver (pan : Nat) (o : Owner) (use : Byte) :
    (s.handOver pan o use).bare.widen = s.bare.widen := rfl
@[simp] theorem widen_updDrz (i : Fin 4) (f : Drizzle → Drizzle) : (s.updDrz i f).bare.widen = s.bare.widen := rfl
@[simp] theorem widen_updDrv (i : Fin 64) (f : Driver → Driver) : (s.updDrv i f).bare.widen = s.bare.widen := rfl
@[simp] theorem widen_updClk (i : Fin 8) (f : ClkOut → ClkOut) : (s.updClk i f).bare.widen = s.bare.widen := rfl

@[simp] theorem widen_refreshAlert : s.refreshAlert.bare.widen = s.bare.widen := by
  unfold State.refreshAlert
  split <;> rfl

@[simp] theorem widen_setAlert (b : BitVec 4) : (s.setAlert b).bare.widen = s.bare.widen := by simp [State.setAlert]

/-! ## ECC words (R462, R463) -/

theorem changeNth_length {α : Type} (f : α → α) (k : Nat) (ls : List (List α)) : (changeNth f k ls).length = ls.length := by
  induction ls generalizing k with
  | nil => rfl
  | cons l rest ih =>
    unfold changeNth
    split <;> simp [ih]

/-- An event whose words are poisoned stays where it is, as an event (R463). -/
theorem poisonEvent_shell (k : Nat) (m : Merger) : (poisonEvent k m).shell = m.shell := by
  have hzip (ls : List (List Event)) (h : m.ended.length ≤ ls.length) :
      ((m.ended.zip ls).map (fun p => { p.1 with events := p.2 })).map EndedTide.shell = m.ended.map EndedTide.shell := by
    rw [List.map_map]
    calc (m.ended.zip ls).map _ = ((m.ended.zip ls).map Prod.fst).map EndedTide.shell := by rw [List.map_map]; rfl
      _ = m.ended.map EndedTide.shell := by rw [List.map_fst_zip h]
  unfold poisonEvent Merger.shell
  dsimp only
  rw [hzip _ (by simp [changeNth_length])]

@[simp] theorem bare_memoryEvent (w : MemWord) (uncorrectable scrub : Bool) :
    (memoryEvent w uncorrectable scrub s).bare = s.bare := by simp [memoryEvent]

@[simp] theorem bare_correctWord (w : MemWord) (scrub : Bool) : (correctWord w scrub s).bare = s.bare := by
  rw [correctWord, bare_memoryEvent]; rfl

@[simp] theorem widen_freezeProgramPan (pan : Nat) : (freezeProgramPan pan s).bare.widen = s.bare.widen := by
  simp [freezeProgramPan]

/-- What the record of an uncorrectable word, and the event poisoned by it, leave unchanged. -/
theorem bare_poisoned (c : Prop) [Decidable c] (k : Nat) {h : Health} (hh : h.shell = s.health.shell) :
    (if c then ({ s with health := h, merger := poisonEvent k s.merger } : State) else { s with health := h }).bare =
      s.bare := by
  have hhealth : ({ s with health := h } : State).bare = s.bare := by simp only [State.bare, hh]
  split
  · exact (bare_merger { s with health := h } (poisonEvent_shell k s.merger)).trans hhealth
  · exact hhealth

@[simp] theorem widen_poisonWord (w : MemWord) (scrub : Bool) : (poisonWord w scrub s).bare.widen = s.bare.widen := by
  unfold poisonWord
  split
  · rfl
  · dsimp only
    rw [bare_ite, widen_ite, widen_freezeProgramPan, ite_self, bare_memoryEvent, bare_poisoned]
    rfl

/-- An uncorrectable word outside the Saltern freezes no program Pan. -/
theorem bare_poisonWord {w : MemWord} (hw : w.mem ≠ 0) (scrub : Bool) : (poisonWord w scrub s).bare = s.bare := by
  unfold poisonWord
  split
  · rfl
  · dsimp only
    rw [bare_memoryEvent, bare_poisoned]
    rfl

@[simp] theorem widen_readWord (w : MemWord) : (readWord w s).bare.widen = s.bare.widen := by
  unfold readWord
  split <;> simp

theorem bare_readWord {w : MemWord} (hw : w.mem ≠ 0) : (readWord w s).bare = s.bare := by
  unfold readWord
  split
  · exact bare_poisonWord s hw false
  · simp
  · rfl

/-! ## Writes of the Saltern -/

@[simp] theorem widen_putWord (w : Nat) (bs : List (Option Byte)) : (s.putWord w bs).bare.widen = s.bare.widen := by
  simp [State.putWord]

@[simp] theorem widen_putWords (w n : Nat) (bs : List (Option Byte)) : (s.putWords w n bs).bare.widen = s.bare.widen := by
  induction n generalizing s w bs with
  | zero => rfl
  | succ n ih => rw [State.putWords, ih, widen_putWord]

@[simp] theorem widen_writeBytes (a : Nat) (bs : List Byte) : (s.writeBytes a bs).bare.widen = s.bare.widen :=
  widen_putWords ..

@[simp] theorem widen_writeRecord (a : Nat) (r : W128) : (s.writeRecord a r).bare.widen = s.bare.widen :=
  widen_writeBytes ..

/-! ## The event ring (R384 to R386) and the merger's memory (R461, R463) -/

@[simp] theorem widen_ringPut (r : W128) : (ringPut r s).bare.widen = s.bare.widen := by simp [ringPut]

@[simp] theorem widen_ringLose (x : Instant) : (ringLose x s).bare.widen = s.bare.widen := by simp [ringLose]

@[simp] theorem widen_ringGap : (ringGap s).bare.widen = s.bare.widen := by
  unfold ringGap
  split <;> simp

@[simp] theorem widen_ringWrite (e : Event) : (ringWrite e s).bare.widen = s.bare.widen := by simp [ringWrite]

@[simp] theorem bare_readMerger (n : Nat) : (readMerger n s).bare = s.bare := by
  have hwords (l : List (MemWord × Bool)) (hl : ∀ e ∈ l, e.1.mem = 5) (t : State) :
      (each l (fun e t => readWord e.1 t) t).bare = t.bare := by
    induction l generalizing t with
    | nil => rfl
    | cons e rest ih =>
      refine (ih (fun e he => hl e (List.mem_cons_of_mem _ he)) (readWord e.1 t)).trans (bare_readWord t ?_)
      simp [hl e List.mem_cons_self]
  let taken (w : MemWord) : Bool := w.mem = 5 && decide (Config.mergerEvent w.addr < n)
  let t := s.inject taken
  have htaken : ∀ e ∈ t.health.errs.filter (fun e => taken e.1), e.1.mem = 5 := fun e he => by
    have := (List.mem_filter.mp he).2
    simp only [taken, Bool.and_eq_true, decide_eq_true_eq] at this
    exact this.1
  have hread : (each (t.health.errs.filter (fun e => taken e.1)) (fun e t => readWord e.1 t) t).bare = s.bare :=
    (hwords _ htaken t).trans (bare_inject s taken)
  exact hread

/-- Events taken into the ring leave the ended Tides, but for the taken events, and the closed batches unchanged. -/
@[simp] theorem widen_takePending : (takePending s).bare.widen = s.bare.widen := by
  have htake (l : List Event) {m : Merger} {t : State} (hm : { m with taken := [] }.shell = { t.merger with taken := [] }.shell) :
      (takeAll l { t with merger := m }).bare.widen = t.bare.widen := by
    unfold takeAll
    rw [widen_each _ (fun e t => widen_ringWrite t e)]
    exact congrArg (fun m => { t.bare.widen with merger := m }) hm
  unfold takePending
  dsimp only
  rw [← congrArg State.widen (bare_readMerger s s.merger.waiting)]
  split
  next b rest h => exact htake _ (by simp [Merger.shell, h, EndedTide.shell])
  next => exact htake _ rfl

end

/-! ## What states with the same widened bare state agree on -/

section
variable {s t : State} (h : s.bare.widen = t.bare.widen)
include h

theorem widen_eq_time : s.time = t.time := congrArg (fun x => x.time) h
theorem widen_eq_dev : s.dev = t.dev := congrArg (fun x => x.dev) h
theorem widen_eq_answer : s.answer = t.answer := congrArg (fun x => x.answer) h
theorem widen_eq_csu : s.csu = t.csu := congrArg (fun x => x.csu) h
theorem widen_eq_boot : s.boot = t.boot := congrArg (fun x => x.boot) h
theorem widen_eq_od : s.od = t.od := congrArg (fun x => x.od) h
theorem widen_eq_closed : s.merger.closed = t.merger.closed := congrArg (fun x => x.merger.closed) h
theorem widen_eq_ended : s.merger.ended.map EndedTide.shell = t.merger.ended.map EndedTide.shell :=
  congrArg (fun x => x.merger.ended) h

end

end Sys2Proof.Machine

/-!
SUPPORT. Event order, batches and their publication, and the statement about them (spec 02, R66, R68; spec 14, R383 to R387).
-/
namespace Sys2Proof.Machine

/-! ## The order of events (R66) -/

/-- The key of an event: its instant, an anchor ahead of the others of that instant, its source. -/
def Event.key (e : Event) : ℕ ×ₗ ℕ ×ₗ ℕ := toLex (e.at_, toLex (if e.anchor then 0 else 1, e.source))

theorem Event.before_iff (a b : Event) : a.before b = true ↔ a.key < b.key := by
  simp only [Event.before, Event.key, Prod.Lex.toLex_lt_toLex]
  cases a.anchor <;> cases b.anchor <;> simp

theorem Event.not_before_iff (a b : Event) : a.before b = false ↔ b.key ≤ a.key := by
  rw [Bool.eq_false_iff, Ne, Event.before_iff, not_lt]

/-- No event of the list is before one that stands ahead of it. -/
def EventsOrdered (l : List Event) : Prop := l.Pairwise (fun a b => b.before a = false)

theorem insertEvent_perm (e : Event) (l : List Event) : (insertEvent e l).Perm (e :: l) := by
  induction l with
  | nil => exact .refl _
  | cons f rest ih =>
    unfold insertEvent
    split
    · exact .refl _
    · exact (ih.cons f).trans (.swap e f rest)

theorem insertEvent_ordered (e : Event) {l : List Event} (h : EventsOrdered l) : EventsOrdered (insertEvent e l) := by
  induction l with
  | nil => exact List.pairwise_singleton _ _
  | cons f rest ih =>
    obtain ⟨hf, hrest⟩ := List.pairwise_cons.mp h
    unfold insertEvent
    split
    next hef =>
      have hfe : e.key < f.key := (Event.before_iff e f).mp hef
      refine List.pairwise_cons.mpr ⟨fun g hg => ?_, h⟩
      rcases List.mem_cons.mp hg with rfl | hg
      · exact (Event.not_before_iff _ _).mpr hfe.le
      · exact (Event.not_before_iff _ _).mpr (hfe.le.trans ((Event.not_before_iff g f).mp (hf g hg)))
    next hef =>
      refine List.pairwise_cons.mpr ⟨fun g hg => ?_, ih hrest⟩
      rcases List.mem_cons.mp ((insertEvent_perm e rest).mem_iff.mp hg) with rfl | hg
      · exact Bool.eq_false_iff.mpr hef
      · exact hf g hg

/-- Events are taken in the order of their key; none is lost or made up (R66). -/
theorem sortEvents_spec (l : List Event) : (sortEvents l).Perm l ∧ EventsOrdered (sortEvents l) := by
  have hfold (l a : List Event) (ha : EventsOrdered a) :
      (l.foldl (fun a e => insertEvent e a) a).Perm (l ++ a) ∧ EventsOrdered (l.foldl (fun a e => insertEvent e a) a) := by
    induction l generalizing a with
    | nil => exact ⟨.refl _, ha⟩
    | cons e rest ih =>
      obtain ⟨hperm, hordered⟩ := ih (insertEvent e a) (insertEvent_ordered e ha)
      exact ⟨hperm.trans (((insertEvent_perm e a).append_left rest).trans List.perm_middle), hordered⟩
  simpa [sortEvents] using hfold l [] List.Pairwise.nil

/-! ## Closing a batch (R66, R68) -/

/-- The taking of a Tide's events before its batch closes: its immediate events first, then its summaries. -/
def drained (a : TE) (s : State) : State :=
  let t := takePending (s.reach a)
  takePending { t with merger := { t.merger with ended := t.merger.ended.modifyHead EndedTide.close } }

/-- Taking the events of a Tide leaves time, settings, closed batches, and the ended Tides but for their events. -/
theorem drained_widen (a : TE) (s : State) : (drained a s).bare.widen = (s.arrive a).bare.widen := by
  have hclose (l : List EndedTide) : (l.modifyHead EndedTide.close).map EndedTide.shell = l.map EndedTide.shell := by
    cases l <;> rfl
  rw [← bare_reach, ← widen_takePending (s.reach a), drained, widen_takePending]
  simp only [State.bare, State.widen, Merger.shell, hclose]

theorem batchClose_of_ended {s : State} {b : EndedTide} {rest : List EndedTide} (h : s.merger.ended = b :: rest) :
    ∃ x rest', batchClose s = { drained (b.at_ + 80) s with merger := { (drained (b.at_ + 80) s).merger with
        ended := rest', taken := [], closed := (drained (b.at_ + 80) s).merger.closed ++ [x] } } ∧
      x.tide = b.tide ∧ rest'.length = rest.length := by
  have hended : (drained (b.at_ + 80) s).merger.ended.map EndedTide.shell = (b :: rest).map EndedTide.shell := by
    rw [← h]; exact (widen_eq_ended (drained_widen (b.at_ + 80) s)).trans rfl
  obtain ⟨b', rest', hb', hshell, hrest⟩ := List.map_eq_cons_iff.mp (hended.trans List.map_cons)
  have htide : b'.tide = b.tide := (congrArg EndedTide.tide hshell :)
  have hlength : rest'.length = rest.length := by simpa using congrArg List.length hrest
  simp only [drained] at hb'
  simp only [batchClose, h, drained, hb']
  exact ⟨_, rest', rfl, htide, hlength⟩

/-! ## Publication (R383, R387) -/

/-- What is done to a state for each entry of a list keeps what each step keeps. -/
theorem each_induction {α : Type} {P : State → Prop} {f : α → State → State} {l : List α} (s : State) (h : P s)
    (hstep : ∀ a ∈ l, ∀ t, P t → P (f a t)) : P (each l f s) := by
  unfold each
  induction l generalizing s with
  | nil => exact h
  | cons a rest ih =>
    exact ih (f a s) (hstep a List.mem_cons_self s h) fun b hb => hstep b (List.mem_cons_of_mem a hb)

/-- The message of vector 1, as its table entry names it (R383). -/
def batchMessage (h : HostIf) : MsixWrite :=
  MsixWrite.mk 1 (h.msixTable[1].setWidth 64) ((h.msixTable[1] >>> 64).setWidth 32)

/-- A message stands among the last `n + 1` sent. -/
def SentLately (m : MsixWrite) (n : Nat) (l : List MsixWrite) : Prop := ∃ a b, l = a ++ m :: b ∧ b.length ≤ n

/-- The list of messages sent holds 64: one that is among the last 63 stays when another is sent. -/
theorem SentLately.append {m : MsixWrite} {n : Nat} {l : List MsixWrite} (h : SentLately m n l) (hn : n < 63) (x : MsixWrite) :
    SentLately m (n + 1) ((l ++ [x]).drop ((l ++ [x]).length - 64)) := by
  obtain ⟨a, b, rfl, hb⟩ := h
  refine ⟨a.drop ((a ++ m :: b ++ [x]).length - 64), b ++ [x], ?_, by simpa using hb⟩
  rw [List.append_assoc, List.drop_append_of_le_length (by simp; omega)]
  simp

theorem msix_pending_one (s : State) (h : s.host.sends 1 = false) : (s.msix 1).host.msixPending.getLsbD 1 = true := by
  have hhost : (s.msix 1).host = { s.host with msixPending := s.host.msixPending ||| 2#32 } :=
    if_neg (Bool.eq_false_iff.mp h)
  rw [hhost]; simp

theorem msix_sent_one (s : State) (h : s.host.sends 1 = true) :
    (s.msix 1).host.msixPending.getLsbD 1 = false ∧ SentLately (batchMessage s.host) 0 (s.msix 1).host.msixSent := by
  have hhost : (s.msix 1).host = s.host.send 1 := if_pos h
  rw [hhost]
  refine ⟨by simp [HostIf.send], s.host.msixSent.drop (s.host.msixSent.length - 63), [], ?_, le_rfl⟩
  simp only [HostIf.send, List.length_append, List.length_singleton, Nat.reduceSubDiff]
  rw [List.drop_append_of_le_length (by omega)]
  rfl

/-- The message of another vector leaves the pending bit of vector 1. -/
theorem msix_other_pending (s : State) {v : Nat} (h2 : 2 ≤ v) (h32 : v < 32) :
    (s.msix v).host.msixPending.getLsbD 1 = s.host.msixPending.getLsbD 1 := by
  have hbit : (BitVec.ofNat 32 (2 ^ v)).getLsbD 1 = false := by
    rw [BitVec.getLsbD_ofNat, Nat.testBit_two_pow_of_ne (by omega), Bool.and_false]
  have hv : (Fin.ofNat 32 v).val = v := Nat.mod_eq_of_lt h32
  unfold State.msix
  dsimp only
  split
  · rw [HostIf.send, hv, BitVec.getLsbD_and, BitVec.getLsbD_not, hbit]
    simp
  · rw [BitVec.getLsbD_or, hbit, Bool.or_false]

theorem msix_sentLately (s : State) (v : Nat) {m : MsixWrite} {n : Nat} (h : SentLately m n s.host.msixSent) (hn : n < 63) :
    SentLately m (n + 1) (s.msix v).host.msixSent := by
  unfold State.msix
  dsimp only
  split
  · exact h.append hn _
  · obtain ⟨a, b, hl, hb⟩ := h
    exact ⟨a, b, hl, by omega⟩

/-- The messages of further vectors leave the pending bit of vector 1 and its message among those sent. -/
theorem msix_each (l : List Nat) (hl : ∀ v ∈ l, 2 ≤ v ∧ v < 32) (s : State) :
    (each l (fun v t => t.msix v) s).host.msixPending.getLsbD 1 = s.host.msixPending.getLsbD 1 ∧
    ∀ m n, SentLately m n s.host.msixSent → n + l.length ≤ 63 →
      m ∈ (each l (fun v t => t.msix v) s).host.msixSent := by
  induction l generalizing s with
  | nil => exact ⟨rfl, fun m n ⟨a, b, h, _⟩ _ => (h ▸ by simp : m ∈ s.host.msixSent)⟩
  | cons v rest ih =>
    obtain ⟨h2, h32⟩ := hl v List.mem_cons_self
    obtain ⟨hpending, hsent⟩ := ih (fun v hv => hl v (List.mem_cons_of_mem _ hv)) (s.msix v)
    refine ⟨hpending.trans (msix_other_pending s h2 h32), fun m n hm hn => ?_⟩
    rw [List.length_cons] at hn
    exact hsent m (n + 1) (msix_sentLately s v hm (by omega)) (by omega)

theorem batchVectors_mem {map : List Byte} {b : Batch} {v : Nat} (h : v ∈ batchVectors map b) : 2 ≤ v ∧ v < 32 := by
  simp only [batchVectors, List.mem_filter, List.mem_range, Bool.and_eq_true, decide_eq_true_eq] at h
  exact ⟨h.2.1, h.1⟩

theorem batchVectors_length (map : List Byte) (b : Batch) : (batchVectors map b).length ≤ 32 :=
  (List.length_filter_le _ _).trans_eq List.length_range

/-- An alert leaves the messages sent and those pending. -/
theorem setAlert_msix (s : State) (b : BitVec 4) :
    (s.setAlert b).host.msixSent = s.host.msixSent ∧ (s.setAlert b).host.msixPending = s.host.msixPending := by
  unfold State.setAlert State.refreshAlert
  dsimp only
  split <;> exact ⟨rfl, rfl⟩

/-- Vector 1 is signalled for a batch that is not empty: its message is sent, or pending where it cannot be sent (R383). -/
theorem signalBatch_vector1 {b : Batch} (h : b.events ≠ []) (s : State) :
    (s.host.sends 1 = false → (signalBatch b s).host.msixPending.getLsbD 1 = true) ∧
    (s.host.sends 1 = true → (signalBatch b s).host.msixPending.getLsbD 1 = false ∧
      batchMessage s.host ∈ (signalBatch b s).host.msixSent) := by
  have hsome : b.events.isEmpty = false := by simpa using h
  let l := batchVectors ((s.msix 1).od.bytes 0x1401 1) b
  obtain ⟨hpending, hsent⟩ := msix_each l (fun v => batchVectors_mem) (s.msix 1)
  have hsignal : (signalBatch b s).host.msixSent = (each l (fun v t => t.msix v) (s.msix 1)).host.msixSent ∧
      (signalBatch b s).host.msixPending = (each l (fun v t => t.msix v) (s.msix 1)).host.msixPending := by
    unfold signalBatch
    simp only [hsome, Bool.false_eq_true, if_false]
    split
    · exact setAlert_msix _ _
    · exact ⟨rfl, rfl⟩
  obtain ⟨hsig, hpend⟩ := hsignal
  rw [hsig, hpend, hpending]
  refine ⟨msix_pending_one s, fun hs => ?_⟩
  obtain ⟨hclear, hlately⟩ := msix_sent_one s hs
  have hl : l.length ≤ 32 := batchVectors_length ..
  exact ⟨hclear, hsent _ 0 hlately (by omega)⟩

/-- An alert changes the host interface and the pins alone. -/
theorem setAlert_frame (s : State) (b : BitVec 4) : ∃ h p, s.setAlert b = { s with host := h, pins := p } := by
  unfold State.setAlert State.refreshAlert
  split <;> exact ⟨_, _, rfl⟩

/-- The signals of a batch change the host interface and the pins alone. -/
theorem signalBatch_frame (b : Batch) (s : State) : ∃ h p, signalBatch b s = { s with host := h, pins := p } := by
  have hvectors (l : List Nat) (t : State) (ht : ∃ h, t = { s with host := h }) :
      ∃ h, each l (fun v t => t.msix v) t = { s with host := h } := by
    refine each_induction (P := fun t => ∃ h, t = { s with host := h }) t ht ?_
    rintro v - t ⟨h, rfl⟩
    exact ⟨_, rfl⟩
  unfold signalBatch
  dsimp only
  obtain ⟨h, hvec⟩ := hvectors (batchVectors ((if b.events.isEmpty then s else s.msix 1).od.bytes 0x1401 1) b)
    (if b.events.isEmpty then s else s.msix 1) (by split <;> exact ⟨_, rfl⟩)
  rw [hvec]
  split
  · exact setAlert_frame _ _
  · exact ⟨_, _, rfl⟩

/-- A case of a summary event changes the merger alone. -/
theorem raiseCount_frame (s : State) (source key low flags : Nat) :
    s.raiseCount source key low flags = { s with merger := (s.raiseCount source key low flags).merger } := by
  unfold State.raiseCount State.raiseCountAt State.raiseSumAt
  cases s.dev.st with
  | boot | load => exact raiseAt_frame ..
  | idle | run | hold | safe => dsimp only; split <;> rfl

/-- What the subscribers are sent changes their subscriptions, SPI's events and the merger, not its closed batches. -/
theorem sendBatch_frame (b : Batch) (s : State) : ∃ k p m, sendBatch b s = { s with kpp := k, spi := p, merger := m } ∧
    m.closed = s.merger.closed := by
  let Spares (t : State) : Prop := ∃ k p m, t = { s with kpp := k, spi := p, merger := m } ∧ m.closed = s.merger.closed
  have hraise (t : State) (ht : Spares t) (n : Nat) : Spares (each (List.range n) (fun _ t => t.raiseCount 494 7 7) t) := by
    refine each_induction (P := Spares) t ht ?_
    rintro - - t ⟨k, p, m, rfl, hm⟩
    exact ⟨k, p, _, raiseCount_frame .., (congrArg (fun t => t.merger.closed) (bare_raiseCount ..)).trans hm⟩
  refine each_induction (P := Spares) s ⟨_, _, _, rfl, rfl⟩ ?_
  rintro u - t ⟨k, p, m, rfl, hm⟩
  refine hraise _ ?_ _
  dsimp only
  split <;> exact ⟨_, _, m, rfl, hm⟩

/-- The ring shows a published batch (R385, R387). -/
def published (b : Batch) (r : Ring) : Ring := if r.on then { r with prod := b.past, tide := b.tide } else r

/-- The state in which the signals of a published batch are raised: the batch off the list, the ring showing it. -/
def State.shown (s : State) (b : Batch) (rest : List Batch) : State :=
  { s with merger := { s.merger with closed := rest }, ring := published b s.ring }

theorem batchPublish_of_closed {s : State} {b : Batch} {rest : List Batch} (h : s.merger.closed = b :: rest) :
    ∃ k p m pins, batchPublish s = { s with
        merger := m, ring := published b s.ring, host := (signalBatch b (s.shown b rest)).host, pins := pins, spi := p, kpp := k } ∧
      m.closed = rest := by
  have hshown : batchPublish s = sendBatch b (signalBatch b (s.shown b rest)) := by
    simp only [batchPublish, h, State.shown, published]
    split <;> rfl
  rw [hshown]
  obtain ⟨hst, pins, hsignal⟩ := signalBatch_frame b (s.shown b rest)
  obtain ⟨k, p, m, hsend, hm⟩ := sendBatch_frame b (signalBatch b (s.shown b rest))
  rw [hsend]
  rw [hsignal] at hm ⊢
  exact ⟨k, p, m, pins, rfl, hm⟩

/-- Settles O42: the events are sorted by a total key; what closes or publishes a batch is framed function by function. -/
theorem batches : Obligations.batches := by
  unfold Obligations.batches
  refine ⟨fun l => sortEvents_spec l, fun s => ⟨fun b rest h => ?_, fun b rest h => ?_⟩⟩
  · obtain ⟨x, rest', hclose, hx, hrest⟩ := batchClose_of_ended h
    have hw := drained_widen (b.at_ + 80) s
    have hcount : (drained (b.at_ + 80) s).time.count = max s.time.count (b.at_ + 80) := congrArg TimeState.count (widen_eq_time hw)
    have hclosed : (drained (b.at_ + 80) s).merger.closed = s.merger.closed := (widen_eq_closed hw).trans rfl
    have hod : (drained (b.at_ + 80) s).od = s.od := (widen_eq_od hw).trans rfl
    have hexec : exec .batchClose s = .next (batchClose s) := rfl
    rw [hexec, hclose]
    generalize drained (b.at_ + 80) s = t at hcount hclosed hod
    refine ⟨_, x, rfl, ?_, ?_, hx, hrest, rfl, hod⟩
    · exact (le_max_right _ _).trans_eq hcount.symm
    · exact congrArg (· ++ [x]) hclosed
  · obtain ⟨k, p, m, pins, hpublish, hm⟩ := batchPublish_of_closed h
    have hexec : exec .batchPublish s = .next (batchPublish s) := rfl
    rw [hexec, hpublish]
    refine ⟨_, rfl, hm, fun hon => ?_, fun hoff => ?_, fun he hs => ?_, fun he hs => ?_, rfl⟩
    · exact if_pos hon
    · exact if_neg (Bool.eq_false_iff.mp hoff)
    · exact (signalBatch_vector1 he (s.shown b rest)).1 hs
    · exact (signalBatch_vector1 he (s.shown b rest)).2 hs

end Sys2Proof.Machine

/-!
SUPPORT. The fields that an event, and time that passes, leave as they are: what `State.bare` shows, field by field.
-/
namespace Sys2Proof.Machine

section
variable (s : State)

/-! ## An event raised -/

@[simp] theorem raise_time (source d flags : Nat) : (s.raise source d flags).time = s.time :=
  congrArg (fun t => t.time) (bare_raise s source d flags)
@[simp] theorem raise_dev (source d flags : Nat) : (s.raise source d flags).dev = s.dev :=
  congrArg (fun t => t.dev) (bare_raise s source d flags)
@[simp] theorem raise_csu (source d flags : Nat) : (s.raise source d flags).csu = s.csu :=
  congrArg (fun t => t.csu) (bare_raise s source d flags)
@[simp] theorem raise_clkout (source d flags : Nat) : (s.raise source d flags).clkout = s.clkout :=
  congrArg (fun t => t.clkout) (bare_raise s source d flags)
@[simp] theorem raise_port (source d flags : Nat) : (s.raise source d flags).port = s.port :=
  congrArg (fun t => t.port) (bare_raise s source d flags)
@[simp] theorem raise_persist (source d flags : Nat) : (s.raise source d flags).persist = s.persist :=
  congrArg (fun t => t.persist) (bare_raise s source d flags)

/-! ## What waits is settled, and time that is reached -/

theorem settle_time : s.settle.time = s.time := congrArg (fun t => t.time) (bare_settle s)
theorem reach_time (a : TE) : (s.reach a).time = (s.arrive a).time := settle_time _
@[simp] theorem reach_count (a : TE) : (s.reach a).time.count = max s.time.count a := by rw [reach_time]; rfl
@[simp] theorem reach_part (a : TE) : (s.reach a).part = s.part := congrArg (fun t => t.part) (bare_reach s a)
@[simp] theorem reach_boot (a : TE) : (s.reach a).boot = s.boot := congrArg (fun t => t.boot) (bare_reach s a)
@[simp] theorem reach_dev (a : TE) : (s.reach a).dev = s.dev := congrArg (fun t => t.dev) (bare_reach s a)
@[simp] theorem reach_csu (a : TE) : (s.reach a).csu = s.csu := congrArg (fun t => t.csu) (bare_reach s a)
@[simp] theorem reach_port (a : TE) : (s.reach a).port = s.port := congrArg (fun t => t.port) (bare_reach s a)
@[simp] theorem reach_armg (a : TE) : (s.reach a).armg = s.armg := congrArg (fun t => t.armg) (bare_reach s a)
@[simp] theorem reach_od (a : TE) : (s.reach a).od = s.od := congrArg (fun t => t.od) (bare_reach s a)
@[simp] theorem reach_commits (a : TE) : (s.reach a).commits = s.commits := congrArg (fun t => t.commits) (bare_reach s a)
@[simp] theorem reach_answer (a : TE) : (s.reach a).answer = s.answer := congrArg (fun t => t.answer) (bare_reach s a)

end

end Sys2Proof.Machine

/-!
SUPPORT. What the commands of supply, start-up and device state complete with (spec 15, R403, R404; spec 16, R434 to R441, R450,
R451).
-/
namespace Sys2Proof.Machine

/-! ## Supply (R15 to R17, R434, R439, R440) -/

/-- A fresh start is BOOT with the supply on and the CSU off. -/
theorem FreshStart.running {s t : State} (h : FreshStart s t) :
    t.dev.st = .boot ∧ t.boot.power = .running ∧ t.csu.st = .off :=
  ⟨congrArg Dev.st h.dev, congrArg (fun t => t.boot.power) h.1, congrArg Csu.st h.csu⟩

/-! ## Device states -/

@[simp] theorem bare_cancelAll (ch : Fin 64) (s : State) : (cancelAll ch s).bare = s.bare := rfl
@[simp] theorem bare_stopProgram (ch : Fin 64) (s : State) : (stopProgram ch s).bare = s.bare := rfl
@[simp] theorem bare_setProgrammed (ch : Fin 64) (t : TE) (st : OutState) (s : State) :
    (setProgrammed ch t st s).bare = s.bare := rfl

/-- The channels at rest: edges and pending sequences cancelled, programs stopped (R149, R155). -/
@[simp] theorem bare_channelRests (ch : Fin 64) (s : State) : (channelRests ch s).bare = s.bare := by
  simp [channelRests]

@[simp] theorem bare_clearSignals (t : TE) (s : State) : (clearSignals t s).bare = s.bare := rfl

@[simp] theorem widen_clkStop (n : Fin 8) (x : Instant) (st : Nat) (s : State) :
    (clkStop n x st s).bare.widen = s.bare.widen := by simp [clkStop, clkCleared]

@[simp] theorem widen_clkEnterSafe (s : State) : (clkEnterSafe s).bare.widen = s.bare.widen := by simp [clkEnterSafe]

/-- What entering a device state leaves, apart from the state itself. -/
theorem widen_enterState (d : DevState) (s : State) :
    (enterState d s).bare.widen = ({ s with dev := { s.dev with st := d } } : State).bare.widen := by
  unfold enterState stateEvent
  cases d <;> simp

@[simp] theorem enterState_dev (d : DevState) (s : State) : (enterState d s).dev = { s.dev with st := d } :=
  (widen_eq_dev (widen_enterState d s)).trans rfl

@[simp] theorem enterState_answer (d : DevState) (s : State) : (enterState d s).answer = s.answer :=
  (widen_eq_answer (widen_enterState d s)).trans rfl

/-- BOOT ends in LOAD (R434). -/
theorem bootComplete_load {s : State} (hp : s.boot.power = .running) (hd : s.dev.st = .boot) (f : Option FlashChip) :
    (bootComplete f s).dev.st = .load := by
  rw [bootComplete, if_pos ⟨hp, hd⟩, enterState_dev]

/-! ## Commands (R402 to R404) -/

theorem commandPermits_boot (code : Nat) : commandPermits code .boot = false := by
  unfold commandPermits
  dsimp only
  split <;> rfl

/-- A command code permitted in the present state, with its checks met, has its effect, its answer granted. -/
theorem command_granted {s : State} {code : Nat} {late : List (Option W32)} (h : commandPermits code s.dev.st = true)
    (hl : firstFail late = none) (r : Requester) (effect : State → State) :
    command r code late effect s = effect (s.ok.result 0) := by
  cases hd : s.dev.st with
  | boot => rw [hd, commandPermits_boot] at h; cases h
  | load | idle | run | hold | safe => rw [hd] at h; simp [command, hd, h, hl]

end Sys2Proof.Machine

/-!
SUPPORT. What triggers, edges and calibration leave unchanged: triggers and edges change the data plane alone, calibration the
Drizzles beside it.
-/
namespace Sys2Proof.Machine

section
variable (s : State)

/-! ## Triggers (R142 to R151) -/

@[simp] theorem bare_pushEntry (ch : Fin 64) (e : FifoEntry) : (pushEntry ch e s).bare = s.bare := rfl
@[simp] theorem bare_cancelEdges (ch : Fin 64) (x : Instant) : (cancelEdges ch x s).bare = s.bare := rfl
@[simp] theorem bare_discardTrigger (ch : Fin 64) : (discardTrigger ch s).bare = s.bare := rfl
@[simp] theorem bare_dropStale (ch : Fin 64) : (dropStale ch s).bare = s.bare := rfl

@[simp] theorem bare_periodBoundary (ch : Fin 64) (x : Instant) : (periodBoundary ch x s).bare = s.bare := by
  simp [periodBoundary]

@[simp] theorem bare_acceptTrigger (ch : Fin 64) (tref t0 : Instant) : (acceptTrigger ch tref t0 s).bare = s.bare := by
  simp [acceptTrigger]

@[simp] theorem bare_admitTrigger (ch : Fin 64) (tref : Instant) : (admitTrigger ch tref s).bare = s.bare := by
  unfold admitTrigger
  dsimp only
  repeat' split
  all_goals simp

@[simp] theorem bare_delayModeTrigger (ch : Fin 64) (tref : Instant) : (delayModeTrigger ch tref s).bare = s.bare := by
  simp [delayModeTrigger]

@[simp] theorem bare_programModeTrigger (ch : Fin 64) (tref : Instant) : (programModeTrigger ch tref s).bare = s.bare := by
  simp [programModeTrigger]

@[simp] theorem bare_considerTrigger (ch : Fin 64) (tref : Instant) : (considerTrigger ch tref s).bare = s.bare := by
  unfold considerTrigger
  refine bare_asOf s (fun t => ?_) tref
  split <;> simp

@[simp] theorem bare_drainChannel (x : Instant) (fuel : Nat) (ch : Fin 64) : (drainChannel x fuel ch s).bare = s.bare := by
  induction fuel generalizing s with
  | zero => rfl
  | succ fuel ih =>
    unfold drainChannel
    split
    · split
      · rw [ih, bare_considerTrigger, bare_updDelay]
      · rfl
    · rfl

/-- Triggers considered change the data plane alone. -/
@[simp] theorem bare_drainTriggers (x : Instant) : (drainTriggers x s).bare = s.bare := by simp [drainTriggers]

/-! ## Edges (R128 to R141) -/

@[simp] theorem bare_openBlanking (ch : Fin 64) (x : Instant) : (openBlanking ch x s).bare = s.bare := by
  simp [openBlanking]

@[simp] theorem bare_suppress (ch : Fin 64) (x : Instant) (reason : Nat) : (suppress ch x reason s).bare = s.bare := by
  simp [suppress]

@[simp] theorem bare_enterTimeline (ch : Fin 64) (x : Instant) (st : OutState) :
    (enterTimeline ch x st s).bare = s.bare := by
  have hword (t : State) : (readWord (t.entryWord ch x) t).bare = t.bare := bare_readWord t (by simp [State.entryWord])
  unfold enterTimeline
  dsimp only
  split <;> simp [hword]

@[simp] theorem bare_judgeEdge (ch : Fin 64) (x : Instant) (st : OutState) (written : TE) :
    (judgeEdge ch x st written s).bare = s.bare := by simp [judgeEdge]

@[simp] theorem bare_placeHead (ch : Fin 64) (x : Instant) (st : OutState) (e : FifoEntry) (rest : List FifoEntry) :
    (placeHead ch x st e rest s).bare = s.bare := by
  unfold placeHead
  dsimp only
  split <;> simp

@[simp] theorem bare_restartBefore (ch : Fin 64) (x : Instant) : (restartBefore ch x s).bare = s.bare := by
  unfold restartBefore
  split <;> simp

@[simp] theorem bare_placeNext (ch : Fin 64) (x : Instant) (st : OutState) : (placeNext ch x st s).bare = s.bare := by
  unfold placeNext
  dsimp only
  split <;> simp

@[simp] theorem bare_placeBefore (x : Instant) (fuel : Nat) (ch : Fin 64) : (placeBefore x fuel ch s).bare = s.bare := by
  induction fuel generalizing s with
  | zero => rfl
  | succ fuel ih =>
    unfold placeBefore
    repeat' split
    all_goals simp [ih]

/-- Edges placed change the data plane alone. -/
@[simp] theorem bare_placeEdges (x : Instant) : (placeEdges x s).bare = s.bare := by simp [placeEdges]

/-! ## Calibration (R263 to R270) -/

@[simp] theorem widen_updCal (u : CalUnit) (f : LineCal → LineCal) : (s.updCal u f).bare.widen = s.bare.widen := by
  cases u <;> rfl

@[simp] theorem widen_uncounted (u : CalUnit) : (uncounted u s).bare.widen = s.bare.widen := by
  unfold uncounted
  split <;> rfl

@[simp] theorem widen_abandonCollection (u : CalUnit) : (abandonCollection u s).bare.widen = s.bare.widen := by
  simp [abandonCollection]

@[simp] theorem widen_startRaw (origin target : Nat) : (startRaw origin target s).bare.widen = s.bare.widen := by
  simp [startRaw, enterRaw]

/-- The device record as CALIBRATE leaves it when it is abandoned. -/
def Dev.uncalibrated (d : Dev) : Dev := if d.calibrating then { d with calibrating := false, sweepPair := none } else d

/-- CALIBRATE abandoned: beside the units nothing but the mark that it runs changes (R263). -/
theorem widen_abandonCalibrate :
    (abandonCalibrate s).bare.widen = ({ s with dev := s.dev.uncalibrated } : State).bare.widen := by
  have hdev (t : State) (ht : t.bare.widen = s.bare.widen) :
      ({ t with dev := { t.dev with calibrating := false, sweepPair := none } } : State).bare.widen =
        ({ s with dev := { s.dev with calibrating := false, sweepPair := none } } : State).bare.widen := by
    have h : ({ t.bare.widen with dev := { t.dev with calibrating := false, sweepPair := none } } : State) =
        { s.bare.widen with dev := { s.dev with calibrating := false, sweepPair := none } } := by rw [ht, widen_eq_dev ht]
    exact h
  unfold abandonCalibrate
  by_cases h : s.dev.calibrating = true
  · rw [if_pos h, Dev.uncalibrated, if_pos h]
    refine hdev _ ?_
    rw [bare_each _ (fun _ _ => by rfl)]
    simp
  · rw [if_neg h, Dev.uncalibrated, if_neg h]

end

end Sys2Proof.Machine

/-!
SUPPORT. What the commands of device state complete with (spec 15, R403 to R405; spec 16, R450, R451).
-/
namespace Sys2Proof.Machine

section
variable {s : State} (r : Requester)

/-- A state command with none pending, and no CALIBRATE where that is checked, is pending until its boundary (R404). -/
theorem command_pend {code : Nat} {late : List (Option W32)} (h : commandPermits code s.dev.st = true)
    (hl : firstFail late = none) :
    (command r code late (pend code) s).answer.status = 0 ∧
      (command r code late (pend code) s).dev.pendCmd = some (BitVec.ofNat 8 code, usableBoundary s.now) := by
  rw [command_granted h hl]
  exact ⟨rfl, rfl⟩

theorem notPending_none (h : s.dev.pendCmd = none) : s.notPending = none := by simp [State.notPending, h]

theorem notCalibrating_none (h : s.dev.calibrating = false) : s.notCalibrating = none := by simp [State.notCalibrating, h]

theorem commandPermits_served {code : Nat} (hc : code = 5 ∨ code = 7 ∨ code = 11) (h : s.served = true) :
    commandPermits code s.dev.st = true := by
  rcases hc with rfl | rfl | rfl <;> exact h

/-- SAFE ends in SAFE with its answer granted (R403). -/
theorem enterSafe_completes (s : State) : (enterSafe s).answer = s.answer ∧ (enterSafe s).dev.st = .safe := by
  let u := s.reach (s.now + 4)
  let v := abandonCalibrate { u with dev := { u.dev with pendCmd := none } }
  have hanswer : v.answer = s.answer :=
    (widen_eq_answer (widen_abandonCalibrate { u with dev := { u.dev with pendCmd := none } })).trans
      (reach_answer s (s.now + 4))
  have hplaced : (placeEdges v.nowAt (drainTriggers v.nowAt v)).answer = v.answer :=
    bare_eq_answer ((bare_placeEdges _ _).trans (bare_drainTriggers v v.nowAt))
  change (if v.dev.st = .safe then v else enterState .safe (placeEdges v.nowAt (drainTriggers v.nowAt v))).answer = _ ∧
    (if v.dev.st = .safe then v else enterState .safe (placeEdges v.nowAt (drainTriggers v.nowAt v))).dev.st = _
  split
  next hsafe => exact ⟨hanswer, hsafe⟩
  next => rw [enterState_answer, enterState_dev]; exact ⟨hplaced.trans hanswer, rfl⟩

theorem safe_completes (h : s.served = true) :
    (command r 5 [] enterSafe s).answer.status = 0 ∧ (command r 5 [] enterSafe s).dev.st = .safe := by
  rw [command_granted (commandPermits_served (.inl rfl) h) rfl]
  obtain ⟨hanswer, hst⟩ := enterSafe_completes (s.ok.result 0)
  exact ⟨congrArg Answer.status hanswer, hst⟩

/-- The reads of the tables that SAVE stores, apart from the memory errors they meet. -/
theorem widen_readTables (s : State) : (readTables s).bare.widen = s.bare.widen := by simp [readTables]

theorem save_completes (h : s.served = true) (hs : s.dev.saving = false) (hc : s.flash.chip.isSome = true) :
    let t := command r 7 [need (!s.dev.saving) 0x04030000, need s.flash.chip.isSome 0x07010000] startSave s
    t.answer.status = 0 ∧ t.dev.saving = true := by
  have hlate : firstFail [need (!s.dev.saving) 0x04030000, need s.flash.chip.isSome 0x07010000] = none := by simp [hs, hc]
  rw [command_granted (commandPermits_served (.inr (.inl rfl)) h) hlate]
  exact ⟨congrArg Answer.status (widen_eq_answer (widen_readTables (s.ok.result 0))), rfl⟩

/-! ## The end of SAVE (R451, R452, R460) -/

@[simp] theorem flashEvent_dev (kind slot high : Nat) (s : State) : (flashEvent kind slot high s).dev = s.dev := raise_dev ..

@[simp] theorem useLog_dev (slot : Nat) (s : State) : (useLog slot s).dev = s.dev := by
  unfold useLog
  split <;> rfl

@[simp] theorem appendRecord_dev (s : State) : (appendRecord s).dev = s.dev := by
  cases hm : s.flash.slot s.persist.logSlot with
  | none => simp [appendRecord, hm]
  | some m => cases ha : m.log with
    | none => simp [appendRecord, hm, ha]
    | some a => simp [appendRecord, hm, ha, apply_ite State.dev]

@[simp] theorem deferredAppends_dev (n : Nat) (s : State) : (deferredAppends n s).dev = s.dev := by
  induction n generalizing s with
  | zero => rfl
  | succ n ih => rw [deferredAppends, ih, appendRecord_dev]

theorem saveComplete_completes (hs : s.dev.saving = true) (ht : s.persist.target.isSome = true) (ok : Bool) :
    (saveComplete ok s).dev.saving = false := by
  obtain ⟨⟨k, m⟩, hk⟩ := Option.isSome_iff_exists.mp ht
  simp only [saveComplete, hs, hk, deferredAppends_dev]
  split <;> simp [State.result]

theorem reset_completes (h : s.served = true) :
    let t := command r 11 [] (fun s => { s with dev := { s.dev with resetAt := s.dev.resetAt.or (some (s.now + msTE 1)) } }) s
    t.answer.status = 0 ∧ t.dev.resetAt = s.dev.resetAt.or (some (s.now + 1250000)) := by
  rw [command_granted (commandPermits_served (.inr (.inr rfl)) h) rfl]
  exact ⟨rfl, rfl⟩

theorem scheduledCommand_cancels (h : Admitted s 0x1300 3 .rw) (n : W64) :
    (scheduledCommand r 0 n s).answer.status = 0 ∧ (scheduledCommand r 0 n s).dev.sched = none := by
  rw [scheduledCommand, request_granted h (by simp) (by simp)]
  exact ⟨rfl, rfl⟩

end

end Sys2Proof.Machine

/-!
SUPPORT. What a change of CSU state, an event of the CSU, stage 6 of start-up and the end of an ALIGN leave (spec 03, R86, R93;
spec 04, R107, R122; spec 16, R434).
-/
namespace Sys2Proof.Machine

/-! ## A change of CSU state (R86) -/

/-- A change of CSU state leaves the reference, the ALIGN under way, the phase offset and its action, and the configuration. -/
theorem enterCsu_csu (st : CsuSt) (s : State) : let c := (enterCsu st s).csu
    c.st = st ∧ c.align = s.csu.align ∧ c.present = s.csu.present ∧ c.bypclk = s.csu.bypclk ∧
      c.delta = s.csu.delta ∧ c.action = s.csu.action ∧ c.act = s.csu.act := by
  obtain ⟨u, hu, hband⟩ : ∃ u, (if st = .acquire then selectBand s else s) = u ∧ u.csu.align = s.csu.align ∧
      u.csu.present = s.csu.present ∧ u.csu.bypclk = s.csu.bypclk ∧ u.csu.delta = s.csu.delta ∧
      u.csu.action = s.csu.action ∧ u.csu.act = s.csu.act := by
    by_cases h : st = .acquire
    · exact ⟨_, if_pos h, rfl, rfl, rfl, rfl, rfl, rfl⟩
    · exact ⟨_, if_neg h, rfl, rfl, rfl, rfl, rfl, rfl⟩
  unfold enterCsu
  rw [hu]
  dsimp only [refreshFlag, noteKind]
  repeat' split
  all_goals exact ⟨rfl, hband⟩

section
variable (st : CsuSt) (s : State)

@[simp] theorem enterCsu_st : (enterCsu st s).csu.st = st := (enterCsu_csu st s).1
@[simp] theorem enterCsu_align : (enterCsu st s).csu.align = s.csu.align := (enterCsu_csu st s).2.1
@[simp] theorem enterCsu_present : (enterCsu st s).csu.present = s.csu.present := (enterCsu_csu st s).2.2.1
@[simp] theorem enterCsu_bypclk : (enterCsu st s).csu.bypclk = s.csu.bypclk := (enterCsu_csu st s).2.2.2.1
@[simp] theorem enterCsu_delta : (enterCsu st s).csu.delta = s.csu.delta := (enterCsu_csu st s).2.2.2.2.1
@[simp] theorem enterCsu_action : (enterCsu st s).csu.action = s.csu.action := (enterCsu_csu st s).2.2.2.2.2.1
@[simp] theorem enterCsu_act : (enterCsu st s).csu.act = s.csu.act := (enterCsu_csu st s).2.2.2.2.2.2

/-- A change of CSU state changes the CSU, the flag's history and the counter of free values alone. -/
theorem enterCsu_frame : enterCsu st s = { s with
    csu := (enterCsu st s).csu, time := { s.time with flagged := (enterCsu st s).time.flagged }
    free := (enterCsu st s).free } := by
  unfold enterCsu
  dsimp only
  by_cases h : st = .acquire
  · rw [if_pos h]; rfl
  · rw [if_neg h]; rfl

end

/-! ## Events and actions -/

@[simp] theorem lullEvent_csu (cause src : Nat) (s : State) : (lullEvent cause src s).csu = s.csu := raise_csu ..
@[simp] theorem phaseEvent_csu (kind : Nat) (s : State) : (phaseEvent kind s).csu = s.csu := raise_csu ..
@[simp] theorem phaseEvent_time (kind : Nat) (s : State) : (phaseEvent kind s).time = s.time := raise_time ..
@[simp] theorem alignedEvent_csu (result : Nat) (residual : Int) (s : State) : (alignedEvent result residual s).csu = s.csu :=
  raise_csu ..
@[simp] theorem countLock_csu (s : State) : (countLock s).csu = { s.csu with locks := s.csu.locks + 1 } := raise_csu ..

/-- An action cancelled changes the action and the phase offset alone (R122). -/
theorem cancelAction_csu (s : State) : ∃ d a, (cancelAction s).csu = { s.csu with delta := d, action := a } := by
  unfold cancelAction
  split
  · exact ⟨_, _, rfl⟩
  · exact ⟨_, _, phaseEvent_csu ..⟩

theorem lossCancels_csu (s : State) : ∃ d a, (lossCancels s).csu = { s.csu with delta := d, action := a } := by
  unfold lossCancels
  split
  · exact cancelAction_csu s
  · exact cancelAction_csu s
  · exact ⟨_, _, rfl⟩

@[simp] theorem lossCancels_st (s : State) : (lossCancels s).csu.st = s.csu.st := by
  obtain ⟨d, a, h⟩ := lossCancels_csu s
  rw [h]

/-- An action cancelled changes the CSU and the merger alone. -/
theorem cancelAction_frame (s : State) : ∃ c m, cancelAction s = { s with csu := c, merger := m } := by
  unfold cancelAction
  split
  · exact ⟨_, _, rfl⟩
  · rw [phaseEvent, raise_frame]; exact ⟨_, _, rfl⟩

/-! ## Stage 6 and the end of an ALIGN (R93, R434) -/

/-- The record of start-up as stage 6 leaves it. -/
def State.staged6 (s : State) : Boot :=
  if s.dev.st = .load ∧ !s.boot.alignDone then { s.boot with alignDone := true, calStage := s.on 0x7F70 1 } else s.boot

/-- Stage 6 leaves, beside the calibration units, the record of start-up alone changed. -/
theorem widen_stageSix (s : State) : (stageSix s).bare.widen = ({ s with boot := s.staged6 } : State).bare.widen := by
  unfold stageSix State.staged6
  split
  · dsimp only
    split
    · exact widen_startRaw _ 1 20
    · rfl
  · rfl

@[simp] theorem stageSix_csu (s : State) : (stageSix s).csu = s.csu := (widen_eq_csu (widen_stageSix s)).trans rfl

theorem stageSix_boot (s : State) : (stageSix s).boot = s.staged6 := (widen_eq_boot (widen_stageSix s)).trans rfl

/-- With no ALIGN under way none fails. -/
theorem failAlign_none {s : State} (h : s.csu.align = none) (result : Nat) : failAlign result s = s := by
  simp [failAlign, h]

/-- An ALIGN that fails is no longer under way; the CSU is unchanged but for that (R93). -/
theorem failAlign_csu (result : Nat) (s : State) : (failAlign result s).csu = { s.csu with align := none } := by
  cases h : s.csu.align with
  | none => rw [failAlign_none h, ← h]
  | some a => simp [failAlign, h, apply_ite State.csu]

end Sys2Proof.Machine

/-!
SUPPORT. What the commands of the CSU complete with: reference, lock, ALIGN, return, BYPASS, the phase offset and the clock
outputs (spec 03, R78 to R104; spec 04, R107 to R124).
-/
namespace Sys2Proof.Machine

section
variable {s : State}

/-! ## Reference and lock (R78 to R85, R107) -/

theorem referenceLost_acquire (h : s.csu.st = .acquire) :
    (referenceLost s).csu.st = .freerun ∧ (referenceLost s).csu.present = false := by
  simp [referenceLost, dropReference, h]

theorem passToReturn_lull (h : s.csu.st = .lull) (hp : s.csu.present = true) :
    (passToReturn s).csu.st = .ret ∧ (passToReturn s).csu.present = true := by
  simp [passToReturn, h, hp]

/-- Outside LULL nothing passes into RETURN. -/
theorem passToReturn_other (h : s.csu.st ≠ .lull) : passToReturn s = s := if_neg fun hc => h hc.1

theorem referenceQualified_freerun (h : s.csu.st = .freerun) (hp : s.csu.present = true) :
    (referenceQualified 0 s).csu.st = .acquire := by
  simp [referenceQualified, h, hp]

/-- Comparisons that hold throughout reach the count asked for (R85). -/
theorem countRun_met {p : Int → Bool} {n c k : Nat} {e : Int} (he : p e = true) (hn : n ≤ c + k) :
    countRun p n c [(e, k)] = (c + k, true) := by simp [countRun, he, hn]

theorem withinLock_zero (s : State) : s.withinLock 0 = true := by simp [State.withinLock]

theorem lockDeclared_acquire (h : s.csu.st = .acquire) {n : Nat} (hn : s.nat 0x2001 2 ≤ s.csu.run + n) :
    (lockDeclared [(0, n)] s).csu.st = .locked := by
  simp only [lockDeclared, h, if_true, countRun_met (withinLock_zero s) hn]
  split <;> simp

/-- Without a hold value a loss or unlock ends in FREERUN (R107, R111). -/
theorem leaveLocked_freerun (cause : Nat) (hhold : s.csu.hold.fromLocked = none) :
    (leaveLocked cause s).csu.st = .freerun := by
  have hst (u : State) (hu : u.csu.st = .freerun) : (passToReturn (failAlign 2 u)).csu.st = .freerun := by
    have hfail : (failAlign 2 u).csu.st = .freerun := by rw [failAlign_csu]; exact hu
    rw [passToReturn_other (by rw [hfail]; decide), hfail]
  simp only [leaveLocked, hhold]
  exact hst _ (by simp)

theorem unlockDeclared_locked (h : s.csu.st = .locked) (hhold : s.csu.hold.fromLocked = none)
    {e : Int} {n : Nat} (he : 80 * s.nat 0x2001 3 < e.natAbs) (hn : s.nat 0x2001 4 ≤ s.csu.run + n) :
    (unlockDeclared [(e, n)] s).csu.st = .freerun := by
  have hbeyond : s.beyondUnlock e = true := by simpa [State.beyondUnlock] using he
  simp only [unlockDeclared, h, CsuSt.isLocked, if_true, countRun_met hbeyond hn]
  exact leaveLocked_freerun 2 hhold

theorem acquireTimeout_acquire (h : s.csu.st = .acquire) : (acquireTimeout s).csu.st = .freerun := by
  simp [acquireTimeout, h]

/-! ## ALIGN (R89 to R98, R436) -/

@[simp] theorem acceptAlignFrom_st (a : TE) (startUp : Bool) (s : State) :
    (acceptAlignFrom a startUp s).csu.st = .aligning := enterCsu_st .aligning (cancelAction s)

/-- ALIGN accepted changes the CSU, the flag's history, the merger and the counter of free values alone. -/
theorem acceptAlignFrom_frame (a : TE) (startUp : Bool) (s : State) : ∃ c t m f,
    acceptAlignFrom a startUp s = { s with csu := c, time := t, merger := m, free := f } := by
  obtain ⟨c, m, hcancel⟩ := cancelAction_frame s
  rw [acceptAlignFrom, hcancel, enterCsu_frame]
  exact ⟨_, _, _, _, rfl⟩

theorem acceptAlignFrom_boot (a : TE) (startUp : Bool) (s : State) : (acceptAlignFrom a startUp s).boot = s.boot := by
  obtain ⟨c, t, m, f, h⟩ := acceptAlignFrom_frame a startUp s
  rw [h]

theorem acceptAlignFrom_answer (a : TE) (startUp : Bool) (s : State) : (acceptAlignFrom a startUp s).answer = s.answer := by
  obtain ⟨c, t, m, f, h⟩ := acceptAlignFrom_frame a startUp s
  rw [h]

theorem startUpAlign_locked (hd : s.dev.st = .load) (hc : s.csu.st = .locked) (ha : s.boot.alignDone = false)
    (hs : s.startUpAligns = true) : (startUpAlign s).csu.st = .aligning := by
  simp [startUpAlign, hd, hc, ha, hs, acceptAlign]

theorem lockWaitExpiry_load (hd : s.dev.st = .load) (hc : s.csu.st ≠ .off) (hl : s.csu.st.isLocked = false)
    (ha : s.boot.alignDone = false) : (lockWaitExpiry s).boot.alignDone = true := by
  simp [lockWaitExpiry, hd, hc, hl, ha, stageSix_boot, State.staged6]

theorem fabricStartUpAlign_idle {a : TE} {p : Fin 8} (hb : s.boot.fabricAlign = some a) (hp : s.upPort = some p)
    (hd : s.dev.st = .idle) (hv : s.port[p].haveAvg = true) (hc : s.csu.st = .locked) :
    (fabricStartUpAlign s).csu.st = .aligning ∧ (fabricStartUpAlign s).boot.fabricAlign = none := by
  have hready : s.dev.st = .idle ∧ s.port[p].haveAvg = true ∧ (s.csu.st = .locked ∨ s.csu.st = .aligned) := ⟨hd, hv, .inl hc⟩
  simp only [fabricStartUpAlign, hb, hp, if_pos hready, acceptAlignFrom_st, acceptAlignFrom_boot, and_self]

theorem align_completes (r : Requester) (hd : s.dev.st = .idle) (hp : s.dev.pendCmd = none) (hcal : s.dev.calibrating = false)
    (hc : s.csu.st = .locked) (hm : s.nat 0x2002 1 ≠ 2) (hf : s.nat 0x2202 1 % 4096 = 0) :
    ∃ t, exec (.align r) s = .next t ∧ t.answer.status = 0 ∧ t.csu.st = .aligning := by
  have hexec : exec (.align r) s = execAlign r s := rfl
  rw [hexec, execAlign, command_granted (by rw [hd]; rfl)]
  · exact ⟨_, rfl, congrArg Answer.status (acceptAlignFrom_answer ..), acceptAlignFrom_st ..⟩
  · simp [hc, hm, State.presetOk, hf, notPending_none hp, notCalibrating_none hcal]

theorem markedEdge_internal {a : AlignRun} (l : List Bool) (ha : s.csu.align = some a) (hr : a.restarted = false)
    (hm : a.marker = 0) : (markedEdge l s).csu.delta = 0 := by
  have hedge (t : TE) (u : State) : (atMarkedEdge a t u).csu.delta = 0 := by
    have hrestart (v : State) : (restartOutputs v).bare.widen = v.bare.widen := widen_each v (fun _ _ => by rfl) _
    rw [atMarkedEdge, widen_eq_csu (hrestart _)]
  have hfrom : s.markedFrom a l = some (a.accepted + s.refPeriods 2) := by simp [State.markedFrom, hm]
  simp only [markedEdge, ha, hfrom, hr, hm]
  exact hedge _ _

theorem alignTrimComplete_aligned {a : AlignRun} {x : Int} (ha : s.csu.align = some a) (hs : a.startUp = false)
    (hr : a.restarted = true) (hx : x.natAbs ≤ 8) :
    (alignTrimComplete 0 x s).csu.st = .aligned ∧ (alignTrimComplete 0 x s).csu.residual = x := by
  simp [alignTrimComplete, ha, hs, hr, Nat.not_lt.mpr hx]

theorem alignInTimeout_external {a : AlignRun} (ha : s.csu.align = some a) (hr : a.restarted = false) (hm : a.marker = 1) :
    (alignInTimeout s).csu.align = none := by
  simp [alignInTimeout, ha, hr, hm, failAlign_csu]

/-! ## Return and BYPASS (R107, R117, R123, R124) -/

theorem returnAccept_ret (h : s.csu.st = .ret) (hp : s.csu.present = true) {j : Int} {n : Nat}
    (hn : s.nat 0x2001 2 ≤ s.csu.run + n) : (returnAccept j 0 [(0, n)] s).csu.st = .locked := by
  simp only [returnAccept, h, hp, countRun_met (withinLock_zero s) hn]
  simp [apply_ite State.csu]

@[simp] theorem enterBypass_st (s : State) : (enterBypass s).csu.st = .bypass := by simp [enterBypass]
@[simp] theorem enterBypass_bypclk (s : State) : (enterBypass s).csu.bypclk = true := by simp [enterBypass]

theorem bypassEntry_qualified {f : Nat} (hb : s.bypassAt.isSome = true) (hf : s.bypclkOk f = true) :
    (bypassEntry f s).csu.st = .bypass := by
  obtain ⟨a, ha⟩ := Option.isSome_iff_exists.mp hb
  simp [bypassEntry, ha, hf]

theorem bypclkQualified_after {a : TE} {f : Nat} (hb : s.bypassAt = some a) (ha : a ≤ s.now) (hf : s.bypclkOk f = true) :
    (bypclkQualified f s).csu.st = .bypass ∧ (bypclkQualified f s).csu.bypclk = true := by
  simp [bypclkQualified, hb, ha, hf]

theorem bypclkNotQualified_first (hb : s.bypassAt.isSome = true) (hn : s.csu.noBypass = false) :
    (bypclkNotQualified s).csu.noBypass = true := by
  obtain ⟨a, ha⟩ := Option.isSome_iff_exists.mp hb
  simp [bypclkNotQualified, ha, hn]

theorem bypassLock_bypass (h : s.csu.st = .bypass) (hl : s.csu.bypLocked = false) {x : Int} {n : Nat}
    (hn : s.nat 0x2001 2 ≤ s.csu.run + n) : (bypassLock x [(0, n)] s).csu.bypLocked = true := by
  simp [bypassLock, h, hl, countRun_met (withinLock_zero s) hn, noteKind]

theorem bypclkLost_bypass (h : s.csu.st = .bypass) (hp : s.csu.present = false) :
    (bypclkLost s).csu.bypclk = false ∧ (bypclkLost s).csu.st ≠ .bypass := by
  unfold bypclkLost
  simp only [h, if_true]
  split
  · simp [passToReturn, hp]
  · simp

/-! ## Actions on the phase offset (R119 to R122) -/

theorem actionLeave_completes (r : Requester) (h : Admitted s 0x2006 3 .wo) :
    let t := writeAction r (fun _ => .none) false s
    t.answer.status = 0 ∧ t.csu.action = .none := by
  simp only [writeAction]
  rw [request_granted h rfl rfl]
  exact ⟨rfl, rfl⟩

theorem writeAction_timed (r : Requester) (a : TE → CsuAction) (h : Admitted s 0x2006 3 .wo) (ht : s.actionTimeOk = true)
    (hc : s.csu.st = .locked) :
    let t := writeAction r a true s
    t.answer.status = 0 ∧ t.csu.action = a (teCeil s.actionTime) := by
  simp only [writeAction]
  rw [request_granted h (by simp [ht]) (by simp [hc])]
  exact ⟨rfl, rfl⟩

theorem slewStart_nothing {a : TE} {code : Nat} (hc : s.csu.st = .locked) (ha : s.csu.action = .slewAt a code)
    (hd : s.csu.delta = 0) : (slewStart s).csu.action = .none ∧ a ≤ (slewStart s).now := by
  simp [slewStart, ha, hc, hd, State.now]

theorem slewComplete_ends {a : TE} {code : Nat} {d : Int} (ha : s.csu.action = .slewing a code d) :
    (slewComplete s).csu.action = .none := by
  simp [slewComplete, ha, stopAction]

theorem stepExecute_ends {a : TE} (hc : s.csu.st = .locked) (ha : s.csu.action = .stepAt a) : (stepExecute s).csu.delta = 0 := by
  simp only [stepExecute, ha, reach_csu, hc, ne_eq, not_true_eq_false, if_false]
  split
  next h => rw [phaseEvent_csu]; exact h
  next => rw [phaseEvent_csu]

/-! ## Clock outputs (R104) -/

theorem clkoutOvercurrent_runs {n : Fin 8} (h : s.clkout[n].st = 2) : (clkoutOvercurrent n s).clkout[n].st = 3 := by
  rw [clkoutOvercurrent, if_pos h, raise_clkout, updClk_clkout, upd_same_fin]

theorem clkoutFaultClear_fault {n : Fin 8} (h : s.clkout[n].st = 3) :
    (clkoutFaultClear n s).clkout[n].st = s.clkout[n].before := by
  rw [clkoutFaultClear, if_pos h, clkCleared, raise_clkout, updClk_clkout, upd_same_fin]

end

end Sys2Proof.Machine

/-!
SUPPORT. What the units do at a Tide boundary and at the entry into IDLE, and what they leave unchanged (spec 02, R50; spec 16, R434).
-/
namespace Sys2Proof.Machine

section
variable (s : State)

/-! ## Channels and inputs -/

@[simp] theorem widen_faultCheck (ch : Fin 64) (c : BitVec 3) : (faultCheck ch c s).bare.widen = s.bare.widen := by
  simp [faultCheck]

@[simp] theorem bare_resumeProgram (b : TE) (ch : Fin 64) : (resumeProgram b ch s).bare = s.bare := rfl
@[simp] theorem bare_startProgram (b : TE) (ch : Fin 64) : (startProgram b ch s).bare = s.bare := rfl

@[simp] theorem widen_channelAtBoundary (old : State) (b : TE) (ch : Fin 64) :
    (channelAtBoundary old b ch s).bare.widen = s.bare.widen := by simp [channelAtBoundary]

@[simp] theorem bare_abandonMeasurement (x : Instant) (g : Fin 32) : (abandonMeasurement x g s).bare = s.bare := by
  unfold abandonMeasurement
  split <;> simp

@[simp] theorem bare_abandonFrom (x : Instant) (g : Fin 32) : (abandonFrom x g s).bare = s.bare := by simp [abandonFrom]

@[simp] theorem widen_abandonStep (u : CalUnit) : (abandonStep u s).bare.widen = s.bare.widen := by simp [abandonStep]

@[simp] theorem widen_inputAtBoundary (old : State) (b : TE) (i : Fin 32) :
    (inputAtBoundary old b i s).bare.widen = s.bare.widen := by simp [inputAtBoundary, stepDisabled]

/-! ## Groups and monitors -/

@[simp] theorem bare_emptyPool (g : Fin 32) (d : TE) : (emptyPool g d s).bare = s.bare := by simp [emptyPool]

@[simp] theorem bare_dropStatUse (g : Fin 32) : (dropStatUse g s).bare = s.bare := rfl

@[simp] theorem bare_abandonRun (g : Fin 32) : (abandonRun g s).bare = s.bare := by simp [abandonRun]

@[simp] theorem bare_runAtBoundary (g : Fin 32) (b : TE) (running restart changed : Bool) :
    (runAtBoundary g b running restart changed s).bare = s.bare := by simp [runAtBoundary]

@[simp] theorem bare_groupAtBoundary (old : State) (b : TE) (restarts : List Nat) (g : Fin 32) :
    (groupAtBoundary old b restarts g s).bare = s.bare := by simp [groupAtBoundary]

@[simp] theorem bare_asyncClass (wm : Fin 32) (t : TE) (c : Classn) : (asyncClass wm t c s).bare = s.bare := by
  simp [asyncClass]

@[simp] theorem bare_filterClass (wm : Fin 32) (t : TE) (c : Classn) : (filterClass wm t c s).bare = s.bare := rfl

@[simp] theorem bare_startMonitor (b : TE) (wm : Fin 32) : (startMonitor b wm s).bare = s.bare := rfl
@[simp] theorem bare_stopMonitor (b : TE) (wm : Fin 32) : (stopMonitor b wm s).bare = s.bare := by simp [stopMonitor]

@[simp] theorem bare_filterAtBoundary (old : State) (b : TE) (wm : Fin 32) : (filterAtBoundary old b wm s).bare = s.bare := by
  simp [filterAtBoundary]

@[simp] theorem bare_continuousAgain (b : TE) (wm : Fin 32) : (continuousAgain b wm s).bare = s.bare := by
  simp [continuousAgain]

@[simp] theorem bare_monitorAtBoundary (old : State) (b : TE) (wm : Fin 32) : (monitorAtBoundary old b wm s).bare = s.bare := by
  simp [monitorAtBoundary]

/-! ## Trips, conditions and triggers -/

@[simp] theorem bare_tripinOn (t : TE) : (tripinOn t s).bare = s.bare := by
  rw [tripinOn, bare_assertTrip]; rfl

@[simp] theorem bare_tripinAtBoundary (b : TE) : (tripinAtBoundary b s).bare = s.bare := by
  unfold tripinAtBoundary
  split
  · rfl
  · split
    · exact bare_tripinOn s b
    · rfl

@[simp] theorem bare_routesAtBoundary (old : State) (b : TE) (ch : Fin 64) : (routesAtBoundary old b ch s).bare = s.bare := by
  simp [routesAtBoundary]

@[simp] theorem bare_conditionsAtBoundary (old : State) (b : TE) (keys : List Nat) (cl : Fin 4) :
    (conditionsAtBoundary old b keys cl s).bare = s.bare := by simp [conditionsAtBoundary]

@[simp] theorem bare_releaseAhead (b : TE) (ch : Fin 64) : (releaseAhead b ch s).bare = s.bare := by simp [releaseAhead]

/-! ## The event ring and the whole -/

@[simp] theorem widen_takePan (pan : Nat) (use : Byte) : (s.takePan pan use).bare.widen = s.bare.widen := rfl
@[simp] theorem widen_givePan (pan : Nat) : (s.givePan pan).bare.widen = s.bare.widen := by simp [State.givePan]

@[simp] theorem closedEnd_dev (i : W32) : (closedEnd i s).dev = s.dev := rfl

@[simp] theorem raiseOnce_dev (source key d flags : Nat) : (s.raiseOnce source key d flags).dev = s.dev :=
  bare_eq_dev (bare_raiseOnce ..)

/-- The ring enabled or disabled leaves the device state (R384, R386). -/
theorem ringAtEnable_dev (old : State) (b : TE) : (ringAtEnable old b s).dev = s.dev := by
  have hput (u : State) (r : W128) : (ringPut r u).dev = u.dev := widen_eq_dev (widen_ringPut u r)
  have htake (l : List Nat) : (each l (fun p t => t.takePan p 0x20) s).dev = s.dev :=
    widen_eq_dev (widen_each s (fun p t => widen_takePan t p 0x20) l)
  have hgive (l : List Nat) : (each l (fun p t => t.givePan p) s).dev = s.dev :=
    widen_eq_dev (widen_each s (fun p t => widen_givePan t p) l)
  simp only [ringAtEnable, ringOn, ringOff, apply_ite State.dev, raiseOnce_dev, hput, closedEnd_dev, htake, hgive, ite_self]

/-- What the units do at a boundary leaves the device state. -/
theorem unitsAtBoundary_dev (old : State) (b : TE) (keys restarts : List Nat) :
    (unitsAtBoundary old b keys restarts s).dev = s.dev := by
  refine (widen_eq_dev ?_).trans (ringAtEnable_dev s old b)
  unfold unitsAtBoundary
  dsimp only
  rw [bare_each]
  · simp
  · intro ch t
    split <;> simp

end

end Sys2Proof.Machine

/-!
SUPPORT. What the commands of start-up, Tides, hours and memory complete with (spec 02, R44, R49; spec 16, R434, R455, R457;
spec 17, R462, R466, R470, R472).
-/
namespace Sys2Proof.Machine

section
variable {s : State}

/-! ## Start-up (R434) -/

theorem enterCsu_running (st : CsuSt) (s : State) : (enterCsu st s).time.running = s.time.running := by
  rw [enterCsu_frame]

theorem imageLoad_load (hd : s.dev.st = .load) (hc : s.csu.st = .off) :
    (imageLoad s).csu.st = .freerun ∧ (imageLoad s).time.running = true := by
  rw [imageLoad, if_pos ⟨hd, hc⟩]
  exact ⟨enterCsu_st .freerun _, (enterCsu_running .freerun _).trans rfl⟩

/-- The events held for IDLE, presented (R438). -/
@[simp] theorem bare_presentHeld (s : State) : (presentHeld s).bare = s.bare := by
  unfold presentHeld
  dsimp only
  rw [bare_each _ fun e t => bare_raiseAt t _ _ _ _]
  rfl

theorem idleEntry_load (n : W32) (hd : s.dev.st = .load) (ha : s.boot.alignDone = true) (hcal : s.boot.calStage = false)
    (ht : s.time.lastTide = some s.now) : (idleEntry n s).dev.st = .idle := by
  have hready : s.dev.st = .load ∧ s.boot.alignDone ∧ !s.boot.calStage ∧ s.time.lastTide = some s.now :=
    ⟨hd, ha, by simp [hcal], ht⟩
  have hidle (u : State) : (presentHeld (enterState .idle u)).dev.st = .idle := by
    rw [bare_eq_dev (bare_presentHeld _), enterState_dev]
  rw [idleEntry, if_pos hready]
  dsimp only
  rw [unitsAtBoundary_dev]
  exact hidle _

/-! ## Tides, hours and the epoch (R44, R49, R472) -/

theorem tideBoundary_lastTide (m : TideMeas) (hr : s.time.running = true) (hn : s.resetBy s.nextBoundary = false) :
    (tideBoundary m s).time.lastTide = some s.nextBoundary := by
  rw [tideBoundary, if_pos hr, if_neg (by simp [hn])]
  dsimp only
  rw [settle_time]

@[simp] theorem bare_itemEvent (kind : Nat) (i : Fin 27) (high : Nat) (s : State) : (itemEvent kind i high s).bare = s.bare :=
  bare_raise ..

@[simp] theorem bare_judgeItem (i : Fin 27) (tide : Nat) (s : State) : (judgeItem i tide s).bare = s.bare := by
  simp [judgeItem]

@[simp] theorem bare_updateItem (m : HourMeas) (tide : Nat) (i : Fin 27) (s : State) :
    (updateItem m tide i s).bare = s.bare := by
  unfold updateItem
  dsimp only
  split <;> simp

theorem hourlyUpdate_hourAt (m : HourMeas) (ht : s.time.lastTide = some s.now) (hh : s.tideNow.toNat % 4500000 = 0)
    (hn : s.health.hourAt ≠ some s.now) : (hourlyUpdate m s).health.hourAt = some s.now := by
  rw [hourlyUpdate, if_pos ⟨ht, hh, hn⟩]
  exact (bare_eq_hourAt (bare_each _ (fun i t => bare_updateItem m _ i t) s.items)).trans rfl

@[simp] theorem bare_anchorAll (cause : Nat) (x : Instant) (s : State) : (anchorAll cause x s).bare = s.bare := by
  have hwrites (r : W128) : (each s.clusters (fun cl t => engineWrites cl false r t) s).bare = s.bare :=
    bare_each s (fun _ _ => by rfl) _
  have hadd (t : State) (e : Event) : ({ t with merger := t.merger.add e } : State).bare = t.bare :=
    bare_merger t (Merger.shell_add _ _)
  simp only [anchorAll, bare_ite, hadd, hwrites, ite_self]

/-- EPOCH_WRAP comes at a multiple of 2^52 T_E, not before the present one (R44). -/
theorem epochWrap_count (s : State) : (epochWrap s).time.count % 2 ^ 52 = 0 ∧ s.now ≤ (epochWrap s).time.count := by
  have hnext (n : Nat) : max n ((n + (2 ^ 52 - 1)) / 2 ^ 52 * 2 ^ 52) % 2 ^ 52 = 0 ∧
      n ≤ max n ((n + (2 ^ 52 - 1)) / 2 ^ 52 * 2 ^ 52) := by omega
  have hcount : (epochWrap s).time.count = max s.now ((s.now + (2 ^ 52 - 1)) / 2 ^ 52 * 2 ^ 52) := by
    rw [epochWrap, raise_time, bare_eq_time (bare_anchorAll ..), reach_count]; rfl
  rw [hcount]
  exact hnext s.now

/-! ## The log (R455, R457) -/

@[simp] theorem appendRecord_lastAppend (s : State) : (appendRecord s).persist.lastAppend = s.persist.lastAppend := by
  cases hm : s.flash.slot s.persist.logSlot with
  | none => simp [appendRecord, hm]
  | some m => cases ha : m.log with
    | none => simp [appendRecord, hm, ha]
    | some a => simp [appendRecord, hm, ha, apply_ite State.persist, apply_ite Persist.lastAppend, flashEvent]

theorem appendOrDefer_lastAppend (s : State) : (appendOrDefer s).persist.lastAppend = s.persist.lastAppend := by
  unfold appendOrDefer
  split
  · rfl
  · exact appendRecord_lastAppend s

theorem marginAppend_lastAppend (hc : s.cadence ≠ 0) (hs : s.served = true) :
    (marginAppend s).persist.lastAppend = s.nextAppend := by
  rw [marginAppend, if_pos ⟨hc, hs⟩]
  dsimp only
  split
  · rw [appendOrDefer_lastAppend]
  · rfl

theorem appendNow_completes (r : Requester) {m : Image} {a : LogArea} (h : Admitted s 0x1201 5 .wo)
    (hm : s.flash.slot s.persist.logSlot = some m) (ha : m.log = some a) :
    ∃ t, exec (.appendNow r) s = .next t ∧ t.answer.status = 0 := by
  have hkeeps : s.keepsLog = true := by simp [State.keepsLog, hm, ha]
  have hexec : exec (.appendNow r) s = execAppendNow r s := rfl
  rw [hexec, execAppendNow, request_granted h rfl (by simp [hkeeps])]
  exact ⟨_, rfl, rfl⟩

/-! ## Memory errors and the shutdown record (R462, R466, R470) -/

theorem raiseOnce_frame (s : State) (source key d flags : Nat) :
    s.raiseOnce source key d flags = { s with merger := (s.raiseOnce source key d flags).merger } := by
  unfold State.raiseOnce State.raiseOnceAt
  split
  · rfl
  · exact raiseAt_frame ..

/-- A memory error's event leaves the health record (R463). -/
theorem memoryEvent_health (w : MemWord) (uncorrectable scrub : Bool) (s : State) :
    (memoryEvent w uncorrectable scrub s).health = s.health := by
  have honce (source key d : Nat) : (s.raiseOnce source key d).health = s.health := by rw [raiseOnce_frame]
  have hcount (source key low : Nat) : (s.raiseCount source key low).health = s.health := by rw [raiseCount_frame]
  simp only [memoryEvent, apply_ite State.health, honce, hcount, ite_self]

theorem scrubRead_corrects {a : Nat} (ha : a < memoryWords 2) (hcl : (placeOf 2 0 a).cl < s.part.clusters)
    (hp : s.isPoisoned (placeOf 2 0 a) = false) (he : s.health.errs.find? (fun e => e.1 = placeOf 2 0 a) = none) :
    (scrubRead 2 0 a .singleBit s).health.corrected = s.health.corrected + 1 := by
  have hthere : ¬ (memoryWords (2 : Fin 6).val ≤ a ∨ s.part.clusters ≤ (placeOf 2 0 a).cl) := by
    rintro (h | h)
    · exact absurd ha (Nat.not_lt.mpr h)
    · exact absurd hcl (Nat.not_lt.mpr h)
  have hmeets : scrubRead 2 0 a .singleBit s = correctWord (placeOf 2 0 a) true s := by
    simp only [scrubRead, if_neg hthere, hp, he]
    rfl
  rw [hmeets, correctWord, memoryEvent_health]

theorem clearShutdownRecord_completes (r : Requester) (h : Admitted s 0x7801 6 .wo) :
    ∃ t, exec (.clearShutdownRecord r) s = .next t ∧ t.answer.status = 0 ∧ t.health.causes = 0 := by
  have hexec : exec (.clearShutdownRecord r) s = execClearShutdownRecord r s := rfl
  rw [hexec, execClearShutdownRecord, request_granted h rfl rfl]
  exact ⟨_, rfl, rfl, rfl⟩

theorem armInjection_completes (r : Requester) (h : Admitted s 0x7804 3 .rwi) :
    ∃ t, exec (.armInjection r) s = .next t ∧ t.answer.status = 0 ∧ t.health.injArmed = true := by
  have hexec : exec (.armInjection r) s = execArmInjection r s := rfl
  rw [hexec, execArmInjection, request_granted h rfl rfl]
  exact ⟨_, rfl, rfl, rfl⟩

end

end Sys2Proof.Machine

/-!
SUPPORT. What the fabric's traffic leaves unchanged. `State.afar` blanks, beside what `State.widen` blanks, the node's place in the
fabric, the arm groups and of the ports all but the link.
-/
namespace Sys2Proof.Machine

/-- What a port shows of its link: state, down causes, the peer, the peer's Lull. -/
def Port.link (p : Port) : Port := { st := p.st, causes := p.causes, peerUid := p.peerUid, timeLull := p.timeLull }

/-- A bare state without the node's place in the fabric, the arm groups, the Gust queues, and of the ports all but the link. -/
def State.afar (s : State) : State :=
  { s with fab := {}, armg := State.reset.armg, gustq := State.reset.gustq, port := s.port.map Port.link }

section
variable (s : State)

@[simp] theorem afar_ite (c : Prop) [Decidable c] (s t : State) :
    (if c then s else t).afar = if c then s.afar else t.afar := apply_ite State.afar c s t

/-- Steps that each keep what is blanked by none of the three keep it together. -/
@[simp] theorem afar_each {α : Type} {f : α → State → State} (h : ∀ a t, (f a t).bare.widen.afar = t.bare.widen.afar)
    (l : List α) : (each l f s).bare.widen.afar = s.bare.widen.afar := by
  unfold each
  induction l generalizing s with
  | nil => rfl
  | cons a rest ih => rw [List.foldl_cons, ih, h]

@[simp] theorem afar_fab (f : Fabric) : ({ s with fab := f } : State).bare.widen.afar = s.bare.widen.afar := rfl
@[simp] theorem afar_updArm (g : Fin 16) (f : ArmGroup → ArmGroup) :
    (s.updArm g f).bare.widen.afar = s.bare.widen.afar := rfl

/-- A change of one port's traffic. -/
theorem afar_updPort {f : Port → Port} (hf : ∀ p, (f p).link = p.link) (n : Fin 8) :
    (s.updPort n f).bare.widen.afar = s.bare.widen.afar := by
  have hport : (upd s.port n f).map Port.link = s.port.map Port.link := by
    ext i hi
    by_cases h : n.val = i <;> simp [upd, h, hf]
  exact congrArg (fun v => { s.bare.widen.afar with port := v }) hport

@[simp] theorem afar_sendOn (i : TxItem) (n : Fin 8) : (sendOn i n s).bare.widen.afar = s.bare.widen.afar :=
  afar_updPort s (fun _ => by rfl) n

@[simp] theorem bare_fabricEvent (kind node port high : Nat) : (fabricEvent kind node port high s).bare = s.bare :=
  bare_raise ..

@[simp] theorem bare_gustEvent (kind : Nat) (g : Fin 16) (node seq : Nat) : (gustEvent kind g node seq s).bare = s.bare :=
  bare_raiseOnce ..

@[simp] theorem afar_dropCandidate (g : Fin 16) : (dropCandidate g s).bare.widen.afar = s.bare.widen.afar := by
  unfold dropCandidate
  split <;> simp

@[simp] theorem afar_disarm (g : Fin 16) : (disarm g s).bare.widen.afar = s.bare.widen.afar := by simp [disarm]

@[simp] theorem afar_lostTunnel (node port : Nat) : (lostTunnel node port s).bare.widen.afar = s.bare.widen.afar := by
  simp [lostTunnel]

@[simp] theorem afar_silencePort (n : Fin 8) : (silencePort n s).bare.widen.afar = s.bare.widen.afar := by
  unfold silencePort
  dsimp only
  rw [afar_each, afar_updPort s (fun _ => by rfl)]
  intro i t
  cases i <;> simp

/-- The node becomes ALONE (R341): nothing but the fabric's own records and queues changes. -/
@[simp] theorem afar_enterAlone : (enterAlone s).bare.widen.afar = s.bare.widen.afar := by simp [enterAlone]

/-- Nodes marked absent (R341). -/
@[simp] theorem afar_markAbsent (node : Nat) (route : List (Fin 8)) (n : Fin 8) :
    (markAbsent node route n s).bare.widen.afar = s.bare.widen.afar := by
  have hbehind (t : State) (f : List (BitVec 14) → List (BitVec 14)) :
      ({ t with port := t.port.map (fun p => { p with behind := f p.behind }) } : State).bare.widen.afar = t.bare.widen.afar := by
    have hport : (t.port.map (fun p => { p with behind := f p.behind })).map Port.link = t.port.map Port.link := by
      rw [Vector.map_map]; rfl
    exact congrArg (fun v => { t.bare.widen.afar with port := v }) hport
  unfold markAbsent
  dsimp only
  split
  · rfl
  · rw [bare_fabricEvent]
    exact hbehind _ _

@[simp] theorem afar_followPeer (n : Fin 8) : (followPeer n s).bare.widen.afar = s.bare.widen.afar := by simp [followPeer]

end

section
variable {s t : State} (h : s.bare.widen.afar = t.bare.widen.afar)
include h

theorem afar_eq_csu : s.csu = t.csu := congrArg (fun x => x.csu) h

end

end Sys2Proof.Machine

/-!
SUPPORT. The statement about the commands of the device, its clocks and its reference.
-/
namespace Sys2Proof.Machine

section
variable {s : State}

theorem applyCsu_csu (cfg : CsuConfig) (s : State) :
    (applyCsu cfg s).csu.act = cfg ∧ (applyCsu cfg s).csu.st = .acquire := by
  simp [applyCsu, failAlign_csu, activate]

theorem applyConfiguration_completes (r : Requester) (h : Admitted s 0x2000 0x0B .wo) (hv : (stagedCsu s.od).valid = true) :
    (applyConfiguration r s).answer.status = 0 ∧ (applyConfiguration r s).csu.act = stagedCsu s.od ∧
      (applyConfiguration r s).csu.st = .acquire := by
  let u := (applyCsu (stagedCsu s.od) s).confGen
  let v := if u.upstream = s.upstream ∨ u.fab.state = 3 then u else enterAlone u
  have hv' : v.csu = u.csu := afar_eq_csu (by simp [v])
  have hfollow (p : Fin 8) : (followPeer p v).csu = v.csu := afar_eq_csu (afar_followPeer v p)
  obtain ⟨hact, hst⟩ := applyCsu_csu (stagedCsu s.od) s
  have hu (t : State) (ht : t.csu = v.csu) : t.ok.answer.status = 0 ∧ t.ok.csu.act = stagedCsu s.od ∧ t.ok.csu.st = .acquire := by
    have hcsu : t.ok.csu = u.csu := ht.trans hv'
    rw [hcsu]
    exact ⟨rfl, hact, hst⟩
  rw [applyConfiguration, request_granted h rfl (by simp [hv])]
  apply hu
  split
  · exact hfollow _
  · rfl

end

/-- Settles O54: each command's effect is a lemma about its own function; what it calls leaves the named fields alone. -/
theorem deviceCommandsComplete : Obligations.device_commands_complete := by
  unfold Obligations.device_commands_complete
  intro s r
  refine ⟨fun hp hc => ⟨_, rfl, ?_⟩, fun hp => ⟨_, execBrownout_powered hp, (unpower_volatile s).1⟩, fun hp => ⟨_, rfl, ?_⟩,
    fun hp hr => ⟨_, rfl, ?_⟩, fun hp k x hx => ⟨_, rfl, ?_⟩, fun hp k => ⟨_, rfl, ?_⟩,
    fun hp hd f => ⟨_, rfl, bootComplete_load hp hd f⟩, fun hd hc => ⟨_, rfl, imageLoad_load hd hc⟩,
    fun hd hc ha hs => ⟨_, rfl, startUpAlign_locked hd hc ha hs⟩,
    fun hd hc hl ha => ⟨_, rfl, lockWaitExpiry_load hd hc hl ha⟩,
    fun a p hb hp hd hv hc => ⟨_, rfl, fabricStartUpAlign_idle hb hp hd hv hc⟩,
    fun hd ha hcal ht n => ⟨_, rfl, idleEntry_load n hd ha hcal ht⟩,
    fun hp hcal c code hc hd => ?_, fun hp c code st hc hd => ?_,
    fun hs => ⟨_, rfl, safe_completes r hs⟩, fun hs hsave hc => ⟨_, rfl, save_completes r hs hsave hc⟩,
    fun hsave ht ok => ⟨_, rfl, saveComplete_completes hsave ht ok⟩,
    fun hd hp hcal hc hm hf => align_completes r hd hp hcal hc hm hf,
    fun hs => ⟨_, rfl, reset_completes r hs⟩, fun h n => ⟨_, rfl, scheduledCommand_cancels r h n⟩,
    fun hr hn m => ⟨_, rfl, tideBoundary_lastTide m hr hn⟩,
    fun ht hh hn m => ⟨_, rfl, hourlyUpdate_hourAt m ht hh hn⟩,
    fun hc hs => ⟨_, rfl, marginAppend_lastAppend hc hs⟩,
    fun m a h _ hm ha => appendNow_completes r h hm ha,
    fun a ha hcl hp he => ⟨_, rfl, scrubRead_corrects ha hcl hp he⟩,
    ⟨_, rfl, epochWrap_count s⟩, fun h => clearShutdownRecord_completes r h, fun h => armInjection_completes r h,
    fun h => ⟨_, rfl, referenceLost_acquire h⟩, fun h => ⟨_, rfl, passToReturn_lull h rfl⟩,
    fun h hp => ⟨_, rfl, referenceQualified_freerun h hp⟩,
    fun h _ n hn => ⟨_, rfl, lockDeclared_acquire h hn⟩,
    fun h _ hhold e n he hn => ⟨_, rfl, unlockDeclared_locked h hhold he hn⟩,
    fun h => ⟨_, rfl, acquireTimeout_acquire h⟩,
    fun h hv => ⟨_, rfl, applyConfiguration_completes r h hv⟩,
    fun a l ha _ hr hm _ => ⟨_, rfl, markedEdge_internal l ha hr hm⟩,
    fun a x ha hs hr hx => ⟨_, rfl, alignTrimComplete_aligned ha hs hr hx⟩,
    fun a ha _ hr hm => ⟨_, rfl, alignInTimeout_external ha hr hm⟩,
    fun h hp j n hn => ⟨_, rfl, returnAccept_ret h hp hn⟩,
    fun f hb hf => ⟨_, rfl, bypassEntry_qualified hb hf⟩,
    fun a f hb ha hf => ⟨_, rfl, bypclkQualified_after hb ha hf⟩,
    fun hb hn => ⟨_, rfl, bypclkNotQualified_first hb hn⟩,
    fun h hl x n hn => ⟨_, rfl, bypassLock_bypass h hl hn⟩,
    fun h hp => ⟨_, rfl, bypclkLost_bypass h hp⟩,
    fun h => ⟨_, rfl, actionLeave_completes r h⟩,
    fun h ht hc => ⟨⟨_, rfl, writeAction_timed r _ h ht hc⟩, _, rfl, writeAction_timed r _ h ht hc⟩,
    fun a code hc ha hd => ⟨_, rfl, slewStart_nothing hc ha hd⟩,
    fun a code _ ha => ⟨_, rfl, slewComplete_ends ha⟩,
    fun a hc ha => ⟨_, rfl, stepExecute_ends hc ha⟩,
    fun n => ⟨fun h => ⟨_, rfl, clkoutOvercurrent_runs h⟩, fun h => ⟨_, rfl, clkoutFaultClear_fault h⟩⟩⟩
  · rw [vinValid_cool hp hc]
    exact ⟨(restart_freshStart s).running.1, (restart_freshStart s).running.2.1⟩
  · rw [resetPulse_restarts (.inl hp)]
    exact ⟨(restart_freshStart s).running.1, (restart_freshStart s).running.2.2⟩
  · exact ⟨(shutdownRestart_freshStart hp hr).running.1, (shutdownRestart_freshStart hp hr).running.2.1⟩
  · rw [thermalShutdown_running hp k hx]; rfl
  · rw [overcurrentShutdown_running hp k]; rfl
  · simp only [List.mem_cons, List.not_mem_nil, or_false, Prod.mk.injEq] at hc
    rcases hc with ⟨rfl, rfl⟩ | ⟨rfl, rfl⟩ | ⟨rfl, rfl⟩
    · exact ⟨_, rfl, command_pend r (by rw [hd]; rfl) (by simp [notPending_none hp, notCalibrating_none hcal])⟩
    · exact ⟨_, rfl, command_pend r (by rw [hd]; rfl) (by simp [notPending_none hp])⟩
    · exact ⟨_, rfl, command_pend r (by rw [hd]; rfl) (by simp [notPending_none hp, notCalibrating_none hcal])⟩
  · simp only [List.mem_cons, List.not_mem_nil, or_false, Prod.mk.injEq] at hc
    rcases hc with ⟨rfl, rfl, rfl⟩ | ⟨rfl, rfl, rfl⟩ | ⟨rfl, rfl, rfl⟩ | ⟨rfl, rfl, rfl⟩ | ⟨rfl, rfl, rfl⟩
    all_goals exact ⟨_, rfl, command_pend r (by rw [hd]; rfl) (by simp [notPending_none hp])⟩

end Sys2Proof.Machine

/-!
SUPPORT. Commands of the Saltern and of the PCI Express interface (spec 14, R366 to R394).
-/
namespace Sys2Proof.Machine

/-- A command that leaves a state leaves it under another name of the state. -/
theorem next_eq {a b : State} (h : a = b) : (Host.Outcome.next a : Host.Outcome State Fault Refusal) = .next b := congrArg _ h

section
variable {s t : State} (h : s.bare = t.bare)
include h

theorem bare_eq_host : s.host = t.host := congrArg (fun x => x.host) h
theorem bare_eq_eth : s.eth = t.eth := congrArg (fun x => x.eth) h
theorem bare_eq_kpp : s.kpp = t.kpp := congrArg (fun x => x.kpp) h
theorem bare_eq_port : s.port = t.port := congrArg (fun x => x.port) h
theorem bare_eq_armg : s.armg = t.armg := congrArg (fun x => x.armg) h

end

section
variable {s : State}

/-! ## The Saltern (R366 to R378) -/

/-- The flag of a Pan reads back as set. -/
theorem flag_setFlag (h : assocSorted s.own = true) (p : Nat) (f : PanFlag) : (s.setFlag p f).flag p = f := by
  unfold State.flag State.setFlag
  by_cases hf : f = {}
  · rw [if_pos hf, assocFind_put_none h, hf]; rfl
  · rw [if_neg hf, assocFind_put_some]; rfl

/-- A check that holds is the only one. -/
theorem firstFail_need {c : Bool} (h : c = true) (x : W32) : firstFail [need c x] = none := by rw [h]; rfl

theorem flagWrite_accepted (r : Requester) {p : BitVec 11} {v : Byte} {f : PanFlag} (h : Admitted s 0x7001 3 .wo) (hp : p ≠ 0)
    (ho : assocSorted s.own = true) (hj : s.judgeFlag p.toNat v = .accepted f) :
    (flagWrite r p v s).answer.status = 0 ∧ (flagWrite r p v s).flag p.toNat = f := by
  have hwrite : flagWrite r p v s = (s.setFlag p.toNat f).ok := by
    rw [flagWrite, request_granted h rfl (firstFail_need (bne_iff_ne.mpr hp) _), hj]
    simp only [writeFlag, hj]
  rw [hwrite]
  exact ⟨rfl, flag_setFlag ho ..⟩

theorem panData_completes (r : Requester) {data : List Byte} (h : Admitted s 0x7001 2 .rw) (hlen : data.length = 4096)
    (hpos : 0 < s.nat 0x7001 1) (hw : s.hostWritable (s.nat 0x7001 1) = true) : (panData r data s).answer.status = 0 := by
  rw [panData, request_granted h (by simp [hlen]) (firstFail_need (bne_iff_ne.mpr hpos.ne') _), if_pos hw]; rfl

theorem thaw_completes (r : Requester) (h : Admitted s 0x7001 4 .wo) (hpos : 0 < s.nat 0x7001 1)
    (ho : (s.flag (s.nat 0x7001 1)).owner = .frozen) (hh : s.heldByProgram (s.nat 0x7001 1) = false) :
    (thaw r s).answer.status = 0 := by
  rw [thaw, request_granted h rfl (firstFail_need (by simp [ho, hh, hpos.ne']) _)]; rfl

/-! ## Reads of objects -/

/-- Where no ECC word has an error, no read meets one. -/
theorem meetObject_clean (idx sub : Nat) (he : s.health.errs = []) : meetObject idx sub s = s := by
  simp [meetObject, he, each]

/-- Where nothing is poisoned and no setting's parity fails, what is readable is read. -/
theorem readObject_clean {r : Requester} {idx sub len : Nat} {staged : Bool} {e : OdEntry} {v : List Byte}
    (he : s.health.errs = []) (hpo : s.health.poisoned = []) (hpa : s.parity = [])
    (h : s.readable r idx sub staged len = .ok (e, v)) :
    ∃ v' t, readObject r idx sub staged len s = (.ok (e, v'), t) := by
  have hbad : s.objectBad idx sub = false := by simp [State.objectBad, hpo]
  simp only [readObject, h, State.parityBad, hpa, List.any_nil, Bool.false_eq_true, if_false, meetObject_clean idx sub he, hbad]
  exact ⟨_, _, rfl⟩

/-- A domain of one Pan is copied to the host's Pan 5 (R378). -/
theorem salternTransfer_out (r : Requester) {e : OdEntry} {v : List Byte} (hd : s.dev.st = .idle) (he : s.health.errs = [])
    (hpo : s.health.poisoned = []) (hpa : s.parity = []) (ho : (s.flag 5).owner = .host)
    (h : s.readable r 0x6001 2 false 4096 = .ok (e, v)) (hdom : e.type.isDomain = true) :
    (salternTransfer r 0x6001 2 1 5 0 4096 s).answer.status = 0 := by
  obtain ⟨v', t, hread⟩ := readObject_clean he hpo hpa h
  have hall : s.allHost [5] = true := by simp [State.allHost, ho]
  have hout : salternTransfer r 0x6001 2 1 5 0 4096 s = transferOut r 0x6001 2 [5] 5 4096 s := by
    rw [salternTransfer, hd]; rfl
  rw [hout]
  simp only [transferOut, h, hdom, hall, hread]
  rfl

/-! ## Block writes (R380) -/

theorem putAll_find_below {m : List Host.Cell} {a c : Nat} (h : a < c) (bs : List (Option Byte)) :
    assocFind (Memory.putAll m c bs) a = assocFind m a := by
  induction bs generalizing m c with
  | nil => rfl
  | cons x bs ih =>
    cases x with
    | none => exact ih (by omega)
    | some b =>
      refine (ih (by omega)).trans ?_
      unfold Memory.put
      split
      · exact assocFind_put_ne h.ne
      · rfl

/-- What is found at the first address of a write: the byte written, or what stood there where none is. -/
theorem putAll_find_first {m : List Host.Cell} (hm : Memory.wf m = true) {a : Nat} (hlo : 4096 ≤ a) (hhi : a < salternSize)
    (x : Option Byte) (bs : List (Option Byte)) :
    (assocFind (Memory.putAll m a (x :: bs)) a).getD salternUnwritten = x.getD ((assocFind m a).getD salternUnwritten) := by
  have hsorted : assocSorted m = true := by
    rw [Memory.wf, Bool.and_eq_true] at hm
    exact hm.1
  cases x with
  | none => rw [Memory.putAll, putAll_find_below (by omega)]; rfl
  | some b =>
    rw [Memory.putAll, putAll_find_below (by omega), Memory.put, if_pos ⟨hlo, hhi⟩]
    split
    next h => rw [assocFind_put_none hsorted, h]; rfl
    next => rw [assocFind_put_some]; rfl

theorem putAll_none {m : List Host.Cell} {a : Nat} {bs : List (Option Byte)} (h : bs.all Option.isNone = true) :
    Memory.putAll m a bs = m := by
  induction bs generalizing a with
  | nil => rfl
  | cons x bs ih =>
    rw [List.all_cons, Bool.and_eq_true] at h
    obtain rfl := Option.isNone_iff_eq_none.mp h.1
    exact ih h.2

/-- A write of a word leaves the data, where the word is poisoned, or writes its bytes. -/
theorem putWord_mem (s : State) (w : Nat) (bs : List (Option Byte)) :
    (s.putWord w bs).mem = s.mem ∨ (s.putWord w bs).mem = Memory.putAll s.mem (4 * w) bs := by
  unfold State.putWord
  dsimp only
  split
  · exact .inl rfl
  · split
    · exact .inr (wordWritten_mem ..)
    · split
      · exact .inl (readWord_mem ..)
      · exact .inr (by rw [inject_mem, readWord_mem])

theorem putWord_mem_clean (he : s.health.errs = []) (hp : s.health.poisoned = []) (w : Nat) (bs : List (Option Byte)) :
    (s.putWord w bs).mem = Memory.putAll s.mem (4 * w) bs := by
  have hread : readWord (salternWord w) s = s := by simp [readWord, he]
  unfold State.putWord
  split
  next h => exact (putAll_none h).symm
  · split
    · exact wordWritten_mem ..
    · simp [hread, State.isPoisoned, hp]

/-- Words written behind an address leave what is found there. -/
theorem putWords_find_below {a w : Nat} (h : a < 4 * w) (n : Nat) (bs : List (Option Byte)) :
    assocFind (s.putWords w n bs).mem a = assocFind s.mem a := by
  induction n generalizing s w bs with
  | zero => rfl
  | succ n ih =>
    rw [State.putWords, ih (by omega)]
    rcases putWord_mem s w (bs.take 4) with hm | hm <;> rw [hm]
    exact putAll_find_below h _

/-- A write of a block of a Pan that the host may write. -/
theorem hostBlock_writes {path : Path} {block : Nat} {bs : List (Option Byte)} (hpan : block / 64 ≠ 0)
    (hw : s.hostWritable (block / 64) = true) (hb : bs.all Option.isNone = false) :
    hostBlock path block bs s = s.putWords (16 * block) 16 bs := by
  rw [hostBlock, if_neg (Bool.eq_false_iff.mp hb), if_neg hpan]
  unfold State.hostWritable at hw
  cases ho : (s.flag (block / 64)).owner <;> simp [ho] at hw ⊢

/-- It shows its first byte, or what stood there where it has none. -/
theorem hostBlock_byte {block : Nat} {bs : List (Option Byte)} (hlo : 64 ≤ block) (hhi : block < 131072)
    (hw : s.hostWritable (block / 64) = true) (hlen : bs.length = 64) (hm : Memory.wf s.mem = true)
    (hp : s.health.poisoned = []) (he : s.health.errs = []) :
    (hostBlock .pcie block bs s).byte (64 * block) = (bs.getD 0 none).getD (s.byte (64 * block)) := by
  obtain ⟨x, rest, rfl⟩ := List.exists_cons_of_length_eq_add_one (n := 63) hlen
  have hbyte (t : State) : t.byte (64 * block) = (assocFind t.mem (64 * block)).getD salternUnwritten := by
    rw [State.byte, if_neg (by omega), if_neg (by omega)]
  rw [hbyte s]
  by_cases hnone : (x :: rest).all Option.isNone = true
  · have hx := (Bool.and_eq_true .. ▸ hnone : x.isNone = true ∧ rest.all Option.isNone = true).1
    obtain rfl := Option.isNone_iff_eq_none.mp hx
    rw [hostBlock, if_pos hnone]
    exact hbyte s
  · rw [hostBlock_writes (by omega) hw (Bool.eq_false_iff.mpr hnone)]
    have haddr : 64 * block = 4 * (16 * block) := by omega
    rw [hbyte, State.putWords, putWords_find_below (by omega), putWord_mem_clean he hp, haddr, List.take_succ_cons]
    exact putAll_find_first hm (by omega) (by rw [salternSize]; omega) x _

/-! ## PCI Express (R380 to R394) -/

@[simp] theorem bare_pcieEvent (kind : Nat) (s : State) : (pcieEvent kind s).bare = s.bare := bare_raiseOnce ..

/-- The completions of a read hold as many bytes as were asked for. -/
theorem completionsOf_length {fuel addr n : Nat} (h : n ≤ fuel) :
    ((s.completionsOf fuel addr n).flatMap (fun c => c.bytes)).length = n := by
  induction fuel generalizing addr n with
  | zero => obtain rfl := Nat.le_zero.mp h; rfl
  | succ fuel ih =>
    unfold State.completionsOf
    dsimp only
    split
    next hn => exact hn.symm
    next hn =>
      have hlt : addr % 64 < 64 := Nat.mod_lt _ (by decide)
      rw [List.flatMap_cons, List.length_append, ih (by omega), List.length_map, List.length_range]
      omega

theorem bar2Read_length {a k : Nat} (hk : k ≤ 4096) (hpage : a % 4096 + k ≤ 4096) (hsize : a + k ≤ 8388608) :
    (bar2Read a k s).host.lastRead.length = k := by
  unfold bar2Read
  rw [if_neg (by omega), if_neg (by omega)]
  dsimp only
  split
  · rw [bare_eq_host (bare_pcieEvent ..)]
    exact completionsOf_length le_rfl
  · exact completionsOf_length le_rfl

theorem evrCons_all (s : State) : (evrCons (takePending s).ring.prod s).ring.cons = (takePending s).ring.prod := by
  unfold evrCons
  dsimp only
  rw [if_pos le_rfl]

theorem refreshAlert_host (s : State) : s.refreshAlert.host = s.host := by
  unfold State.refreshAlert
  split <;> rfl

/-- Messages that can be sent again leave the link (R383). -/
theorem sendPending_link (h : HostIf) :
    h.sendPending.linkUp = h.linkUp ∧ h.sendPending.width = h.width ∧ h.sendPending.speed = h.speed := by
  unfold HostIf.sendPending
  generalize List.finRange 32 = l
  induction l generalizing h with
  | nil => exact ⟨rfl, rfl, rfl⟩
  | cons v l ih =>
    rw [List.foldl_cons]
    obtain ⟨hup, hwidth, hspeed⟩ := ih (if h.msixPending.toNat.testBit v.val && h.sends v then h.send v else h)
    rw [hup, hwidth, hspeed]
    split <;> exact ⟨rfl, rfl, rfl⟩

theorem mbxDoorbell_serves {n : W32} {q : List Byte} (hopen : s.pcieOpen = true) (hbusy : s.host.mbxBusy = false)
    (hready : s.host.mbxReady = false) (hlo : 16 ≤ n.toNat) (hhi : n.toNat ≤ 2048)
    (hlen : n.toNat = 16 + (decodeMsg (slice q 0 (min n.toNat 2048))).length.toNat) :
    mbxDoorbell n.toNat q s = kpp ⟨.pcie, 0, (decodeMsg (slice q 0 (min n.toNat 2048))).session⟩
      (decodeMsg (slice q 0 (min n.toNat 2048))) { s with host := { s.host with mbxRequest := q, mbxBusy := true } } := by
  unfold mbxDoorbell
  simp only [hopen, hbusy, hready, Bool.not_true, Bool.or_self, Bool.false_eq_true, if_false]
  rw [if_pos ⟨hlo, hhi, hlen⟩]

end

end Sys2Proof.Machine

/-!
SUPPORT. Objects and KPP requests (spec 15, R398 to R433).
-/
namespace Sys2Proof.Machine

section
variable {s t : State}

theorem widen_eq_kpp (h : s.bare.widen = t.bare.widen) : s.kpp = t.kpp := congrArg (fun x => x.kpp) h

/-! ## A write of the Pan selection (0x7001:01) -/

/-- 0x7001:01 is an RW entry of type U16 with the range of the Pans on both parts. -/
theorem odEntry_panSelect (p : Part) :
    ∃ e, odEntry p 0x7001 1 = some e ∧ e.type = .u16 ∧ e.acc = .rw ∧ e.range = .span 0 2047 := by
  cases p <;> exact ⟨_, rfl, rfl, rfl, rfl⟩

/-- 0x7001 is no channel's record. -/
theorem seqIdx_ne_panSelect (ch : Fin 64) : seqIdx ch.val ≠ 0x7001 := by
  have hch := ch.isLt
  simp only [seqIdx]
  omega

theorem writeNow_panSelect (v : OdVal) (s : State) : writeNow 0x7001 1 .rw v s = (s.store1 0x7001 1 v).ok := by
  have hnone : (s.store1 0x7001 1 v).channels.find? (fun ch => seqIdx ch.val = 0x7001 && (1 : Nat) = 1) = none :=
    List.find?_eq_none.mpr fun ch _ => by simp [seqIdx_ne_panSelect ch]
  unfold writeNow
  dsimp only
  rw [if_neg (by decide), hnone]
  rfl

/-- No unit refuses a Pan selection, and none depends on it. -/
theorem panSelect_checks (s : State) (o : Settings) (n : Nat) (v : List Byte) :
    unitOk s 0x7001 1 n = true ∧ depOk o 0x7001 1 = true ∧ depState s 0x7001 1 n = true ∧ customOk s.part o 0x7001 1 v = true :=
  ⟨rfl, rfl, rfl, rfl⟩

theorem writeSetting_panSelect (r : Requester) {e : OdEntry} (hacc : e.acc = .rw) (v : List Byte) (hold : Bool) (s : State) :
    writeSetting r 0x7001 1 e v hold s =
      if Access.rw.permits s.dev.st then (s.store1 0x7001 1 (odVal e.type v)).ok else s.refuse r 0x7001 1 0x04010000 := by
  obtain ⟨hunit, hdep, hstate, -⟩ := panSelect_checks s (s.staged.set 0x7001 1 (odVal e.type v)) (ofBytes v) v
  unfold writeSetting
  simp only [hacc, hunit, hdep, hstate, reduceCtorEq, if_false, writeNow_panSelect, decide_false, Bool.false_and,
    Bool.and_self, Bool.not_true, Bool.false_eq_true]
  cases Access.rw.permits s.dev.st <;> rfl

@[simp] theorem refuse_kpp (r : Requester) (idx sub : Nat) (code : W32) (s : State) :
    (s.refuse r idx sub code).kpp = s.kpp := by
  have hevent (n : Nat) (d : Nat) : ((s.reply code).raiseOnce 491 n d).kpp = s.kpp :=
    (bare_eq_kpp (bare_raiseOnce (s.reply code) 491 n d 0)).trans rfl
  simp only [State.refuse, apply_ite State.kpp, hevent]
  exact (ite_congr rfl (fun _ => rfl) fun _ => ite_self _).trans (ite_self _)

/-- A write of the Pan selection leaves the KPP requests. -/
theorem writeObject_panSelect_kpp (r : Requester) (v : List Byte) (hold : Bool) (s : State) :
    (writeObject r 0x7001 1 v hold s).kpp = s.kpp := by
  obtain ⟨e, he, -, hacc, -⟩ := odEntry_panSelect s.part
  have hset : (writeSetting r 0x7001 1 e v hold s).kpp = s.kpp := by
    rw [writeSetting_panSelect r hacc]
    split
    · rfl
    · exact refuse_kpp ..
  have hrow : rowWrite r 0x7001 1 v = none := rfl
  have hobject : writeObject r 0x7001 1 v hold s = writeObject0 r 0x7001 1 v hold s := rfl
  rw [hobject]
  unfold writeObject0
  cases s.dev.st <;> cases s.exists_ 0x7001 1 <;> simp [he, hrow, apply_ite State.kpp, hset]

/-- The number 5 is written as the Pan selection. -/
theorem writeObject_panSelect_five (r : Requester) (hd : s.dev.st = .idle) (hx : s.exists_ 0x7001 1 = none) :
    (writeObject r 0x7001 1 [5, 0] false s).answer.status = 0 ∧ (writeObject r 0x7001 1 [5, 0] false s).nat 0x7001 1 = 5 := by
  obtain ⟨e, he, htype, hacc, hrange⟩ := odEntry_panSelect s.part
  have hval : odVal e.type [5, 0] = .num 5 := by rw [htype]; rfl
  have hin : s.inRange 0x7001 1 e [5, 0] = true := by
    obtain ⟨-, -, -, hcustom⟩ := panSelect_checks s s.staged 5 [5, 0]
    simp only [State.inRange, rangeOk, htype, hrange, hcustom]
    rfl
  have hwrite : writeObject r 0x7001 1 [5, 0] false s = (s.store1 0x7001 1 (.num 5)).ok := by
    have hset := writeSetting_panSelect r hacc [5, 0] false s
    rw [hval, hd] at hset
    have hobject : writeObject r 0x7001 1 [5, 0] false s = writeObject0 r 0x7001 1 [5, 0] false s := rfl
    have hrow : rowWrite r 0x7001 1 [5, 0] = none := rfl
    have hlen : lengthOk 0x7001 1 .u16 [5, 0] = true := rfl
    rw [hobject]
    unfold writeObject0
    simp only [hd, hx, he, hacc, hrow, hin, htype, hlen, hset]
    rfl
  have hnat : (s.store1 0x7001 1 (.num 5)).nat 0x7001 1 = 5 := by
    have hne : OdVal.num 5 ≠ odDefaultVal 0x7001 1 := by decide
    simp only [State.nat, State.store1, Settings.nat, Settings.set, if_neg hne, assocFind_put_some]
  rw [hwrite]
  exact ⟨rfl, hnat⟩

/-! ## Reads (R399, R401, R415) -/

theorem readObject_kpp (r : Requester) (idx sub : Nat) (staged : Bool) (len : Nat) (s : State) :
    (readObject r idx sub staged len s).2.kpp = s.kpp := by
  have hmeet : (meetObject idx sub s).kpp = s.kpp := widen_eq_kpp (by simp [meetObject])
  have hparity : (parityEvent r idx sub s).kpp = s.kpp := bare_eq_kpp (bare_raiseOnce ..)
  have hlatch (c : Prop) [Decidable c] (t : State) : (if c then latchTime r.path t else t).kpp = t.kpp := by split <;> rfl
  have hfresh (c : Prop) [Decidable c] (t : State) : (if c then t.fresh.2 else t).kpp = t.kpp := by split <;> rfl
  unfold readObject
  cases s.readable r idx sub staged len with
  | error c => rfl
  | ok x =>
    obtain ⟨e, v⟩ := x
    dsimp only
    split
    · exact hparity
    · split
      · exact hmeet
      · exact (hfresh _ _).trans ((hlatch _ _).trans hmeet)

/-! ## What each opcode answers (R419 to R425) -/

/-- A request is answered, and the count of requests served stands, as yet, at `n`. -/
def Answers (n : W64) (x : Served) : Prop := x.1.isSome = true ∧ x.2.kpp.served = n

theorem refused_answers (m : KppMsg) (code : W32) {n : W64} (h : s.kpp.served = n) : Answers n (refused m code s) := ⟨rfl, h⟩

theorem granted_answers (m : KppMsg) (p : List Byte) {n : W64} (h : s.kpp.served = n) : Answers n (granted m p s) := ⟨rfl, h⟩

theorem serveRead_answers (r : Requester) (m : KppMsg) (s : State) : Answers s.kpp.served (serveRead r m s) := by
  have hread := readObject_kpp r (KppMsg.address m).1 (KppMsg.address m).2 m.staged 1396 s
  have hdescriptor (idx sub : Nat) : Answers s.kpp.served (serveDescriptor m idx sub s) := by
    unfold serveDescriptor
    cases s.exists_ idx sub with
    | some c => exact refused_answers m c rfl
    | none =>
      cases odEntry s.part idx sub with
      | none => exact refused_answers m _ rfl
      | some e =>
        dsimp only
        split
        · exact refused_answers m _ rfl
        · exact granted_answers m _ rfl
  unfold serveRead
  dsimp only
  split
  · exact hdescriptor _ _
  · generalize readObject r (KppMsg.address m).1 (KppMsg.address m).2 m.staged 1396 s = x at hread
    obtain ⟨c | ⟨e, v⟩, t⟩ := x
    · exact refused_answers m c (congrArg _ hread)
    · exact granted_answers m _ (congrArg _ hread)

/-- A write of the Pan selection is answered at once: it is no Load. -/
theorem serveWriteOf_panSelect (r : Requester) (m : KppMsg) (v : List Byte) (s : State) :
    Answers s.kpp.served (serveWriteOf r m 0x7001 1 v s) := by
  have hnone : s.channels.find? (fun ch => seqIdx ch.val = 0x7001 && (1 : Nat) = 2) = none :=
    List.find?_eq_none.mpr fun ch _ => by simp
  unfold serveWriteOf
  dsimp only
  rw [hnone]
  exact ⟨rfl, congrArg _ (writeObject_panSelect_kpp ..)⟩

theorem serveWrite_answers {r : Requester} {m : KppMsg} (h : KppMsg.address m = (0x7001, 1)) (s : State) :
    Answers s.kpp.served (serveWrite r m s) := by
  unfold serveWrite
  rw [h]
  exact serveWriteOf_panSelect ..

theorem readSegment_answers (r : Requester) (m : KppMsg) (t : OdType) (x : Segment) (offset : Nat) {n : W64}
    (h : s.kpp.served = n) : Answers n (readSegment r m t x offset s) := by
  refine ⟨rfl, ?_⟩
  unfold readSegment
  dsimp only
  split <;> exact h

theorem serveReadSeg_answers (r : Requester) (m : KppMsg) (s : State) : Answers s.kpp.served (serveReadSeg r m s) := by
  have hread := readObject_kpp r (KppMsg.address m).1 (KppMsg.address m).2 false 65536 (dropRead r s)
  unfold serveReadSeg
  dsimp only
  split
  · cases (dropRead r s).readable r (KppMsg.address m).1 (KppMsg.address m).2 false 65536 with
    | error c => exact refused_answers m c rfl
    | ok x =>
      dsimp only
      split
      · exact refused_answers m _ rfl
      · generalize readObject r (KppMsg.address m).1 (KppMsg.address m).2 false 65536 (dropRead r s) = x at hread
        obtain ⟨c | ⟨e, v⟩, t⟩ := x
        · exact refused_answers m c ((congrArg Kpp.served hread).trans rfl)
        · exact readSegment_answers r m _ _ _ ((congrArg Kpp.served hread).trans rfl)
  · cases s.kpp.readSegs.find? (fun x => x.by_ = r) with
    | none => exact refused_answers m _ rfl
    | some x =>
      dsimp only
      split
      · exact readSegment_answers r m _ _ _ rfl
      · exact refused_answers m _ rfl

theorem serveWriteSeg_answers {r : Requester} {m : KppMsg} (h : KppMsg.address m = (0x7001, 1)) (s : State) :
    Answers s.kpp.served (serveWriteSeg r m s) := by
  unfold serveWriteSeg
  rw [h]
  dsimp only
  split
  · exact refused_answers m _ rfl
  · split
    · exact refused_answers m _ rfl
    · split
      · exact refused_answers m _ ((congrArg Kpp.served (refuse_kpp ..)).trans rfl)
      · split
        · exact serveWriteOf_panSelect ..
        · exact granted_answers m _ rfl

theorem serveSubscribe_answers (r : Requester) (m : KppMsg) (s : State) : Answers s.kpp.served (serveSubscribe r m s) := by
  unfold serveSubscribe
  dsimp only
  repeat' split
  all_goals exact ⟨rfl, rfl⟩

/-- Host tables that a COMMIT installs leave the KPP requests. -/
theorem tablesCommitted_kpp (l : List SetEntry) (s : State) : (tablesCommitted l s).kpp = s.kpp := by
  refine widen_eq_kpp (widen_each s (fun e t => ?_) l)
  simp [tableWritten, hostTableWritten, apply_dite]

theorem serveCommit_answers (r : Requester) (m : KppMsg) (s : State) : Answers s.kpp.served (serveCommit r m s) := by
  have hrefused (c : W32) (l : List SetEntry) : (commitRefused r c l s).kpp = s.kpp := by
    unfold commitRefused
    split
    · exact refuse_kpp ..
    · rfl
  unfold serveCommit
  extract_lets named tide n held l
  split
  · exact refused_answers m _ rfl
  · split
    · exact refused_answers m _ rfl
    · split
      · exact granted_answers m _ rfl
      · split
        · exact refused_answers m _ (congrArg _ (hrefused ..))
        · exact granted_answers m _ (congrArg _ (tablesCommitted_kpp ..))

theorem serveAbort_answers (r : Requester) (m : KppMsg) (s : State) : Answers s.kpp.served (serveAbort r m s) := by
  unfold serveAbort
  dsimp only
  repeat' split
  all_goals exact ⟨rfl, rfl⟩

theorem afar_eq_kpp (h : s.bare.widen.afar = t.bare.widen.afar) : s.kpp = t.kpp := congrArg (fun x => x.kpp) h

/-! ## A request for this node is served (R400, R418, R423) -/

@[simp] theorem afar_forwardTunnel (i : DataItem) (s : State) : (forwardTunnel i s).bare.widen.afar = s.bare.widen.afar := by
  unfold forwardTunnel
  split <;> simp

theorem deliver_kpp (r : Requester) (m : KppMsg) (s : State) : (deliver r m s).kpp = s.kpp := by
  unfold deliver
  cases r.path with
  | ethernet | spi => rfl
  | pcie => exact widen_eq_kpp ((widen_setAlert _ _).trans rfl)
  | tunnel => exact afar_eq_kpp (afar_forwardTunnel _ _)

theorem finish_served (r : Requester) (m : KppMsg) (s : State) : (finish r m s).kpp.served = s.kpp.served + 1 :=
  congrArg Kpp.served (deliver_kpp ..)

theorem serveHere_answers {r : Requester} {m : KppMsg} (hnew : s.remembered r m = none)
    (h : Answers s.kpp.served (serve r m (touchHeld r s))) : (serveHere r m s).kpp.served = s.kpp.served + 1 := by
  have hnew' : (touchHeld r s).remembered r m = none := hnew
  obtain ⟨hsome, hserved⟩ := h
  unfold serveHere
  dsimp only
  rw [hnew']
  generalize serve r m (touchHeld r s) = x at hsome hserved
  obtain ⟨resp, t⟩ := x
  obtain ⟨resp, rfl⟩ := Option.isSome_iff_exists.mp hsome
  exact (finish_served ..).trans (congrArg (· + 1) hserved)

/-- The state with the address at which a request came (R426). -/
def State.reachedAt (s : State) (a : Nat) : State := { s with eth := { s.eth with reached := a } }

theorem pathOpen_reachedAt (s : State) (a : Nat) (p : Path) : (s.reachedAt a).pathOpen p = s.pathOpen p := by
  cases p <;> rfl

/-- What arrives whole, on an open path and with a good header, is served here. -/
theorem kppRow_arrives {r : Requester} {m : KppMsg} {op : Byte} (h : Arrives s r m op) :
    ∃ a, kppRow op {} r m s = serveHere (requesterOf r m) m (s.reachedAt a) := by
  obtain ⟨hop, hopen, hsource, hmagic, hheader, hdest⟩ := h
  have hby : kppRow op {} r m s = kpp r m s := by
    rw [kppRow, if_pos (.inl hop), kppBy, if_neg (by simp), if_neg (by simp), if_neg (by simp)]
  have hreached : ∃ a, (if (requesterOf r m).path = .ethernet then { s with eth := { s.eth with reached := s.address } } else s) =
      s.reachedAt a := by
    split
    · exact ⟨_, rfl⟩
    · exact ⟨s.eth.reached, rfl⟩
  obtain ⟨a, ha⟩ := hreached
  have hadmit : ¬((requesterOf r m).path = .ethernet ∧ !(s.reachedAt a).admitsSource ((requesterOf r m).addr / 2 ^ 16)) := by
    rintro ⟨hp, hs⟩
    have hp : r.path = .ethernet := hp
    have haddr : (requesterOf r m).addr = r.addr := by simp [requesterOf, hp]
    rw [haddr, Bool.not_eq_true'] at hs
    exact Bool.false_ne_true (hs.symm.trans (hsource hp))
  have hopen' : (s.reachedAt a).pathOpen (requesterOf r m).path = true := (pathOpen_reachedAt ..).trans hopen
  have hheader' : headerOk (requesterOf r m).path m = true := hheader
  refine ⟨a, ?_⟩
  rw [hby, kpp]
  dsimp only
  rw [ha, if_neg (by simp [hopen']), if_neg hadmit, if_neg (fun hm => hm.2 hmagic), if_neg (by simp [hmagic, hheader']),
    if_neg (fun hd => hdest.elim hd.1 hd.2)]

/-- The opcodes answer; the writes do where they concern the Pan selection. -/
theorem serve_answers {m : KppMsg} {op : Byte} (hop : m.opcode = op)
    (h : op = 1 ∨ op = 3 ∨ op = 5 ∨ op = 7 ∨ op = 8 ∨ KppMsg.address m = (0x7001, 1) ∧ (op = 2 ∨ op = 4))
    (r : Requester) (s : State) : Answers s.kpp.served (serve r m s) := by
  unfold serve
  rw [hop]
  rcases h with rfl | rfl | rfl | rfl | rfl | ⟨haddr, rfl | rfl⟩
  · exact serveRead_answers ..
  · exact serveReadSeg_answers ..
  · exact serveSubscribe_answers ..
  · exact serveCommit_answers ..
  · exact serveAbort_answers ..
  · exact serveWrite_answers haddr s
  · exact serveWriteSeg_answers haddr s

/-- A request that is new is served, and counted. -/
theorem kppRow_served {r : Requester} {m : KppMsg} {op : Byte} (harrives : Arrives s r m op)
    (hnew : s.remembered (requesterOf r m) m = none)
    (h : op = 1 ∨ op = 3 ∨ op = 5 ∨ op = 7 ∨ op = 8 ∨ KppMsg.address m = (0x7001, 1) ∧ (op = 2 ∨ op = 4)) :
    (kppRow op {} r m s).kpp.served = s.kpp.served + 1 := by
  obtain ⟨a, ha⟩ := kppRow_arrives harrives
  rw [ha]
  exact serveHere_answers (s := s.reachedAt a) hnew (serve_answers harrives.1 h _ (touchHeld (requesterOf r m) (s.reachedAt a)))

end

end Sys2Proof.Machine

/-!
SUPPORT. Lapses of KPP sessions, the SPI target, the Ethernet lane and the test access port (spec 15, R409 to R427; spec 18, R501).
-/
namespace Sys2Proof.Machine

/-- A fabric record without the codes that wait, which the data plane fills. -/
def Fabric.settled (f : Fabric) : Fabric := { f with codesDue := [] }

section
variable {f g : Fabric} (h : f.settled = g.settled)
include h

theorem Fabric.settled_state : f.state = g.state := (congrArg Fabric.state h :)
theorem Fabric.settled_outstanding : f.outstanding = g.outstanding := (congrArg Fabric.outstanding h :)
theorem Fabric.settled_frontWait : f.frontWait = g.frontWait := (congrArg Fabric.frontWait h :)
theorem Fabric.settled_delivered : f.delivered = g.delivered := (congrArg Fabric.delivered h :)
theorem Fabric.settled_received : f.received = g.received := (congrArg Fabric.received h :)
theorem Fabric.settled_sendSt : f.sendSt = g.sendSt := (congrArg Fabric.sendSt h :)

end

section
variable {s t : State}

theorem bare_eq_commits (h : s.bare = t.bare) : s.commits = t.commits := congrArg (fun x => x.commits) h
theorem bare_eq_fab (h : s.bare = t.bare) : s.fab.settled = t.fab.settled := congrArg (fun x => x.fab) h

/-- No event that waits changes the fabric's record, but for the codes that wait. -/
theorem reach_fab (s : State) (a : TE) : (s.reach a).fab.settled = s.fab.settled := (bare_eq_fab (bare_reach s a)).trans rfl

/-! ## Objects and lapses -/

theorem ztimeRead_status (r : Requester) (hd : s.dev.st = .idle) (hp : s.parity = []) : (ztimeRead r s).answer.status = 0 := by
  rw [ztimeRead_served r (by simp [hd]) (by simp [hd]) hp]; rfl

theorem subscriptionLapse_subs (r : Requester) (h : (s.kpp.subs.find? (fun u => Requester.sameHost u.by_ r)).isSome = true) :
    ∀ v ∈ (subscriptionLapse r s).kpp.subs, Requester.sameHost v.by_ r = false := by
  obtain ⟨u, hu⟩ := Option.isSome_iff_exists.mp h
  unfold subscriptionLapse
  simp only [hu]
  rw [bare_eq_kpp (bare_raiseCount ..)]
  intro v hv
  simpa using (List.mem_filter.mp hv).2

theorem heldSetDiscard_heldSet (r : Requester) (h : (s.heldSet r).isSome = true) : (heldSetDiscard r s).heldSet r = none := by
  obtain ⟨x, hx⟩ := Option.isSome_iff_exists.mp h
  unfold heldSetDiscard
  simp only [hx]
  rw [State.heldSet, bare_eq_commits (bare_raiseOnce ..)]
  exact List.find?_eq_none.mpr fun y hy => by simpa using (List.mem_filter.mp hy).2

theorem segmentTimeout_write (r : Requester) (h : (s.kpp.writeSegs.find? (fun y => y.by_ = r)).isSome = true) :
    ∀ y ∈ (segmentTimeout r true s).kpp.writeSegs, y.by_ ≠ r := by
  obtain ⟨x, hx⟩ := Option.isSome_iff_exists.mp h
  unfold segmentTimeout
  simp only [if_true, hx]
  intro y hy
  simpa using (List.mem_filter.mp hy).2

theorem freePath_fab (p : Path) (s : State) : (freePath p s).fab = s.fab := by cases p <;> rfl

theorem forwardedRequestExpiry_outstanding {k : W16} {z : Byte} {x : Byte × W16 × Requester × TE}
    (h : s.fab.outstanding.find? (fun y => y.1 = z && y.2.1 = k) = some x) :
    (forwardedRequestExpiry k z s).fab.outstanding = s.fab.outstanding.erase x := by
  have hkept : (s.reach (x.2.2.2 + secTE 1)).fab.outstanding = s.fab.outstanding := Fabric.settled_outstanding (reach_fab ..)
  unfold forwardedRequestExpiry
  simp only [h, freePath_fab, hkept]

/-! ## The lane, the SPI target and the test access port -/

theorem ethernetLinkChange_linkUp {up : Bool} (hcsu : s.csu.st ≠ .off) (hup : s.eth.linkUp ≠ up) :
    ∃ t, execEthernetLinkChange up s = .next t ∧ t.eth.linkUp = up := by
  refine ⟨_, next_eq (if_neg (not_or.mpr ⟨hup, hcsu⟩)), ?_⟩
  rw [linkEvent, bare_eq_eth (bare_raise ..)]

theorem dhcpLeaseChange_lease {l : Option W32} (hdhcp : s.nat 0x1100 2 = 1) (hup : s.eth.linkUp = true) (hd : s.dev.st ≠ .boot)
    (hl : s.eth.lease ≠ l) : (dhcpLeaseChange l s).eth.lease = l := by
  rw [dhcpLeaseChange, if_pos ⟨hdhcp, hup, hd, hl⟩]
  dsimp only
  rw [bare_eq_eth (bare_raiseCount ..)]

theorem macReply_length (n : Nat) (a : Nat) : ((toBytes 6 n).reverse ++ (toBytes 4 a).reverse).length = 10 := by
  simp [toBytes]

theorem spiRequest_serves {b : List Byte} (hd : s.dev.st ≠ .boot) (hbusy : s.spi.busy = false) (hready : s.spi.ready = false)
    (h16 : 16 ≤ b.length) (hlen : b.length = 16 + (decodeMsg b).length.toNat) :
    spiRequest b s = kpp ⟨.spi, 0, (decodeMsg b).session⟩ (decodeMsg b) { s with spi := { s.spi with busy := true } } := by
  unfold spiRequest
  dsimp only
  rw [if_neg]
  simp [hd, hbusy, hready, h16, ← hlen]

theorem testAccessPort_idcode (cells : W32) (h : s.boot.power ≠ .unpowered) :
    (testAccessPort .idcode cells s).pins.tapInstr = .idcode := by
  unfold testAccessPort
  cases hp : s.boot.power with
  | unpowered => exact absurd hp h
  | running | resetLow | shutThermal | shutCurrent => rfl

end

end Sys2Proof.Machine

/-!
SUPPORT. Fronts, Gusts and event codes (spec 13, R349 to R356).
-/
namespace Sys2Proof.Machine

/-- A bare state without the arm groups. -/
def State.unarmed (s : State) : State := { s.bare with armg := State.reset.armg }

section
variable {s t : State}

theorem unarmed_of_bare (h : s.bare = t.bare) : s.unarmed = t.unarmed := by simp only [State.unarmed, h]

theorem unarmed_dropCandidate (g : Fin 16) (s : State) : (dropCandidate g s).unarmed = s.unarmed := by
  unfold dropCandidate
  split
  · exact (unarmed_of_bare (bare_gustEvent ..)).trans rfl
  · rfl

theorem unarmed_armGroup (f : FrontItem) (t : TE) (g : Fin 16) (s : State) : (armGroup f t g s).unarmed = s.unarmed :=
  (unarmed_of_bare (bare_raiseAt ..)).trans (unarmed_dropCandidate g s)

theorem unarmed_each {α : Type} {f : α → State → State} (h : ∀ a t, (f a t).unarmed = t.unarmed) (l : List α) (s : State) :
    (each l f s).unarmed = s.unarmed :=
  each_induction (P := fun t => t.unarmed = s.unarmed) s rfl fun a _ t ht => (h a t).trans ht

theorem unarmed_eq_time (h : s.unarmed = t.unarmed) : s.time = t.time := congrArg (fun x => x.time) h
theorem unarmed_eq_fab (h : s.unarmed = t.unarmed) : s.fab.settled = t.fab.settled := congrArg (fun x => x.fab) h

/-! ## Fronts (R349 to R352) -/

/-- A port's traffic is sent beside the fabric's own record. -/
theorem sendFront_fab (f : FrontItem) (l : List (Fin 8)) (s : State) : (sendFront f l s).fab = s.fab :=
  each_induction (P := fun t => t.fab = s.fab) s rfl fun _ _ _ h => h

theorem issueFront_completes (r : Requester) {mask : W16} (h : Admitted s 0x6400 2 .wo) (hm : mask ≠ 0) (hroot : s.fab.state = 3)
    (hl : 120 * s.fab.maxDepth.toNat + 16 ≤ s.nat 0x6400 1) :
    (issueFront r mask s).answer.status = 0 ∧ (issueFront r mask s).fab.frontSeq = s.fab.frontSeq + 1 := by
  rw [issueFront, request_granted h (firstFail_need (bne_iff_ne.mpr hm) _) (by simp [hroot, hl])]
  exact ⟨rfl, congrArg Fabric.frontSeq (sendFront_fab ..)⟩

/-- A Front that is accepted leaves time and the Fronts that wait. -/
theorem acceptFront_keeps (f : FrontItem) (a : TE) (s : State) :
    (acceptFront f a s).time = s.time ∧ (acceptFront f a s).fab.frontWait = s.fab.frontWait := by
  unfold acceptFront
  dsimp only
  split
  · have hgroups := unarmed_each (unarmed_armGroup f a) (maskGroups f.mask)
      { s with fab := { s.fab with
        frontSeq := if s.fab.state = 3 then s.fab.frontSeq else f.sequence, frontFresh := false, armAt := startOf a,
        fronts := (a, f.mask) :: s.fab.fronts, seenGusts := [] } }
    exact ⟨(unarmed_eq_time hgroups).trans rfl, (Fabric.settled_frontWait (unarmed_eq_fab hgroups)).trans rfl⟩
  · exact ⟨rfl, rfl⟩

theorem frontAccept_completes {f : FrontItem} {a : TE} (h : earliest s.fab.frontWait = some (f, a)) :
    a ≤ (frontAccept s).time.count ∧ (frontAccept s).fab.frontWait = s.fab.frontWait.erase (f, a) := by
  have hwait : (s.reach a).fab.frontWait = s.fab.frontWait := Fabric.settled_frontWait (reach_fab ..)
  have htime : a ≤ (s.reach a).time.count := by rw [reach_count]; exact le_max_right _ _
  unfold frontAccept
  simp only [h]
  obtain ⟨hkept, hfront⟩ := acceptFront_keeps f a
    { s.reach a with fab := { (s.reach a).fab with frontWait := (s.reach a).fab.frontWait.erase (f, a) } }
  rw [hkept, hfront, hwait]
  exact ⟨htime, rfl⟩

/-! ## Gusts (R353, R354) -/

theorem executeGust_armg (x : Instant) (g : Fin 16) (fabric : Bool) (s : State) : (executeGust x g fabric s).armg = s.armg :=
  (bare_eq_armg (bare_deliverTriggers ..)).trans rfl

theorem gustExecute_completes {g : Fin 16} (h : s.armg[g].cand.isSome = true) :
    (gustExecute g s).armg[g].armed = false ∧ (gustExecute g s).armg[g].execs = s.armg[g].execs + 1 := by
  obtain ⟨c, hc⟩ := Option.isSome_iff_exists.mp h
  let x := c.1 + s.armg[g].latency * fuPerTE
  let u := (s.reach (teOf x)).updArm g (fun a => { a with
    armed := false, executed := true, cand := none, winner := some c, execs := a.execs + 1 })
  have harm : (gustExecute g s).armg = u.armg := by
    unfold gustExecute
    simp only [hc, executeGust_armg, bare_eq_armg (bare_raiseAt _ _ _ _ _)]
    rfl
  have hg : u.armg[g] = { s.armg[g] with
      armed := false, executed := true, cand := none, winner := some c, execs := s.armg[g].execs + 1 } := by
    simp only [u, State.updArm, upd_same_fin, reach_armg]
  rw [harm, hg]
  exact ⟨rfl, rfl⟩

/-! ## Event codes (R355, R356) -/

theorem earliest_isSome {α : Type} {l : List (α × TE)} (h : l ≠ []) : ∃ p, earliest l = some p := by
  cases l with
  | nil => exact absurd rfl h
  | cons p rest =>
    unfold earliest
    split
    · split <;> exact ⟨_, rfl⟩
    · exact ⟨_, rfl⟩

@[simp] theorem bare_matchCode (w : W16) (a : TE) (cl : Fin 4) (s : State) : (matchCode w a cl s).bare = s.bare :=
  bare_each s (fun _ _ => by rfl) _

/-- The delivery of a code leaves the count of those delivered. -/
theorem matchCodes_delivered (w : W16) (a : TE) (s : State) :
    (deliverTriggers (.code w.toNat) (startOf a) (each s.clusters (matchCode w a) s)).fab.delivered = s.fab.delivered := by
  refine Fabric.settled_delivered (bare_eq_fab ?_)
  rw [bare_deliverTriggers, bare_each _ (fun cl t => bare_matchCode w a cl t)]

theorem eventCodeDeliver_delivered (h : s.fab.codesDue ≠ []) : (eventCodeDeliver s).fab.delivered = s.fab.delivered + 1 := by
  obtain ⟨⟨w, a⟩, hw⟩ := earliest_isSome (l := s.fab.codesDue.map (fun p => (p.2, p.1))) (by simpa using h)
  have hkept : (s.reach a).fab.delivered = s.fab.delivered := Fabric.settled_delivered (reach_fab ..)
  unfold eventCodeDeliver
  rw [hw]
  refine (matchCodes_delivered w a _).trans ?_
  exact congrArg (· + 1) hkept

end

end Sys2Proof.Machine

/-!
SUPPORT. The state of a port: link down and up, HELLO (spec 13, R330 to R341).
-/
namespace Sys2Proof.Machine

section
variable {s t : State}

theorem widen_eq_port (h : s.bare.widen = t.bare.widen) : s.port = t.port := congrArg (fun x => x.port) h

theorem afar_eq_link (h : s.bare.widen.afar = t.bare.widen.afar) (n : Fin 8) : s.port[n].link = t.port[n].link := by
  have hport : s.port.map Port.link = t.port.map Port.link := congrArg (fun x => x.port) h
  have hn : (s.port.map Port.link)[n] = (t.port.map Port.link)[n] := by rw [hport]
  simpa using hn

end

section
variable (s : State)

theorem updPort_same (n : Fin 8) (f : Port → Port) : (s.updPort n f).port[n] = f s.port[n] := upd_same_fin ..

/-! ## Loss of the reference leaves the ports (R106) -/

theorem enterCsu_port (st : CsuSt) : (enterCsu st s).port = s.port := by rw [enterCsu_frame]

theorem lossCancels_port : (lossCancels s).port = s.port := by
  obtain ⟨c, m, hcancel⟩ := cancelAction_frame s
  unfold lossCancels
  split
  · rw [hcancel]
  · rw [hcancel]
  · rfl

theorem failAlign_port (result : Nat) : (failAlign result s).port = s.port := by
  have hstage (u : State) : (stageSix u).port = u.port := (widen_eq_port (widen_stageSix u)).trans rfl
  unfold failAlign
  split
  · rfl
  · simp only [apply_ite State.port, hstage, alignedEvent, raise_port, ite_self]

theorem passToReturn_port : (passToReturn s).port = s.port := by
  simp [passToReturn, apply_ite State.port, enterCsu_port]

theorem leaveLocked_port (cause : Nat) : (leaveLocked cause s).port = s.port := by
  unfold leaveLocked
  dsimp only
  rw [passToReturn_port, failAlign_port]
  split <;> simp [lullEvent, lossCancels_port, enterCsu_port]

theorem referenceLost_port : (referenceLost s).port = s.port := by
  unfold referenceLost
  dsimp only
  split
  · exact leaveLocked_port ..
  · exact leaveLocked_port ..
  · exact leaveLocked_port ..
  · rw [enterCsu_port, raise_port]; rfl
  · rw [lullEvent, raise_port, enterCsu_port]; rfl
  · rfl

/-! ## A link that goes down (R331, R341, R348) -/

/-- What follows the loss of a link changes no link. -/
theorem linkLost_link (n m : Fin 8) : (linkLost n s).port[m].link = s.port[m].link := by
  unfold linkLost
  split
  · rw [afar_eq_link (afar_enterAlone _), referenceLost_port]
  · split
    · exact afar_eq_link (afar_markAbsent ..) m
    · split
      · split
        · split
          · exact afar_eq_link (afar_sendOn ..) m
          · rfl
        · rfl
      · rfl

theorem portLeaves_st (n : Fin 8) (st : PortSt) (cause : Nat) : (portLeaves n st cause s).port[n].st = st := by
  have hclosed (u : State) (hu : u.port = (s.updPort n (fun p => p.closed st)).port) : u.port[n].st = st := by
    rw [hu, updPort_same]; rfl
  unfold portLeaves
  dsimp only
  split
  · exact (congrArg Port.st (linkLost_link _ n n)).trans (hclosed _ (raise_port ..))
  · split
    · exact hclosed _ (raise_port ..)
    · exact hclosed _ rfl

theorem setSideband_port (n : Fin 8) (c : DownCause) (v : Bool) : (setSideband n c v s).port = s.port := by cases c <;> rfl

variable {s} {n : Fin 8}

theorem linkDown_down (c : DownCause) (hn : n.val < 2 * s.part.clusters) (h : s.port[n].st.active = true) :
    (linkDown n c s).port[n].st = .down := by
  have hmem : s.ports.contains n = true := by simp [State.ports, hn]
  have hactive : (setSideband n c true s).port[n].st.active = true := by rw [setSideband_port]; exact h
  unfold linkDown
  dsimp only
  rw [if_neg (by simp only [hmem]; decide), if_pos hactive]
  exact portLeaves_st ..

theorem downCausesCleared_causes (n : Fin 8) : (downCausesCleared n s).port[n].causes = [] :=
  congrArg Port.causes (updPort_same ..)

theorem commaAligned_hello (h : s.port[n].st = .training) : (commaAligned n s).port[n].st = .hello :=
  (congrArg Port.st (updPort_same ..)).trans (if_pos h)

/-! ## HELLO (R330, R332, R335) -/

theorem linkUp_peerUid (n : Fin 8) (s : State) : (linkUp n s).port[n].peerUid = s.port[n].peerUid := by
  unfold linkUp
  dsimp only
  rw [portEvent, raise_port, updPort_same]

theorem hello_peerUid {i : HelloItem} (h : s.port[n].st = .hello) (hcrc : i.crcOk = true) (hup : s.isUp n ≠ i.upstream) :
    (hello n i s).port[n].peerUid = i.uid := by
  have hnoted : (noteHello n i s).port[n].peerUid = i.uid := congrArg Port.peerUid (updPort_same ..)
  have hhello : hello n i s = helloValid n i s := by
    unfold hello
    rw [h]
    exact if_pos hcrc
  rw [hhello, helloValid, if_neg hup]
  refine (congrArg Port.peerUid (afar_eq_link (afar_followPeer _ n) n) :).trans ?_
  split
  · exact (linkUp_peerUid ..).trans hnoted
  · exact hnoted

end

end Sys2Proof.Machine

/-!
SUPPORT. Items of the fabric on a port that is UP, and bulk transfers (spec 13, R335 to R361).
-/
namespace Sys2Proof.Machine

section
variable {s t : State} {n : Fin 8}

theorem widen_eq_fab (h : s.bare.widen = t.bare.widen) : s.fab.settled = t.fab.settled := congrArg (fun x => x.fab) h

/-- An item whose CRC holds, on a port that is UP. -/
theorem onItem_taken (h : s.port[n].st = .up) {crcOk : Bool} (hcrc : crcOk = true) (f : State → State) :
    onItem n crcOk f s = f s := by
  rw [onItem, if_pos h, if_pos hcrc]

theorem fabricEvent_fab (kind node port high : Nat) (s : State) : (fabricEvent kind node port high s).fab = s.fab := by
  rw [fabricEvent, raise_frame]

theorem fabricEvent_port (kind node port high : Nat) (s : State) : (fabricEvent kind node port high s).port = s.port :=
  raise_port ..

theorem sendOn_same (i : TxItem) (n : Fin 8) (s : State) : (sendOn i n s).port[n] = { s.port[n] with tx := s.port[n].tx ++ [i] } :=
  updPort_same ..

/-- A port is, beside what it sends, as before. -/
theorem sendOn_eq {α : Type} {f : Port → α} (hf : ∀ (p : Port) (l : List TxItem), f { p with tx := l } = f p) (i : TxItem)
    (n m : Fin 8) (s : State) : f (sendOn i n s).port[m] = f s.port[m] := by
  by_cases h : n = m
  · subst h
    rw [sendOn_same, hf]
  · exact congrArg f (upd_other _ _ _ _ h)

/-- What is sent on some ports leaves the fabric's record. -/
theorem each_sendOn_fab (f : Fin 8 → TxItem) (l : List (Fin 8)) (s : State) : (each l (fun n t => sendOn (f n) n t) s).fab = s.fab :=
  each_induction (P := fun t => t.fab = s.fab) s rfl fun _ _ _ h => h

/-! ## Event codes, Fronts and Gusts -/

theorem eventCode_codesDue {i : CodeItem} (h : s.port[n].st = .up) (hcrc : i.crcOk = true) (hdue : s.now ≤ expandTE s.now 20 i.due.toNat) :
    (eventCode n i s).fab.codesDue = s.fab.codesDue ++ [(expandTE s.now 20 i.due.toNat, i.code)] := by
  have hforward (l : List (Fin 8)) (u : State) : (each l (forwardCode i (expandTE s.now 20 i.due.toNat)) u).fab = u.fab :=
    each_induction (P := fun t => t.fab = u.fab) u rfl fun _ _ _ h => h
  have hlate : decide (expandTE s.now 20 i.due.toNat < s.now) = false := by simpa using hdue
  have hmax : max (expandTE s.now 20 i.due.toNat) s.now = expandTE s.now 20 i.due.toNat := max_eq_left hdue
  rw [eventCode, onItem_taken h hcrc]
  simp only [hlate, Bool.false_eq_true, if_false, hmax]
  rw [apply_ite State.fab, hforward, ite_self]

/-- The state after a port has noted a Front and, in a JOINED node, sent it down. -/
def State.frontPassed (s : State) (n : Fin 8) (f : FrontItem) : State :=
  let u := s.updPort n (fun p => { p with lastFront := some f })
  if u.fab.state = 2 then sendFront f u.downPorts u else u

theorem frontPassed_spec (s : State) (n : Fin 8) (f : FrontItem) :
    (s.frontPassed n f).port[n].lastFront = some f ∧ (s.frontPassed n f).now = s.now := by
  have hnoted : (s.updPort n (fun p => { p with lastFront := some f })).port[n].lastFront = some f :=
    congrArg Port.lastFront (updPort_same ..)
  unfold State.frontPassed
  dsimp only
  split
  · exact each_induction (P := fun t => t.port[n].lastFront = some f ∧ t.now = s.now) _ ⟨hnoted, rfl⟩ fun m _ t ⟨ht, hnow⟩ =>
      ⟨(sendOn_eq (f := Port.lastFront) (fun _ _ => rfl) (.front f) m n t).trans ht, hnow⟩
  · exact ⟨hnoted, rfl⟩

theorem front_lastFront {f : FrontItem} (h : s.port[n].st = .up) (hcrc : f.crcOk = true) (hup : s.isUp n = true)
    (hnew : s.port[n].lastFront ≠ some f) (hdue : s.now + 16 ≤ expandTE s.now 32 f.armAt.toNat) :
    (front n f s).port[n].lastFront = some f := by
  obtain ⟨hlast, hnow⟩ := frontPassed_spec s n f
  have htake : ¬(s.port[n].lastFront = some f || !s.isUp n) = true := by
    rw [Bool.or_eq_true, decide_eq_true_eq, hup]
    rintro (hold | hnot)
    · exact hnew hold
    · exact Bool.false_ne_true hnot
  have hwaits : ¬ expandTE (s.frontPassed n f).now 32 f.armAt.toNat < (s.frontPassed n f).now + 16 := by
    rw [hnow]
    exact Nat.not_lt.mpr hdue
  have hfront : front n f s = { s.frontPassed n f with fab := { (s.frontPassed n f).fab with
      frontWait := (s.frontPassed n f).fab.frontWait ++ [(f, expandTE (s.frontPassed n f).now 32 f.armAt.toNat)] } } := by
    rw [front, onItem_taken h hcrc, if_neg htake]
    exact if_neg hwaits
  rw [hfront]
  exact hlast

theorem gustEvent_armg (kind : Nat) (g : Fin 16) (node seq : Nat) (s : State) : (gustEvent kind g node seq s).armg = s.armg :=
  bare_eq_armg (bare_gustEvent ..)

/-- The contest for a group does not depend on the ports. -/
theorem contest_port (g : Fin 16) (seq : Byte) (key : Instant × W16) (s : State) (p : Vector Port 8) :
    (contest g seq key { s with port := p }).armg = (contest g seq key s).armg := by
  unfold contest
  simp only [lateGust, loseGust]
  cases s.armg[g].winner <;> cases s.armg[g].cand <;> simp only [apply_ite State.armg, gustEvent_armg] <;> rfl

theorem gust_armg {i : GustItem} (h : s.port[n].st = .up) (hcrc : i.crcOk = true) (hnew : s.port[n].lastGust ≠ some i) :
    (gust n i s).armg =
      (contest i.group i.sequence (expandTE s.now 32 i.fireTE.toNat * 3200 + i.fireFine.val, i.node.setWidth 16) s).armg := by
  have hsent (l : List (Fin 8)) (u : State) : (each l (sendOn (.gust i)) u).armg = u.armg :=
    each_induction (P := fun t => t.armg = u.armg) u rfl fun _ _ _ h => h
  rw [gust, onItem_taken h hcrc, if_neg hnew]
  simp only [apply_ite State.armg, hsent, ite_self]
  exact contest_port ..

/-! ## Joining and leaving (R339 to R341) -/

theorem joinRequest_learns {i : JoinItem} {id : Nat} (h : s.port[n].st = .up) (hcrc : i.crcOk = true) (hdown : s.isUp n = false)
    (hroot : s.fab.state = 3) (hid : s.joinAnswer i = .inl id) : BitVec.ofNat 14 id ∈ (joinRequest n i s).port[n].behind := by
  have hlearn (node : BitVec 14) (u : State) : node ∈ (learn n node u).port[n].behind := by
    rw [learn, updPort_same]
    exact List.mem_append_right _ List.mem_cons_self
  rw [joinRequest, onItem_taken h hcrc, if_neg (by rw [hdown]; decide), if_pos hroot, rootJoin, hid]
  dsimp only
  rw [fabricEvent_port, sendOn_eq (f := Port.behind) (fun _ _ => rfl)]
  exact hlearn ..

theorem joinReply_joins {i : JoinItem} (h : s.port[n].st = .up) (hcrc : i.crcOk = true) (hup : s.isUp n = true)
    (hpath : i.path = []) (hstate : s.fab.state = 1) (huid : i.uid = Config.uniqueId) : (joinReply n i s).fab.state = 2 := by
  rw [joinReply, onItem_taken h hcrc, if_neg (by rw [hup]; decide), hpath]
  refine (congrArg (fun t : State => t.fab.state) (if_pos ⟨hstate, huid⟩)).trans ?_
  rw [joined, fabricEvent_fab]

theorem joinRefused_stays {i : JoinItem} (h : s.port[n].st = .up) (hcrc : i.crcOk = true) (hup : s.isUp n = true)
    (hpath : i.path = []) (hstate : s.fab.state = 1) (huid : i.uid = Config.uniqueId) : (joinRefused n i s).fab.state = 1 := by
  rw [joinRefused, onItem_taken h hcrc, if_neg (by rw [hup]; decide), hpath]
  refine (congrArg (fun t : State => t.fab.state) (if_pos ⟨hstate, huid⟩)).trans ?_
  rw [fabricEvent_fab, hstate]

theorem markAbsent_roster (node : Nat) (route : List (Fin 8)) (p : Fin 8) (s : State) : (markAbsent node route p s).fab.roster =
    s.fab.roster.filter (fun x => !(membersBehind s.fab.roster route p).contains x) := by
  unfold markAbsent
  dsimp only
  split
  next hnone =>
    have hgone : membersBehind s.fab.roster route p = [] := List.isEmpty_iff.mp hnone
    rw [hgone]
    exact (List.filter_eq_self.mpr fun x _ => by simp).symm
  next => rw [fabricEvent_fab]; rfl

theorem leave_roster {node : BitVec 14} {p : Fin 8} {m : Member} (h : s.port[n].st = .up) (hdown : s.isUp n = false)
    (hroot : s.fab.state = 3) (hm : s.fab.roster.find? (fun m => m.node = node) = some m) :
    (leave n node p true s).fab.roster = s.fab.roster.filter (fun x => !(membersBehind s.fab.roster m.route p).contains x) := by
  rw [leave, onItem_taken h rfl, if_neg (by rw [hdown]; decide), if_pos hroot, hm]
  exact markAbsent_roster ..

/-- What an ALONE node drops leaves its state in the fabric. -/
theorem disarm_fabState (g : Fin 16) (s : State) : (disarm g s).fab.state = s.fab.state :=
  Fabric.settled_state (unarmed_eq_fab (unarmed_dropCandidate g s))

theorem lostTunnel_fabState (node port : Nat) (s : State) : (lostTunnel node port s).fab.state = s.fab.state :=
  (Fabric.settled_state (bare_eq_fab (bare_raiseSumAt ..))).trans rfl

theorem silencePort_fabState (p : Fin 8) (s : State) : (silencePort p s).fab.state = s.fab.state := by
  unfold silencePort
  dsimp only
  refine each_induction (P := fun t => t.fab.state = s.fab.state) _ rfl fun i _ t ht => ?_
  cases i with
  | tunnel d => exact (lostTunnel_fabState ..).trans ht
  | _ => exact ht

theorem enterAlone_fabState (s : State) : (enterAlone s).fab.state = 0 := by
  unfold enterAlone
  split
  next h => exact h
  next =>
    dsimp only
    rw [fabricEvent_fab, each_sendOn_fab]
    refine each_induction (P := fun t => t.fab.state = 0) _ ?_ fun p _ t ht => (silencePort_fabState p t).trans ht
    exact each_induction (P := fun t => t.fab.state = 0) _ rfl fun g _ t ht => (disarm_fabState g t).trans ht

theorem detach_alone (h : s.port[n].st = .up) (hup : s.isUp n = true) : (detach n true s).fab.state = 0 := by
  rw [detach, onItem_taken h rfl, if_pos hup]
  exact enterAlone_fabState s

theorem joinRequestTimer_sends (hup : s.upstream = some n) (hstate : s.fab.state = 1) (h : s.port[n].st = .up) :
    (joinRequestTimer s).port[n].tx.length = s.port[n].tx.length + 1 := by
  unfold joinRequestTimer
  rw [hup]
  dsimp only
  rw [if_pos ⟨hstate, h⟩, sendOn_same, List.length_append]
  rfl

theorem leaseExpiry_leases {node : BitVec 14} {l : Lease} (h : s.fab.leases.find? (fun l => l.node = node) = some l) :
    ∀ m ∈ (leaseExpiry node s).fab.leases, m.node ≠ node := by
  unfold leaseExpiry
  rw [h]
  intro m hm
  simpa using (List.mem_filter.mp hm).2

/-! ## The tunnel and bulk transfers (R360, R361) -/

theorem kppTunnel_forwards {i : DataItem} {p : Fin 8} (h : s.port[n].st = .up) (hcrc : i.crcOk = true) (htree : s.inTree = true)
    (hmine : s.isMine i.dest = false) (hroute : s.routeTo i.dest = some p) (hp : p ≠ n) :
    (kppTunnel n i s).port[p].tx = s.port[p].tx ++ [.tunnel i] := by
  rw [kppTunnel, if_neg (not_not.mpr h), if_neg (by rw [hcrc, htree]; decide), if_neg (by rw [hmine]; decide),
    if_neg (by rw [hroute]; exact fun hpn => hp (Option.some.inj hpn)), forwardTunnel, hroute]
  dsimp only
  rw [if_pos htree, sendOn_same]

theorem bulkEnds_sendReq (ok : Bool) {x : BitVec 14 × Nat × Nat × Nat} (h : s.fab.sendReq = some x) : (bulkEnds ok s).fab.sendReq = none := by
  obtain ⟨dest, first, count, off⟩ := x
  unfold bulkEnds
  rw [h]
  dsimp only
  rw [fabricEvent_fab]

theorem bulkResult_fails {me src : BitVec 14} {o : BitVec 11} {f c off : Nat} (h : s.port[n].st = .up) (hme : s.isMine me = true)
    (hreq : s.fab.sendReq = some (src, f, c, off)) (hlo : off ≤ o.toNat) (hhi : o.toNat < off + c) :
    (bulkResult n me src o true true s).fab.sendReq = none := by
  rw [bulkResult, onItem_taken h rfl, if_pos hme, bulkResultMine, hreq]
  dsimp only
  rw [if_pos ⟨rfl, (min_le_right _ _).trans hlo, hhi⟩, if_pos rfl]
  exact bulkEnds_sendReq false hreq

theorem bulkAnswer_fab (i : DataItem) (failed : Bool) (s : State) : (bulkAnswer i failed s).fab = s.fab := by
  unfold bulkAnswer
  split <;> rfl

theorem bulk_received {i : DataItem} (h : s.port[n].st = .up) (hmine : s.isMine i.dest = true) (hcrc : i.crcOk = true)
    (hnot : (i.src, i.offset.toNat) ∉ s.fab.failed) (hwindow : s.windowTakes i.offset.toNat = true) :
    (bulk n i s).fab.received = s.fab.received + 1 := by
  let p := s.fab.winFirst + i.offset.toNat
  have hwritten : (s.writeBytes (4096 * p) (slice i.data 0 4096)).fab.received = s.fab.received :=
    Fabric.settled_received (widen_eq_fab (widen_writeBytes s _ _))
  have hended : s.fab.ended i = false := by simpa [Fabric.ended] using hnot
  have hlast (c : Prop) [Decidable c] (k node port high : Nat) (u : State) :
      (if c then fabricEvent k node port high u else u).fab = u.fab := by
    rw [apply_ite State.fab, fabricEvent_fab, ite_self]
  rw [bulk, if_pos h, if_pos hmine, bulkArrives]
  dsimp only
  rw [hended, hcrc, hwindow]
  exact (congrArg Fabric.received ((hlast _ _ _ _ _ _).trans (bulkAnswer_fab ..))).trans (congrArg (· + 1) hwritten)

/-- A source Pan that leaves changes, of the fabric's record, nothing but the codes that wait. -/
theorem sendPan_fab (d : BitVec 14) (first count offset k : Nat) (s : State) :
    (sendPan d first count offset k s).fab.settled = s.fab.settled := by
  unfold sendPan
  split
  · have hread : (readPan (first + k) s).bare.widen = s.bare.widen := by simp [readPan]
    exact (widen_eq_fab hread :)
  · rfl

theorem bulkSend_completes (r : Requester) {d f c o : W16} (h : Admitted s 0x6300 1 .wo) (hd : d.toNat < 16384) (hc : 1 ≤ c.toNat)
    (hfit : f.toNat + c.toNat ≤ 2048) (hmax : c.toNat ≤ 2047) (htree : s.inTree = true) (hfree : s.fab.sendSt ≠ 1)
    (hhost : s.allHost ((List.range c.toNat).map (f.toNat + ·)) = true) (hmine : s.isMine (BitVec.ofNat 14 d.toNat) = false)
    (hroute : (s.routeTo (BitVec.ofNat 14 d.toNat)).isSome = true) :
    (bulkSend r d f c o s).answer.status = 0 ∧ (bulkSend r d f c o s).fab.sendSt = 1 := by
  let dest := BitVec.ofNat 14 d.toNat
  let pans := (List.range c.toNat).map (f.toNat + ·)
  let u := each pans (fun p t => t.takePan p 0x21) s
  let v : State := { u with fab := { u.fab with sendSt := 1, sent := 0, sendReq := some (dest, f.toNat, c.toNat, o.toNat) } }
  have hu : u.isMine dest = false ∧ u.routeTo dest = s.routeTo dest :=
    each_induction (P := fun t => t.isMine dest = false ∧ t.routeTo dest = s.routeTo dest) s ⟨hmine, rfl⟩ fun _ _ _ ht => ht
  have hsends : bulkSend r d f c o s = (each (List.range c.toNat) (sendPan dest f.toNat c.toNat o.toNat) v).ok := by
    have hbusy : (s.fab.sendSt != 1) = true := bne_iff_ne.mpr hfree
    rw [bulkSend, request_granted h (by simp [hd, hc, hmax]) (by rw [hbusy]; simp [htree, hfit, hhost])]
    refine if_neg ?_
    obtain ⟨hmine', hroute'⟩ := hu
    have hv : v.isMine dest = false ∧ v.routeTo dest = s.routeTo dest := ⟨hmine', hroute'⟩
    obtain ⟨x, hx⟩ := Option.isSome_iff_exists.mp hroute
    rw [hv.1, hv.2, hx]
    exact Bool.false_ne_true
  have hsent : (each (List.range c.toNat) (sendPan dest f.toNat c.toNat o.toNat) v).fab.sendSt = 1 := by
    have hkept : (each (List.range c.toNat) (sendPan dest f.toNat c.toNat o.toNat) v).fab.settled = v.fab.settled :=
      each_induction (P := fun t => t.fab.settled = v.fab.settled) v rfl fun k _ t ht => (sendPan_fab dest _ _ _ k t).trans ht
    exact Fabric.settled_sendSt hkept
  rw [hsends]
  exact ⟨rfl, hsent⟩

theorem windowOpen_completes (r : Requester) (h : Admitted s 0x6300 6 .rwh) (hoff : s.fab.windowOn = false)
    (hfit : s.nat 0x6300 4 + s.nat 0x6300 5 ≤ 2048)
    (hhost : s.allHost ((List.range (s.nat 0x6300 5)).map (s.nat 0x6300 4 + ·)) = true) :
    (windowOpen r true s).answer.status = 0 ∧ (windowOpen r true s).fab.windowOn = true := by
  rw [windowOpen, request_granted h rfl (by simp [hfit, hhost])]
  simp only [hoff]
  exact ⟨rfl, rfl⟩

end

end Sys2Proof.Machine

/-!
SUPPORT. Time items, and what a set of device time leaves of the links (spec 02, R50; spec 13, R333 to R348).
-/
namespace Sys2Proof.Machine

/-- What the ports show of their links. -/
def State.links (s : State) : Vector Port 8 := s.port.map Port.link

section
variable {s t : State}

theorem links_of_port (h : s.port = t.port) : s.links = t.links := by rw [State.links, State.links, h]
theorem links_of_bare (h : s.bare = t.bare) : s.links = t.links := links_of_port (bare_eq_port h)
theorem links_of_afar (h : s.bare.widen.afar = t.bare.widen.afar) : s.links = t.links := congrArg (fun x => x.port) h

theorem link_of_links (h : s.links = t.links) (n : Fin 8) : s.port[n].link = t.port[n].link := by
  have hn : s.links[n] = t.links[n] := by rw [h]
  simpa [State.links] using hn

end

theorem Port.st_of_link {p q : Port} (h : p.link = q.link) : p.st = q.st := (congrArg Port.st h :)
theorem Port.timeLull_of_link {p q : Port} (h : p.link = q.link) : p.timeLull = q.timeLull := (congrArg Port.timeLull h :)

section
variable (s : State)

/-! ## A set of device time (R50) -/

@[simp] theorem bare_setSignal (cl : Fin 4) (sig : Fin 8) (a : TE) (v : Bool) : (setSignal cl sig a v s).bare = s.bare := rfl
@[simp] theorem bare_clearBits (ch : Fin 64) (l : List Nat) (a : TE) : (clearBits ch l a s).bare = s.bare := rfl

@[simp] theorem bare_presentStamp (ch : Fin 64) (tag : W32) (cursor : Instant) (late : Bool) :
    (presentStamp ch tag cursor late s).bare = s.bare := by simp [presentStamp]

theorem afar_contest (g : Fin 16) (seq : Byte) (key : Instant × W16) :
    (contest g seq key s).bare.widen.afar = s.bare.widen.afar := by
  unfold contest
  dsimp only
  simp only [lateGust, loseGust]
  repeat' split
  all_goals simp

theorem afar_fireGust (ch : Fin 64) (g : Fin 16) (x : Instant) : (fireGust ch g x s).bare.widen.afar = s.bare.widen.afar := by
  have hqueued (f : Egress → Egress) (u : State) : (u.updGustq ch f).bare.widen.afar = u.bare.widen.afar := rfl
  simp [fireGust, hqueued, afar_contest]

theorem afar_executeGust (x : Instant) (g : Fin 16) (fabric : Bool) :
    (executeGust x g fabric s).bare.widen.afar = s.bare.widen.afar := by simp [executeGust]

theorem afar_doAction (ch : Fin 64) (cursor x : Instant) (late : Bool) (a : SeqAction) :
    (doAction ch cursor x late a s).bare.widen.afar = s.bare.widen.afar := by
  cases a with
  | gustLocal g => exact afar_executeGust s _ g false
  | gustFabric g => exact afar_fireGust s ch g x
  | _ => simp [doAction]

theorem afar_passedActions (ch : Fin 64) : (passedActions ch s).bare.widen.afar = s.bare.widen.afar := by
  unfold passedActions
  dsimp only
  refine (afar_each _ (fun a t => ?_) _).trans rfl
  exact (afar_doAction ..).trans rfl

theorem tideCutShort_port : (tideCutShort s).port = s.port := by
  unfold tideCutShort
  split <;> rfl

theorem links_abandonMeasurements : (abandonMeasurements s).links = s.links := links_of_bare (by simp [abandonMeasurements])

/-- The ports' clocks that move with the count are no part of their links. -/
theorem links_timersSet (new : TE) (d : Int) : (timersSet new d s).links = s.links :=
  Vector.map_map ..

theorem commandsSet_port (n : Nat) : (commandsSet n s).port = s.port := by
  cases hp : s.dev.pendCmd <;> cases hc : s.dev.sched <;> simp [commandsSet, hp, hc, apply_ite State.port]

theorem links_setTime (cause : Nat) (new : TE) : (setTime cause new s).links = s.links := by
  unfold setTime
  extract_lets new' u old d tides tide first v time ring merger persist health pins w x y
  have hdrained : (drainTriggers s.nowAt s.settle).bare = s.bare := by rw [bare_drainTriggers, bare_settle]
  have hu : u.links = s.links :=
    (links_of_port (tideCutShort_port _)).trans ((links_abandonMeasurements _).trans (links_of_bare hdrained))
  clear_value u
  have hv : v.port = u.port := rfl
  have hw : w.links = u.links := (links_timersSet _ _ _).trans (links_of_port hv)
  have hx : x.links = w.links :=
    each_induction (P := fun t => t.links = w.links) w rfl fun ch _ t ht => (links_of_afar (afar_passedActions t ch)).trans ht
  clear_value w x
  have hy : y.links = x.links :=
    each_induction (P := fun t => t.links = x.links) _ (links_of_port rfl) fun ch _ t ht =>
      (links_of_bare (bare_releaseAhead t _ ch)).trans ht
  clear_value y
  have hanchor (z : State) : (anchorAll cause (startOf new') z).links = z.links := links_of_bare (bare_anchorAll ..)
  rw [links_of_port (commandsSet_port _ _), hanchor]
  exact (links_of_port rfl).trans (hy.trans (hx.trans (hw.trans hu)))

/-! ## Time items (R333 to R348) -/

theorem links_checkFrame (n : Fin 8) (f : FrameSeen) : (checkFrame n f s).links = s.links := by
  unfold checkFrame
  extract_lets bad err u
  split
  · rfl
  · refine (links_of_bare (bare_raiseSumAt ..)).trans ?_
    exact links_of_afar (afar_updPort s (fun p => by rfl) n)

theorem markFrame_port (n : Fin 8) (i : TimeItem) : (markFrame n i s).port = s.port := by
  unfold markFrame
  split
  · dsimp only
    split <;> rfl
  · rfl

theorem port_of_time (x : TimeState) : ({ s with time := x } : State).port = s.port := rfl

theorem port_of_fab (f : Fabric) : ({ s with fab := f } : State).port = s.port := rfl

theorem refreshFlag_port : (refreshFlag s).port = s.port := port_of_time s _

theorem timeValidItem_lull (n : Fin 8) (i : TimeItem) : (timeValidItem n i s).port[n].timeLull = i.lull := by
  have hset (u : State) (x : TE) : (setTime 4 x u).port[n].timeLull = u.port[n].timeLull :=
    Port.timeLull_of_link (link_of_links (links_setTime u 4 x) n)
  obtain ⟨t, ht⟩ : ∃ t, timeValidItem n i s = t := ⟨_, rfl⟩
  rw [ht]
  unfold timeValidItem at ht
  extract_lets u v w x at ht
  have hv : v.port[n].timeLull = i.lull := congrArg Port.timeLull (updPort_same ..)
  have hport : w.port = v.port := markFrame_port ..
  have hw : w.port[n].timeLull = i.lull := by rw [hport]; exact hv
  clear_value w
  have hx : x.port[n].timeLull = i.lull := by
    have hflag : x.port = w.port := refreshFlag_port ..
    rw [hflag, hw]
  clear_value x
  split at ht
  · split at ht
    · extract_lets y at ht
      have hy : y.port[n].timeLull = i.lull := by rw [hset, hx]
      clear_value y
      have hport : t.port = y.port := ht ▸ port_of_fab y _
      rw [hport]
      exact hy
    · rw [← ht]
      exact hx
  · rw [← ht]
    exact hw

variable {s}

theorem timeItem_lull {n : Fin 8} {i : TimeItem} (h : s.port[n].st = .up) (hcrc : i.crcOk = true) :
    (timeItem n i s).port[n].timeLull = i.lull := by
  have hreach (a : TE) : (s.reach a).links = s.links := links_of_port (reach_port s a)
  have hup (u : State) (hu : u.links = s.links) (f : Port → Port) (hf : ∀ p, (f p).link = p.link) : (u.updPort n f).port[n].st = .up := by
    have hlink : (u.updPort n f).port[n].link = s.port[n].link := by
      rw [updPort_same, hf]
      exact link_of_links hu n
    exact (Port.st_of_link hlink).trans h
  unfold timeItem
  rw [h]
  dsimp only
  rw [onItem_taken _ hcrc]
  · exact timeValidItem_lull ..
  · exact hup _ ((links_checkFrame ..).trans (hreach _)) _ (fun p => by rfl)

end

end Sys2Proof.Machine

/-!
SUPPORT. The statement about the commands of the Saltern, the host paths and the fabric.
-/
namespace Sys2Proof.Machine

section
variable {s : State}

theorem batchClose_ended (h : s.merger.ended ≠ []) : (batchClose s).merger.ended.length + 1 = s.merger.ended.length := by
  obtain ⟨b, rest, hb⟩ := List.exists_cons_of_ne_nil h
  obtain ⟨x, rest', hclose, -, hlen⟩ := batchClose_of_ended hb
  rw [hclose, hb, List.length_cons]
  exact congrArg (· + 1) hlen

theorem batchPublish_closed (h : s.merger.closed ≠ []) : (batchPublish s).merger.closed = s.merger.closed.tail := by
  obtain ⟨b, rest, hb⟩ := List.exists_cons_of_ne_nil h
  obtain ⟨k, p, m, pins, hpublish, hm⟩ := batchPublish_of_closed hb
  rw [hpublish, hb]
  exact hm

theorem perstN_pending (s : State) : ∃ t, exec .perstN s = .next t ∧ t.host.msixPending = 0 :=
  ⟨_, rfl, by rw [bare_eq_host (bare_pcieEvent ..)]⟩

theorem pcieLinkChange_link (h : s.boot.power = .running) (up : Bool) (w v : BitVec 4) :
    ∃ t, exec (.pcieLinkChange up w v) s = .next t ∧ t.host.linkUp = up ∧ t.host.width = w ∧ t.host.speed = v := by
  let host : HostIf := { s.host with linkUp := up, width := w, speed := v }
  have hexec : exec (.pcieLinkChange up w v) s = execPcieLinkChange up w v s := rfl
  refine ⟨pcieEvent (if up then 1 else 2) { s with host := host.sendPending }, ?_, ?_⟩
  · rw [hexec, execPcieLinkChange, h]
  · rw [bare_eq_host (bare_pcieEvent ..)]
    exact sendPending_link host

theorem configurationRequest_crs (s : State) :
    (configurationRequest .deviceId none s).host.crs = decide (s.dev.st = .boot ∨ s.dev.st = .load) := by
  unfold configurationRequest
  split
  next h => exact (decide_eq_true h).symm
  next h => exact (decide_eq_false h).symm

theorem spiStatus_out (h : s.boot.power = .running) :
    ∃ t, exec .spiStatus s = .next t ∧ t.spi.discarded = false ∧ t.spi.out = toBytes 4 s.spiWord := by
  have hexec : exec .spiStatus s = execSpiStatus s := rfl
  rw [hexec, execSpiStatus, h]
  exact ⟨_, rfl, rfl, rfl⟩

/-- The rows of KPP serve their requests, the writes those of the Pan selection. -/
theorem kppRows_serve {r : Requester} {m : KppMsg} (hnew : s.remembered (requesterOf r m) m = none) {c : Instr} {op : Byte}
    (hc : (c, op) ∈ [(Instr.read r m, (1 : Byte)), (.readSeg r m, 3), (.subscribe r m, 5), (.commit r m, 7), (.abort r m, 8)] ∨
      KppMsg.address m = (0x7001, 1) ∧ (c, op) ∈ [(Instr.write r m, (2 : Byte)), (.writeSeg r m, 4)])
    (h : Arrives s r m op) : ∃ t, exec c s = .next t ∧ t.kpp.served = s.kpp.served + 1 := by
  simp only [List.mem_cons, List.not_mem_nil, or_false, Prod.mk.injEq] at hc
  rcases hc with (⟨rfl, rfl⟩ | ⟨rfl, rfl⟩ | ⟨rfl, rfl⟩ | ⟨rfl, rfl⟩ | ⟨rfl, rfl⟩) | ⟨ha, ⟨rfl, rfl⟩ | ⟨rfl, rfl⟩⟩
  · exact ⟨_, rfl, kppRow_served h hnew (by simp)⟩
  · exact ⟨_, rfl, kppRow_served h hnew (by simp)⟩
  · exact ⟨_, rfl, kppRow_served h hnew (by simp)⟩
  · exact ⟨_, rfl, kppRow_served h hnew (by simp)⟩
  · exact ⟨_, rfl, kppRow_served h hnew (by simp)⟩
  · exact ⟨_, rfl, kppRow_served h hnew (by simp [ha])⟩
  · exact ⟨_, rfl, kppRow_served h hnew (by simp [ha])⟩

end

/-- Settles O57: each command's effect is a lemma about its own function; what it calls leaves the named fields alone. -/
theorem hostAndFabricCommandsComplete : Obligations.host_and_fabric_commands_complete := by
  unfold Obligations.host_and_fabric_commands_complete
  intro s r
  refine ⟨fun p v f h hp ho hj => ⟨_, rfl, flagWrite_accepted r h hp ho hj⟩,
    fun data h hl hpos _ hw => ⟨_, rfl, panData_completes r h hl hpos hw⟩,
    fun h hpos _ ho hh => ⟨_, rfl, thaw_completes r h hpos ho hh⟩,
    fun hd he hpo hpa _ ho e v h hdom => ⟨_, rfl, salternTransfer_out r hd he hpo hpa ho h hdom⟩,
    fun hopen => ⟨
      fun block bs hlo hhi hw hl hm hp he =>
        ⟨_, next_eq ((if_neg (by simp [hopen])).trans (if_neg (by omega))), hostBlock_byte hlo hhi hw hl hm hp he⟩,
      fun a k hk hp hs => ⟨_, next_eq (if_pos hopen), bar2Read_length hk hp hs⟩,
      ⟨_, next_eq (if_pos hopen), evrCons_all s⟩, ⟨_, next_eq (if_pos hopen), rfl⟩,
      fun v => ⟨_, next_eq (if_pos hopen), congrArg HostIf.alertStatus (refreshAlert_host _)⟩,
      fun v => ⟨_, next_eq (if_pos hopen), congrArg HostIf.alertEnable (refreshAlert_host _)⟩,
      ⟨_, next_eq (if_pos hopen), rfl⟩,
      fun hb hr n q hlo hhi hlen => ⟨_, rfl, mbxDoorbell_serves hopen hb hr hlo hhi hlen⟩⟩,
    perstN_pending s, fun h up w v => pcieLinkChange_link h up w v, ⟨_, rfl, configurationRequest_crs s⟩,
    fun h => ⟨_, rfl, batchClose_ended h⟩, fun h => ⟨_, rfl, batchPublish_closed h⟩,
    fun hd hx => ⟨_, rfl, writeObject_panSelect_five r hd hx⟩, fun hd hp => ⟨_, rfl, ztimeRead_status r hd hp⟩,
    fun up hc hu => ethernetLinkChange_linkUp hc hu, fun l hn hu hd hl => ⟨_, rfl, dhcpLeaseChange_lease hn hu hd hl⟩,
    fun d p ho hd => ⟨⟨_, next_eq (if_pos (by simp [ho, hd])), rfl⟩, _, next_eq (if_pos (by simp [ho, hd])), macReply_length ..⟩,
    fun m hnew c op hc h => kppRows_serve hnew hc h,
    fun h => ⟨_, rfl, subscriptionLapse_subs r h⟩, fun h => ⟨_, rfl, heldSetDiscard_heldSet r h⟩,
    fun h => ⟨_, rfl, segmentTimeout_write r h⟩, fun k z x h => ⟨_, rfl, forwardedRequestExpiry_outstanding h⟩,
    fun b hd hb hr hlo hlen => ⟨_, rfl, spiRequest_serves hd hb hr hlo hlen⟩, fun h => spiStatus_out h, ⟨_, rfl, rfl⟩, ⟨_, rfl, rfl⟩,
    fun h => ⟨_, rfl, testAccessPort_idcode 0 h⟩,
    fun mask h hm hroot hl => ⟨_, rfl, issueFront_completes r h hm hroot hl⟩,
    fun f a h => ⟨_, rfl, frontAccept_completes h⟩, fun g h => ⟨_, rfl, gustExecute_completes h⟩,
    fun h => ⟨_, rfl, eventCodeDeliver_delivered h⟩,
    fun n => ⟨fun c hn h => ⟨_, rfl, linkDown_down c hn h⟩, ⟨_, rfl, downCausesCleared_causes n⟩,
      fun h => ⟨_, rfl, commaAligned_hello h⟩, fun i h hcrc hup => ⟨_, rfl, hello_peerUid h hcrc hup⟩,
      fun h => ⟨fun i hcrc => ⟨_, rfl, timeItem_lull h hcrc⟩,
        fun i hcrc hdue => ⟨_, rfl, eventCode_codesDue h hcrc hdue⟩,
        fun f hcrc hup hnew hdue => ⟨_, rfl, front_lastFront h hcrc hup hnew hdue⟩,
        fun i hcrc hnew => ⟨_, rfl, gust_armg h hcrc hnew⟩,
        fun i hcrc => ⟨fun id hdown hroot hid => ⟨_, rfl, joinRequest_learns h hcrc hdown hroot hid⟩,
          fun hup hp hs hu => ⟨⟨_, rfl, joinReply_joins h hcrc hup hp hs hu⟩, _, rfl, joinRefused_stays h hcrc hup hp hs hu⟩⟩,
        fun node p m hdown hroot hm => ⟨_, rfl, leave_roster h hdown hroot hm⟩,
        fun hup _ => ⟨_, rfl, detach_alone h hup⟩,
        fun me src o f c off hme hreq hlo hhi => ⟨_, rfl, bulkResult_fails h hme hreq hlo hhi⟩,
        fun i p hcrc htree hmine hroute hp => ⟨_, rfl, kppTunnel_forwards h hcrc htree hmine hroute hp⟩,
        fun i hmine hcrc hnot hw _ _ _ => ⟨_, rfl, bulk_received h hmine hcrc hnot hw⟩⟩,
      fun hup hs h => ⟨_, rfl, joinRequestTimer_sends hup hs h⟩⟩,
    fun node l h => ⟨_, rfl, leaseExpiry_leases h⟩,
    fun d f c o h hd hc hfit hmax htree hfree hhost hmine hroute =>
      ⟨_, rfl, bulkSend_completes r h hd hc hfit hmax htree hfree hhost hmine hroute⟩,
    fun h hoff hfit hhost => ⟨_, rfl, windowOpen_completes r h hoff hfit hhost⟩⟩

end Sys2Proof.Machine

/-!
SUPPORT. Clock output faults, the grid of a clock output, the level tick, and the statement about them (spec 03, R100 to R104; spec
08, R217 to R226).
-/
namespace Sys2Proof.Machine

/-! ## Clock outputs in FAULT (R104) -/

/-- What the ball of an output shows does not depend on its state in the object dictionary (R104). -/
theorem clkBall_of_output {s t : State} {n : Fin 8} {st before : Nat} (hod : t.od = s.od)
    (hclk : t.clkout[n] = { s.clkout[n] with st := st, before := before }) (x : Instant) : t.clkBall n x = s.clkBall n x := by
  have hoff : t.clkOff n = s.clkOff n := by simp only [State.clkOff, State.nat, hod, hclk]; rfl
  simp only [State.clkBall, hoff, hclk]
  rfl

/-- A running output beyond its limit (R104). -/
theorem clkoutOvercurrent_running {s : State} {n : Fin 8} (h : s.clkout[n].st = 2) : clkoutOvercurrent n s =
    { s with clkout := upd s.clkout n (fun o => { o with st := 3, before := o.st }), merger := (clkoutOvercurrent n s).merger } := by
  rw [clkoutOvercurrent, if_pos h, raise_frame]; rfl

/-- An output in FAULT back within its limit (R104). -/
theorem clkoutFaultClear_faulted {s : State} {n : Fin 8} (h : s.clkout[n].st = 3) : clkoutFaultClear n s =
    { s with clkout := upd s.clkout n (fun o => { o with st := o.before }), merger := (clkoutFaultClear n s).merger } := by
  rw [clkoutFaultClear, if_pos h, clkCleared, raise_frame]; rfl

/-- What a change of the state of one output leaves: its ball, the other outputs and all else (R104). -/
theorem clkout_changed {s t : State} {n : Fin 8} {f : ClkOut → ClkOut} {m : Merger} {st before : Nat}
    (ht : t = { s with clkout := upd s.clkout n f, merger := m })
    (hf : f s.clkout[n] = { s.clkout[n] with st := st, before := before }) :
    t.clkout[n] = { s.clkout[n] with st := st, before := before } ∧ (∀ k, k ≠ n → t.clkout[k] = s.clkout[k]) ∧
      (∀ x, t.clkBall n x = s.clkBall n x) ∧ t = { s with clkout := t.clkout, merger := t.merger } := by
  have hsame : t.clkout[n] = { s.clkout[n] with st := st, before := before } := by rw [ht, ← hf]; exact upd_same_fin ..
  refine ⟨hsame, fun k hk => ?_, clkBall_of_output (by rw [ht]) hsame, by rw [ht]⟩
  rw [ht]; exact upd_other _ _ _ _ hk.symm

/-! ## The grid of a clock output (R100 to R102) -/

/-- The first number from `y` on that is `base` modulo `p`. -/
theorem first_on_grid (y base : Nat) {p : Nat} (hp : 0 < p) : (((base : Int) - y) % (p : Nat)).toNat < p ∧
    (y + (((base : Int) - y) % (p : Nat)).toNat) % p = base % p := by
  have hpos : (0 : Int) < p := by exact_mod_cast hp
  have hlo := Int.emod_nonneg ((base : Int) - y) hpos.ne'
  have hhi := Int.emod_lt_of_pos ((base : Int) - y) hpos
  refine ⟨by omega, ?_⟩
  zify
  rw [Int.toNat_of_nonneg hlo, Int.add_emod_emod, add_sub_cancel]

/-- With the fine delay `f` taken off before the grid is sought and added again, the first edge lies at or after `x`. -/
theorem first_edge {x f k p : Nat} (hf : f ≤ x) (hk : k < p) : x ≤ x - f + k + f ∧ x - f + k + f < x + p := by omega

theorem start_edge0 (o : ClkOut) {x : Instant} (base : Instant) {d f : Nat} (c : Nat) (hd : 2 ≤ d) (hf : f < 400) (hx : 400 ≤ x) :
    ∃ e, (o.start x base d c f).edge0 = some e ∧ x ≤ e + f ∧ e + f < x + 400 * d ∧ e % (400 * d) = base % (400 * d) := by
  obtain ⟨hlt, hgrid⟩ := first_on_grid (x - f) base (p := 400 * d) (by omega)
  obtain ⟨hlo, hhi⟩ := first_edge (hf.le.trans hx) hlt
  exact ⟨_, rfl, hlo, hhi, hgrid⟩

/-- A new coarse delay `c` in place of `k` lengthens a low phase by `c - k` modulo the divider (R102). -/
theorem delay_shift {c d k : Nat} (hk : k < d) (hc : c < d) :
    (c + d - k) % d < d ∧ ((c + d - k) % d + k = c ∨ (c + d - k) % d + k = c + d) := by
  refine ⟨Nat.mod_lt _ (by omega), ?_⟩
  by_cases h : k ≤ c
  · left
    rw [show c + d - k = c - k + d by omega, Nat.add_mod_right, Nat.mod_eq_of_lt (by omega)]
    omega
  · right
    rw [Nat.mod_eq_of_lt (by omega)]
    omega

/-- An edge `j` periods and such a shift later stands on the grid of the new delay, within its period. -/
theorem shifted_edge (e j : Nat) {c d k : Nat} (hk : k < d) (hc : c < d) : let e' := e + j * (400 * d) + (c + d - k) % d * 400
    e + j * (400 * d) ≤ e' ∧ e' < e + (j + 1) * (400 * d) ∧ (e' + k * 400) % (400 * d) = (e + c * 400) % (400 * d) := by
  obtain ⟨hlt, hsum⟩ := delay_shift hk hc
  generalize (c + d - k) % d = m at hlt hsum
  refine ⟨Nat.le_add_right _ _, ?_, ?_⟩
  · have hj : (j + 1) * (400 * d) = j * (400 * d) + 400 * d := Nat.succ_mul ..
    omega
  rcases hsum with hsum | hsum
  · rw [show e + j * (400 * d) + m * 400 + k * 400 = e + c * 400 + j * (400 * d) by omega, Nat.add_mul_mod_self_right]
  · rw [show e + j * (400 * d) + m * 400 + k * 400 = e + c * 400 + j * (400 * d) + 400 * d by omega,
      Nat.add_mod_right, Nat.add_mul_mod_self_right]

theorem delays_edge0 {o : ClkOut} {e0 : Instant} (x : Instant) {c : Nat} (f : Nat) (he : o.edge0 = some e0)
    (hk : o.coarse < o.div) (hc : c < o.div) : ∃ e, (o.delays x c f).edge0 = some e ∧
      e0 + o.risen e0 x * o.period ≤ e ∧ e < e0 + (o.risen e0 x + 1) * o.period ∧
      (e + o.coarse * 400) % o.period = (e0 + c * 400) % o.period :=
  ⟨_, by rw [ClkOut.delays, he]; rfl, shifted_edge e0 (o.risen e0 x) hk hc⟩

/-! ## Level ticks (R217 to R226) -/

/-- States with the same bare state, but for the time, differ in the data plane alone. -/
theorem dataPlaneOnly_of_bare {s t : State} (h : t.bare = { s.bare with time := t.time }) : DataPlaneOnly s t := by
  unfold DataPlaneOnly
  cases s; cases t
  simp only [State.bare, State.mk.injEq] at h ⊢
  simp_all

/-- The entries of a list applied to a driver, in order (R217). -/
def Driver.applyAll (d : Driver) (l : List LevelEntry) : Driver := l.foldl (fun x e => x.applyEntry e.entry.toNat) d

/-- Applying an entry touches codes and gains alone (R217). -/
theorem applyEntry_ranging (d : Driver) (e : Nat) : (d.applyEntry e).ranging = d.ranging := by
  unfold Driver.applyEntry
  split <;> rfl

theorem applyAll_ranging (d : Driver) (l : List LevelEntry) : (d.applyAll l).ranging = d.ranging := by
  induction l generalizing d with
  | nil => rfl
  | cons e rest ih => exact (ih _).trans (applyEntry_ranging ..)

/-- The eligible entries at the head of a queue are applied in order; the rest stays, and begins with one that is not eligible
(R220). -/
theorem applyHead_spec (a : TE) (q : List LevelEntry) (d : Driver) : ∃ l rest, q = l ++ rest ∧
    (∀ e ∈ l, e.eligible a = true) ∧ (∀ e, rest.head? = some e → e.eligible a = false) ∧
    d.applyHead a q = { d.applyAll l with queue := rest } := by
  induction q generalizing d with
  | nil => exact ⟨[], [], rfl, by simp, by simp, rfl⟩
  | cons e q ih =>
    rw [Driver.applyHead]
    split
    next he =>
      obtain ⟨l, rest, hq, hl, hrest, happly⟩ := ih (d.applyEntry e.entry.toNat)
      exact ⟨e :: l, rest, by rw [hq]; rfl, by simpa [he] using hl, hrest, happly⟩
    next he => exact ⟨[], e :: q, rfl, by simp, by simpa using he, rfl⟩

/-- A tick takes the queue, the codes and the gains from the entries applied; RANGING begins when the gains end up different
(R220, R226). -/
theorem tick_fields (d : Driver) (a : TE) : let n := d.applyHead a d.queue
    (d.tick a).queue = n.queue ∧ (d.tick a).swing = n.swing ∧ (d.tick a).offset = n.offset ∧ (d.tick a).gSwing = n.gSwing ∧
      (d.tick a).gOffset = n.gOffset ∧
      (d.tick a).ranging = if n.gSwing ≠ d.gSwing ∨ n.gOffset ≠ d.gOffset then some (a, a + 2500) else n.ranging := by
  unfold Driver.tick
  dsimp only
  generalize d.applyHead a d.queue = n
  have hroom : ∃ r, (if 16 ≤ d.queue.length ∧ n.queue.length < 16 then { n with roomAt := a } else n) = { n with roomAt := r } := by
    split <;> exact ⟨_, rfl⟩
  obtain ⟨r, hr⟩ := hroom
  rw [hr]
  by_cases hgain : n.gSwing ≠ d.gSwing ∨ n.gOffset ≠ d.gOffset
  · rw [if_pos hgain, if_pos hgain]
    repeat' split
    all_goals exact ⟨rfl, rfl, rfl, rfl, rfl, rfl⟩
  · rw [if_neg hgain, if_neg hgain]
    repeat' split
    all_goals exact ⟨rfl, rfl, rfl, rfl, rfl, rfl⟩

theorem tick_spec (d : Driver) (a : TE) : ∃ l, d.queue = l ++ (d.tick a).queue ∧ (∀ e ∈ l, e.eligible a = true) ∧
    (∀ e, (d.tick a).queue.head? = some e → e.eligible a = false) ∧
    let n := l.foldl (fun x e => x.applyEntry e.entry.toNat) d
    (d.tick a).swing = n.swing ∧ (d.tick a).offset = n.offset ∧ (d.tick a).gSwing = n.gSwing ∧ (d.tick a).gOffset = n.gOffset ∧
    ((n.gSwing ≠ d.gSwing ∨ n.gOffset ≠ d.gOffset) → (d.tick a).ranging = some (a, a + 2500)) ∧
    ((n.gSwing = d.gSwing ∧ n.gOffset = d.gOffset) → (d.tick a).ranging = d.ranging) := by
  obtain ⟨l, rest, hq, hl, hrest, happly⟩ := applyHead_spec a d.queue d
  obtain ⟨hqueue, hsw, hoff, hgs, hgo, hranging⟩ := tick_fields d a
  rw [happly] at hqueue hsw hoff hgs hgo hranging
  refine ⟨l, by rw [hqueue]; exact hq, hl, by rw [hqueue]; exact hrest, hsw, hoff, hgs, hgo, fun h => ?_, fun h => ?_⟩
  · exact hranging.trans (if_pos h)
  · refine hranging.trans ((if_neg ?_).trans (applyAll_ranging d l))
    rintro (hne | hne)
    · exact hne h.1
    · exact hne h.2

/-- LEVEL_TICK comes at the next multiple of 125 T_E, not before the present one (R219). -/
theorem nextLevelTick_spec (s : State) : s.nextLevelTick % 125 = 0 ∧ s.now ≤ s.nextLevelTick := by
  have hround (n : Nat) : (n + 124) / 125 * 125 % 125 = 0 ∧ n ≤ (n + 124) / 125 * 125 ∧
      ((n + 124) / 125 * 125 + 125) % 125 = 0 := by omega
  obtain ⟨hmod, hle, hnext⟩ := hround s.now
  unfold State.nextLevelTick
  dsimp only
  split
  · exact ⟨hnext, hle.trans (Nat.le_add_right _ _)⟩
  · exact ⟨hmod, hle⟩

/-- A tick of the drivers and its time are all that LEVEL_TICK does beside what is due by then (R219). -/
theorem levelTickAt_spec (a : TE) (s : State) : let t := levelTickAt a s
    t.time = { s.time with count := max s.time.count a, lastTick := some a } ∧
    (∀ ch : Fin 64, t.drv[ch] = s.drv[ch].tick a) ∧
    t = { s.reach a with time := t.time, drv := t.drv, seq := t.seq } ∧ DataPlaneOnly { s with drv := t.drv } t := by
  have hbare := bare_reach s a
  have htime := reach_time s a
  have hdrv : (s.reach a).drv = s.drv := congrArg (fun t => t.drv) hbare
  refine ⟨by simp only [levelTickAt, htime]; rfl, fun ch => ?_, rfl, ?_⟩
  · simp only [levelTickAt, hdrv]
    exact Vector.getElem_map ..
  · refine dataPlaneOnly_of_bare ?_
    have hkeeps (u : State) (x : TimeState) (v : Vector Driver 64) (h : u.bare = { s.bare with time := u.time }) :
        ({ u with time := x, drv := v } : State).bare = { s.bare with time := x, drv := v } := by
      have : ({ u with time := x, drv := v } : State).bare = { u.bare with time := x, drv := v } := rfl
      rw [this, h]
    exact hkeeps (s.reach a) _ _ (hbare.trans (by rw [htime]; rfl))

/-- Settles O13: an output's state does not show at its ball; the grids are arithmetic; a tick is what is due by then and one
tick of every driver. -/
theorem levelTicksAndClockFaults : Obligations.level_ticks_and_clock_faults := by
  unfold Obligations.level_ticks_and_clock_faults
  refine ⟨fun s n => ⟨fun h => ?_, fun h => ?_⟩, fun o x base => ⟨fun d c f hd hf hx => start_edge0 o base c hd hf hx,
    fun e0 c f he _ hk hc => delays_edge0 x f he hk hc, fun y => ⟨rfl, rfl⟩⟩, fun s => ?_, tick_spec⟩
  · obtain ⟨hclk, hothers, hball, hframe⟩ := clkout_changed (clkoutOvercurrent_running h) (by rw [h])
    exact ⟨_, rfl, hclk, hothers, by rw [clkoutOvercurrent, if_pos h]; exact raise_raised .., hball, hframe⟩
  · obtain ⟨hclk, hothers, hball, hframe⟩ := clkout_changed (clkoutFaultClear_faulted h) rfl
    exact ⟨_, rfl, hclk, hothers, by rw [clkoutFaultClear, if_pos h]; exact raise_raised .., hball, hframe⟩
  · obtain ⟨hmod, hle⟩ := nextLevelTick_spec s
    exact ⟨_, rfl, hmod, hle, levelTickAt_spec s.nextLevelTick s⟩

end Sys2Proof.Machine

/-!
SUPPORT. The statement about the state after reset (spec 03, R86; spec 15, R366, R402; spec 16, R434).
-/
namespace Sys2Proof.Machine

/-- In the Saltern after reset every Pan but Pan 0 has the default flag (R366). -/
theorem reset_flag {p : Nat} (h : 0 < p) : State.reset.flag p = {} := by
  have hfind : assocFind State.reset.own p = none := by
    have hown : State.reset.own = [(0, { owner := .frozen, use := 0xD0 })] := rfl
    simp [hown, assocFind, h.ne]
  rw [State.flag, hfind]; rfl

/-- After reset nothing waits in a queue, nothing is staged or held, and the ring is empty. -/
theorem reset_queueInv : QueueInv State.reset := by
  refine ⟨fun ch => ?_, fun i => ?_, rfl, by simp [State.reset], by simp [State.reset], ?_⟩
  · simp [State.reset]
  · simp [State.reset]
  · exact ⟨by decide, by simp [State.reset], by simp [State.reset], by unfold upTo; decide, by decide⟩

/-- Settles O1: the fields of the state at reset are written out in it. -/
theorem resetState : Obligations.reset_state := by
  unfold Obligations.reset_state
  exact ⟨⟨rfl, rfl, rfl, rfl, rfl, rfl, fun p hp => reset_flag hp, rfl⟩, rfl, reset_queueInv⟩

end Sys2Proof.Machine

/-!
SUPPORT. What a change of CSU state, and an event raised beside it, change and what they leave: the rules for the statements about
lock, Lull, return and BYPASS (spec 03, R82 to R86; spec 04, R107 to R124).
-/
namespace Sys2Proof.Machine

/-! ## Events that stand in the merger stay there (R65) -/

namespace Raised

variable {s t : State} {x : Instant} {source detail : Nat}

/-- An event stands in every state with the same merger and device state. -/
theorem of_merger (h : Raised s x source detail) (hm : t.merger = s.merger) (hd : t.dev = s.dev) : Raised t x source detail := by
  unfold Raised
  rw [hm, hd]; exact h

/-- A further event leaves it. -/
theorem raise (h : Raised s x source detail) (source' d flags : Nat) : Raised (s.raise source' d flags) x source detail := by
  rcases h with h | ⟨hd, f, hf⟩
  · left
    unfold State.raise State.raiseAt
    cases s.dev.st with
    | boot | load => exact h
    | idle | run | hold | safe => exact (Merger.add_events _ _).2 _ h
  · refine .inr ⟨by rw [raise_dev]; exact hd, f, ?_⟩
    unfold State.raise State.raiseAt
    rcases hd with hd | hd <;> rw [hd] <;> exact List.mem_append_left _ hf

end Raised

@[simp] theorem raise_nowAt (s : State) (source d flags : Nat) : (s.raise source d flags).nowAt = s.nowAt := by
  rw [State.nowAt, raise_time, State.nowAt]

/-! ## What changes beside the CSU -/

/-- Nothing but the CSU, the time and the merger has changed. -/
def ClockOnly (s t : State) : Prop := t = { s with csu := t.csu, time := t.time, merger := t.merger }

namespace ClockOnly

variable {s t u : State}

theorem mk' (c : Csu) (x : TimeState) (m : Merger) : ClockOnly s { s with csu := c, time := x, merger := m } := rfl

theorem trans (h : ClockOnly s t) (h' : ClockOnly t u) : ClockOnly s u := by
  unfold ClockOnly at *
  rw [h', h]

theorem raise (h : ClockOnly s t) (source d flags : Nat) : ClockOnly s (t.raise source d flags) :=
  h.trans (by unfold ClockOnly; rw [raise_frame])

theorem csu (h : ClockOnly s t) (c : Csu) : ClockOnly s { t with csu := c } := h.trans (by rfl)

theorem mem (h : ClockOnly s t) : t.mem = s.mem := congrArg (fun u => u.mem) h
theorem od (h : ClockOnly s t) : t.od = s.od := congrArg (fun u => u.od) h
theorem dev (h : ClockOnly s t) : t.dev = s.dev := congrArg (fun u => u.dev) h

end ClockOnly

theorem reach_mem (s : State) (a : TE) : (s.reach a).mem = s.mem := congrArg (fun t => t.mem) (bare_reach s a)

/-! ## A change of CSU state (R86) -/

/-- Entry into LOCKED or FREERUN ends a Lull (R506). -/
def Csu.lullEnded (st : CsuSt) (a : TE) (c : Csu) : Csu :=
  match c.lullStart, st with
  | some b, .locked => { c with lullStart := none, lullLen := a - b }
  | some b, .freerun => { c with lullStart := none, lullLen := a - b }
  | _, _ => c

/-- Entry into FREERUN sets the hold DAC to the factory tuning word (R113). -/
def Csu.freerunHeld (st : CsuSt) (c : Csu) : Csu :=
  match st with
  | .freerun => { c with noBypass := false, hold := { c.hold with code := c.hold.factory } }
  | _ => c

/-- The state entered, with what is counted and timed from its entry. -/
def Csu.begun (st : CsuSt) (a : TE) (c : Csu) : Csu :=
  { c with st := st, since := a, bypLocked := false, returnFrom := a, run := if c.st.isLocked && st.isLocked then c.run else 0 }

theorem enterCsu_stages (st : CsuSt) (s : State) : (enterCsu st s).csu =
    noteKind (Csu.freerunHeld st (Csu.lullEnded st s.now (Csu.begun st s.now
      (noteKind (if st = .acquire then selectBand s else s).csu)))) := by
  by_cases h : st = .acquire
  · subst h; rfl
  · unfold enterCsu; simp only [if_neg h]; rfl

theorem Csu.lullEnded_changes (st : CsuSt) (a : TE) (c : Csu) : ∃ start len,
    c.lullEnded st a = { c with lullStart := start, lullLen := len } ∧ (st ≠ .freerun → st ≠ .locked → start = c.lullStart) := by
  unfold Csu.lullEnded
  split
  · exact ⟨_, _, rfl, fun _ h => absurd rfl h⟩
  · exact ⟨_, _, rfl, fun h => absurd rfl h⟩
  · exact ⟨_, _, rfl, fun _ _ => rfl⟩

theorem Csu.freerunHeld_changes (st : CsuSt) (c : Csu) : ∃ once code,
    c.freerunHeld st = { c with noBypass := once, hold := { c.hold with code := code } } ∧
      (st ≠ .freerun → code = c.hold.code) := by
  unfold Csu.freerunHeld
  split
  · exact ⟨_, _, rfl, fun h => absurd rfl h⟩
  · exact ⟨_, _, rfl, fun _ => rfl⟩

/-- What a change of CSU state changes in the CSU: the state, what is counted and timed from its entry, at the start of ACQUIRE the
band, on entry into FREERUN the hold code, on entry into FREERUN or LOCKED the Lull (R82, R86, R506). -/
theorem enterCsu_changes (st : CsuSt) (s : State) : ∃ band kvco run start len once code kind, (enterCsu st s).csu = { s.csu with
      st := st, since := s.now, bypLocked := false, returnFrom := s.now, band := band, kvco := kvco, run := run
      lullStart := start, lullLen := len, noBypass := once, hold := { s.csu.hold with code := code, tideKind := kind } } ∧
    (st ≠ .acquire → band = s.csu.band) ∧ (st ≠ .freerun → code = s.csu.hold.code) ∧
    (st ≠ .freerun → st ≠ .locked → start = s.csu.lullStart) ∧
    (st = .acquire → band = (selectBand s).csu.band ∧ kvco = (selectBand s).csu.kvco) := by
  obtain ⟨band, kvco, hu, hband, hselect⟩ : ∃ band kvco, (if st = .acquire then selectBand s else s).csu =
      { s.csu with band := band, kvco := kvco } ∧ (st ≠ .acquire → band = s.csu.band) ∧
      (st = .acquire → band = (selectBand s).csu.band ∧ kvco = (selectBand s).csu.kvco) := by
    by_cases h : st = .acquire
    · exact ⟨_, _, by rw [if_pos h]; rfl, fun hn => absurd h hn, fun _ => ⟨rfl, rfl⟩⟩
    · exact ⟨_, _, by rw [if_neg h], fun _ => rfl, fun hn => absurd hn h⟩
  rw [enterCsu_stages, hu]
  obtain ⟨start, len, hlull, hstart⟩ := Csu.lullEnded_changes st s.now (Csu.begun st s.now (noteKind { s.csu with band := band, kvco := kvco }))
  rw [hlull]
  obtain ⟨once, code, hfree, hcode⟩ := Csu.freerunHeld_changes st
    { Csu.begun st s.now (noteKind { s.csu with band := band, kvco := kvco }) with lullStart := start, lullLen := len }
  rw [hfree]
  exact ⟨band, kvco, _, start, len, once, code, _, rfl, hband, hcode, hstart, hselect⟩

section
variable (st : CsuSt) (s : State)

/-- What a change of CSU state leaves beside what `enterCsu_csu` says. -/
theorem enterCsu_keeps : let c := (enterCsu st s).csu
    c.bypLocked = false ∧ c.qualified = s.csu.qualified ∧ c.locks = s.csu.locks ∧ c.retDiff = s.csu.retDiff ∧
      c.afterBypass = s.csu.afterBypass ∧ c.hold.src = s.csu.hold.src ∧ c.hold.model = s.csu.hold.model := by
  obtain ⟨band, kvco, run, start, len, once, code, kind, h, -⟩ := enterCsu_changes st s
  rw [h]
  exact ⟨rfl, rfl, rfl, rfl, rfl, rfl, rfl⟩

@[simp] theorem enterCsu_bypLocked : (enterCsu st s).csu.bypLocked = false := (enterCsu_keeps st s).1
@[simp] theorem enterCsu_qualified : (enterCsu st s).csu.qualified = s.csu.qualified := (enterCsu_keeps st s).2.1
@[simp] theorem enterCsu_locks : (enterCsu st s).csu.locks = s.csu.locks := (enterCsu_keeps st s).2.2.1
@[simp] theorem enterCsu_retDiff : (enterCsu st s).csu.retDiff = s.csu.retDiff := (enterCsu_keeps st s).2.2.2.1
@[simp] theorem enterCsu_afterBypass : (enterCsu st s).csu.afterBypass = s.csu.afterBypass := (enterCsu_keeps st s).2.2.2.2.1
@[simp] theorem enterCsu_holdSrc : (enterCsu st s).csu.hold.src = s.csu.hold.src := (enterCsu_keeps st s).2.2.2.2.2.1
@[simp] theorem enterCsu_holdModel : (enterCsu st s).csu.hold.model = s.csu.hold.model := (enterCsu_keeps st s).2.2.2.2.2.2
@[simp] theorem enterCsu_merger : (enterCsu st s).merger = s.merger := by rw [enterCsu_frame]
@[simp] theorem enterCsu_dev : (enterCsu st s).dev = s.dev := by rw [enterCsu_frame]
@[simp] theorem enterCsu_od : (enterCsu st s).od = s.od := by rw [enterCsu_frame]
@[simp] theorem enterCsu_count : (enterCsu st s).time.count = s.time.count := by rw [enterCsu_frame]

variable {st}

theorem enterCsu_band (h : st ≠ .acquire) : (enterCsu st s).csu.band = s.csu.band := by
  obtain ⟨band, kvco, run, start, len, once, code, kind, hc, hband, -⟩ := enterCsu_changes st s
  rw [hc]; exact hband h

theorem enterCsu_holdCode (h : st ≠ .freerun) : (enterCsu st s).csu.hold.code = s.csu.hold.code := by
  obtain ⟨band, kvco, run, start, len, once, code, kind, hc, -, hcode, -⟩ := enterCsu_changes st s
  rw [hc]; exact hcode h

theorem enterCsu_lullStart (hf : st ≠ .freerun) (hl : st ≠ .locked) : (enterCsu st s).csu.lullStart = s.csu.lullStart := by
  obtain ⟨band, kvco, run, start, len, once, code, kind, hc, -, -, hstart, -⟩ := enterCsu_changes st s
  rw [hc]; exact hstart hf hl

/-- Outside ACQUIRE no free value is taken. -/
theorem enterCsu_clockOnly (h : st ≠ .acquire) : ClockOnly s (enterCsu st s) := by
  unfold ClockOnly enterCsu
  simp only [if_neg h]
  rfl

end

/-- At the start of ACQUIRE a band is found, and a K_VCO within 120 to 180 MHz/V (R82). -/
theorem enterCsu_acquire (s : State) : (enterCsu .acquire s).csu.band < 64 ∧
    120000 ≤ (enterCsu .acquire s).csu.kvco.toNat ∧ (enterCsu .acquire s).csu.kvco.toNat ≤ 180000 := by
  obtain ⟨band, kvco, run, start, len, once, code, kind, hc, -, -, -, hselect⟩ := enterCsu_changes .acquire s
  obtain ⟨rfl, rfl⟩ := hselect rfl
  rw [hc]
  have hkvco : (selectBand s).csu.kvco.toNat = (120000 + Config.vcoGain s.free % 60001) % 2 ^ 32 := BitVec.toNat_ofNat ..
  exact ⟨Nat.mod_lt _ (by decide), by dsimp only; omega, by dsimp only; omega⟩

/-! ## Actions cancelled by a loss, and the way from LULL into RETURN (R107, R122) -/

theorem cancelAction_clockOnly (s : State) : ClockOnly s (cancelAction s) := by
  obtain ⟨c, m, h⟩ := cancelAction_frame s
  rw [h]; rfl

theorem lossCancels_clockOnly (s : State) : ClockOnly s (lossCancels s) := by
  unfold lossCancels
  split
  · exact cancelAction_clockOnly s
  · exact cancelAction_clockOnly s
  · rfl

@[simp] theorem lossCancels_time (s : State) : (lossCancels s).time = s.time := by
  have hcancel : (cancelAction s).time = s.time := by
    unfold cancelAction
    split
    · rfl
    · rw [phaseEvent_time]; rfl
  unfold lossCancels
  split
  · exact hcancel
  · exact hcancel
  · rfl

/-- An event that stood before the actions were cancelled stands after. -/
theorem Raised.lossCancels {s : State} {x : Instant} {source detail : Nat} (h : Raised s x source detail) :
    Raised (lossCancels s) x source detail := by
  have hcancel : Raised (cancelAction s) x source detail := by
    unfold cancelAction
    split
    · exact h
    · exact Raised.raise (s := stopAction s) h _ _ _
  unfold Machine.lossCancels
  split
  · exact hcancel
  · exact hcancel
  · exact h

/-- What the way from LULL into RETURN leaves. -/
theorem passToReturn_keeps (s : State) : let t := passToReturn s
    ClockOnly s t ∧ t.merger = s.merger ∧ t.csu.present = s.csu.present ∧ t.csu.qualified = s.csu.qualified ∧
      t.csu.hold.code = s.csu.hold.code ∧ t.csu.hold.model = s.csu.hold.model ∧ t.csu.lullStart = s.csu.lullStart := by
  unfold passToReturn
  split
  · have hclock := enterCsu_clockOnly { s with csu := { s.csu with afterBypass := false } } (st := .ret) (by decide)
    refine ⟨ClockOnly.trans (by rfl) hclock, ?_⟩
    simp [enterCsu_holdCode, enterCsu_lullStart]
  · exact ⟨rfl, rfl, rfl, rfl, rfl, rfl, rfl⟩

end Sys2Proof.Machine

/-!
SUPPORT. Lock, loss, unlock and return, and the statement about them (spec 03, R78 to R86; spec 04, R107 to R118).
-/
namespace Sys2Proof.Machine

/-! ## Leaving a locked state (R107, R110, R111) -/

/-- What a loss (cause 1) or an unlock (cause 2) leaves of a locked state `s`. -/
structure LeftLocked (cause : Nat) (s t : State) : Prop where
  present : t.csu.present = s.csu.present
  qualified : t.csu.qualified = s.csu.qualified
  held : ∀ v, s.csu.hold.fromLocked = some v → t.csu.hold.code = v.1 ∧ t.csu.lullStart = some s.now ∧
    t.csu.st = if s.csu.present = true then .ret else .lull
  unheld : s.csu.hold.fromLocked = none → t.csu.st = .freerun ∧ t.csu.hold.src = 2
  lost : Raised t s.nowAt 481 (if cause = 1 then 2 else 1)
  lull : ∀ v, s.csu.hold.fromLocked = some v →
    Raised t s.nowAt 482 (cause + v.2.2 * 16 + if t.csu.hold.model ≠ 0 then 64 else 0)
  freerun : s.csu.hold.fromLocked = none → Raised t s.nowAt 482 (cause + 32)
  frame : t = { s with csu := t.csu, time := t.time, merger := t.merger, fab := t.fab }

/-- Steering ends, the hold DAC is set (R111, R345). -/
def State.unsteered (h : HoldDac) (s : State) : State :=
  { s with fab := { s.fab with steerOk := false }, csu := { s.csu with hold := h } }

/-- The CSU leaves a locked state for another: the loss is reported and the actions are cancelled (R107, R122). -/
def lossReported (cause : Nat) (st : CsuSt) (h : HoldDac) (s : State) : State :=
  lossCancels ((enterCsu st (s.unsteered h)).raise 481 (if cause = 1 then 2 else 1))

theorem lossReported_csu (cause : Nat) (st : CsuSt) (h : HoldDac) (s : State) : let t := lossReported cause st h s
    t.csu.st = st ∧ t.csu.align = s.csu.align ∧ t.csu.present = s.csu.present ∧ t.csu.qualified = s.csu.qualified ∧
      t.csu.hold.src = h.src ∧ t.csu.hold.model = h.model ∧ (st ≠ .freerun → t.csu.hold.code = h.code) := by
  let u := s.unsteered h
  obtain ⟨d, a, hcsu⟩ := lossCancels_csu ((enterCsu st u).raise 481 (if cause = 1 then 2 else 1))
  dsimp only [lossReported]
  rw [hcsu, raise_csu]
  exact ⟨enterCsu_st st u, enterCsu_align st u, enterCsu_present st u, enterCsu_qualified st u, enterCsu_holdSrc st u,
    enterCsu_holdModel st u, fun hst => enterCsu_holdCode u hst⟩

theorem lossReported_frame (cause : Nat) {st : CsuSt} (hst : st ≠ .acquire) (h : HoldDac) (s : State) :
    ClockOnly { s with fab := { s.fab with steerOk := false } } (lossReported cause st h s) ∧
      (lossReported cause st h s).time.count = s.time.count ∧
      Raised (lossReported cause st h s) s.nowAt 481 (if cause = 1 then 2 else 1) := by
  let u := s.unsteered h
  have hcount : (enterCsu st u).time.count = s.time.count := enterCsu_count st u
  have hnow : (enterCsu st u).nowAt = s.nowAt := congrArg startOf hcount
  have hraised : Raised ((enterCsu st u).raise 481 (if cause = 1 then 2 else 1)) s.nowAt 481 (if cause = 1 then 2 else 1) := by
    rw [← hnow]; exact raise_raised ..
  refine ⟨?_, ?_, hraised.lossCancels⟩
  · exact (ClockOnly.trans (by rfl) ((enterCsu_clockOnly u hst).raise _ _ _)).trans (lossCancels_clockOnly _)
  · rw [lossReported, lossCancels_time, raise_time]; exact hcount

/-- The state of LULL as the loss leaves it, 482 not yet raised (R107, R111, R506). -/
def lullBegun (cause : Nat) (h : HoldDac) (s : State) : State :=
  let r := lossReported cause .lull h s
  { r with csu := { r.csu with lullStart := some r.now, noBypass := false } }

theorem lullBegun_spec (cause : Nat) (h : HoldDac) (s : State) : let u := lullBegun cause h s
    (u.csu.st = .lull ∧ u.csu.present = s.csu.present ∧ u.csu.qualified = s.csu.qualified ∧ u.csu.hold.model = h.model ∧
      u.csu.hold.code = h.code ∧ u.csu.lullStart = some s.now) ∧
    ClockOnly { s with fab := { s.fab with steerOk := false } } u ∧ u.nowAt = s.nowAt ∧
    Raised u s.nowAt 481 (if cause = 1 then 2 else 1) := by
  obtain ⟨hst, -, hpresent, hqualified, -, hmodel, hcode⟩ := lossReported_csu cause .lull h s
  obtain ⟨hframe, hcount, hraised⟩ := lossReported_frame cause (st := .lull) (by decide) h s
  exact ⟨⟨hst, hpresent, hqualified, hmodel, hcode (by decide), congrArg some hcount⟩, hframe.csu _, congrArg startOf hcount,
    hraised.of_merger rfl rfl⟩

theorem leaveLocked_held {cause v src : Nat} {tw : Int} {s : State} (h : s.csu.hold.fromLocked = some (v, tw, src))
    (ha : s.csu.align = none) :
    leaveLocked cause s = passToReturn (lullEvent cause src (lullBegun cause (s.csu.hold.take v tw src) s)) := by
  obtain ⟨-, halign, -⟩ := lossReported_csu cause .lull (s.csu.hold.take v tw src) s
  have hfail : failAlign 2 (lullEvent cause src (lullBegun cause (s.csu.hold.take v tw src) s)) = _ :=
    failAlign_none (by rw [lullEvent_csu]; exact halign.trans ha) 2
  rw [← hfail]
  simp only [leaveLocked, h]
  rfl

theorem leaveLocked_unheld {cause : Nat} {s : State} (h : s.csu.hold.fromLocked = none) (ha : s.csu.align = none) :
    leaveLocked cause s = lullEvent cause 2 (lossReported cause .freerun { s.csu.hold with src := 2 } s) := by
  obtain ⟨hst, halign, -⟩ := lossReported_csu cause .freerun { s.csu.hold with src := 2 } s
  have hfail : failAlign 2 (lullEvent cause 2 (lossReported cause .freerun { s.csu.hold with src := 2 } s)) = _ :=
    failAlign_none (by rw [lullEvent_csu]; exact halign.trans ha) 2
  have hpass : passToReturn (lullEvent cause 2 (lossReported cause .freerun { s.csu.hold with src := 2 } s)) = _ :=
    passToReturn_other (by rw [lullEvent_csu, hst]; decide)
  rw [← hpass, ← hfail]
  simp only [leaveLocked, h]
  rfl

/-- 482 reports cause and hold source, and in LULL that the temperature model is in use (R126). -/
theorem lullEvent_raised (cause src : Nat) (s : State) : Raised (lullEvent cause src s) s.nowAt 482
    (cause + src * 16 + if s.csu.st = .lull ∧ s.csu.hold.model ≠ 0 then 64 else 0) := by
  have h := raise_raised s 482 (cause + src * 16 + if s.csu.st == .lull && s.csu.hold.model != 0 then 64 else 0) 0
  simpa [lullEvent] using h

/-- With the steering flag of the fabric changed as well. -/
theorem ClockOnly.withFab {s t : State} {f : Fabric} (h : ClockOnly { s with fab := f } t) :
    t = { s with csu := t.csu, time := t.time, merger := t.merger, fab := t.fab } := by
  have hfab : t.fab = f := congrArg (fun u => u.fab) h
  rw [hfab]; exact h

theorem leaveLocked_left (cause : Nat) {s : State} (ha : s.csu.align = none) : LeftLocked cause s (leaveLocked cause s) := by
  cases hold : s.csu.hold.fromLocked with
  | none =>
    rw [leaveLocked_unheld hold ha]
    obtain ⟨hst, -, hpresent, hqualified, hsrc, -⟩ := lossReported_csu cause .freerun { s.csu.hold with src := 2 } s
    obtain ⟨hframe, hcount, hraised⟩ := lossReported_frame cause (st := .freerun) (by decide) { s.csu.hold with src := 2 } s
    generalize lossReported cause .freerun { s.csu.hold with src := 2 } s = r at hst hpresent hqualified hsrc hframe hcount hraised
    have hnow : r.nowAt = s.nowAt := congrArg startOf hcount
    have hlull := lullEvent_raised cause 2 r
    rw [hnow, hst] at hlull
    exact {
      present := by rw [lullEvent_csu]; exact hpresent
      qualified := by rw [lullEvent_csu]; exact hqualified
      held := fun v hv => by rw [hold] at hv; cases hv
      unheld := fun _ => by rw [lullEvent_csu]; exact ⟨hst, hsrc⟩
      lost := hraised.raise _ _ _
      lull := fun v hv => by rw [hold] at hv; cases hv
      freerun := fun _ => by simpa using hlull
      frame := (hframe.raise _ _ _).withFab }
  | some p =>
    obtain ⟨v, tw, src⟩ := p
    rw [leaveLocked_held hold ha]
    obtain ⟨⟨hst, hpresent, hqualified, hmodel, hcode, hstart⟩, hframe, hnow, hraised⟩ :=
      lullBegun_spec cause (s.csu.hold.take v tw src) s
    generalize lullBegun cause (s.csu.hold.take v tw src) s = u at hst hpresent hqualified hmodel hcode hstart hframe hnow hraised
    have hlull : Raised (lullEvent cause src u) s.nowAt 482 (cause + src * 16 + if u.csu.hold.model ≠ 0 then 64 else 0) := by
      simpa [hst, hnow] using lullEvent_raised cause src u
    have hpass : (passToReturn (lullEvent cause src u)).csu.st = if s.csu.present = true then .ret else .lull := by
      rw [← hpresent]
      split
      next hp => exact (passToReturn_lull (by rw [lullEvent_csu]; exact hst) (by rw [lullEvent_csu]; exact hp)).1
      next hp => rw [passToReturn, if_neg (by rw [lullEvent_csu]; exact fun h => hp h.2), lullEvent_csu, hst]
    obtain ⟨hclock, hmerger, hp, hq, hc, hm, hl⟩ := passToReturn_keeps (lullEvent cause src u)
    rw [lullEvent_csu] at hp hq hc hm hl
    exact {
      present := hp.trans hpresent
      qualified := hq.trans hqualified
      held := fun w hw => by
        obtain rfl := Option.some.inj (hold.symm.trans hw)
        exact ⟨hc.trans hcode, hl.trans hstart, hpass⟩
      unheld := fun hn => by rw [hold] at hn; cases hn
      lost := (hraised.raise _ _ _).of_merger hmerger hclock.dev
      lull := fun w hw => by
        obtain rfl := Option.some.inj (hold.symm.trans hw)
        rw [hm]
        exact hlull.of_merger hmerger hclock.dev
      freerun := fun hn => by rw [hold] at hn; cases hn
      frame := ((hframe.raise _ _ _).trans hclock).withFab }

theorem referenceLost_locked {s : State} (h : s.csu.st.isLocked = true) : referenceLost s = leaveLocked 1 (dropReference s) := by
  have hst : s.csu.st = .locked ∨ s.csu.st = .aligning ∨ s.csu.st = .aligned := by
    cases hs : s.csu.st <;> simp_all [CsuSt.isLocked]
  unfold referenceLost
  rcases hst with hst | hst | hst <;> simp only [dropReference, hst]

theorem unlockDeclared_met {s : State} {seen : List (Int × Nat)} {c : Nat} (h : s.csu.st.isLocked = true)
    (hc : countRun s.beyondUnlock (s.nat 0x2001 4) s.csu.run seen = (c, true)) :
    unlockDeclared seen s = leaveLocked 2 { s with csu := { s.csu with run := c } } := by
  rw [unlockDeclared, if_pos h, hc]; rfl

/-! ## Qualification and lock (R78, R82, R85) -/

section
variable {s : State}

theorem referenceQualified_acquires {d : Int} (h : s.csu.st = .freerun) (hp : s.csu.present = true)
    (hd : d.natAbs ≤ 1000 * (s.csu.act.win + 30)) : let t := referenceQualified d s
    t.csu.st = .acquire ∧ t.csu.qualified = true ∧ t.csu.band < 64 ∧ 120000 ≤ t.csu.kvco.toNat ∧ t.csu.kvco.toNat ≤ 180000 ∧
      max s.csu.since s.csu.presentFrom + 1250000 * s.csu.act.qtime ≤ t.now ∧ t.mem = s.mem ∧ t.od = s.od := by
  let u : State := { s.reach s.qualifiedFrom with csu := { (s.reach s.qualifiedFrom).csu with qualified := true } }
  have ht : referenceQualified d s = enterCsu .acquire u := by simp [referenceQualified, State.windowPpb, h, hp, hd, u]
  obtain ⟨hband, hlo, hhi⟩ := enterCsu_acquire u
  rw [ht]
  refine ⟨enterCsu_st .., enterCsu_qualified .., hband, hlo, hhi, ?_, ?_, ?_⟩
  · have hnow : (enterCsu .acquire u).now = max s.now s.qualifiedFrom := (enterCsu_count .acquire u).trans (reach_count s _)
    rw [hnow, Nat.mul_comm]
    exact le_max_right _ _
  · rw [enterCsu_frame]; exact reach_mem s _
  · rw [enterCsu_od]; exact reach_od s _

theorem referenceQualified_refused {d : Int} (h : s.csu.st = .freerun)
    (hd : s.csu.present = false ∨ 1000 * (s.csu.act.win + 30) < d.natAbs) : referenceQualified d s = s := by
  refine if_neg fun hc => ?_
  simp only [State.windowPpb, h, if_true] at hc
  rcases hd with hd | hd
  · rw [hd] at hc; exact Bool.false_ne_true hc.1
  · exact absurd hc.2 (Nat.not_le.mpr hd)

/-- Comparisons that hold throughout, but too few (R85). -/
theorem countRun_short {p : Int → Bool} {n c k : Nat} {e : Int} (he : p e = true) (hn : c + k < n) :
    countRun p n c [(e, k)] = (c + k, false) := by simp [countRun, he, Nat.not_le.mpr hn]

/-- Comparisons that do not hold restart the count (R85). -/
theorem countRun_broken {p : Int → Bool} {n c k : Nat} {e : Int} (he : p e = false) (hk : 0 < k) :
    countRun p n c [(e, k)] = (0, false) := by simp [countRun, he, hk.ne']

/-- Outside LOAD stage 6 is nothing (R434). -/
theorem stageSix_other (h : s.dev.st ≠ .load) : stageSix s = s := if_neg fun hc => h hc.1

theorem countLock_raised (s : State) : Raised (countLock s) s.nowAt 480 (s.csu.band % 64) :=
  raise_raised { s with csu := { s.csu with locks := s.csu.locks + 1 } } _ _ _

/-- A lock is counted, and reported with the band, whatever state it ends (R85, R87). -/
theorem countLock_enterCsu (s : State) : let t := countLock (enterCsu .locked s)
    t.csu.st = .locked ∧ t.csu.locks = s.csu.locks + 1 ∧ Raised t s.nowAt 480 (s.csu.band % 64) ∧ ClockOnly s t := by
  have hnow : (enterCsu .locked s).nowAt = s.nowAt := congrArg startOf (enterCsu_count .locked s)
  have hraised := countLock_raised (enterCsu .locked s)
  rw [hnow, enterCsu_band s (by decide)] at hraised
  refine ⟨by simp, by simp, hraised, ?_⟩
  exact ((enterCsu_clockOnly s (by decide)).csu _).raise _ _ _

theorem withinLock_true {e : Int} (h : e.natAbs ≤ 80 * s.nat 0x2001 1) : s.withinLock e = true := decide_eq_true h

theorem withinLock_false {e : Int} (h : 80 * s.nat 0x2001 1 < e.natAbs) : s.withinLock e = false :=
  decide_eq_false (Nat.not_le.mpr h)

/-- With too few comparisons they are counted (R85). -/
theorem lockDeclared_unmet {seen : List (Int × Nat)} {c : Nat} (h : s.csu.st = .acquire)
    (hc : countRun s.withinLock (s.nat 0x2001 2) s.csu.run seen = (c, false)) :
    lockDeclared seen s = { s with csu := { s.csu with run := c } } := by
  rw [lockDeclared, if_pos h, hc]; rfl

/-- With enough comparisons lock is declared; outside LOAD no stage of start-up follows (R85, R434). -/
theorem lockDeclared_met {seen : List (Int × Nat)} {c : Nat} (h : s.csu.st = .acquire) (hd : s.dev.st ≠ .load)
    (hc : countRun s.withinLock (s.nat 0x2001 2) s.csu.run seen = (c, true)) :
    lockDeclared seen s = countLock (enterCsu .locked { s with csu := { s.csu with run := c } }) := by
  obtain ⟨-, -, -, hclock⟩ := countLock_enterCsu { s with csu := { s.csu with run := c } }
  have hstage := stageSix_other (s := countLock (enterCsu .locked { s with csu := { s.csu with run := c } }))
    (by rw [hclock.dev]; exact hd)
  rw [lockDeclared, if_pos h, hc]
  dsimp only
  rw [hstage, ite_self, if_pos rfl]

theorem lockDeclared_locks {e : Int} {n : Nat} (h : s.csu.st = .acquire) (hd : s.dev.st ≠ .load)
    (he : e.natAbs ≤ 80 * s.nat 0x2001 1) (hn : s.nat 0x2001 2 ≤ s.csu.run + n) : let t := lockDeclared [(e, n)] s
    t.csu.st = .locked ∧ t.csu.locks = s.csu.locks + 1 ∧ Raised t s.nowAt 480 (s.csu.band % 64) ∧ ClockOnly s t := by
  rw [lockDeclared_met h hd (countRun_met (withinLock_true he) hn)]
  exact countLock_enterCsu { s with csu := { s.csu with run := s.csu.run + n } }

theorem acquireTimeout_spec (h : s.csu.st = .acquire) : let t := acquireTimeout s
    t.csu.st = .freerun ∧ t.csu.qualified = false ∧ s.csu.since + 1250000 * s.nat 0x2001 5 ≤ t.now ∧ t.mem = s.mem ∧
      t.od = s.od := by
  let a := s.csu.since + msTE (s.nat 0x2001 5)
  let u : State := { s.reach a with csu := { (s.reach a).csu with qualified := false } }
  have ht : acquireTimeout s = enterCsu .freerun (u.raise 481 3) := by simp [acquireTimeout, h, u, a]
  have hclock : ClockOnly u (enterCsu .freerun (u.raise 481 3)) :=
    (ClockOnly.raise (by rfl) _ _ _).trans (enterCsu_clockOnly _ (by decide))
  rw [ht]
  refine ⟨enterCsu_st .., by simp [u], ?_, hclock.mem.trans (reach_mem s a), hclock.od.trans (reach_od s a)⟩
  have hnow : (enterCsu .freerun (u.raise 481 3)).now = max s.now a :=
    (enterCsu_count ..).trans ((congrArg TimeState.count (raise_time ..)).trans (reach_count s a))
  rw [hnow, Nat.mul_comm]
  exact le_max_right _ _

/-! ## Loss of the reference outside the locked states (R79, R107) -/

theorem referenceLost_acquire_spec (h : s.csu.st = .acquire) : let t := referenceLost s
    t.csu.st = .freerun ∧ t.csu.present = false ∧ Raised t s.nowAt 481 2 ∧ ClockOnly s t := by
  have ht : referenceLost s = enterCsu .freerun ((dropReference s).raise 481 2) := by simp [referenceLost, dropReference, h]
  have hraised : Raised ((dropReference s).raise 481 2) s.nowAt 481 2 := raise_raised (dropReference s) _ _ _
  rw [ht]
  refine ⟨enterCsu_st .., by simp [dropReference], hraised.of_merger (enterCsu_merger ..) (enterCsu_dev ..), ?_⟩
  exact (ClockOnly.raise (by rfl) _ _ _).trans (enterCsu_clockOnly _ (by decide))

theorem referenceLost_ret_spec (h : s.csu.st = .ret) : let t := referenceLost s
    t.csu.st = .lull ∧ t.csu.present = false ∧
      Raised t s.nowAt 482 (4 + t.csu.hold.src * 16 + if t.csu.hold.model ≠ 0 then 64 else 0) ∧ ClockOnly s t := by
  have ht : referenceLost s = lullEvent 4 s.csu.hold.src (enterCsu .lull (dropReference s)) := by
    simp [referenceLost, dropReference, h]
  have hraised := lullEvent_raised 4 s.csu.hold.src (enterCsu .lull (dropReference s))
  rw [ht]
  refine ⟨by simp, by simp [dropReference], ?_, ?_⟩
  · simpa [State.nowAt, dropReference] using hraised
  · exact (ClockOnly.trans (by rfl) (enterCsu_clockOnly (dropReference s) (by decide))).raise _ _ _

theorem referencePresent_lull (h : s.csu.st = .lull) : let t := referencePresent s
    t.csu.st = .ret ∧ t.csu.present = true ∧ t = { s with csu := t.csu, time := t.time } := by
  let u : State := { s with csu := { s.csu with
    present := true, presentFrom := if s.csu.present then s.csu.presentFrom else s.now } }
  obtain ⟨hst, hpresent⟩ := passToReturn_lull (s := u) h rfl
  obtain ⟨hclock, hmerger, -⟩ := passToReturn_keeps u
  have hframe : ClockOnly s (referencePresent s) := ClockOnly.trans (by rfl) hclock
  have hm : (referencePresent s).merger = s.merger := hmerger
  unfold ClockOnly at hframe
  rw [hm] at hframe
  exact ⟨hst, hpresent, hframe⟩

/-! ## Return (R117, R118) -/

theorem returnAccept_outside {diff : Int} (jump : Int) (seen : List (Int × Nat)) (h : s.csu.st = .ret) (hp : s.csu.present = true)
    (hd : s.acceptance.1 < diff.natAbs) : returnAccept jump diff seen s =
      { s with csu := { s.csu with retDiff := diff, returnFrom := s.now } } := by
  simp [returnAccept, h, hp, hd, returnMeasured]

/-- The state in which RETURN has met acceptance with a frequency difference (R117). -/
def State.accepted (s : State) (diff : Int) : State :=
  returnMeasured diff (s.reach (s.csu.returnFrom + msTE s.acceptance.2))

/-- Lock is declared out of RETURN with a phase offset `d` (R85, R118). -/
def returnLocked (d : Int) (s : State) : State :=
  let t := (countLock (enterCsu .locked { s with csu := { s.csu with delta := d, qualified := true } })).raise 483
    (signedCode 32 (clampInt (-2147483647) 2147483647 d))
  if t.nat 0x2006 2 = 0 ∨ t.nat 0x2006 2 < d.natAbs then phaseEvent 0 t else t

theorem accepted_absorb (diff jump : Int) : (s.accepted diff).absorb jump = s.absorb jump := by
  simp [State.absorb, State.upPort, State.accepted, returnMeasured]

theorem returnAccept_unmet {diff : Int} (jump : Int) {seen : List (Int × Nat)} (h : s.csu.st = .ret) (hp : s.csu.present = true)
    (hd : diff.natAbs ≤ s.acceptance.1) (hc : (countRun s.withinLock (s.nat 0x2001 2) s.csu.run seen).2 = false) :
    ∃ c, returnAccept jump diff seen s = { s.accepted diff with csu := { (s.accepted diff).csu with run := c } } := by
  rw [returnAccept, if_pos ⟨h, hp⟩, if_neg (Nat.not_lt.mpr hd)]
  dsimp only
  rw [hc]
  exact ⟨_, rfl⟩

theorem returnAccept_met {diff : Int} (jump : Int) {seen : List (Int × Nat)} (h : s.csu.st = .ret) (hp : s.csu.present = true)
    (hd : diff.natAbs ≤ s.acceptance.1) (hc : (countRun s.withinLock (s.nat 0x2001 2) s.csu.run seen).2 = true) :
    returnAccept jump diff seen s = returnLocked (s.absorb jump) (s.accepted diff) := by
  rw [returnAccept, if_pos ⟨h, hp⟩, if_neg (Nat.not_lt.mpr hd), ← accepted_absorb diff jump]
  dsimp only
  rw [hc]
  rfl

theorem returnLocked_spec (d : Int) (s : State) : let t := returnLocked d s
    t.csu.st = .locked ∧ t.csu.delta = d ∧ t.csu.retDiff = s.csu.retDiff ∧ t.csu.locks = s.csu.locks + 1 ∧ t.now = s.now ∧
      Raised t s.nowAt 483 (signedCode 32 (clampInt (-2147483647) 2147483647 d)) ∧ ClockOnly s t := by
  let u : State := { s with csu := { s.csu with delta := d, qualified := true } }
  let t : State := (countLock (enterCsu .locked u)).raise 483 (signedCode 32 (clampInt (-2147483647) 2147483647 d))
  have hcount : (countLock (enterCsu .locked u)).time.count = s.time.count :=
    (congrArg TimeState.count (raise_time ..)).trans (enterCsu_count ..)
  have hcsu : t.csu = { (enterCsu .locked u).csu with locks := (enterCsu .locked u).csu.locks + 1 } :=
    (raise_csu ..).trans (countLock_csu _)
  have hraised : Raised t s.nowAt 483 (signedCode 32 (clampInt (-2147483647) 2147483647 d)) := by
    rw [show s.nowAt = (countLock (enterCsu .locked u)).nowAt from congrArg startOf hcount.symm]
    exact raise_raised ..
  have hclock : ClockOnly s t := by
    obtain ⟨-, -, -, hlock⟩ := countLock_enterCsu u
    exact (ClockOnly.trans (by rfl) hlock).raise _ _ _
  have hkeeps (v : State) (hv : v.csu = t.csu) (hvt : v.time = t.time) : v.csu.st = .locked ∧ v.csu.delta = d ∧
      v.csu.retDiff = s.csu.retDiff ∧ v.csu.locks = s.csu.locks + 1 ∧ v.now = s.now := by
    have hnow : v.now = s.now := by rw [State.now, hvt, raise_time]; exact hcount
    rw [hv, hcsu]
    exact ⟨enterCsu_st .locked u, enterCsu_delta .locked u, enterCsu_retDiff .locked u, congrArg (· + 1) (enterCsu_locks .locked u),
      hnow⟩
  have hreturn : returnLocked d s = if t.nat 0x2006 2 = 0 ∨ t.nat 0x2006 2 < d.natAbs then phaseEvent 0 t else t := rfl
  rw [hreturn]
  split
  · obtain ⟨hst, hdelta, hdiff, hlocks, hnow⟩ := hkeeps (phaseEvent 0 t) (phaseEvent_csu ..) (phaseEvent_time ..)
    exact ⟨hst, hdelta, hdiff, hlocks, hnow, hraised.raise _ _ _, hclock.raise _ _ _⟩
  · obtain ⟨hst, hdelta, hdiff, hlocks, hnow⟩ := hkeeps t rfl rfl
    exact ⟨hst, hdelta, hdiff, hlocks, hnow, hraised, hclock⟩

theorem accepted_spec {diff : Int} (hd : diff.natAbs ≤ s.acceptance.1) : let t := s.accepted diff
    t.csu = { s.csu with retDiff := diff } ∧ s.csu.returnFrom + 1250000 * s.acceptance.2 ≤ t.now ∧ t.mem = s.mem ∧ t.od = s.od := by
  let a := s.csu.returnFrom + msTE s.acceptance.2
  have hacc : (s.reach a).acceptance = s.acceptance := by simp [State.acceptance]
  refine ⟨?_, ?_, reach_mem s a, reach_od s a⟩
  · simp [State.accepted, returnMeasured, hacc, a, Nat.not_lt.mpr hd]
  · have hnow : (s.accepted diff).now = max s.now a := reach_count s a
    rw [hnow, Nat.mul_comm]
    exact le_max_right _ _

theorem returnAccept_locks {diff : Int} (jump : Int) {seen : List (Int × Nat)} (h : s.csu.st = .ret) (hp : s.csu.present = true)
    (hd : diff.natAbs ≤ s.acceptance.1) (hc : (countRun s.withinLock (s.nat 0x2001 2) s.csu.run seen).2 = true) :
    let t := returnAccept jump diff seen s
    t.csu.st = .locked ∧ t.csu.delta = s.absorb jump ∧ t.csu.retDiff = diff ∧ t.csu.locks = s.csu.locks + 1 ∧
      s.csu.returnFrom + 1250000 * s.acceptance.2 ≤ t.now ∧
      Raised t t.nowAt 483 (signedCode 32 (clampInt (-2147483647) 2147483647 (s.absorb jump))) ∧ t.mem = s.mem ∧ t.od = s.od := by
  obtain ⟨hcsu, hfrom, hmem, hod⟩ := accepted_spec hd
  obtain ⟨hst, hdelta, hdiff, hlocks, hnow, hraised, hclock⟩ := returnLocked_spec (s.absorb jump) (s.accepted diff)
  rw [hcsu] at hdiff hlocks
  rw [returnAccept_met jump h hp hd hc]
  have hnowAt : (returnLocked (s.absorb jump) (s.accepted diff)).nowAt = (s.accepted diff).nowAt := congrArg startOf hnow
  refine ⟨hst, hdelta, hdiff, hlocks, hnow ▸ hfrom, ?_, hclock.mem.trans hmem, hclock.od.trans hod⟩
  rw [hnowAt]; exact hraised

theorem returnAccept_stays {diff : Int} (jump : Int) {seen : List (Int × Nat)} (h : s.csu.st = .ret) (hp : s.csu.present = true)
    (hd : diff.natAbs ≤ s.acceptance.1) (hc : (countRun s.withinLock (s.nat 0x2001 2) s.csu.run seen).2 = false) :
    let t := returnAccept jump diff seen s
    t.csu.st = .ret ∧ t.csu.delta = s.csu.delta ∧ t.csu.locks = s.csu.locks := by
  obtain ⟨hcsu, -⟩ := accepted_spec hd
  obtain ⟨c, hreturn⟩ := returnAccept_unmet jump h hp hd hc
  rw [hreturn, hcsu]
  exact ⟨h, rfl, rfl⟩

/-- The acceptance window in ppb and the acceptance time in ms (R117). -/
theorem acceptance_eq (s : State) : s.acceptance =
    (if s.csu.afterBypass then 1000 * s.csu.act.win else 2000, if s.csu.afterBypass then s.csu.act.qtime else 100) := by
  unfold State.acceptance
  split <;> rfl

end

/-- Settles O9: every row of R86's table is the equation of one function; what stands between is a change of CSU state and
events. -/
theorem lockStates : Obligations.lock_states := by
  unfold Obligations.lock_states
  refine ⟨fun s => ⟨fun d h hp hd => ⟨_, rfl, referenceQualified_acquires h hp hd⟩,
    fun d h hd => next_eq (referenceQualified_refused h hd), fun e n h hd he => ⟨fun hn => ?_, fun hn => ?_⟩,
    fun e n h he hn => next_eq (lockDeclared_unmet h (countRun_broken (withinLock_false he) hn)),
    fun h => ⟨_, rfl, acquireTimeout_spec h⟩, fun h => ⟨_, rfl, referenceLost_acquire_spec h⟩,
    fun h => ⟨_, rfl, referenceLost_ret_spec h⟩⟩, ?_, fun s => ⟨fun h => ⟨_, rfl, referencePresent_lull h⟩,
    fun h => next_eq (passToReturn_other h)⟩, fun s jump diff seen h hp => ?_⟩
  · exact ⟨_, rfl, lockDeclared_locks h hd he hn⟩
  · exact next_eq (lockDeclared_unmet h (countRun_short (withinLock_true he) hn))
  · rintro s c e n hl ha he hn (rfl | rfl)
    · have hleft : LeftLocked 1 (dropReference s) (leaveLocked 1 (dropReference s)) := leaveLocked_left 1 ha
      refine ⟨_, next_eq (referenceLost_locked hl), fun _ => ⟨hleft.present, hleft.qualified⟩, fun v hv => ?_, hleft.unheld,
        ⟨hleft.lost, hleft.lull, hleft.freerun⟩, hleft.frame⟩
      obtain ⟨hcode, hstart, hst⟩ := hleft.held v hv
      exact ⟨hcode, hstart, hst.trans (by simp [dropReference])⟩
    · have hbeyond : s.beyondUnlock e = true := decide_eq_true he
      have hmet := countRun_met hbeyond hn
      have hleft := leaveLocked_left 2 (s := { s with csu := { s.csu with run := s.csu.run + n } }) ha
      refine ⟨_, next_eq (unlockDeclared_met hl hmet), nofun, fun v hv => ?_, hleft.unheld,
        ⟨hleft.lost, hleft.lull, hleft.freerun⟩, hleft.frame⟩
      obtain ⟨hcode, hstart, hst⟩ := hleft.held v hv
      exact ⟨hcode, hstart, hst.trans (by simp)⟩
  · have hlimit := congrArg Prod.fst (acceptance_eq s)
    have hms := congrArg Prod.snd (acceptance_eq s)
    dsimp only at hlimit hms ⊢
    rw [← hlimit, ← hms]
    exact ⟨fun hd hc => ⟨_, rfl, returnAccept_locks jump h hp hd hc⟩, fun hd hc => ⟨_, rfl, returnAccept_stays jump h hp hd hc⟩,
      fun hd => next_eq (returnAccept_outside jump seen h hp hd)⟩

end Sys2Proof.Machine

/-!
SUPPORT. BYPASS: entry, lock and loss there, the way back, and the statement about it (spec 03, R85; spec 04, R107, R110, R123, R124).
-/
namespace Sys2Proof.Machine

section
variable {s : State}

/-! ## Entry (R107, R123, R124) -/

theorem enterBypass_spec (s : State) : let t := enterBypass s
    t.csu.st = .bypass ∧ t.csu.delta = 0 ∧ t.csu.bypclk = true ∧ t.csu.bypLocked = false ∧ t.time.count = s.time.count ∧
      Raised t s.nowAt 485 1 ∧ ClockOnly s t := by
  obtain ⟨h, hbypass⟩ : ∃ h, enterBypass s = { enterCsu .bypass { s with csu := { s.csu with hold := h, bypclk := true } } with
      csu := { (enterCsu .bypass { s with csu := { s.csu with hold := h, bypclk := true } }).csu with delta := 0 } }.raise 485 1 :=
    ⟨_, rfl⟩
  let u : State := { s with csu := { s.csu with hold := h, bypclk := true } }
  have hraised := raise_raised { enterCsu .bypass u with csu := { (enterCsu .bypass u).csu with delta := 0 } } 485 1 0
  have hnow : ({ enterCsu .bypass u with csu := { (enterCsu .bypass u).csu with delta := 0 } } : State).nowAt = s.nowAt :=
    congrArg startOf (enterCsu_count .bypass u)
  rw [hnow] at hraised
  rw [hbypass]
  refine ⟨by simp, by simp, by simp, by simp, by simp, hraised, ?_⟩
  exact ((ClockOnly.trans (by rfl) (enterCsu_clockOnly u (by decide))).csu _).raise _ _ _

/-- A frequency of BYPCLK within 0x2004:03 ppm of f_root / 8 (R123). -/
theorem bypclkOk_iff (f : Nat) : s.bypclkOk f = true ↔
    (16 * (f : Int) - s.csu.act.rootTwice).natAbs * 1000000 ≤ s.nat 0x2004 3 * s.csu.act.rootTwice := decide_eq_true_iff

theorem bypassEntry_enters {a : TE} {f : Nat} (ha : s.bypassAt = some a) (hf : s.bypclkOk f = true) : let t := bypassEntry f s
    t.csu.st = .bypass ∧ t.csu.delta = 0 ∧ t.csu.bypclk = true ∧ t.csu.bypLocked = false ∧ Raised t t.nowAt 485 1 ∧
      t.mem = s.mem ∧ t.od = s.od := by
  have ht : bypassEntry f s = enterBypass (s.reach a) := by simp only [bypassEntry, ha, hf, if_true]
  obtain ⟨hst, hdelta, hbypclk, hlocked, hcount, hraised, hclock⟩ := enterBypass_spec (s.reach a)
  have hnow : (enterBypass (s.reach a)).nowAt = (s.reach a).nowAt := congrArg startOf hcount
  rw [ht]
  refine ⟨hst, hdelta, hbypclk, hlocked, ?_, hclock.mem.trans (reach_mem s a), hclock.od.trans (reach_od s a)⟩
  rw [hnow]; exact hraised

theorem bypclkQualified_enters {a : TE} {f : Nat} (ha : s.bypassAt = some a) (hf : s.bypclkOk f = true) (hnow : a ≤ s.now) :
    bypclkQualified f s = enterBypass s := by
  simp only [bypclkQualified, ha, hf, hnow, if_true]

theorem bypclkQualified_waits {a : TE} {f : Nat} (ha : s.bypassAt = some a) (hf : s.bypclkOk f = true) (hnow : s.now < a) :
    bypclkQualified f s = { s with csu := { s.csu with bypclk := true } } := by
  simp only [bypclkQualified, ha, hf, Nat.not_le.mpr hnow, if_true, if_false]

theorem bypclkQualified_outside {f : Nat} (hf : s.bypclkOk f = false) :
    bypclkQualified f s = { s with csu := { s.csu with bypclk := false } } := if_neg (Bool.eq_false_iff.mp hf)

theorem bypassEntry_outside {a : TE} {f : Nat} (ha : s.bypassAt = some a) (hf : s.bypclkOk f = false) :
    bypassEntry f s = bypclkNotQualified s := by
  simp only [bypassEntry, ha, hf, Bool.false_eq_true, if_false]

theorem bypclkNotQualified_reports {a : TE} (ha : s.bypassAt = some a) (hn : s.csu.noBypass = false) : let t := bypclkNotQualified s
    t.csu = { s.csu with bypclk := false, noBypass := true } ∧ Raised t t.nowAt 485 3 ∧ t.mem = s.mem ∧ t.od = s.od := by
  let u : State := { s.reach a with csu := { s.csu with bypclk := false, noBypass := true } }
  have ht : bypclkNotQualified s = u.raise 485 3 := by
    simp only [bypclkNotQualified, ha, reach_csu, hn, Bool.false_eq_true, if_false]; rfl
  have hclock : ClockOnly u (u.raise 485 3) := ClockOnly.raise (by rfl) _ _ _
  rw [ht]
  refine ⟨raise_csu .., ?_, hclock.mem.trans (reach_mem s a), hclock.od.trans (reach_od s a)⟩
  rw [raise_nowAt]; exact raise_raised ..

/-! ## Lock, loss and the way back (R85, R107, R110) -/

theorem bypassLock_locks (x : Int) {seen : List (Int × Nat)} (h : s.csu.st = .bypass) (hl : s.csu.bypLocked = false)
    (hc : (countRun s.withinLock (s.nat 0x2001 2) s.csu.run seen).2 = true) : let t := bypassLock x seen s
    t.csu.bypLocked = true ∧ t.csu.st = .bypass ∧ t.csu.locks = s.csu.locks + 1 ∧
      Raised t s.nowAt 485 (2 + signedCode 24 (clampInt (-8388608) 8388607 x) * 2 ^ 8) ∧
      t = { s with csu := t.csu, merger := t.merger } := by
  let c : Csu := { s.csu with run := (countRun s.withinLock (s.nat 0x2001 2) s.csu.run seen).1 }
  let u : State := { s with csu := noteKind { noteKind c with bypLocked := true, locks := c.locks + 1 } }
  have ht : bypassLock x seen s = u.raise 485 (2 + signedCode 24 (clampInt (-8388608) 8388607 x) * 2 ^ 8) := by
    rw [bypassLock, if_pos ⟨h, by simp [hl]⟩]
    dsimp only
    rw [hc]; rfl
  rw [ht]
  refine ⟨by simp [u, noteKind], by simp [u, c, noteKind, h], by simp [u, c, noteKind], raise_raised u _ _ _, ?_⟩
  rw [raise_frame]

theorem temp0_csu (s : State) (c : Csu) : State.temp0 { s with csu := c } = s.temp0 := rfl

theorem bypclkLost_held {v : Nat} {tw : Int} (h : s.csu.st = .bypass) (hp : s.csu.present = false)
    (hv : s.csu.hold.fromBypass s.temp0 = some (v, tw)) : let t := bypclkLost s
    t.csu.bypclk = false ∧ t.csu.st = .lull ∧ t.csu.hold.code = v ∧ ClockOnly s t := by
  let u : State := { s with csu := { s.csu with bypclk := false, hold := s.csu.hold.take v tw 3 } }
  have hlost : bypclkLost s = passToReturn (lullEvent 3 3 (enterCsu .lull u)) := by
    refine (if_pos h).trans ?_
    simp only [temp0_csu, hv]
    rfl
  have hpass : passToReturn (lullEvent 3 3 (enterCsu .lull u)) = lullEvent 3 3 (enterCsu .lull u) := by
    rw [passToReturn, if_neg]
    rintro ⟨-, hpresent⟩
    rw [lullEvent_csu, enterCsu_present, hp] at hpresent
    exact Bool.false_ne_true hpresent
  rw [hlost, hpass]
  dsimp only
  rw [lullEvent_csu]
  refine ⟨enterCsu_bypclk .lull u, enterCsu_st .lull u, enterCsu_holdCode u (by decide), ?_⟩
  exact (ClockOnly.trans (by rfl) (enterCsu_clockOnly u (by decide))).raise _ _ _

theorem bypclkLost_unheld (h : s.csu.st = .bypass) (hv : s.csu.hold.fromBypass s.temp0 = none) : let t := bypclkLost s
    t.csu.bypclk = false ∧ t.csu.st = .freerun ∧ ClockOnly s t := by
  let u : State := { s with csu := { s.csu with bypclk := false, hold := { s.csu.hold with src := 2 } } }
  have hlost : bypclkLost s = lullEvent 3 2 (enterCsu .freerun u) := by
    refine (if_pos h).trans ?_
    simp only [temp0_csu, hv]
    rfl
  rw [hlost]
  dsimp only
  rw [lullEvent_csu]
  refine ⟨enterCsu_bypclk .freerun u, enterCsu_st .freerun u, ?_⟩
  exact (ClockOnly.trans (by rfl) (enterCsu_clockOnly u (by decide))).raise _ _ _

theorem bypassToReturn_spec (s : State) : let t := bypassToReturn s
    t.csu.st = .ret ∧ t.csu.qualified = s.csu.qualified ∧ t.csu.afterBypass = true ∧ Raised t t.nowAt 485 4 ∧ ClockOnly s t := by
  obtain ⟨h, hreturn⟩ : ∃ h, bypassToReturn s = (enterCsu .ret { s with csu := { s.csu with hold := h, afterBypass := true } }).raise 485 4 :=
    ⟨_, rfl⟩
  let u : State := { s with csu := { s.csu with hold := h, afterBypass := true } }
  rw [hreturn]
  refine ⟨by simp, by simp, by simp, ?_, ?_⟩
  · rw [raise_nowAt]; exact raise_raised ..
  · exact (ClockOnly.trans (by rfl) (enterCsu_clockOnly u (by decide))).raise _ _ _

theorem referenceQualified_returns {d : Int} (h : s.csu.st = .bypass) (hp : s.csu.present = true)
    (hd : d.natAbs ≤ 1000 * s.csu.act.win) : let t := referenceQualified d s
    t.csu.st = .ret ∧ t.csu.qualified = true ∧ t.csu.afterBypass = true ∧ Raised t t.nowAt 485 4 ∧ t.mem = s.mem ∧ t.od = s.od := by
  let u : State := { s.reach s.qualifiedFrom with csu := { (s.reach s.qualifiedFrom).csu with qualified := true } }
  have ht : referenceQualified d s = bypassToReturn u := by simp [referenceQualified, State.windowPpb, h, hp, hd, u]
  obtain ⟨hst, hqualified, hafter, hraised, hclock⟩ := bypassToReturn_spec u
  rw [ht]
  exact ⟨hst, hqualified, hafter, hraised, hclock.mem.trans (reach_mem s _), hclock.od.trans (reach_od s _)⟩

end

/-- Settles O10: entry is `enterBypass` in its T_E, or nothing with BYPCLK outside its window; lock, loss and return are one change of
the CSU each. -/
theorem bypass : Obligations.bypass := by
  unfold Obligations.bypass
  refine ⟨fun s a f ha => ?_, fun s h => ⟨fun x seen hl hc => ⟨_, rfl, bypassLock_locks x h hl hc⟩, fun hp => ?_,
    fun d hp hd => ⟨_, rfl, referenceQualified_returns h hp hd⟩⟩⟩
  · rw [← bypclkOk_iff]
    refine ⟨fun hf => ⟨_, rfl, bypassEntry_enters ha hf⟩, fun hf hnow => ?_,
      fun hf hnow => next_eq (bypclkQualified_waits ha hf hnow), fun hf => ?_, fun hn => ⟨_, rfl, bypclkNotQualified_reports ha hn⟩⟩
    · obtain ⟨hst, hdelta, -, -, -, hraised, hclock⟩ := enterBypass_spec s
      exact ⟨_, next_eq (bypclkQualified_enters ha hf hnow), hst, hdelta, hraised, hclock⟩
    · have hf' := Bool.eq_false_iff.mpr hf
      exact ⟨next_eq (bypclkQualified_outside hf'), next_eq (bypassEntry_outside ha hf')⟩
  · cases hv : s.csu.hold.fromBypass s.temp0 with
    | none =>
      obtain ⟨hbypclk, hst, hclock⟩ := bypclkLost_unheld h hv
      exact ⟨_, rfl, hbypclk, nofun, fun _ => hst, hclock⟩
    | some p =>
      obtain ⟨hbypclk, hst, hcode, hclock⟩ := bypclkLost_held h hp hv
      exact ⟨_, rfl, hbypclk, fun w hw => by cases hw; exact ⟨hst, hcode⟩, nofun, hclock⟩

end Sys2Proof.Machine

/-!
SUPPORT. The statement about an applied configuration and ALIGN (spec 02, R39, R41; spec 03, R91, R92), and a state that it does not
hold of.
-/
namespace Sys2Proof.Machine

/-- In IDLE with an ALIGN on the internal marker under way. The preset of 0x2202:01 names the last coarse count of the last epoch with
the fine code 3,200, which no write can store (R39): nothing in the statement rules that out. -/
def pastPreset : State := { State.reset with
  dev := { st := .idle }
  csu := { st := .aligning, present := true, align := some { accepted := 0, deadline := 1250000, marker := 0, startUp := false } }
  time := { count := 0, running := true }
  od := [(odKey 0x2202 1, .num ((2 ^ 52 - 1) * 4096 + 3200)), (odKey 0x2202 2, .num (2 ^ 32 - 1))] }

/-- The instant that the preset names lies in the T_E after the last of a turn of the count. -/
theorem pastPreset_instant : instantOf (pastPreset.nat 0x2202 2) (pastPreset.nat 0x2202 1) / 3200 = 2 ^ 84 := by decide +kernel

/-- At the marked edge the count begins a turn anew (R44, R92). -/
theorem markedEdge_pastPreset : (markedEdge [] pastPreset).time.count = 0 := by decide +kernel

/-- Refutes O11: the count takes its preset modulo the turn of epoch and coarse count, the statement the preset itself; with a fine
code past 3,199 in the last T_E of the turn they differ. -/
theorem not_configurationAndAlign : ¬ Obligations.configuration_and_align := by
  unfold Obligations.configuration_and_align
  rintro ⟨-, halign⟩
  obtain ⟨hedge, -⟩ := halign pastPreset _ rfl rfl
  obtain ⟨t, hstep, -, -, -, -, hcount, -⟩ := hedge [] 0 rfl rfl (.inl rfl)
  have ht : markedEdge [] pastPreset = t := Host.Outcome.next.inj hstep
  rw [← ht, markedEdge_pastPreset, pastPreset_instant] at hcount
  exact absurd hcount (by decide)

end Sys2Proof.Machine

/-!
SUPPORT. Actions on the phase offset, and the statement about them (spec 04, R119 to R122).
-/
namespace Sys2Proof.Machine

/-! ## A written action (R119, R122) -/

theorem stopAction_actionTime (s : State) : (stopAction s).actionTime = s.actionTime := rfl

/-- A granted write of 0x2006:03 stops what runs, Δ keeping what remains, and the new action waits for the first T_E that begins at or
after the named time. -/
theorem writeAction_granted {s : State} (r : Requester) (a : TE → CsuAction) {timed : Bool} (h : Admitted s 0x2006 3 .wo)
    (htimed : timed = true → s.actionTimeOk = true ∧ s.csu.st = .locked) :
    writeAction r a timed s = { s with
      csu := { s.csu with delta := s.deltaNow, action := a (teCeil s.actionTime) }
      answer := { status := 0, tide := 0, payload := [] } } := by
  have htime : (!timed || s.actionTimeOk) = true := by
    cases timed with
    | false => rw [Bool.not_false, Bool.true_or]
    | true => rw [(htimed rfl).1, Bool.or_true]
  have hlocked : (!timed || s.csu.st == .locked) = true := by
    cases timed with
    | false => rw [Bool.not_false, Bool.true_or]
    | true => rw [(htimed rfl).2, beq_self_eq_true, Bool.or_true]
  rw [writeAction, request_granted h (firstFail_need htime _) (firstFail_need hlocked _)]
  change State.ok { stopAction s with
    csu := { s.csu with delta := s.deltaNow, action := a (teCeil (stopAction s).actionTime) } } = _
  rw [stopAction_actionTime]
  rfl

/-! ## How far a slew has moved Δ (R120) -/

/-- After `slewLength` T_E a slew at a rate above 0 has removed all but 8 fu. -/
theorem le_slewMoved_of_slewLength_le {code n : Nat} {d : Int} (hcode : code ≠ 0) (hn : slewLength code d ≤ n) :
    d.natAbs - 8 ≤ slewMoved code n := by
  rw [slewLength, if_neg hcode] at hn
  have hpos : 0 < 32 * code := by omega
  have hceil : (d.natAbs - 8) * 100000 + (32 * code - 1) < (n + 1) * (32 * code) :=
    (Nat.div_lt_iff_lt_mul hpos).mp (Nat.lt_succ_of_le hn)
  have hmoved : (n + 1) * (32 * code) = code * n * 32 + 32 * code := by ring
  rw [slewMoved, Nat.le_div_iff_mul_le (by decide)]
  omega

/-- What remains of Δ while a slew runs. -/
theorem deltaNow_natAbs_of_slewing {s : State} {a : TE} {code : Nat} {d : Int} (ha : s.csu.action = .slewing a code d) :
    s.deltaNow.natAbs = d.natAbs - slewMoved code (s.now - a) := by
  have hdelta : s.deltaNow = d - d.sign * (min (slewMoved code (s.now - a)) d.natAbs : Nat) := by
    rw [State.deltaNow, ha]
  rw [hdelta]
  rcases lt_trichotomy d 0 with hd | rfl | hd
  · rw [Int.sign_eq_neg_one_of_neg hd]; omega
  · simp
  · rw [Int.sign_eq_one_of_pos hd]; omega

/-! ## A slew starts and ends (R120) -/

theorem phaseEvent_clockOnly (kind : Nat) (s : State) : ClockOnly s (phaseEvent kind s) := ClockOnly.raise (by rfl) _ _ _
theorem phaseEvent_now (kind : Nat) (s : State) : (phaseEvent kind s).now = s.now :=
  congrArg (fun t => t.count) (phaseEvent_time kind s)
theorem reach_now (s : State) (a : TE) : (s.reach a).now = max s.now a := reach_count s a

section
variable {s : State} {a : TE} {code : Nat}

/-- In LOCKED a slew starts at its T_E with the Δ of that moment; with Δ = 0 there is nothing to slew (R122). -/
theorem slewStart_spec (hst : s.csu.st = .locked) (ha : s.csu.action = .slewAt a code) : let t := slewStart s
    t.now = max s.now a ∧
    t.csu = { s.csu with action := if s.csu.delta = 0 then .none else .slewing t.now code s.csu.delta } ∧
    ClockOnly (s.reach a) t := by
  have hstart : ∃ kind c, slewStart s = phaseEvent kind { s.reach a with csu := c } ∧ c = { s.csu with
      action := if s.csu.delta = 0 then .none else .slewing (max s.now a) code s.csu.delta } := by
    simp only [slewStart, ha, reach_csu, hst, ne_eq, not_true_eq_false, if_false, reach_now]
    split
    · exact ⟨2, _, rfl, rfl⟩
    · exact ⟨1, _, rfl, rfl⟩
  obtain ⟨kind, c, ht, rfl⟩ := hstart
  have hnow : (slewStart s).now = max s.now a := by
    rw [ht, phaseEvent_now]
    exact reach_count s a
  refine ⟨hnow, ?_, ?_⟩
  · rw [hnow, ht, phaseEvent_csu]
  · rw [ht]
    exact .trans (by rfl) (phaseEvent_clockOnly ..)

/-- A slew that ends has run for its length, and has left no more than 8 fu of Δ. -/
theorem slewComplete_spec {d : Int} (ha : s.csu.action = .slewing a code d) :
    (slewComplete s).csu.action = .none ∧ a + slewLength code d ≤ (slewComplete s).now ∧
    (code ≠ 0 → (slewComplete s).csu.delta.natAbs ≤ 8) ∧ ClockOnly (s.reach (a + slewLength code d)) (slewComplete s) := by
  have hcomplete : slewComplete s = phaseEvent 2 (stopAction (s.reach (a + slewLength code d))) := by rw [slewComplete, ha]
  have hnow : a + slewLength code d ≤ (s.reach (a + slewLength code d)).now := by rw [reach_now]; exact le_max_right ..
  have haction : (s.reach (a + slewLength code d)).csu.action = .slewing a code d := by rw [reach_csu, ha]
  generalize s.reach (a + slewLength code d) = u at hcomplete hnow haction
  rw [hcomplete, phaseEvent_csu, phaseEvent_now]
  refine ⟨rfl, hnow, fun hcode => ?_, .trans (by rfl) (phaseEvent_clockOnly ..)⟩
  have hmoved := le_slewMoved_of_slewLength_le hcode (Nat.le_sub_of_add_le' hnow)
  have hleft : u.deltaNow.natAbs = d.natAbs - slewMoved code (u.now - a) := deltaNow_natAbs_of_slewing haction
  change u.deltaNow.natAbs ≤ 8
  omega

end

/-! ## A step (R121) -/

section
variable (s : State)

theorem bare_eq_csu {s t : State} (h : s.bare = t.bare) : s.csu = t.csu := congrArg (fun x => x.csu) h
theorem bare_eq_mem {s t : State} (h : s.bare = t.bare) : s.mem = t.mem := congrArg (fun x => x.mem) h
theorem bare_eq_od {s t : State} (h : s.bare = t.bare) : s.od = t.od := congrArg (fun x => x.od) h

theorem bare_abandonMeasurements : (abandonMeasurements s).bare = s.bare := by simp [abandonMeasurements]

/-- The commands that wait at a set change the device, with an event for one that is dropped (R414). -/
theorem commandsSet_frame (n : Nat) : ∃ d m, commandsSet n s = { s with dev := d, merger := m } := by
  unfold commandsSet
  extract_lets _ u _
  obtain ⟨d, hu⟩ : ∃ d, u = { s with dev := d } := by
    dsimp only [u]
    split
    · exact ⟨_, rfl⟩
    · exact ⟨_, rfl⟩
  clear_value u
  subst hu
  split
  · split
    · exact ⟨_, _, raise_frame ..⟩
    · exact ⟨_, _, rfl⟩
  · exact ⟨_, _, rfl⟩

/-- A step as a set leaves the CSU, the Saltern and the settings. -/
theorem stepAsSet_keeps : (stepAsSet s).csu = s.csu ∧ (stepAsSet s).mem = s.mem ∧ (stepAsSet s).od = s.od := by
  unfold stepAsSet
  extract_lets u first
  have hu : u.bare = s.bare := (bare_abandonMeasurements _).trans (bare_settle s)
  clear_value u first
  rw [← bare_eq_csu hu, ← bare_eq_mem hu, ← bare_eq_od hu]
  obtain ⟨d, m, hset⟩ := commandsSet_frame (anchorAll 3 u.nowAt _) first
  rw [hset]
  dsimp only
  rw [bare_eq_csu (bare_anchorAll ..), bare_eq_mem (bare_anchorAll ..), bare_eq_od (bare_anchorAll ..)]
  exact ⟨rfl, rfl, rfl⟩

variable {s} {a : TE}

/-- T_E a has come, and no action is pending or runs any more. -/
def State.withoutAction (s : State) (a : TE) : State := { s.reach a with csu := { s.csu with action := .none } }

theorem withoutAction_csu : (s.withoutAction a).csu = { s.csu with action := .none } := rfl
theorem withoutAction_mem : (s.withoutAction a).mem = s.mem := reach_mem s a
theorem withoutAction_od : (s.withoutAction a).od = s.od := reach_od s a

/-- In LOCKED a step with nothing to remove ends (R122). -/
theorem stepExecute_nothing (hst : s.csu.st = .locked) (ha : s.csu.action = .stepAt a) (hd : s.csu.delta = 0) :
    stepExecute s = phaseEvent 3 (s.withoutAction a) := by
  rw [stepExecute, ha]
  dsimp only
  rw [reach_csu, if_neg (not_not.mpr hst), if_pos hd, State.withoutAction]

/-- In LOCKED a step with a Δ to remove is a set of ZTIME without a jump, after which Δ is gone and the root periods held are shown:
Δ modulo the reference period. -/
theorem stepExecute_holds (hst : s.csu.st = .locked) (ha : s.csu.action = .stepAt a) (hd : s.csu.delta ≠ 0) : ∃ f,
    stepExecute s = phaseEvent 3 { stepAsSet (s.withoutAction a) with
      csu := { (stepAsSet (s.withoutAction a)).csu with
        delta := 0, lastHold := BitVec.ofNat 32 ((s.csu.delta % (s.csu.act.pref : Int)) / 400).toNat }
      fab := f } := by
  rw [stepExecute, ha, State.withoutAction]
  dsimp only
  rw [reach_csu, if_neg (not_not.mpr hst), if_neg hd]
  exact ⟨_, rfl⟩

/-- In LOCKED a step leaves no Δ and no action, and changes neither the Saltern nor the settings. -/
theorem stepExecute_spec (hst : s.csu.st = .locked) (ha : s.csu.action = .stepAt a) :
    (stepExecute s).csu.action = .none ∧ (stepExecute s).csu.delta = 0 ∧
    (s.csu.delta ≠ 0 →
      (stepExecute s).csu.lastHold = BitVec.ofNat 32 ((s.csu.delta % (s.csu.act.pref : Int)) / 400).toNat) ∧
    (stepExecute s).mem = s.mem ∧ (stepExecute s).od = s.od := by
  rw [← withoutAction_mem (s := s) (a := a), ← withoutAction_od (s := s) (a := a)]
  by_cases hd : s.csu.delta = 0
  · rw [stepExecute_nothing hst ha hd, phaseEvent_csu, (phaseEvent_clockOnly ..).mem, (phaseEvent_clockOnly ..).od, withoutAction_csu]
    exact ⟨rfl, hd, fun hn => absurd hd hn, rfl, rfl⟩
  · obtain ⟨f, ht⟩ := stepExecute_holds hst ha hd
    obtain ⟨hcsu, hmem, hod⟩ := stepAsSet_keeps (s.withoutAction a)
    rw [ht, phaseEvent_csu, (phaseEvent_clockOnly ..).mem, (phaseEvent_clockOnly ..).od]
    dsimp only
    rw [hcsu, hmem, hod]
    exact ⟨rfl, rfl, fun _ => rfl, rfl, rfl⟩

end

/-- Settles O12: a write is one granted request; a slew has moved Δ by its rate times its length, rounded up; a step's set leaves the
CSU. -/
theorem phaseActions : Obligations.phase_actions := by
  unfold Obligations.phase_actions
  refine ⟨fun s r h => ⟨?_, fun htime hst => ⟨?_, ?_⟩⟩, fun s a code hst => ⟨fun ha => ?_, fun ha => ?_, fun ha => ?_⟩⟩
  · exact next_eq (writeAction_granted r _ h nofun)
  · exact next_eq (writeAction_granted r _ h fun _ => ⟨htime, hst⟩)
  · exact next_eq (writeAction_granted r _ h fun _ => ⟨htime, hst⟩)
  · obtain ⟨hnow, hcsu, hclock⟩ := slewStart_spec hst ha
    exact ⟨_, rfl, hnow, hcsu, hclock.mem.trans (reach_mem s _), hclock.od.trans (reach_od s _)⟩
  · obtain ⟨haction, hnow, hdelta, hclock⟩ := slewComplete_spec ha
    exact ⟨_, rfl, haction, hnow, hdelta, hclock.mem.trans (reach_mem s _), hclock.od.trans (reach_od s _)⟩
  · exact ⟨_, rfl, stepExecute_spec hst ha⟩

end Sys2Proof.Machine

/-!
SUPPORT. An edge at an EXTTRIG ball, the statements about it (spec 05, R144; spec 12, R306), and a state that they do not hold of.
-/
namespace Sys2Proof.Machine

theorem bare_eq_pins {s t : State} (h : s.bare = t.bare) : s.pins = t.pins := congrArg (fun x => x.pins) h

/-- A new level goes into the trace of its ball; the triggers that it sends touch no ball (R144). -/
theorem exttrigEdge_ext {s : State} {b : Fin 4} {v : Bool} (k : Fin 8) (h : s.extSample b s.now ≠ v) :
    (exttrigEdge b v k s).pins.ext =
      upd s.pins.ext b (fun tr => traceTrim (tracePut false tr (s.now + 1) v) (s.now - keepTE)) := by
  rw [exttrigEdge, if_neg h]
  rw [bare_eq_pins (bare_deliverTriggers ..)]

/-- T_E 1,000 with a trace of ball 0 that is not newest first: nothing in the statements rules that out. -/
def crossedTrace : State := { State.reset with
  time := { count := 1000 }
  pins := { ext := upd State.reset.pins.ext 0 (fun _ => [(1001, false), (0, true), (500, false)]) } }

/-- The trace shows the ball low at the CLK_E edge that ends T_E 1,000. -/
theorem crossedTrace_low : crossedTrace.extSample 0 crossedTrace.now ≠ true := by decide +kernel

/-- After a rising edge it shows the ball low still: the entry of T_E 1,001 goes, the entry behind it is high, so none is added, and
the trim puts the entry of T_E 500, which lies in the kept span, before the high one of T_E 0, which does not. -/
theorem exttrigEdge_crossedTrace (k : Fin 8) : (exttrigEdge 0 true k crossedTrace).extSample 0 crossedTrace.now = false := by
  rw [State.extSample, exttrigEdge_ext k crossedTrace_low]
  decide +kernel

/-- Refutes O19: where the trace of a ball is not newest first, a new level is not what the ball is sampled with from the next CLK_E
edge on. -/
theorem not_exttrigAndConditions : ¬ Obligations.exttrig_and_conditions := by
  unfold Obligations.exttrig_and_conditions
  rintro ⟨hedge, -⟩
  obtain ⟨t, u, hstep, hsample, -, htriggers⟩ := (hedge crossedTrace 0 true 0).2 crossedTrace_low
  have ht : exttrigEdge 0 true 0 crossedTrace = t := Host.Outcome.next.inj hstep
  have hpins : t.pins = u.pins := htriggers ▸ bare_eq_pins (bare_deliverTriggers ..)
  have hlow := exttrigEdge_crossedTrace 0
  rw [ht, State.extSample, hpins] at hlow
  exact Bool.false_ne_true (hlow.symm.trans hsample)

/-- Refutes O55: of its clauses, that of EXTTRIG_EDGE fails where the trace of a ball is not newest first. -/
theorem not_dataPlaneCommandsComplete : ¬ Obligations.data_plane_commands_complete := by
  unfold Obligations.data_plane_commands_complete
  intro h
  obtain ⟨-, -, -, -, -, -, hedge, -⟩ := h crossedTrace ⟨.spi, 0, 1⟩
  obtain ⟨t, hstep, hsample⟩ := hedge 0 true 0 crossedTrace_low
  have ht : exttrigEdge 0 true 0 crossedTrace = t := Host.Outcome.next.inj hstep
  rw [← ht, exttrigEdge_crossedTrace] at hsample
  exact Bool.false_ne_true hsample

end Sys2Proof.Machine

/-!
SUPPORT. The instructions that write edges and level entries, and PANHINT, and the statement about them (spec 05, R128; spec 06, R168,
R175, R181, R186; spec 07, R193; spec 08, R220).
-/
namespace Sys2Proof.Machine

/-- Two changes of one unit are one. -/
theorem upd_upd {α : Type} {n : Nat} (v : Vector α n) (i : Fin n) (f g : α → α) : upd (upd v i f) i g = upd v i (fun a => g (f a)) := by
  simp [upd]

section
variable {s : State} {ch : Fin 64}

/-- An instruction that the sequencer fetches and has room for does in its issue T_E what it does (R165, R167). -/
theorem issue_issued {i : Instr} {n : Nat} {room : Bool} (body : TE → State → State) (h : Issues s ch i n) (hroom : room = true) :
    issue ch i room body s = body (s.issueAt ch) (issued s ch n) := by
  obtain ⟨hfetch, hready⟩ := h
  unfold issue
  rw [hfetch]
  exact if_pos ⟨rfl, hready, hroom⟩

theorem fifoRoom_of_le {n : Nat} (h : s.edge[ch].fifo.length + n ≤ 32) : s.fifoRoom ch n = true := decide_eq_true h

/-! ## EDGE, PULSE, BURST (R128, R175) -/

/-- Entries written to a channel's edge FIFO, with the cursor advanced to the last edge `y` where `adv` says so (R128, R175). -/
def entriesWritten (ch : Fin 64) (adv : Bool) (l : List FifoEntry) (y : Instant) (s : State) : State :=
  { s with
    edge := upd s.edge ch (fun g => { g with fifo := g.fifo ++ l })
    seq := if adv then upd s.seq ch (fun q => { q with cursor := max q.cursor y }) else s.seq }

theorem advanceTo_eq (adv : Bool) (x : Instant) (s : State) : advanceTo ch adv x s =
    { s with seq := if adv then upd s.seq ch (fun q => { q with cursor := max q.cursor x }) else s.seq } := by
  cases adv <;> rfl

theorem placeEdge_written (st : OutState) (base : TimeBase) (adv : Bool) (a : Nat) (i : TE) (s : State) :
    placeEdge ch st base adv a i s = entriesWritten ch adv [.edge (s.base ch base + a) st i] (s.base ch base + a) s :=
  advanceTo_eq ..

theorem placePulse_written (low : Bool) (base : TimeBase) (adv : Bool) (a w : Nat) (i : TE) (s : State) :
    placePulse ch low base adv a w i s = entriesWritten ch adv
      [.edge (s.base ch base + a) (if low then .low else .high) i, .edge (s.base ch base + a + w) (if low then .high else .low) i]
      (s.base ch base + a + w) s := by
  have hfirst : pulseState low false = if low then .low else .high := by cases low <;> rfl
  have hsecond : pulseState low true = if low then .high else .low := by cases low <;> rfl
  simp only [placePulse, advanceTo_eq, pushEntry, State.updEdge, upd_upd, List.append_assoc, List.singleton_append, hfirst, hsecond,
    entriesWritten]

theorem placeBurst_written (low : Bool) (base : TimeBase) (adv : Bool) (a n w p : Nat) (i : TE) (s : State) :
    placeBurst ch low base adv a n w p i s = entriesWritten ch adv [.train (s.base ch base + a) n p w low 0 false none i]
      (s.base ch base + a + (n - 1) * p + w) s :=
  advanceTo_eq ..

/-! ## LEVEL (R168, R181, R220) -/

/-- Lateness is counted in the sequencer; the entry joins the queue of its own driver (R168, R220). -/
theorem queueLevel_spec (tagged : Bool) (e : W32) (a : TE) (s : State) : let t := queueLevel ch tagged e a s
    t.drv[ch] = { s.drv[ch] with queue := s.drv[ch].queue ++
      [{ entry := e, tag := if tagged then some s.seq[ch].cursor else none, at_ := a }] } ∧
    (∀ k, k ≠ ch → t.drv[k] = s.drv[k]) ∧ t = { s with drv := t.drv, seq := t.seq } := by
  have hdrv : (queueLevel ch tagged e a s).drv = upd s.drv ch (fun d => { d with queue := d.queue ++
      [{ entry := e, tag := if tagged then some s.seq[ch].cursor else none, at_ := a }] }) := by
    unfold queueLevel
    dsimp only
    split <;> rfl
  refine ⟨?_, fun k hk => ?_, ?_⟩
  · rw [hdrv, upd_same_fin]
  · rw [hdrv, upd_other _ _ _ _ hk.symm]
  · unfold queueLevel
    dsimp only
    split <;> rfl

/-! ## PANHINT (R186, R193) -/

/-- Of the sequencers a PANHINT changes the pending Pans of its own; beside them only pager work and frames (R193, R194). -/
theorem hintPan_spec (p : Nat) (a : TE) (s : State) : let t := hintPan ch p a s
    t = { s with seq := t.seq, store := t.store } ∧ ∃ h, t.seq[ch] = { s.seq[ch] with pendHints := h } := by
  unfold hintPan
  dsimp only
  split
  · exact ⟨rfl, _, rfl⟩
  · have hseq : (s.updSeq ch (fun q => { q with pendHints := p :: (q.pendHints.erase p).take 2 })).seq[ch] =
        { s.seq[ch] with pendHints := p :: (s.seq[ch].pendHints.erase p).take 2 } := upd_same_fin ..
    split
    · exact ⟨rfl, _, hseq⟩
    · split
      · exact ⟨rfl, _, hseq⟩
      · split <;> exact ⟨rfl, _, hseq⟩

end

/-- Settles O29: each instruction is its body on the state in which it issues; what the bodies write is said function by function. -/
theorem edgeAndLevelInstructions : Obligations.edge_and_level_instructions := by
  unfold Obligations.edge_and_level_instructions
  refine ⟨fun s ch n base adv low st a k w p => ⟨fun h hroom => ?_, fun h hroom => ?_, fun h hroom => ?_⟩,
    fun s ch n tagged e h hfull => ?_, fun s ch n p h => ?_⟩
  · exact next_eq ((issue_issued _ h (fifoRoom_of_le hroom)).trans (placeEdge_written ..))
  · exact next_eq ((issue_issued _ h (fifoRoom_of_le hroom)).trans (placePulse_written ..))
  · exact next_eq ((issue_issued _ h (fifoRoom_of_le hroom)).trans (placeBurst_written ..))
  · exact ⟨_, next_eq (issue_issued _ h (by rw [hfull]; rfl)), queueLevel_spec ..⟩
  · exact ⟨_, next_eq (issue_issued _ h rfl), hintPan_spec ..⟩

end Sys2Proof.Machine

/-!
SUPPORT. Triggers of delay mode, and the statement about them (spec 05, R142 to R147).
-/
namespace Sys2Proof.Machine

section
variable {s : State} {ch : Fin 64}

/-! ## What a period boundary leaves (R297) -/

/-- A case of a summary event changes the merger alone. -/
theorem raiseSumAt_frame (s : State) (x : Instant) (source key : Nat) (first : W32) (again : W32 → W32) (flags : Nat) :
    s.raiseSumAt x source key first again flags = { s with merger := (s.raiseSumAt x source key first again flags).merger } := by
  unfold State.raiseSumAt
  cases s.dev.st with
  | boot | load => exact raiseAt_frame ..
  | idle | run | hold | safe => dsimp only; split <;> rfl

theorem releaseLatch_frame (ch : Fin 64) (a : TE) (s : State) : let t := releaseLatch ch a s
    t = { s with trip := t.trip, merger := t.merger } := by
  unfold releaseLatch
  dsimp only
  split
  · rw [tripReleaseEvent, raiseSumAt_frame]
    rfl
  · rfl

theorem periodActs_frame (ch : Fin 64) (a : TE) (s : State) : let t := periodActs ch a s
    t = { s with trip := t.trip, merger := t.merger } := by
  unfold periodActs
  split
  · split
    · rfl
    · exact releaseLatch_frame ..
  · rfl

/-- A period boundary concerns latches and their events, at once or when it is due. -/
theorem periodBoundary_frame (ch : Fin 64) (x : Instant) (s : State) : let t := periodBoundary ch x s
    t = { s with trip := t.trip, merger := t.merger, line := t.line } := by
  unfold periodBoundary
  dsimp only
  split
  · rw [periodActs_frame]
  · rfl

/-! ## The settings in force at an instant (R145) -/

/-- The state as its settings stood at an instant: those before the last boundary, where it lies before that. -/
def State.settingsAt (s : State) (x : Instant) : State :=
  { s with od := if x / 3200 < s.commits.priorEnd then s.commits.prior else s.od }

/-- What leaves the settings acts under those of the instant, and those in force stand as they were. -/
theorem asOf_eq {f : State → State} (hf : ∀ t, (f t).od = t.od) (x : Instant) (s : State) :
    s.asOf x f = { f (s.settingsAt x) with od := s.od } := by
  unfold State.asOf State.settingsAt teOf
  split
  · rfl
  · exact congrArg (fun o => ({ f s with od := o } : State)) (hf s)

theorem considerTrigger_delayMode {x : Instant} (h : (s.settingsAt x).nat (chIdx ch) 1 = 1) :
    considerTrigger ch x s = { delayModeTrigger ch x (s.settingsAt x) with od := s.od } := by
  rw [considerTrigger, asOf_eq]
  · rw [h]; rfl
  · intro t
    split
    · exact bare_eq_od (bare_delayModeTrigger ..)
    · exact bare_eq_od (bare_programModeTrigger ..)
    · rfl

/-! ## A trigger of delay mode (R147) -/

theorem delayModeTrigger_dropped (x : Instant) (h : s.dev.st ≠ .run ∨ s.on (chIdx ch) 2 = false) : delayModeTrigger ch x s = s := by
  rcases h with h | h <;> simp [delayModeTrigger, h]

theorem delayModeTrigger_sameCycle {x : Instant} (hrun : s.dev.st = .run) (hon : s.on (chIdx ch) 2 = true)
    (hcycle : s.delay[ch].lastCycle = some (x / 3200 / 2)) : delayModeTrigger ch x s = discardTrigger ch s := by
  unfold delayModeTrigger
  rw [hon, hrun]
  exact if_pos hcycle

theorem delayModeTrigger_newCycle {x : Instant} (hrun : s.dev.st = .run) (hon : s.on (chIdx ch) 2 = true)
    (hcycle : s.delay[ch].lastCycle ≠ some (x / 3200 / 2)) :
    delayModeTrigger ch x s = admitTrigger ch x (s.updDelay ch (fun d => { d with lastCycle := some (x / 3200 / 2) })) := by
  unfold delayModeTrigger
  rw [hon, hrun]
  exact if_neg hcycle

/-! ## Discarded (R147) -/

/-- A trigger is discarded and counted, and the delay logic alone knows of it. -/
structure Discards (ch : Fin 64) (s t : State) : Prop where
  discarded : t.delay[ch].discarded = s.delay[ch].discarded + 1
  accepted : t.delay[ch].accepted = s.delay[ch].accepted
  frame : t = { s with delay := t.delay }

/-- What is done under the settings of an instant discards where it does so under those in force. -/
theorem Discards.ofSettingsAt {x : Instant} {t : State} (h : Discards ch (s.settingsAt x) t) : Discards ch s { t with od := s.od } :=
  ⟨h.discarded, h.accepted, by rw [h.frame]; rfl⟩

/-- A discard counts beside whatever else the trigger changes in the channel's delay logic. -/
theorem discardTrigger_discards (f : Delay → Delay) (hdiscarded : ∀ d, (f d).discarded = d.discarded)
    (haccepted : ∀ d, (f d).accepted = d.accepted) : Discards ch s (discardTrigger ch (s.updDelay ch f)) := by
  refine ⟨?_, ?_, rfl⟩ <;> simp [discardTrigger, State.updDelay, hdiscarded, haccepted]

/-- A trigger within the hold-off, or with eight sequences pending, is discarded. -/
theorem admitTrigger_refused {x : Instant}
    (h : (∃ a, s.delay[ch].lastAcc = some a ∧ 0 < s.chDelta ch 0x0A ∧ x < a + s.chDelta ch 0x0A) ∨
      8 ≤ (s.delay[ch].pending.filter (fun q => q.pendingAt x)).length) :
    admitTrigger ch x s =
      discardTrigger ch (s.updDelay ch (fun d => { d with pending := s.delay[ch].pending.filter (fun q => q.pendingAt x) })) := by
  unfold admitTrigger
  rcases h with ⟨a, hlast, hpos, hbefore⟩ | hfull
  · simp only [hlast, hpos, hbefore, decide_true, Bool.and_self, if_true]
  · simp only [hfull, if_true, ite_self]

/-- The second trigger of a cycle, one within the hold-off and a ninth sequence are discarded (R147). -/
theorem delayModeTrigger_discards {x : Instant} (hrun : s.dev.st = .run) (hon : s.on (chIdx ch) 2 = true)
    (h : s.delay[ch].lastCycle = some (x / 3200 / 2) ∨
      (∃ a, s.delay[ch].lastAcc = some a ∧ 0 < s.chDelta ch 0x0A ∧ x < a + s.chDelta ch 0x0A) ∨
      8 ≤ (s.delay[ch].pending.filter (fun q => q.pendingAt x)).length) :
    Discards ch s (delayModeTrigger ch x s) := by
  by_cases hcycle : s.delay[ch].lastCycle = some (x / 3200 / 2)
  · rw [delayModeTrigger_sameCycle hrun hon hcycle]
    exact ⟨by simp [discardTrigger], by simp [discardTrigger], rfl⟩
  · rw [delayModeTrigger_newCycle hrun hon hcycle, admitTrigger_refused]
    · have h' := discardTrigger_discards (s := s) (ch := ch) (fun d => { d with
        lastCycle := some (x / 3200 / 2), pending := s.delay[ch].pending.filter (fun q => q.pendingAt x) })
        (fun _ => rfl) (fun _ => rfl)
      simpa [State.updDelay, upd_upd] using h'
    · simpa [State.chDelta, State.nat] using h.resolve_left hcycle

/-! ## Accepted (R145, R147, R148) -/

/-- A trigger is accepted: it is counted, its instant noted, and one train of pulses written. -/
theorem acceptTrigger_spec (x t0 : Instant) (s : State) : let t := acceptTrigger ch x t0 s
    t.delay[ch].accepted = s.delay[ch].accepted + 1 ∧ t.delay[ch].discarded = s.delay[ch].discarded ∧
    t.delay[ch].lastAcc = some x ∧ ∃ w, t.edge[ch].fifo = s.edge[ch].fifo ++
      [.train t0 (s.nat (chIdx ch) 7) (s.chDelta ch 8) (s.chDelta ch 5) (s.nat (chIdx ch) 6 == 1) 0 false none w] := by
  unfold acceptTrigger
  dsimp only
  rw [periodBoundary_frame]
  refine ⟨?_, ?_, ?_, min s.now (teOf t0 - 4), ?_⟩
  · simp [pushEntry]
  · simp [pushEntry]
  · simp [pushEntry]
  · exact congrArg EdgeEngine.fifo (upd_same_fin ..)

/-- With no sequence pending and no hold-off a trigger is accepted at its own instant. -/
theorem admitTrigger_free {x : Instant} (hpending : s.delay[ch].pending = []) (hhold : s.chDelta ch 0x0A = 0) :
    admitTrigger ch x s =
      acceptTrigger ch x (x + s.dIns ch + s.chDelta ch 4) (s.updDelay ch (fun d => { d with pending := [] })) := by
  unfold admitTrigger
  dsimp only
  rw [hpending, hhold]
  rfl

/-- The first trigger of its cycle is accepted where nothing is pending and no hold-off is set. -/
theorem delayModeTrigger_accepts {x : Instant} (hrun : s.dev.st = .run) (hon : s.on (chIdx ch) 2 = true)
    (hcycle : s.delay[ch].lastCycle ≠ some (x / 3200 / 2)) (hpending : s.delay[ch].pending = []) (hhold : s.chDelta ch 0x0A = 0) :
    let t := delayModeTrigger ch x s
    t.delay[ch].accepted = s.delay[ch].accepted + 1 ∧ t.delay[ch].discarded = s.delay[ch].discarded ∧
    t.delay[ch].lastAcc = some x ∧ ∃ w, t.edge[ch].fifo = s.edge[ch].fifo ++ [.train (x + s.dIns ch + s.chDelta ch 4)
      (s.nat (chIdx ch) 7) (s.chDelta ch 8) (s.chDelta ch 5) (s.nat (chIdx ch) 6 == 1) 0 false none w] := by
  rw [delayModeTrigger_newCycle hrun hon hcycle, admitTrigger_free]
  · obtain ⟨haccepted, hdiscarded, hlast, hfifo⟩ := acceptTrigger_spec (ch := ch) x (x + s.dIns ch + s.chDelta ch 4)
      ((s.updDelay ch (fun d => { d with lastCycle := some (x / 3200 / 2) })).updDelay ch (fun d => { d with pending := [] }))
    simp only [updDelay_delay, upd_same_fin] at haccepted hdiscarded
    exact ⟨haccepted, hdiscarded, hlast, hfifo⟩
  · simpa using hpending
  · exact hhold

/-! ## Triggers on their way (R144, R147) -/

theorem hostFire_sends (r : Requester) (h : Admitted s (chIdx ch) 0x0B .wo) (hsource : s.source ch / 2 ^ 24 = 9) :
    hostFire r ch s = { sendTrigger (s.time.count * 3200) ch s with answer := granted0 } := by
  unfold hostFire
  rw [request_granted h rfl (by rw [decide_eq_true hsource]; rfl)]
  rfl

theorem delayTrigger_considers {x : Instant} (h : firstTransit s.delay[ch] = some x) : delayTrigger ch s =
    considerTrigger ch x ((s.reach (x / 3200)).updDelay ch (fun d => { d with transit := d.transit.erase x })) := by
  unfold delayTrigger
  rw [h]
  rfl

/-- The first trigger on its way is the earliest. -/
theorem firstTransit_spec {d : Delay} {x : Instant} (h : firstTransit d = some x) : x ∈ d.transit ∧ ∀ y ∈ d.transit, x ≤ y :=
  List.min?_eq_some_iff.mp h

end

/-- Settles O24: what is considered acts under the settings of its instant, and there it is dropped, discarded or accepted. -/
theorem delayTriggers : Obligations.delay_triggers := by
  unfold Obligations.delay_triggers
  refine ⟨fun s r ch h hsource => next_eq (hostFire_sends r h hsource), fun s ch x hmode hon hrun hcycle hpending hhold => ?_,
    fun s ch x hmode => ?_, fun s ch x h => ?_⟩
  · rw [considerTrigger_delayMode hmode]
    exact delayModeTrigger_accepts (s := s.settingsAt x) hrun hon hcycle hpending hhold
  · rw [considerTrigger_delayMode hmode]
    refine ⟨fun h => ?_, fun hrun hon h => ?_⟩
    · rw [delayModeTrigger_dropped x h]
      rfl
    · obtain ⟨hdiscarded, haccepted, hframe⟩ := (delayModeTrigger_discards (s := s.settingsAt x) hrun hon h).ofSettingsAt
      exact ⟨hdiscarded, haccepted, (congrArg State.edge hframe :), hframe⟩
  · obtain ⟨hmem, hleast⟩ := firstTransit_spec h
    exact ⟨hmem, hleast, next_eq (delayTrigger_considers h)⟩

end Sys2Proof.Machine

/-!
SUPPORT. Time that passes leaves the calibration of the stamp inputs (spec 09, R236 to R255; spec 10, R257 to R271): what is due of the
data plane changes their FIFOs and counts alone. The lemmas follow those of the bare state, which blanks the inputs.
-/
namespace Sys2Proof.Machine

/-- The calibrations of the stamp inputs. -/
def State.cals (s : State) : Vector LineCal 32 := s.sti.map StampInput.cal

theorem cals_get {s t : State} (h : s.cals = t.cals) (i : Fin 32) : s.sti[i].cal = t.sti[i].cal := by
  simpa [State.cals] using congrArg (fun v : Vector LineCal 32 => v[i]) h

section
variable (s : State)

/-- A change of an input that keeps its calibration. -/
theorem cals_updSti (i : Fin 32) {f : StampInput → StampInput} (h : ∀ u, (f u).cal = u.cal) : (s.updSti i f).cals = s.cals := by
  refine Vector.ext fun k hk => ?_
  by_cases hi : i.val = k
  · subst hi
    simp [State.cals, h]
  · simp [State.cals, upd, hi]

@[simp] theorem cals_updEdge (i : Fin 64) (f : EdgeEngine → EdgeEngine) : (s.updEdge i f).cals = s.cals := rfl
@[simp] theorem cals_updDelay (i : Fin 64) (f : Delay → Delay) : (s.updDelay i f).cals = s.cals := rfl
@[simp] theorem cals_updTrip (i : Fin 64) (f : TripLatch → TripLatch) : (s.updTrip i f).cals = s.cals := rfl
@[simp] theorem cals_updStore (i : Fin 4) (f : Store → Store) : (s.updStore i f).cals = s.cals := rfl
@[simp] theorem cals_updGrp (i : Fin 32) (f : Group → Group) : (s.updGrp i f).cals = s.cals := rfl
@[simp] theorem cals_updStat (i : Fin 32) (f : StatRun → StatRun) : (s.updStat i f).cals = s.cals := rfl
@[simp] theorem cals_updMon (i : Fin 32) (f : Monitor → Monitor) : (s.updMon i f).cals = s.cals := rfl
@[simp] theorem cals_updXbar (i : Fin 4) (f : Crossbar → Crossbar) : (s.updXbar i f).cals = s.cals := rfl
@[simp] theorem cals_updTrig (i : Fin 4) (f : TrigEngine → TrigEngine) : (s.updTrig i f).cals = s.cals := rfl
@[simp] theorem cals_updCap (i : Fin 4) (f : Capture → Capture) : (s.updCap i f).cals = s.cals := rfl
@[simp] theorem cals_updSender (i : Fin 32) (f : Egress → Egress) : (s.updSender i f).cals = s.cals := rfl
@[simp] theorem cals_line (l : List (TE × LineDue)) : ({ s with line := l } : State).cals = s.cals := rfl
@[simp] theorem cals_fab (f : Fabric) : ({ s with fab := f } : State).cals = s.cals := rfl

@[simp] theorem cals_ite (c : Prop) [Decidable c] (s t : State) : (if c then s else t).cals = if c then s.cals else t.cals :=
  apply_ite State.cals c s t

@[simp] theorem cals_each {α : Type} {f : α → State → State} (h : ∀ a t, (f a t).cals = t.cals) (l : List α) :
    (each l f s).cals = s.cals := by
  unfold each
  induction l generalizing s with
  | nil => rfl
  | cons a rest ih => rw [List.foldl_cons, ih, h]

theorem cals_asOf {f : State → State} (h : ∀ t, (f t).cals = t.cals) (x : Instant) : (s.asOf x f).cals = s.cals := by
  unfold State.asOf
  split
  · exact h { s with od := s.commits.prior }
  · exact h s

/-! ## Events and ECC words -/

@[simp] theorem cals_raiseAt (x : Instant) (source : Nat) (d : W32) (flags : Nat) : (s.raiseAt x source d flags).cals = s.cals := by
  rw [raiseAt_frame]; rfl

@[simp] theorem cals_raiseSumAt (x : Instant) (source key : Nat) (first : W32) (again : W32 → W32) (flags : Nat) :
    (s.raiseSumAt x source key first again flags).cals = s.cals := by
  rw [raiseSumAt_frame]; rfl

@[simp] theorem cals_raiseCountAt (x : Instant) (source key low flags : Nat) : (s.raiseCountAt x source key low flags).cals = s.cals :=
  cals_raiseSumAt ..

@[simp] theorem cals_wordWritten (w : MemWord) : (s.wordWritten w).cals = s.cals := by
  unfold State.wordWritten State.wordsWritten State.inject
  split <;> rfl

/-! ## Triggers and captures -/

@[simp] theorem cals_addDue (l : List (TE × LineDue)) : (addDue l s).cals = s.cals := rfl

@[simp] theorem cals_storeOne (cl : Fin 4) (r : W128) : (storeOne cl r s).cals = s.cals := by simp [storeOne]

@[simp] theorem cals_loseAtQueue (cl : Fin 4) (code n : Nat) (x : Instant) (lull : Bool) :
    (loseAtQueue cl code n x lull s).cals = s.cals := by simp [loseAtQueue, loseRecords]

@[simp] theorem cals_presentTrigger (cl : Fin 4) (c : Nat) (mask : W16) (f : TE) : (presentTrigger cl c mask f s).cals = s.cals := by
  simp [presentTrigger]

@[simp] theorem cals_dropFire (cl : Fin 4) : (dropFire cl s).cals = s.cals := by
  unfold dropFire
  split
  · simp
  · rfl

@[simp] theorem cals_endStoring (cl : Fin 4) (extra : BitVec 8) (t : TE) : (endStoring cl extra t s).cals = s.cals := by
  unfold endStoring
  dsimp only
  split <;> simp [finishChain, captureDone]

@[simp] theorem cals_violate (cl : Fin 4) (v : TE) (test cause : Nat) : (violate cl v test cause s).cals = s.cals := by
  simp [violate]

@[simp] theorem cals_deliverTriggers (e : TrigEv) (x : Instant) : (deliverTriggers e x s).cals = s.cals := by
  unfold deliverTriggers
  split
  · exact cals_asOf s (fun t => cals_each t (fun _ _ => by simp [sendTrigger]) _) x
  · exact cals_each s (fun _ _ => by rfl) _

@[simp] theorem cals_sendCodes (e : TrigEv) (cl : Fin 4) (c : TE) : (sendCodes e cl c s).cals = s.cals :=
  cals_each s (fun _ _ => by simp [sendCode, loseEgress]) _

/-! ## Stamps and groups -/

@[simp] theorem cals_pushFifo (i : Fin 32) (e : StampEntry) (kind n : Nat) (t : TE) : (pushFifo i e kind n t s).cals = s.cals := by
  simp [pushFifo, cals_updSti]

@[simp] theorem cals_formInterval (g : Fin 32) (m : Measurement) (hit : Nat) (value : Int) (timeout : Bool) (v : TE) :
    (formInterval g m hit value timeout v s).cals = s.cals := by simp [formInterval, intervalTest]

@[simp] theorem cals_decideStop (g inp : Fin 32) (x : Instant) (seq : W16) (taken : Bool) (d : TE) :
    (decideStop g inp x seq taken d s).cals = s.cals := by simp [decideStop, cals_updSti]

@[simp] theorem cals_judgeGroup (x : Instant) (g : Fin 32) : (judgeGroup x g s).cals = s.cals := by simp [judgeGroup, judgeSpan]

@[simp] theorem cals_deliverStamp (i : Fin 32) (x : Instant) (rising : Bool) (seq : W16) (gen : BitVec 4) :
    (deliverStamp i x rising seq gen s).cals = s.cals := by
  unfold deliverStamp
  dsimp only
  rw [cals_ite, cals_addDue, cals_each]
  · simp
  · exact fun _ _ => rfl

@[simp] theorem cals_takeEdge (i : Fin 32) (rising : Bool) (x : Instant) : (takeEdge i rising x s).cals = s.cals := by
  simp [takeEdge, cals_updSti, cals_asOf]

@[simp] theorem cals_doDue (p : TE × LineDue) : (doDue p s).cals = s.cals := by
  unfold doDue
  cases p.2 <;> simp

/-! ## Trips and monitors -/

@[simp] theorem cals_tripRenamed (ch : Fin 64) (src : Nat) (was tj : TE) : (tripRenamed ch src was tj s).cals = s.cals := by
  unfold tripRenamed
  dsimp only
  split <;> rfl

@[simp] theorem cals_setLatches (src : Nat) (t : TE) (chs : List (Fin 64)) : (setLatches src t chs s).cals = s.cals :=
  cals_each s (fun _ _ => by simp [setLatch, tripSetEvent]) _

@[simp] theorem cals_assertTrip (src : Nat) (t : TE) : (assertTrip src t s).cals = s.cals := by
  unfold assertTrip
  dsimp only
  split <;> simp

@[simp] theorem cals_periodActs (ch : Fin 64) (t : TE) : (periodActs ch t s).cals = s.cals := by rw [periodActs_frame]; rfl

@[simp] theorem cals_clearActs (ch : Fin 64) (t : TE) : (clearActs ch t s).cals = s.cals := by
  simp [clearActs, releaseLatch, tripReleaseEvent]

@[simp] theorem cals_followAssert (wm : Fin 32) (t : TE) : (followAssert wm t s).cals = s.cals := by simp [followAssert]

@[simp] theorem cals_syncClass (wm : Fin 32) (t : TE) (c : Classn) : (syncClass wm t c s).cals = s.cals := by
  simp [syncClass, monitorTest]

@[simp] theorem cals_settleMon (a : TE) (wm : Fin 32) : (settleMon a wm s).cals = s.cals := by simp [settleMon, applyDue]

@[simp] theorem cals_doLate (p : TE × LineDue) : (doLate p s).cals = s.cals := by
  unfold doLate
  cases p.2 <;> simp [remoteArrives, swapPath, swapNow]

/-! ## Settling -/

@[simp] theorem cals_settleAt (t : TE) : (settleAt t s).cals = s.cals := by simp [settleAt, settleLate, settleLine]

theorem cals_settleBy (fuel : Nat) : (settleBy fuel s).cals = s.cals := by
  induction fuel generalizing s with
  | zero => rfl
  | succ fuel ih =>
    have hjudged : (judgeGroups s).cals = s.cals := by simp [judgeGroups]
    unfold settleBy
    dsimp only
    split
    · exact hjudged
    · rw [ih, cals_settleAt, hjudged]

theorem cals_reach (a : TE) : (s.reach a).cals = s.cals := cals_settleBy (s.arrive a) _

end

end Sys2Proof.Machine

/-!
SUPPORT. Sweeps and collections, how they end, and the statement about them (spec 05, R137, R151; spec 10, R258 to R265).
-/
namespace Sys2Proof.Machine

/-! ## Sweeps (R137, R151) -/

theorem chunks_eq (w n : Nat) (b : List Byte) : chunks w n b = (List.range n).map (fun i => ofBytes ((b.drop (w * i)).take w)) := by
  induction n generalizing b with
  | zero => rfl
  | succ n ih => simp [chunks, ih, List.range_succ_eq_map, Nat.mul_add, Nat.add_comm]

/-- A correction table of permitted entries, complete (R134, R137). -/
theorem correctionTable_iff (b : List Byte) : (b.length = 12800 && (chunks 4 3200 b).all correctionOk) = true ↔
    b.length = 12800 ∧ ∀ i, i < 3200 → correctionOk (ofBytes ((b.drop (4 * i)).take 4)) = true := by
  simp [chunks_eq]

section
variable {s : State} {ch : Fin 64}

theorem sweepComplete_whole {k : Nat} (h : s.edge[ch].sweeping = some k) {b : List Byte}
    (hb : (b.length = 12800 && (chunks 4 3200 b).all correctionOk) = true) :
    sweepComplete ch (some b) s = s.updEdge ch (fun g => { g with sweeping := none, newTable := some (b, k) }) := by
  unfold sweepComplete
  rw [h, Option.filter_some, if_pos hb]

theorem sweepComplete_broken {k : Nat} (h : s.edge[ch].sweeping = some k) {o : Option (List Byte)}
    (ho : ∀ b, o = some b → ¬ (b.length = 12800 && (chunks 4 3200 b).all correctionOk) = true) :
    sweepComplete ch o s = driftEvent ch (2 ^ 17) (s.updEdge ch (fun g => { g with sweeping := none })) := by
  unfold sweepComplete
  rw [h, Option.filter_eq_none_iff.mpr ho]

/-- A sweep without its table is reported and leaves the rest of its channel (R151). -/
theorem driftEvent_spec (s : State) : let t := driftEvent ch (2 ^ 17) (s.updEdge ch (fun g => { g with sweeping := none }))
    t.edge[ch] = { s.edge[ch] with sweeping := none } ∧
    Raised t s.nowAt (ch.val * 4 + 3) (signedCode 16 (clampInt (-32768) 32767 s.edge[ch].liveErr) + 2 ^ 17) ∧
    (∀ j, j ≠ ch → t.edge[j] = s.edge[j]) ∧ t = { s with edge := t.edge, merger := t.merger } := by
  have hedge : (driftEvent ch (2 ^ 17) (s.updEdge ch (fun g => { g with sweeping := none }))).edge =
      upd s.edge ch (fun g => { g with sweeping := none }) := by rw [driftEvent, raise_frame]; rfl
  refine ⟨?_, ?_, fun j hj => ?_, ?_⟩
  · rw [hedge, upd_same_fin]
  · have hlive : (s.updEdge ch (fun g => { g with sweeping := none })).edge[ch].liveErr = s.edge[ch].liveErr := by simp
    rw [driftEvent, hlive]
    exact raise_raised (s.updEdge ch (fun g => { g with sweeping := none })) _ _ _
  · rw [hedge, upd_other _ _ _ _ hj.symm]
  · rw [driftEvent, raise_frame]
    rfl

/-! ## The calibration of a unit -/

theorem cal_updCal (u : CalUnit) (f : LineCal → LineCal) (s : State) : (s.updCal u f).cal u = f (s.cal u) := by
  cases u with
  | input i => simp [State.updCal, State.cal]
  | slice k => simp [State.updCal, State.cal, upd]

/-- What counts in a Drizzle leaves the calibrations. -/
theorem cal_updDrz (u : CalUnit) (k : Fin 4) {f : Drizzle → Drizzle} (h : ∀ d, (f d).slices = d.slices) (s : State) :
    (s.updDrz k f).cal u = s.cal u := by
  cases u with
  | input i => rfl
  | slice n =>
    by_cases hk : k = clusterOfSlice n
    · subst hk
      simp [State.cal, h]
    · simp [State.cal, upd_other _ _ _ _ hk]

theorem updDrz_failed (i k : Fin 4) {f : Drizzle → Drizzle} (h : ∀ d, (f d).failed = d.failed) (s : State) :
    (s.updDrz i f).drz[k].failed = s.drz[k].failed := by
  by_cases hk : i = k
  · subst hk
    simp [h]
  · rw [updDrz_drz, upd_other _ _ _ _ hk]

theorem updCal_failed (u : CalUnit) (f : LineCal → LineCal) (s : State) (k : Fin 4) : (s.updCal u f).drz[k].failed = s.drz[k].failed := by
  cases u with
  | input i => rfl
  | slice n => exact updDrz_failed _ _ (fun _ => by rfl) s

theorem updCal_frame (u : CalUnit) (f : LineCal → LineCal) (s : State) :
    s.updCal u f = { s with sti := (s.updCal u f).sti, drz := (s.updCal u f).drz } := by cases u <;> rfl

theorem uncounted_frame (u : CalUnit) (s : State) : let t := uncounted u s
    t = { s with drz := t.drz, free := t.free } := by
  unfold uncounted
  split <;> rfl

theorem uncounted_cal (u : CalUnit) (s : State) : (uncounted u s).cal u = s.cal u := by
  unfold uncounted
  split
  · exact cal_updDrz u (unitCluster u) (f := fun z => { z with
      hits := z.hits + BitVec.ofNat 64 (Config.drizzleHits s.fresh.1 % 2 ^ (s.cal u).calTarget) }) (fun _ => rfl) s.fresh.2
  · rfl

/-! ## The commanded calibration of an input (R263) -/

theorem abandonStep_step {u : CalUnit} (h : (s.cal u).calState ≠ 5) : abandonStep u s =
    (uncounted u s).updCal u (fun c => { c with calState := 0, busy := false, newLines := [] }) := if_neg h

/-- An input without a raw collection that runs gives up what it has under way and takes its lines out of service. -/
theorem commandedCalibration_enters (r : Requester) {i : Fin 32} (h : Admitted s (inIdx i) 0x12 .wo)
    (hoff : s.onOrStaged (inIdx i) 1 = false) (hraw : s.sti[i].cal.calState ≠ 5) : commandedCalibration r i s =
      (enterRaw 6 (s.nat (inIdx i) 0x13) (.input i) ((uncounted (.input i) s).updCal (.input i)
        (fun c => { c with calState := 0, busy := false, newLines := [] }))).ok := by
  unfold commandedCalibration
  rw [request_granted h rfl (by rw [hoff, bne_iff_ne.mpr hraw]; rfl), abandonStep_step (u := .input i) hraw]

theorem commandedCalibration_spec (r : Requester) {i : Fin 32} (h : Admitted s (inIdx i) 0x12 .wo)
    (hoff : s.onOrStaged (inIdx i) 1 = false) (hraw : s.sti[i].cal.calState ≠ 5) : let t := commandedCalibration r i s
    t.answer = granted0 ∧ t.sti[i].cal = { s.sti[i].cal with
      calState := 5, calSince := s.now, calOrigin := 6, calTarget := s.nat (inIdx i) 0x13, busy := true, newLines := [] } ∧
    (∀ k, k ≠ i → t.sti[k] = s.sti[k]) ∧ t = { s with sti := t.sti, answer := t.answer, drz := t.drz, free := t.free } := by
  rw [commandedCalibration_enters r h hoff hraw, uncounted_frame]
  refine ⟨rfl, ?_, fun k hk => ?_, rfl⟩
  · simp [enterRaw, State.updCal, State.ok, State.reply, State.now]
  · simp [enterRaw, State.updCal, State.ok, State.reply, upd_other _ _ _ _ hk.symm]

/-! ## A collection that fails (R265) -/

@[simp] theorem raise_mem (n d f : Nat) (s : State) : (s.raise n d f).mem = s.mem := raiseAt_mem ..
@[simp] theorem raise_od (n d f : Nat) (s : State) : (s.raise n d f).od = s.od := congrArg (fun x => x.od) (bare_raise s n d f)
@[simp] theorem raise_sti (n d f : Nat) (s : State) : (s.raise n d f).sti = s.sti := by rw [raise_frame]
@[simp] theorem raise_drz (n d f : Nat) (s : State) : (s.raise n d f).drz = s.drz := by rw [raise_frame]

theorem cal_raise (u : CalUnit) (n d f : Nat) (s : State) : (s.raise n d f).cal u = s.cal u := by cases u <;> simp [State.cal]

/-- What a failed collection of a unit reads and keeps: its calibration, the counts of failures, memory and settings. -/
structure SameUnit (u : CalUnit) (s t : State) : Prop where
  cal : t.cal u = s.cal u
  failed : ∀ k : Fin 4, t.drz[k].failed = s.drz[k].failed
  mem : t.mem = s.mem
  od : t.od = s.od

/-- A unit's collection that stood in `s` has ended in `t` without a result: its lines are back with their centres, the failure is
counted with its reason and line, and reported (R265). -/
def CollectionFailed (u : CalUnit) (s t : State) (reason line : Nat) : Prop :=
  (t.cal u).busy = false ∧ (t.cal u).calState = 0 ∧ (t.cal u).newLines = (s.cal u).newLines ∧ (t.cal u).done = (s.cal u).done ∧
  t.mem = s.mem ∧ t.od = s.od ∧ match u with
  | .input i => t.sti[i].cal.failed = (s.cal u).failed + 1 ∧ t.sti[i].cal.lastFail = BitVec.ofNat 32 (reason + line * 2 ^ 8) ∧
      Raised t t.nowAt 495 (5 + i.val * 2 ^ 4 + reason * 2 ^ 10)
  | .slice k => t.drz[clusterOfSlice k].failed = s.drz[clusterOfSlice k].failed + 1 ∧
      t.drz[clusterOfSlice k].lastFail = BitVec.ofNat 32 (reason + line * 2 ^ 8 + k.val % 2 * 2 ^ 10) ∧
      Raised t t.nowAt 495 (5 + k.val * 2 ^ 4 + 2 ^ 9 + reason * 2 ^ 10)

/-- The state in which a failure is counted: start-up notes it in the boot status, and the lines are back (R265, R434). -/
def linesBack (u : CalUnit) (s : State) : State :=
  (if (s.cal u).calOrigin = 1 then { s with boot := { s.boot with status := s.boot.status ||| 4 } } else s).updCal u
    (fun c => { c with calState := 0, busy := false })

theorem linesBack_cal (u : CalUnit) (s : State) : (linesBack u s).cal u = { s.cal u with calState := 0, busy := false } := by
  rw [linesBack, cal_updCal]
  split <;> rfl

theorem linesBack_failed (u : CalUnit) (s : State) (k : Fin 4) : (linesBack u s).drz[k].failed = s.drz[k].failed := by
  rw [linesBack, updCal_failed]
  split <;> rfl

theorem linesBack_frame (u : CalUnit) (s : State) : let t := linesBack u s
    t = { s with sti := t.sti, drz := t.drz, boot := t.boot } := by
  rw [linesBack, updCal_frame]
  split <;> rfl

theorem failCollection_input (i : Fin 32) (reason line : Nat) (s : State) : failCollection (.input i) reason line s =
    ((linesBack (.input i) s).updCal (.input i) (fun c => { c with
      failed := c.failed + 1, lastFail := BitVec.ofNat 32 (reason + line * 2 ^ 8) })).raise 495 (5 + i.val * 2 ^ 4 + reason * 2 ^ 10) := rfl

theorem failCollection_slice (k : Fin 8) (reason line : Nat) (s : State) : failCollection (.slice k) reason line s =
    ((linesBack (.slice k) s).updDrz (clusterOfSlice k) (fun d => { d with
      failed := d.failed + 1, lastFail := BitVec.ofNat 32 (reason + line * 2 ^ 8 + k.val % 2 * 2 ^ 10) })).raise
      495 (5 + k.val * 2 ^ 4 + 2 ^ 9 + reason * 2 ^ 10) := rfl

theorem failCollection_frame (u : CalUnit) (reason line : Nat) (s : State) : let t := failCollection u reason line s
    t = { s with sti := t.sti, drz := t.drz, boot := t.boot, merger := t.merger } := by
  cases u with
  | input i => rw [failCollection_input, raise_frame, updCal_frame, linesBack_frame]
  | slice k => rw [failCollection_slice, raise_frame, linesBack_frame]; rfl

/-- The lines of a collection that failed are back, its result is none; a failure of an input is counted with it (R265). -/
theorem failCollection_cal (u : CalUnit) (reason line : Nat) (s : State) : ∃ n d, (failCollection u reason line s).cal u =
    { s.cal u with calState := 0, busy := false, failed := n, lastFail := d } := by
  cases u with
  | input i => exact ⟨_, _, by rw [failCollection_input, cal_raise, cal_updCal, linesBack_cal]⟩
  | slice k =>
    refine ⟨(s.cal (.slice k)).failed, (s.cal (.slice k)).lastFail, ?_⟩
    rw [failCollection_slice, cal_raise, cal_updDrz _ _ (fun _ => by rfl), linesBack_cal]

/-- A failure is counted where its unit counts them, with its reason and line, and reported (R265). -/
theorem failCollection_failed {u : CalUnit} {s t : State} (h : SameUnit u s t) (reason line : Nat) :
    CollectionFailed u s (failCollection u reason line t) reason line := by
  obtain ⟨n, d, hcal⟩ := failCollection_cal u reason line t
  have hframe := failCollection_frame u reason line t
  rw [h.cal] at hcal
  refine ⟨by rw [hcal], by rw [hcal], by rw [hcal], by rw [hcal], (congrArg State.mem hframe :).trans h.mem,
    (congrArg State.od hframe :).trans h.od, ?_⟩
  cases u with
  | input i =>
    have hcount : (failCollection (.input i) reason line t).cal (.input i) = { s.cal (.input i) with
        calState := 0, busy := false, failed := (s.cal (.input i)).failed + 1, lastFail := BitVec.ofNat 32 (reason + line * 2 ^ 8) } := by
      rw [failCollection_input, cal_raise, cal_updCal, linesBack_cal, h.cal]
    refine ⟨(congrArg LineCal.failed hcount :), (congrArg LineCal.lastFail hcount :), ?_⟩
    rw [failCollection_input, raise_nowAt]
    exact raise_raised ..
  | slice k =>
    have hcount : (failCollection (.slice k) reason line t).drz[clusterOfSlice k] = { (linesBack (.slice k) t).drz[clusterOfSlice k] with
        failed := (linesBack (.slice k) t).drz[clusterOfSlice k].failed + 1
        lastFail := BitVec.ofNat 32 (reason + line * 2 ^ 8 + k.val % 2 * 2 ^ 10) } := by
      rw [failCollection_slice, raise_drz, updDrz_drz, upd_same_fin]
    refine ⟨by rw [hcount, linesBack_failed, h.failed], by rw [hcount], ?_⟩
    rw [failCollection_slice, raise_nowAt]
    exact raise_raised ..

/-! ## A collection that ends (R258, R260, R264) -/

/-- The entry offset of a line: none of line 0, found against it in raw mode, else the one in force (R260). -/
def LineCal.offsetOf (c : LineCal) (first : LineHits) (p : Nat × LineHits) : Int :=
  if p.1 = 0 then 0 else if c.calState = 5 then entryOffset first p.2 else c.offsets.toList.getD p.1 0

/-- Why a line of a collection fails, 0 for none (R265). -/
def LineCal.faultOf (c : LineCal) (first : LineHits) (p : Nat × LineHits) : Nat :=
  lineFault p.2 c.calTarget (c.calState = 5) (c.offsetOf first p)

/-- The centres that a line's counts give, with the entry offset found for it (R258, R260). -/
def LineCal.centresOf (c : LineCal) (first : LineHits) (p : Nat × LineHits) : Nat × List Nat × Option Int :=
  (p.1, binCentres (lineTotal p.2) (c.offsetOf first p) 0 p.2.taps, if c.calState = 5 then some (c.offsetOf first p) else none)

/-- The Drizzle counts the hits of a collection (R272). -/
def collectionCounted (u : CalUnit) (ls : List LineHits) (s : State) : State := countDrizzle u ((ls.map lineTotal).foldl max 0) s

/-- What the margin plan takes from a collection: how far its centres have moved (R471). -/
def changesNoted (c : LineCal) (new : List (Nat × List Nat × Option Int)) (s : State) : State :=
  each new (fun p t => match centreChange c p.1 p.2.1 with | some v => noteMeasure 1 v t | none => t) s

theorem changesNoted_frame (c : LineCal) (new : List (Nat × List Nat × Option Int)) (s : State) : let t := changesNoted c new s
    t = { s with margin := t.margin } := by
  refine each_induction (P := fun t => t = { s with margin := t.margin }) s rfl fun p _ t ht => ?_
  split
  · rw [ht]
    rfl
  · exact ht

theorem changesNoted_cal (u : CalUnit) (c : LineCal) (new : List (Nat × List Nat × Option Int)) (s : State) :
    (changesNoted c new s).cal u = s.cal u := by
  rw [changesNoted_frame]
  cases u <;> rfl

/-- The centres that lines leave behind are all they change in their unit's calibration (R471). -/
theorem foldl_collects (new : List (Nat × List Nat × Option Int)) (c : LineCal) : ∃ v,
    new.foldl (fun c p => LineCal.collects c p.1 p.2.1) c = { c with latest := v } := by
  induction new generalizing c with
  | nil => exact ⟨_, rfl⟩
  | cons p rest ih => exact ih (c.collects p.1 p.2.1)

theorem collectionCounted_cal (u : CalUnit) (ls : List LineHits) (s : State) : (collectionCounted u ls s).cal u = s.cal u :=
  cal_updDrz u _ (fun _ => by rfl) _

theorem collectionCounted_sameUnit (u : CalUnit) (ls : List LineHits) (s : State) : SameUnit u s (collectionCounted u ls s) where
  cal := collectionCounted_cal u ls s
  failed _ := updDrz_failed _ _ (fun _ => by rfl) _
  mem := rfl
  od := rfl

section
variable {u : CalUnit} {first : LineHits} {more : List LineHits} (hbusy : (s.cal u).busy = true) (hunit : s.hasUnit u = true)
  (hlen : (first :: more).length = (s.cal u).collected.length)
include hbusy hunit hlen

/-- The first line of a collection that fails makes it fail (R265). -/
theorem collectionComplete_fault {p : Nat × LineHits}
    (hp : ((s.cal u).collected.zip (first :: more)).find? (fun p => (s.cal u).faultOf first p ≠ 0) = some p) :
    collectionComplete u (first :: more) s =
      failCollection u ((s.cal u).faultOf first p) p.1 (collectionCounted u (first :: more) s) := by
  unfold collectionComplete
  dsimp only
  rw [if_neg (by simp [hbusy, hunit, hlen])]
  split
  next q hq => cases hq.symm.trans hp; rfl
  next hq => cases hq.symm.trans hp

/-- A collection whose lines all pass leaves their centres for the next boundary (R258, R264). -/
theorem collectionComplete_passed
    (hp : ((s.cal u).collected.zip (first :: more)).find? (fun p => (s.cal u).faultOf first p ≠ 0) = none) :
    let new := ((s.cal u).collected.zip (first :: more)).map ((s.cal u).centresOf first)
    collectionComplete u (first :: more) s =
      (changesNoted (s.cal u) new (collectionCounted u (first :: more) s)).updCal u (fun c =>
        { new.foldl (fun c p => LineCal.collects c p.1 p.2.1) c with
          busy := false, done := c.done + 1, newLines := new, newOrigin := c.calOrigin }) := by
  unfold collectionComplete
  dsimp only
  rw [if_neg (by simp [hbusy, hunit, hlen])]
  split
  next q hq => cases hq.symm.trans hp
  next hq => rfl

theorem collectionComplete_centres (hpass : ∀ p ∈ (s.cal u).collected.zip (first :: more), (s.cal u).faultOf first p = 0) :
    let t := collectionComplete u (first :: more) s
    (t.cal u).busy = false ∧ (t.cal u).done = (s.cal u).done + 1 ∧ (t.cal u).table = (s.cal u).table ∧
    (t.cal u).newLines = ((s.cal u).collected.zip (first :: more)).map ((s.cal u).centresOf first) ∧
    t = { s with sti := t.sti, drz := t.drz, margin := t.margin } := by
  rw [collectionComplete_passed hbusy hunit hlen (List.find?_eq_none.mpr fun p hp => by simp [hpass p hp])]
  obtain ⟨v, hv⟩ := foldl_collects (((s.cal u).collected.zip (first :: more)).map ((s.cal u).centresOf first)) (s.cal u)
  dsimp only
  rw [cal_updCal, changesNoted_cal, collectionCounted_cal, hv, updCal_frame, changesNoted_frame]
  exact ⟨rfl, rfl, rfl, rfl, rfl⟩

theorem collectionComplete_fails {p : Nat × LineHits} (hp : p ∈ (s.cal u).collected.zip (first :: more))
    (hfault : (s.cal u).faultOf first p ≠ 0) :
    let t := collectionComplete u (first :: more) s
    ∃ q ∈ (s.cal u).collected.zip (first :: more), (s.cal u).faultOf first q ≠ 0 ∧
      CollectionFailed u s t ((s.cal u).faultOf first q) q.1 ∧
      t = { s with sti := t.sti, drz := t.drz, boot := t.boot, merger := t.merger } := by
  obtain ⟨q, hq⟩ := Option.isSome_iff_exists.mp
    (List.find?_isSome (p := fun p => (s.cal u).faultOf first p ≠ 0).mpr ⟨p, hp, decide_eq_true hfault⟩)
  have hfails : decide ((s.cal u).faultOf first q ≠ 0) = true :=
    List.find?_some (p := fun p => decide ((s.cal u).faultOf first p ≠ 0)) hq
  rw [collectionComplete_fault hbusy hunit hlen hq]
  refine ⟨q, List.mem_of_find?_eq_some hq, of_decide_eq_true hfails,
    failCollection_failed (collectionCounted_sameUnit u _ s) _ _, ?_⟩
  rw [failCollection_frame]
  rfl

end

/-! ## The time limit (R258, R265) -/

theorem reach_drz (s : State) (a : TE) : (s.reach a).drz = s.drz := congrArg (fun t => t.drz) (bare_reach s a)

/-- Time that passes and hits that are not counted leave what a failed collection reads. -/
theorem uncounted_sameUnit (u : CalUnit) (s : State) (a : TE) : SameUnit u s (uncounted u (s.reach a)) where
  cal := by
    rw [uncounted_cal]
    cases u with
    | input i => exact cals_get (cals_reach s a) i
    | slice k => rw [State.cal, State.cal, reach_drz]
  failed k := by
    rw [← reach_drz s a]
    unfold uncounted
    split
    · exact updDrz_failed _ _ (fun _ => by rfl) _
    · rfl
  mem := by rw [uncounted_frame, reach_mem]
  od := by rw [uncounted_frame, reach_od]

theorem collectionTimeout_fails {u : CalUnit} (hbusy : (s.cal u).busy = true) (hunit : s.hasUnit u = true) :
    CollectionFailed u s (collectionTimeout u s) 1 ((s.cal u).collected.headD 0) := by
  unfold collectionTimeout
  dsimp only
  rw [if_pos (by simp [hbusy, hunit])]
  exact failCollection_failed (uncounted_sameUnit u s _) _ _

end

/-- Settles O25: a sweep and a collection end one way or the other; a failed collection is said once for both its ends, and the time
that one of them waits for leaves the unit's calibration. -/
theorem sweepsAndCalibration : Obligations.sweeps_and_calibration := by
  unfold Obligations.sweeps_and_calibration
  refine ⟨fun s ch k h => ⟨fun b hb => ?_, fun o ho => ?_⟩, fun s r i h hoff hraw => ⟨_, rfl, commandedCalibration_spec r h hoff hraw⟩,
    fun s u hbusy hunit => ⟨fun first more hlen => ⟨fun hpass => ?_, fun ⟨p, hp, hfault⟩ => ?_⟩, ?_⟩⟩
  · exact next_eq (sweepComplete_whole h ((correctionTable_iff b).mpr hb))
  · have hbroken := sweepComplete_broken h fun b hb hwhole => ho b hb ((correctionTable_iff b).mp hwhole)
    exact ⟨_, next_eq hbroken, driftEvent_spec s⟩
  · exact ⟨_, rfl, collectionComplete_centres hbusy hunit hlen hpass⟩
  · obtain ⟨q, hq, hfails⟩ := collectionComplete_fails hbusy hunit hlen hp hfault
    exact ⟨_, q, hq, rfl, hfails⟩
  · exact ⟨_, rfl, collectionTimeout_fails hbusy hunit⟩

end Sys2Proof.Machine

/-!
SUPPORT. The words of program instructions: what each field of a word reads back as, instruction by instruction, and the statement that
encoder and decoder agree (spec 06, R158 to R163).
-/
namespace Sys2Proof.Machine

/-! ## Fields of words (R158 to R161) -/

theorem timeCode_lt {t : Nat} (h : durationOk t = true) : timeCode t < 2 ^ 52 := by
  have ht := of_decide_eq_true h
  simp only [timeCode, fuPerTE]
  omega

@[simp] theorem fineOk_timeCode (t : Nat) : fineOk (timeCode t) = true := by
  simp only [fineOk, fineField, timeCode, fuPerTE]
  exact decide_eq_true (by omega)

@[simp] theorem timeFu_timeCode (t : Nat) : timeFu (timeCode t) = t := by
  simp only [timeFu, timeCode, fuPerTE]
  omega

theorem targetCode_lt (t : Target) : targetCode t < 2 ^ 20 := by
  have hp := t.pan.isLt
  have hw := t.word.isLt
  simp only [targetCode]
  omega

@[simp] theorem targetOf_targetCode (t : Target) : targetOf (targetCode t) = t := by
  have hw := t.word.isLt
  have hpan : targetCode t / 512 = t.pan.toNat := by
    simp only [targetCode]
    omega
  simp only [targetOf, hpan, BitVec.ofNat_toNat, BitVec.setWidth_eq]
  congr 1
  apply BitVec.eq_of_toNat_eq
  simp only [targetCode, BitVec.toNat_ofNat]
  omega

section
variable {op md od : Nat}

theorem opcodeOf_mainWord (hop : op < 64) (hmd : md < 64) (hod : od < 2 ^ 52) : opcodeOf (mainWord op md od) = op := by
  simp only [opcodeOf, bits, mainWord]
  omega

theorem modifierOf_mainWord (hmd : md < 64) (hod : od < 2 ^ 52) : modifierOf (mainWord op md od) = md := by
  simp only [modifierOf, bits, mainWord]
  omega

theorem operandOf_mainWord (hod : od < 2 ^ 52) : operandOf (mainWord op md od) = od := by
  simp only [operandOf, mainWord]
  omega

theorem mainWord_lt (hop : op < 64) (hmd : md < 64) (hod : od < 2 ^ 52) : mainWord op md od < 2 ^ 64 := by
  simp only [mainWord]
  omega

end

/-- A bit at or above place `k`, where the rest of the word lies below it. -/
theorem bit_above {x k : Nat} (hx : x < 2 ^ k) (n j : Nat) : bit (n * 2 ^ k + x) (k + j) = n.testBit j := by
  rw [bit, Nat.mul_comm, Nat.testBit_two_pow_mul_add n hx, if_neg (by omega), Nat.add_sub_cancel_left]

/-- The modifier of EDGE (R161). -/
theorem edgeModifier_fields (st : OutState) (base : TimeBase) (adv : Bool) :
    let md := stateCode st * 16 + baseCode base * 8 + boolCode adv * 4
    md < 64 ∧ md % 4 = 0 ∧ stateOf (bits md 4 2) = st ∧ baseOf (bit md 3) = base ∧ bit md 2 = adv := by
  cases st <;> cases base <;> cases adv <;> decide

/-- The modifier of PULSE and BURST (R161). -/
theorem pulseModifier_fields (low : Bool) (base : TimeBase) (adv : Bool) :
    let md := boolCode low * 32 + baseCode base * 8 + boolCode adv * 4
    md < 64 ∧ md % 4 = 0 ∧ bit md 4 = false ∧ bit md 5 = low ∧ baseOf (bit md 3) = base ∧ bit md 2 = adv := by
  cases low <;> cases base <;> cases adv <;> decide

/-- The modifier of SIGNAL (R161). -/
theorem signalModifier_fields (cl : Fin 4) (sig : Fin 8) (v : Bool) : let md := cl.val * 16 + sig.val * 2 + boolCode v
    md < 64 ∧ finOf 4 (bits md 4 2) = cl ∧ finOf 8 (bits md 1 3) = sig ∧ bit md 0 = v := by
  revert cl sig v
  decide

/-- The register in a modifier, above an operation below 8 (R163). -/
theorem regModifier_fields (r : Fin 8) (k : Fin 8) : let md := r.val * 8 + k.val
    md < 64 ∧ md % 8 = k.val ∧ finOf 8 (bits md 3 3) = r := by
  revert r k
  decide

/-- The modifier of a STAMP of a register (R161). -/
theorem stampModifier_fields (r : Fin 8) : let md := 32 + r.val * 4
    md < 64 ∧ md % 4 = 0 ∧ bit md 5 = true ∧ finOf 8 (bits md 2 3) = r := by
  revert r
  decide

/-! ## Conditions (R161, R162, R174) -/

/-- Four bits as a number. -/
def nibble (b3 b2 b1 b0 : Bool) : Nat := boolCode b3 * 8 + boolCode b2 * 4 + boolCode b1 * 2 + boolCode b0

theorem nibble_bits (b3 b2 b1 b0 : Bool) : let n := nibble b3 b2 b1 b0
    n < 16 ∧ n.testBit 3 = b3 ∧ n.testBit 2 = b2 ∧ n.testBit 1 = b1 ∧ n.testBit 0 = b0 := by
  revert b3 b2 b1 b0
  decide

/-- The four fields of a condition: sense, consume, mask form, all. -/
def condNibble (c : Cond) : Nat :=
  match c.test with | .bit _ => nibble c.sense c.consume false false | .mask _ all => nibble c.sense c.consume true all

theorem condFields_eq (c : Cond) (k : Nat) : condFields c (k + 3) = condNibble c * 2 ^ k := by
  obtain ⟨test, sense, consume⟩ := c
  cases test <;>
    simp only [condFields, condNibble, nibble, boolCode, Nat.add_sub_cancel, show k + 3 - 1 = k + 2 by omega,
      show k + 3 - 2 = k + 1 by omega] <;> ring_nf <;> simp

theorem condNibble_lt (c : Cond) : condNibble c < 16 := by
  unfold condNibble
  split <;> exact (nibble_bits ..).1

/-- The mask word of a condition is read as its mask; in single form no word is read. -/
def maskRead (c : Cond) (w : Nat) : Prop := ∀ m all, c.test = .mask m all → w = m.toNat

section
variable (c : Cond) {x k w : Nat}

theorem condFields_maskForm (hx : x < 2 ^ k) : bit (condFields c (k + 3) + x) (k + 1) = decide ((condMaskWord c).length = 1) := by
  rw [condFields_eq, bit_above hx]
  obtain ⟨test, sense, consume⟩ := c
  cases test with
  | bit b => exact (nibble_bits ..).2.2.2.1
  | mask m all => exact (nibble_bits ..).2.2.2.1

/-- A condition is read back from its fields, its modifier and its mask word. -/
theorem condOf_condFields (hx : x < 2 ^ k) (hw : maskRead c w) :
    condOf (condFields c (k + 3) + x) (k + 3) (condModifier c) w = c := by
  simp only [condOf, condFields_eq, show k + 3 - 1 = k + 2 by omega, show k + 3 - 2 = k + 1 by omega, Nat.add_sub_cancel,
    bit_above hx, show bit (condNibble c * 2 ^ k + x) k = (condNibble c).testBit 0 from bit_above hx _ 0]
  obtain ⟨test, sense, consume⟩ := c
  cases test with
  | bit b =>
    obtain ⟨-, hsense, hconsume, hform, -⟩ := nibble_bits sense consume false false
    simp [condNibble, hsense, hconsume, hform, condModifier, finOf]
  | mask m all =>
    obtain ⟨-, hsense, hconsume, hform, hall⟩ := nibble_bits sense consume true all
    simp [condNibble, hsense, hconsume, hform, hall, hw m all rfl]

/-- The fields of a well-formed condition pass the check of R164. -/
theorem condOk_condFields (hx : x < 2 ^ k) (hw : maskRead c w) (hok : c.maskOk = true) :
    condOk (condFields c (k + 3) + x) (k + 3) (condModifier c) w = true := by
  have hform := condFields_maskForm c hx
  simp only [condOk, show k + 3 - 2 = k + 1 by omega, hform]
  obtain ⟨test, sense, consume⟩ := c
  cases test with
  | bit b => rfl
  | mask m all =>
    have hm : m.toNat ≠ 0 := fun h => by simp [Cond.maskOk, BitVec.eq_of_toNat_eq (y := 0#64) h] at hok
    have hmod : m.toNat % 2 ^ 64 = m.toNat := Nat.mod_eq_of_lt m.isLt
    rw [hw m all rfl, hmod]
    simp [condModifier, hm]

end

/-! ## Instructions (R161 to R163) -/

/-- A main word and its extension words read back as an instruction, whatever words follow. -/
def ReadsBack (ch : Fin 64) (i : Instr) (w0 : Nat) (rest : List Nat) : Prop :=
  (∀ w ∈ w0 :: rest, w < 2 ^ 64) ∧ ∀ more : List Nat, decode ch w0 ((rest ++ more).getD 0 0) ((rest ++ more).getD 1 0) = some i ∧
    wordCount w0 ((rest ++ more).getD 0 0) = rest.length + 1

section
variable {ch : Fin 64} {op md od : Nat}

/-- An instruction reads back from its words when it reads back from the fields of its main word and the words behind it. -/
theorem readsBack_words {i : Instr} {rest : List Nat} (hop : op < 64) (hmd : md < 64) (hod : od < 2 ^ 52)
    (hrest : ∀ w ∈ rest, w < 2 ^ 64)
    (h : ∀ w0, opcodeOf w0 = op → modifierOf w0 = md → operandOf w0 = od → ∀ more : List Nat,
      decode ch w0 ((rest ++ more).getD 0 0) ((rest ++ more).getD 1 0) = some i ∧
        wordCount w0 ((rest ++ more).getD 0 0) = rest.length + 1) :
    ReadsBack ch i (mainWord op md od) rest :=
  ⟨List.forall_mem_cons.mpr ⟨mainWord_lt hop hmd hod, hrest⟩,
    h _ (opcodeOf_mainWord hop hmd hod) (modifierOf_mainWord hmd hod) (operandOf_mainWord hod)⟩

/-- An instruction of one word. -/
theorem readsBack_one {i : Instr} (hop : op < 64 ∧ op ∉ [2, 3, 5, 6]) (hmd : md < 64) (hod : od < 2 ^ 52)
    (h : ∀ w0 w1 w2, opcodeOf w0 = op → modifierOf w0 = md → operandOf w0 = od → decode ch w0 w1 w2 = some i) :
    ReadsBack ch i (mainWord op md od) [] := by
  refine readsBack_words hop.1 hmd hod (by simp) fun w0 hw0 hmod hopd more => ⟨h _ _ _ hw0 hmod hopd, ?_⟩
  simp only [wordCount, hw0]
  split <;> simp_all

theorem readsBack_nop : ReadsBack ch (.nop ch) (mainWord 0x00 0 0) [] :=
  readsBack_one (by decide) (by decide) (by decide) fun w0 w1 w2 hop hmod hopd => by simp only [decode, hop, hmod, hopd]; rfl

theorem readsBack_edge (st : OutState) (base : TimeBase) (adv : Bool) {t : Nat} (h : durationOk t = true) :
    ReadsBack ch (.edge ch st base adv t) (mainWord 0x01 (stateCode st * 16 + baseCode base * 8 + boolCode adv * 4) (timeCode t)) [] := by
  obtain ⟨hmd, hzero, hst, hbase, hadv⟩ := edgeModifier_fields st base adv
  refine readsBack_one (by decide) hmd (timeCode_lt h) fun w0 w1 w2 hop hmod hopd => ?_
  simp only [decode, hop, hmod, hopd, hzero, hst, hbase, hadv, fineOk_timeCode, timeFu_timeCode]
  rfl

theorem readsBack_pulse (low : Bool) (base : TimeBase) (adv : Bool) {t w : Nat} (ht : durationOk t = true) (hw : durationOk w = true)
    (hmin : 1000 ≤ w) (hend : durationOk (t + w) = true) : ReadsBack ch (.pulse ch low base adv t w)
      (mainWord 0x02 (boolCode low * 32 + baseCode base * 8 + boolCode adv * 4) (timeCode t)) [timeCode w] := by
  obtain ⟨hmd, hzero, hres, hlow, hbase, hadv⟩ := pulseModifier_fields low base adv
  have hlt := timeCode_lt hw
  refine readsBack_words (by decide) hmd (timeCode_lt ht) (by simp; omega) fun w0 hop hmod hopd more => ⟨?_, ?_⟩
  · simp only [decode, hop, decodePulse, hmod, hopd]
    simpa [when, hzero, hres, hlow, hbase, hadv, hmin, hend] using hlt
  · simp [wordCount, hop]

theorem readsBack_burst (low : Bool) (base : TimeBase) (adv : Bool) {t n w p : Nat} (ht : durationOk t = true)
    (h : burstOk t n w p = true) : ReadsBack ch (.burst ch low base adv t n w p)
      (mainWord 0x03 (boolCode low * 32 + baseCode base * 8 + boolCode adv * 4) (timeCode t)) [n * 2 ^ 32 + w, timeCode p] := by
  obtain ⟨hmd, hzero, hres, hlow, hbase, hadv⟩ := pulseModifier_fields low base adv
  have hlimits := h
  simp only [burstOk, Bool.and_eq_true, decide_eq_true_eq] at hlimits
  obtain ⟨⟨⟨⟨⟨⟨⟨-, hn⟩, -⟩, hw⟩, -⟩, hp⟩, -⟩, -⟩ := hlimits
  have hlt := timeCode_lt hp
  have hcount : (n * 2 ^ 32 + w) / 2 ^ 32 = n := by omega
  have hwidth : (n * 2 ^ 32 + w) % 2 ^ 32 = w := by omega
  refine readsBack_words (by decide) hmd (timeCode_lt ht) (by simp; omega) fun w0 hop hmod hopd more => ⟨?_, ?_⟩
  · simp only [decode, hop, decodeBurst, hmod, hopd, List.cons_append, List.getD_cons_zero, List.getD_cons_succ, hcount, hwidth]
    simpa [when, hzero, hres, hlow, hbase, hadv, h] using hlt
  · simp [wordCount, hop]

theorem readsBack_wait (base : TimeBase) {t : Nat} (h : durationOk t = true) :
    ReadsBack ch (.wait ch base t) (mainWord 0x04 (baseCode base * 8) (timeCode t)) [] := by
  refine readsBack_one (by decide) (by cases base <;> decide) (timeCode_lt h) fun w0 w1 w2 hop hmod hopd => ?_
  simp only [decode, hop, hmod, hopd, fineOk_timeCode, timeFu_timeCode]
  cases base <;> rfl

/-- The mask word is read behind the words before it. -/
theorem maskRead_getD (c : Cond) (pre more : List Nat) : maskRead c ((pre ++ condMaskWord c ++ more).getD pre.length 0) := by
  intro m all hc
  simp [condMaskWord, hc]

theorem condMaskWord_lt (c : Cond) : ∀ w ∈ condMaskWord c, w < 2 ^ 64 := by
  obtain ⟨test, sense, consume⟩ := c
  cases test with
  | bit b => simp [condMaskWord]
  | mask m all => simpa [condMaskWord] using m.isLt

theorem condModifier_lt (c : Cond) : condModifier c < 64 := by
  obtain ⟨test, sense, consume⟩ := c
  cases test with
  | bit b => exact b.isLt
  | mask m all => exact Nat.zero_lt_succ _

theorem condMaskWord_length (c : Cond) : (condMaskWord c).length ≤ 1 := by
  obtain ⟨test, sense, consume⟩ := c
  cases test <;> simp [condMaskWord]

theorem readsBack_waitcond (c : Cond) {timeout : Nat} {x : Target} (ht : durationOk timeout = true) (hc : c.maskOk = true)
    (hx : (if timeout = 0 then x == ⟨0, 0⟩ else x.pan != 0) = true) : ReadsBack ch (.waitcond ch c timeout x)
      (mainWord 0x05 (condModifier c) (timeCode timeout)) ([condFields c 63 + targetCode x] ++ condMaskWord c) := by
  have hcode := targetCode_lt x
  have hlow : targetCode x < 2 ^ 60 := by omega
  have hn := condNibble_lt c
  have hfields : condFields c 63 = condNibble c * 2 ^ 60 := condFields_eq c 60
  have htarget : (condFields c 63 + targetCode x) % 2 ^ 20 = targetCode x := by omega
  have hreserved : bits (condFields c 63 + targetCode x) 20 40 = 0 := by
    simp only [bits]
    omega
  refine readsBack_words (by decide) (condModifier_lt c) (timeCode_lt ht) ?_ fun w0 hop hmod hopd more => ⟨?_, ?_⟩
  · simp only [List.cons_append, List.nil_append, List.forall_mem_cons]
    exact ⟨by omega, condMaskWord_lt c⟩
  · have hw := maskRead_getD c [condFields c 63 + targetCode x] more
    simp only [List.cons_append, List.nil_append, List.length_singleton] at hw
    simp only [decode, hop, decodeWaitcond, hmod, hopd, List.cons_append, List.nil_append, List.getD_cons_zero, htarget, hreserved,
      targetOf_targetCode, fineOk_timeCode, timeFu_timeCode, condOf_condFields c hlow hw, condOk_condFields c hlow hw hc]
    split at hx
    next h0 => simp [when, h0, eq_of_beq hx, targetCode]
    next h0 => simpa [when, h0] using hx
  · have hlen := condMaskWord_length c
    simp only [wordCount, hop, List.cons_append, List.nil_append, List.getD_cons_zero, List.length_cons,
      condFields_maskForm c hlow, decide_eq_true_eq]
    split <;> omega

theorem readsBack_branch (c : Cond) {x : Target} (hc : c.maskOk = true) (hx : (x.pan != 0) = true) : ReadsBack ch (.branch ch c x)
    (mainWord 0x06 (condModifier c) (condFields c 51 + targetCode x)) (condMaskWord c) := by
  have hcode := targetCode_lt x
  have hlow : targetCode x < 2 ^ 48 := by omega
  have hn := condNibble_lt c
  have hfields : condFields c 51 = condNibble c * 2 ^ 48 := condFields_eq c 48
  have htarget : (condFields c 51 + targetCode x) % 2 ^ 20 = targetCode x := by omega
  have hreserved : bits (condFields c 51 + targetCode x) 20 28 = 0 := by
    simp only [bits]
    omega
  refine readsBack_words (by decide) (condModifier_lt c) (by omega) (condMaskWord_lt c) fun w0 hop hmod hopd more => ⟨?_, ?_⟩
  · have hw : maskRead c ((condMaskWord c ++ more).getD 0 0) := maskRead_getD c [] more
    simp only [decode, hop, decodeBranch, hmod, hopd, htarget, hreserved, targetOf_targetCode, condOf_condFields c hlow hw,
      condOk_condFields c hlow hw hc]
    simpa [when] using hx
  · have hlen := condMaskWord_length c
    have hform : bit w0 49 = bit (operandOf w0) 49 := by
      rw [bit, bit, operandOf, Nat.testBit_mod_two_pow]
      rfl
    simp only [wordCount, hop, hform, hopd, condFields_maskForm c hlow, decide_eq_true_eq]
    split <;> omega

theorem readsBack_loop (r : Fin 8) {x : Target} (hx : (x.pan != 0) = true) :
    ReadsBack ch (.loop ch r x) (mainWord 0x07 (r.val * 8) (targetCode x)) [] := by
  have hcode := targetCode_lt x
  obtain ⟨hmd, hzero, hr⟩ := regModifier_fields r 0
  refine readsBack_one (by decide) hmd (by omega) fun w0 w1 w2 hop hmod hopd => ?_
  simp only [Fin.val_zero, Nat.add_zero] at hzero hr
  simp only [decode, hop, hmod, hopd, hzero, hr, targetOf_targetCode]
  simpa [when] using ⟨hcode, by simpa using hx⟩

theorem readsBack_jump {x : Target} (hx : (x.pan != 0) = true) : ReadsBack ch (.jump ch x) (mainWord 0x08 0 (targetCode x)) [] := by
  have hcode := targetCode_lt x
  refine readsBack_one (by decide) (by decide) (by omega) fun w0 w1 w2 hop hmod hopd => ?_
  simp only [decode, hop, hmod, hopd, targetOf_targetCode]
  simpa [when] using ⟨hcode, by simpa using hx⟩

theorem readsBack_setregLoad (r : Fin 8) (v : W32) : ReadsBack ch (.setregLoad ch r v) (mainWord 0x0A (r.val * 8) v.toNat) [] := by
  obtain ⟨hmd, hzero, hr⟩ := regModifier_fields r 0
  refine readsBack_one (by decide) hmd (by omega) fun w0 w1 w2 hop hmod hopd => ?_
  simp only [Fin.val_zero, Nat.add_zero] at hzero hr
  simp only [decode, hop, decodeSetreg, hmod, hopd, hzero, hr]
  simp [when, v.isLt]

theorem readsBack_setregAdd (r : Fin 8) (v : W32) : ReadsBack ch (.setregAdd ch r v) (mainWord 0x0A (r.val * 8 + 1) v.toNat) [] := by
  obtain ⟨hmd, hone, hr⟩ := regModifier_fields r 1
  refine readsBack_one (by decide) hmd (by omega) fun w0 w1 w2 hop hmod hopd => ?_
  simp only [Fin.val_one] at hone hr
  simp only [decode, hop, decodeSetreg, hmod, hopd, hone, hr]
  simp [when, v.isLt]

theorem readsBack_setregCopy (r k : Fin 8) : ReadsBack ch (.setregCopy ch r k) (mainWord 0x0A (r.val * 8 + 2) k.val) [] := by
  obtain ⟨hmd, htwo, hr⟩ := regModifier_fields r 2
  refine readsBack_one (by decide) hmd (by omega) fun w0 w1 w2 hop hmod hopd => ?_
  simp only [Fin.val_two] at htwo hr
  simp only [decode, hop, decodeSetreg, hmod, hopd, htwo, hr]
  simp [when, finOf]

theorem readsBack_setregOrigin : ReadsBack ch (.setregOrigin ch) (mainWord 0x0A 3 0) [] :=
  readsBack_one (by decide) (by decide) (by decide) fun w0 w1 w2 hop hmod hopd => by
    simp only [decode, hop, decodeSetreg, hmod, hopd]; rfl

theorem readsBack_setregClear (l : BitVec 12) : ReadsBack ch (.setregClear ch l) (mainWord 0x0A 4 l.toNat) [] := by
  refine readsBack_one (by decide) (by decide) (by omega) fun w0 w1 w2 hop hmod hopd => ?_
  simp only [decode, hop, decodeSetreg, hmod, hopd]
  simp [when, l.isLt, bits]

theorem readsBack_stampOperand (v : W32) : ReadsBack ch (.stamp ch (.operand v)) (mainWord 0x0B 0 v.toNat) [] := by
  refine readsBack_one (by decide) (by decide) (by omega) fun w0 w1 w2 hop hmod hopd => ?_
  simp only [decode, hop, hmod, hopd]
  simp [when, v.isLt, bit]

theorem readsBack_stampReg (r : Fin 8) : ReadsBack ch (.stamp ch (.reg r)) (mainWord 0x0B (32 + r.val * 4) 0) [] := by
  obtain ⟨hmd, hzero, hform, hr⟩ := stampModifier_fields r
  refine readsBack_one (by decide) hmd (by decide) fun w0 w1 w2 hop hmod hopd => ?_
  simp only [decode, hop, hmod, hopd, hzero, hform, hr]
  rfl

theorem readsBack_level (tagged : Bool) (e : W32) :
    ReadsBack ch (.level ch tagged e) (mainWord 0x0C (boolCode tagged * 32) e.toNat) [] := by
  refine readsBack_one (by decide) (by cases tagged <;> decide) (by omega) fun w0 w1 w2 hop hmod hopd => ?_
  simp only [decode, hop, hmod, hopd]
  have htag : bit (boolCode tagged * 32) 5 = tagged := by cases tagged <;> decide
  have hzero : boolCode tagged * 32 % 32 = 0 := Nat.mul_mod_left ..
  simp [when, e.isLt, htag, hzero]

theorem readsBack_gustLocal (g : Fin 16) : ReadsBack ch (.gustLocal ch g) (mainWord 0x0D 0 g.val) [] := by
  refine readsBack_one (by decide) (by decide) (by omega) fun w0 w1 w2 hop hmod hopd => ?_
  simp only [decode, hop, hmod, hopd]
  simp [when, bit, finOf]

theorem readsBack_gustFabric (g : Fin 16) : ReadsBack ch (.gustFabric ch g) (mainWord 0x0D 32 g.val) [] := by
  refine readsBack_one (by decide) (by decide) (by omega) fun w0 w1 w2 hop hmod hopd => ?_
  simp only [decode, hop, hmod, hopd]
  simp [when, show bit 32 5 = true by decide, finOf]

theorem readsBack_signal (cl : Fin 4) (sig : Fin 8) (v : Bool) :
    ReadsBack ch (.signal ch cl sig v) (mainWord 0x0E (cl.val * 16 + sig.val * 2 + boolCode v) 0) [] := by
  obtain ⟨hmd, hcl, hsig, hv⟩ := signalModifier_fields cl sig v
  refine readsBack_one (by decide) hmd (by decide) fun w0 w1 w2 hop hmod hopd => ?_
  simp only [decode, hop, hmod, hopd, hcl, hsig, hv]
  rfl

theorem readsBack_syncTide {m : Nat} (hpos : 1 ≤ m) (hm : m < 2 ^ 20) : ReadsBack ch (.syncTide ch m) (mainWord 0x0F 0 m) [] := by
  refine readsBack_one (by decide) (by decide) (by omega) fun w0 w1 w2 hop hmod hopd => ?_
  simp only [decode, hop, decodeSync, hmod, hopd]
  simpa [when, bits] using ⟨hpos, hm⟩

theorem toNat_pos {n : Nat} {m : BitVec n} (h : (m != 0) = true) : 0 < m.toNat :=
  Nat.pos_of_ne_zero fun h0 => by simp [BitVec.eq_of_toNat_eq (y := 0#n) (by simpa using h0)] at h

theorem readsBack_syncFront {m : W16} (h : (m != 0) = true) : ReadsBack ch (.syncFront ch m) (mainWord 0x0F 8 m.toNat) [] := by
  refine readsBack_one (by decide) (by decide) (by omega) fun w0 w1 w2 hop hmod hopd => ?_
  simp only [decode, hop, decodeSync, hmod, hopd]
  simp [when, bits, toNat_pos h, m.isLt]

theorem readsBack_syncGust {m : W16} (h : (m != 0) = true) : ReadsBack ch (.syncGust ch m) (mainWord 0x0F 16 m.toNat) [] := by
  refine readsBack_one (by decide) (by decide) (by omega) fun w0 w1 w2 hop hmod hopd => ?_
  simp only [decode, hop, decodeSync, hmod, hopd]
  simp [when, bits, toNat_pos h, m.isLt]

theorem readsBack_syncTrigger : ReadsBack ch (.syncTrigger ch) (mainWord 0x0F 24 0) [] :=
  readsBack_one (by decide) (by decide) (by decide) fun w0 w1 w2 hop hmod hopd => by
    simp only [decode, hop, decodeSync, hmod, hopd]; rfl

theorem readsBack_panhint {p : BitVec 11} (h : (p != 0) = true) : ReadsBack ch (.panhint ch p) (mainWord 0x10 0 (p.toNat * 512)) [] := by
  have hp := p.isLt
  have hpos := toNat_pos h
  refine readsBack_one (by decide) (by decide) (by omega) fun w0 w1 w2 hop hmod hopd => ?_
  simp only [decode, hop, hmod, hopd]
  simp [when]
  omega

theorem readsBack_period : ReadsBack ch (.period ch) (mainWord 0x11 0 0) [] :=
  readsBack_one (by decide) (by decide) (by decide) fun w0 w1 w2 hop hmod hopd => by simp only [decode, hop, hmod, hopd]; rfl

theorem readsBack_halt : ReadsBack ch (.halt ch) (mainWord 0x3F 0 0) [] :=
  readsBack_one (by decide) (by decide) (by decide) fun w0 w1 w2 hop hmod hopd => by simp only [decode, hop, hmod, hopd]; rfl

end

/-- Every well-formed program instruction reads back from its words (R158 to R163). -/
theorem encode_readsBack {i : Instr} {ch : Fin 64} (hwf : i.wellFormed = true) (hch : i.channel = some ch) :
    ∃ w0 rest, encode i = w0 :: rest ∧ ReadsBack ch i w0 rest := by
  cases i <;> obtain ⟨⟩ := hch <;> simp only [Instr.wellFormed, Bool.and_eq_true, decide_eq_true_eq] at hwf
  case nop => exact ⟨_, _, rfl, readsBack_nop⟩
  case edge st base adv t => exact ⟨_, _, rfl, readsBack_edge st base adv hwf⟩
  case pulse low base adv t w =>
    obtain ⟨⟨⟨ht, hw⟩, hmin⟩, hend⟩ := hwf
    exact ⟨_, _, rfl, readsBack_pulse low base adv ht hw hmin hend⟩
  case burst low base adv t n w p => exact ⟨_, _, rfl, readsBack_burst low base adv hwf.1 hwf.2⟩
  case wait base t => exact ⟨_, _, rfl, readsBack_wait base hwf⟩
  case waitcond c t x =>
    obtain ⟨⟨ht, hc⟩, hx⟩ := hwf
    exact ⟨_, _, rfl, readsBack_waitcond c ht hc hx⟩
  case branch c x => exact ⟨_, _, rfl, readsBack_branch c hwf.1 hwf.2⟩
  case loop r x => exact ⟨_, _, rfl, readsBack_loop r hwf⟩
  case jump x => exact ⟨_, _, rfl, readsBack_jump hwf⟩
  case setregLoad r v => exact ⟨_, _, rfl, readsBack_setregLoad r v⟩
  case setregAdd r v => exact ⟨_, _, rfl, readsBack_setregAdd r v⟩
  case setregCopy r k => exact ⟨_, _, rfl, readsBack_setregCopy r k⟩
  case setregOrigin => exact ⟨_, _, rfl, readsBack_setregOrigin⟩
  case setregClear l => exact ⟨_, _, rfl, readsBack_setregClear l⟩
  case stamp tag =>
    cases tag with
    | operand v => exact ⟨_, _, rfl, readsBack_stampOperand v⟩
    | reg r => exact ⟨_, _, rfl, readsBack_stampReg r⟩
  case level tagged e => exact ⟨_, _, rfl, readsBack_level tagged e⟩
  case gustLocal g => exact ⟨_, _, rfl, readsBack_gustLocal g⟩
  case gustFabric g => exact ⟨_, _, rfl, readsBack_gustFabric g⟩
  case signal cl sig v => exact ⟨_, _, rfl, readsBack_signal cl sig v⟩
  case syncTide m => exact ⟨_, _, rfl, readsBack_syncTide hwf.1 hwf.2⟩
  case syncFront m => exact ⟨_, _, rfl, readsBack_syncFront hwf⟩
  case syncGust m => exact ⟨_, _, rfl, readsBack_syncGust hwf⟩
  case syncTrigger => exact ⟨_, _, rfl, readsBack_syncTrigger⟩
  case panhint p => exact ⟨_, _, rfl, readsBack_panhint hwf⟩
  case period => exact ⟨_, _, rfl, readsBack_period⟩
  case halt => exact ⟨_, _, rfl, readsBack_halt⟩

/-- Settles O26: each instruction reads back from the fields of its main word and the words behind it. -/
theorem programWordsRoundTrip : Obligations.program_words_round_trip := by
  unfold Obligations.program_words_round_trip
  intro i ch hwf hch
  exact encode_readsBack hwf hch

end Sys2Proof.Machine

/-!
SUPPORT. What the decoder of program instructions accepts, and the statement about it (spec 06, R161 to R164).
-/
namespace Sys2Proof.Machine

theorem when_eq_some {c : Bool} {i j : Instr} : when c i = some j ↔ c = true ∧ i = j := by
  cases c <;> simp [when]

/-- An instruction that its channel's sequencer can issue with operands of the sizes of R159 to R164. -/
def Decodable (ch : Fin 64) (i : Instr) : Prop := i.wellFormed = true ∧ i.channel = some ch

/-- What is answered under a condition is well formed when the condition makes it so. -/
theorem when_decodable {ch : Fin 64} {c : Bool} {i j : Instr} (h : when c i = some j) (hi : c = true → Decodable ch i) :
    Decodable ch j := by
  obtain ⟨hc, rfl⟩ := when_eq_some.mp h
  exact hi hc

/-- A time operand of 52 bits with a valid fine field lies below 2^40 T_E (R159). -/
theorem durationOk_timeFu {c : Nat} (hc : c < 2 ^ 52) (hfine : fineOk c = true) : durationOk (timeFu c) = true := by
  have hf : c % 4096 < 3200 := of_decide_eq_true hfine
  simp only [durationOk, timeFu, fuPerTE]
  exact decide_eq_true (by omega)

theorem operandOf_lt (w : Nat) : operandOf w < 2 ^ 52 := Nat.mod_lt _ (by decide)

/-- A mask form that passes the check of R164 tests some bit. -/
theorem maskOk_condOf {f top md mask : Nat} (h : condOk f top md mask = true) : (condOf f top md mask).maskOk = true := by
  simp only [condOk, Bool.or_eq_true, Bool.not_eq_true', Bool.and_eq_true, bne_iff_ne] at h
  simp only [Cond.maskOk, condOf]
  cases hform : bit f (top - 2) with
  | false => rfl
  | true =>
    have hmask : mask % 2 ^ 64 ≠ 0 := by simpa [hform] using (h.resolve_left (by simp [hform])).2
    simpa [BitVec.toNat_eq] using hmask

section
variable {ch : Fin 64} {md od w1 w2 : Nat} {i : Instr}

theorem decodePulse_decodable (hod : od < 2 ^ 52) (h : decodePulse ch md od w1 = some i) : Decodable ch i := by
  obtain ⟨hc, rfl⟩ := when_eq_some.mp h
  simp only [Bool.and_eq_true, decide_eq_true_eq] at hc
  obtain ⟨⟨⟨⟨⟨-, hfine⟩, hfine1⟩, hw1⟩, hmin⟩, hend⟩ := hc
  exact ⟨by simp [Instr.wellFormed, durationOk_timeFu hod hfine, durationOk_timeFu hw1 hfine1, hmin, hend], rfl⟩

theorem decodeBurst_decodable (hod : od < 2 ^ 52) (h : decodeBurst ch md od w1 w2 = some i) : Decodable ch i := by
  obtain ⟨hc, rfl⟩ := when_eq_some.mp h
  simp only [Bool.and_eq_true] at hc
  obtain ⟨⟨⟨⟨-, hfine⟩, -⟩, -⟩, hburst⟩ := hc
  exact ⟨by simp only [Instr.wellFormed, durationOk_timeFu hod hfine, hburst, Bool.and_self], rfl⟩

theorem decodeWaitcond_decodable (hod : od < 2 ^ 52) (h : decodeWaitcond ch md od w1 w2 = some i) : Decodable ch i := by
  obtain ⟨hc, rfl⟩ := when_eq_some.mp h
  simp only [Bool.and_eq_true] at hc
  obtain ⟨⟨⟨hfine, -⟩, hcond⟩, htarget⟩ := hc
  refine ⟨?_, rfl⟩
  simp only [Instr.wellFormed, Bool.and_eq_true]
  refine ⟨⟨durationOk_timeFu hod hfine, maskOk_condOf hcond⟩, ?_⟩
  split at htarget
  next h0 => rw [if_pos h0, of_decide_eq_true htarget]; rfl
  next h0 => rwa [if_neg h0]

theorem decodeBranch_decodable (h : decodeBranch ch md od w1 = some i) : Decodable ch i := by
  obtain ⟨hc, rfl⟩ := when_eq_some.mp h
  simp only [Bool.and_eq_true] at hc
  obtain ⟨⟨-, hcond⟩, htarget⟩ := hc
  exact ⟨by simp only [Instr.wellFormed, maskOk_condOf hcond, htarget, Bool.and_self], rfl⟩

theorem decodeSetreg_decodable (h : decodeSetreg ch md od = some i) : Decodable ch i := by
  unfold decodeSetreg at h
  dsimp only at h
  split at h
  case h_6 => cases h
  all_goals exact when_decodable h fun _ => ⟨rfl, rfl⟩

/-- A mask of 16 bits that is not 0. -/
theorem mask_ne_zero (hpos : 0 < od) (hlt : od < 2 ^ 16) : (BitVec.ofNat 16 od != 0) = true := by
  simp [BitVec.toNat_eq]
  omega

theorem decodeSync_decodable (h : decodeSync ch md od = some i) : Decodable ch i := by
  unfold decodeSync at h
  split at h
  · cases h
  · split at h
    case h_1 => exact when_decodable h fun hc => ⟨hc, rfl⟩
    case h_2 | h_3 =>
      refine when_decodable h fun hc => ?_
      simp only [Bool.and_eq_true, decide_eq_true_eq] at hc
      exact ⟨mask_ne_zero hc.1 hc.2, rfl⟩
    case h_4 => exact when_decodable h fun _ => ⟨rfl, rfl⟩
    case h_5 => cases h

end

/-- Whatever three words the decoder is given, what it accepts is well formed (R164). -/
theorem decode_decodable {ch : Fin 64} {w0 w1 w2 : Nat} {i : Instr} (h : decode ch w0 w1 w2 = some i) : Decodable ch i := by
  have hod := operandOf_lt w0
  unfold decode at h
  dsimp only at h
  split at h
  case h_1 | h_12 | h_14 | h_17 | h_18 => exact when_decodable h fun _ => ⟨rfl, rfl⟩
  case h_2 | h_5 =>
    refine when_decodable h fun hc => ⟨durationOk_timeFu hod ?_, rfl⟩
    exact (Bool.and_eq_true_iff.mp hc).2
  case h_3 => exact decodePulse_decodable hod h
  case h_4 => exact decodeBurst_decodable hod h
  case h_6 => exact decodeWaitcond_decodable hod h
  case h_7 => exact decodeBranch_decodable h
  case h_8 | h_9 => exact when_decodable h fun hc => ⟨(Bool.and_eq_true_iff.mp hc).2, rfl⟩
  case h_10 => exact decodeSetreg_decodable h
  case h_11 => split at h <;> exact when_decodable h fun _ => ⟨rfl, rfl⟩
  case h_13 => exact when_decodable h fun _ => by split <;> exact ⟨rfl, rfl⟩
  case h_15 => exact decodeSync_decodable h
  case h_16 =>
    refine when_decodable h fun hc => ⟨?_, rfl⟩
    simp only [Bool.and_eq_true, decide_eq_true_eq, bne_iff_ne] at hc
    obtain ⟨⟨⟨-, hlt⟩, -⟩, hpos⟩ := hc
    simp [Instr.wellFormed, BitVec.toNat_eq]
    omega
  case h_19 => cases h

/-- Settles O27: every branch of the decoder answers under its checks, and they make what it answers well formed. -/
theorem decodedIsWellFormed : Obligations.decoded_is_well_formed := by
  unfold Obligations.decoded_is_well_formed
  exact ⟨fun _ _ _ _ _ h => decode_decodable h, by decide +kernel⟩

end Sys2Proof.Machine

/-!
SUPPORT. What settling leaves alone, said once for every property of the state: a property that survives each change that stamps,
groups, monitors, trips, captures and their events make holds of the state after all that is due has come about (spec 05, R137;
spec 09, R236 to R255; spec 11, R291 to R303; spec 12, R305 to R328). `Settling` is that of a property, `Unmoved` that of a view.
-/
namespace Sys2Proof.Machine

/-! ## What merger and calibration keep while they change -/

/-- The events that stand in the merger, without the summaries (R65 to R68). -/
def Merger.standing (m : Merger) : List Event := m.open_ ++ (m.ended.map (fun b => b.events)).flatten

/-- The merger goes on: no event is lost, and no dropped command is newly noted as reported (R65, R405). -/
structure Merger.GoesOn (m n : Merger) : Prop where
  standing : ∀ e ∈ m.standing, e ∈ n.standing
  once : (491, 3) ∈ n.once → (491, 3) ∈ m.once

/-- The unit is in a raw collection of CALIBRATE (R263). -/
def LineCal.Calibrates (c : LineCal) : Prop := c.calState = 5 ∧ c.calOrigin = 3 ∧ c.busy = true

/-- A change of one ended Tide that loses none of its events loses none of those of all. -/
theorem inEnded_standing {f : EndedTide → EndedTide} {a : TE} {l m : List EndedTide} (h : inEnded f a l = some m)
    (hf : ∀ b, ∀ e ∈ b.events, e ∈ (f b).events) :
    ∀ e ∈ (l.map (fun b => b.events)).flatten, e ∈ (m.map (fun b => b.events)).flatten := by
  induction l generalizing m with
  | nil => cases h
  | cons b rest ih =>
    rw [inEnded] at h
    intro e he
    rw [List.map_cons, List.flatten_cons, List.mem_append] at he
    split at h
    · obtain rfl := Option.some.inj h
      exact List.mem_append.mpr (he.imp_left (hf b e))
    · obtain ⟨r, hr, rfl⟩ := Option.map_eq_some_iff.mp h
      exact List.mem_append.mpr (he.imp_right (ih hr e))

namespace Merger.GoesOn

theorem refl (m : Merger) : m.GoesOn m := ⟨fun _ h => h, id⟩

/-- Ended Tides that lose no event. -/
theorem ended {m : Merger} {l : List EndedTide}
    (h : ∀ e ∈ (m.ended.map (fun b => b.events)).flatten, e ∈ (l.map (fun b => b.events)).flatten) :
    m.GoesOn { m with ended := l } :=
  ⟨fun e he => List.mem_append.mpr ((List.mem_append.mp he).imp_right (h e)), id⟩

theorem add (m : Merger) (e : Event) : m.GoesOn (m.add e) := by
  unfold Merger.add
  split
  next l hl => exact ended (inEnded_standing hl (fun _ _ => List.mem_append_left _))
  next => exact ⟨fun x hx => List.mem_append.mpr ((List.mem_append.mp hx).imp_left (List.mem_append_left _)), id⟩

theorem raiseAt (s : State) (x : Instant) (source : Nat) (d : W32) (flags : Nat) :
    s.merger.GoesOn (s.raiseAt x source d flags).merger := by
  unfold State.raiseAt
  cases s.dev.st with
  | boot | load => exact ⟨fun _ h => h, id⟩
  | idle | run | hold | safe => exact add ..

theorem raiseSumAt (s : State) (x : Instant) (source key : Nat) (first : W32) (again : W32 → W32) (flags : Nat) :
    s.merger.GoesOn (s.raiseSumAt x source key first again flags).merger := by
  unfold State.raiseSumAt
  cases s.dev.st with
  | boot | load => exact raiseAt ..
  | idle | run | hold | safe =>
    dsimp only
    split
    next l hl => exact ended (inEnded_standing hl (fun _ _ h => h))
    next => exact ⟨fun _ h => h, id⟩

theorem raiseOnce {s : State} {source key : Nat} (hk : source = 491 → key ≠ 3) (d flags : Nat) :
    s.merger.GoesOn (s.raiseOnce source key d flags).merger := by
  unfold State.raiseOnce State.raiseOnceAt
  split
  · exact refl _
  · obtain ⟨hstanding, honce⟩ := raiseAt { s with merger := { s.merger with once := (source, key) :: s.merger.once } } s.nowAt
      source (BitVec.ofNat 32 d) flags
    refine ⟨hstanding, fun h => ?_⟩
    rcases List.mem_cons.mp (honce h) with h | h
    · obtain ⟨rfl, rfl⟩ := Prod.mk.inj h
      exact absurd rfl (hk rfl)
    · exact h

end Merger.GoesOn

/-! ## Steps that keep a property -/

/-- A property that each of a list of changes keeps holds after all of them. -/
theorem each_keeps {β : Type} (P : State → Prop) {f : β → State → State} (hf : ∀ b t, P t → P (f b t)) {s : State} (hs : P s)
    (l : List β) : P (each l f s) := by
  unfold each
  induction l generalizing s with
  | nil => exact hs
  | cons b rest ih => exact ih (hf b s hs)

/-- A property of both outcomes of a choice. -/
theorem keeps_ite {P : State → Prop} {c : Prop} [Decidable c] {s t : State} (hs : P s) (ht : P t) : P (if c then s else t) := by
  split
  · exact hs
  · exact ht

/-- A view that no member of a list of changes alters reads the same after all of them. -/
theorem view_each {α β : Type} {π : State → α} {f : β → State → State} (s : State) (hf : ∀ b t, π (f b t) = π t) (l : List β) :
    π (each l f s) = π s :=
  each_keeps (fun t => π t = π s) (fun b t h => (hf b t).trans h) rfl l

/-- A property of the state that survives what settling changes. -/
structure Settling (P : State → Prop) : Prop where
  swap : ∀ (s : State) (i : Fin 64), P s → P (swapNow i s)
  delay : ∀ (s : State) (i : Fin 64) (f : Delay → Delay), P s → P (s.updDelay i f)
  trip : ∀ (s : State) (i : Fin 64) (f : TripLatch → TripLatch), P s → P (s.updTrip i f)
  sti : ∀ (s : State) (i : Fin 32) (f : StampInput → StampInput),
    (s.sti[i].cal.Calibrates → (f s.sti[i]).cal.Calibrates) → P s → P (s.updSti i f)
  grp : ∀ (s : State) (i : Fin 32) (f : Group → Group), P s → P (s.updGrp i f)
  stat : ∀ (s : State) (i : Fin 32) (f : StatRun → StatRun), P s → P (s.updStat i f)
  mon : ∀ (s : State) (i : Fin 32) (f : Monitor → Monitor), P s → P (s.updMon i f)
  xbar : ∀ (s : State) (i : Fin 4) (f : Crossbar → Crossbar), P s → P (s.updXbar i f)
  trig : ∀ (s : State) (i : Fin 4) (f : TrigEngine → TrigEngine), P s → P (s.updTrig i f)
  cap : ∀ (s : State) (i : Fin 4) (f : Capture → Capture), P s → P (s.updCap i f)
  sender : ∀ (s : State) (i : Fin 32) (f : Egress → Egress), P s → P (s.updSender i f)
  store : ∀ (s : State) (i : Fin 4) (f : Store → Store), P s → P (s.updStore i f)
  line : ∀ (s : State) (l : List (TE × LineDue)), P s → P { s with line := l }
  fab : ∀ (s : State) (x : Fabric), P s → P { s with fab := x }
  merger : ∀ (s : State) (m : Merger), s.merger.GoesOn m → P s → P { s with merger := m }
  health : ∀ (s : State) (x : Health), x.passErrs = s.health.passErrs → P s → P { s with health := x }

namespace Settling
variable {P : State → Prop} (h : Settling P) {s : State} (hs : P s)
include h hs

/-! ## Events and ECC words -/

theorem raiseAt (x : Instant) (source : Nat) (d : W32) (flags : Nat) : P (s.raiseAt x source d flags) := by
  rw [raiseAt_frame]
  exact h.merger _ _ (.raiseAt ..) hs

theorem raise (source d flags : Nat) : P (s.raise source d flags) := h.raiseAt hs ..

theorem raiseSumAt (x : Instant) (source key : Nat) (first : W32) (again : W32 → W32) (flags : Nat) :
    P (s.raiseSumAt x source key first again flags) := by
  rw [raiseSumAt_frame]
  exact h.merger _ _ (.raiseSumAt ..) hs

theorem raiseCountAt (x : Instant) (source key low flags : Nat) : P (s.raiseCountAt x source key low flags) :=
  h.raiseSumAt hs ..

theorem raiseOnce {source key : Nat} (hk : source = 491 → key ≠ 3) (d flags : Nat) : P (s.raiseOnce source key d flags) := by
  rw [raiseOnce_frame]
  exact h.merger _ _ (.raiseOnce hk ..) hs

theorem inject (written : MemWord → Bool) : P (s.inject written) := by
  unfold State.inject
  split
  · exact h.health _ _ rfl hs
  · exact hs

theorem wordsWritten (written : MemWord → Bool) : P (s.wordsWritten written) := by
  unfold State.wordsWritten
  exact h.inject (h.health s { s.health with
    errs := s.health.errs.filter (fun e => !written e.1), poisoned := s.health.poisoned.filter (fun w => !written w) } rfl hs) written

theorem wordWritten (w : MemWord) : P (s.wordWritten w) := h.wordsWritten hs _

/-- A change of a stamp input that leaves its calibration. -/
theorem input (i : Fin 32) (f : StampInput → StampInput) (hf : ∀ q, (f q).cal = q.cal) : P (s.updSti i f) :=
  h.sti _ _ _ (fun hc => (hf _).symm ▸ hc) hs

/-! ## Triggers and captures -/

theorem storeOne (cl : Fin 4) (r : W128) : P (storeOne cl r s) :=
  h.cap _ _ _ (each_keeps P (fun w _ ht => h.wordWritten ht w) hs _)

theorem loseAtQueue (cl : Fin 4) (code n : Nat) (x : Instant) (lull : Bool) : P (loseAtQueue cl code n x lull s) := by
  unfold Machine.loseAtQueue loseRecords
  dsimp only
  with_reducible apply_rules only [hs, h.cap, keeps_ite]

theorem presentTrigger (cl : Fin 4) (c : Nat) (mask : W16) (f : TE) : P (presentTrigger cl c mask f s) := by
  unfold Machine.presentTrigger
  dsimp only
  with_reducible apply_rules only [hs, h.loseAtQueue, h.trig, keeps_ite]

theorem dropFire (cl : Fin 4) : P (dropFire cl s) := by
  unfold Machine.dropFire
  split
  · with_reducible apply_rules only [hs, h.presentTrigger, h.cap, keeps_ite]
  · exact hs

theorem finishChain (cl : Fin 4) : P (finishChain cl s) := h.cap _ _ _ (each_keeps P (fun r _ ht => h.storeOne ht cl r) hs _)

theorem captureDone (cl : Fin 4) (t : TE) : P (captureDone cl t s) := h.raiseAt (h.cap _ _ _ hs) ..

theorem endStoring (cl : Fin 4) (extra : BitVec 8) (t : TE) : P (endStoring cl extra t s) := by
  have hwords (l : List MemWord) {u : State} (hu : P u) : P (each l (fun w t => t.wordWritten w) u) :=
    each_keeps P (fun w _ ht => h.wordWritten ht w) hu l
  unfold Machine.endStoring
  dsimp only
  split <;> with_reducible apply_rules only [hs, h.captureDone, h.dropFire, h.finishChain, hwords, h.cap, keeps_ite]

theorem violate (cl : Fin 4) (v : TE) (test cause : Nat) : P (violate cl v test cause s) := by
  unfold Machine.violate
  dsimp only
  with_reducible apply_rules only [hs, h.raiseAt, h.cap, keeps_ite]

theorem sendTrigger (x : Instant) (ch : Fin 64) : P (sendTrigger x ch s) := by
  unfold Machine.sendTrigger
  with_reducible apply_rules only [hs, h.delay, keeps_ite]

theorem loseEgress (cl : Fin 4) : P (loseEgress cl s) := h.store _ _ _ hs

theorem sendCode (c : TE) (i : Fin 32) : P (sendCode c i s) := by
  unfold Machine.sendCode
  dsimp only
  with_reducible apply_rules only [hs, h.loseEgress, h.sender, keeps_ite, h.fab]

theorem sendCodes (e : TrigEv) (cl : Fin 4) (c : TE) : P (sendCodes e cl c s) :=
  each_keeps P (fun i _ ht => h.sendCode ht c i) hs _

/-! ## Stamps and groups -/

theorem pushFifo (i : Fin 32) (e : StampEntry) (kind n : Nat) (t : TE) : P (pushFifo i e kind n t s) := by
  unfold Machine.pushFifo
  dsimp only
  with_reducible apply_rules only [hs, h.loseAtQueue, h.raiseCountAt, h.input, keeps_ite] <;> exact fun _ => rfl

theorem intervalTest (g : Fin 32) (v : TE) (value : Int) (timeout : Bool) : P (intervalTest g v value timeout s) := by
  unfold Machine.intervalTest
  dsimp only
  with_reducible apply_rules only [hs, h.violate, keeps_ite]

theorem formInterval (g : Fin 32) (m : Measurement) (hit : Nat) (value : Int) (timeout : Bool) (v : TE) :
    P (formInterval g m hit value timeout v s) := by
  unfold Machine.formInterval
  dsimp only
  with_reducible apply_rules only [hs, h.pushFifo, h.xbar, h.grp, h.intervalTest, h.raiseCountAt, keeps_ite]

theorem decideStop (g inp : Fin 32) (x : Instant) (seq : W16) (taken : Bool) (d : TE) :
    P (decideStop g inp x seq taken d s) := by
  unfold Machine.decideStop
  dsimp only
  with_reducible apply_rules only [hs, h.stat, h.raiseCountAt, h.grp, h.input, keeps_ite] <;> exact fun _ => rfl

theorem addDue (l : List (TE × LineDue)) : P (addDue l s) := h.line _ _ hs

theorem judgeSpan (c : GroupCfg) (x : Instant) : P (judgeSpan c x s) := by
  unfold Machine.judgeSpan
  dsimp only
  with_reducible apply_rules only [hs, h.addDue, h.grp, keeps_ite]

theorem judgeGroup (x : Instant) (g : Fin 32) : P (judgeGroup x g s) := by
  unfold Machine.judgeGroup
  dsimp only
  with_reducible apply_rules only [hs, h.judgeSpan, keeps_ite]

theorem judgeGroups : P (judgeGroups s) := each_keeps P (fun g _ ht => h.judgeGroup ht _ g) hs _

/-! ## Trips and monitors -/

theorem tripRenamed (ch : Fin 64) (src : Nat) (was tj : TE) : P (tripRenamed ch src was tj s) := by
  unfold Machine.tripRenamed
  dsimp only
  split
  next l hl => exact h.merger _ _ (.ended (inEnded_standing hl (fun _ _ h => h))) hs
  next => exact h.merger _ _ ⟨fun _ h => h, id⟩ hs

theorem setLatch (src : Nat) (t : TE) (ch : Fin 64) : P (setLatch src t ch s) := by
  unfold Machine.setLatch tripSetEvent
  dsimp only
  with_reducible apply_rules only [hs, h.tripRenamed, h.raiseSumAt, h.trip, keeps_ite]

theorem setLatches (src : Nat) (t : TE) (chs : List (Fin 64)) : P (setLatches src t chs s) :=
  each_keeps P (fun ch _ ht => h.setLatch ht src t ch) hs _

theorem assertTrip (src : Nat) (t : TE) : P (assertTrip src t s) := by
  unfold Machine.assertTrip
  dsimp only
  split <;> with_reducible apply_rules only [hs, h.addDue, h.setLatches]

theorem releaseLatch (ch : Fin 64) (t : TE) : P (releaseLatch ch t s) := by
  unfold Machine.releaseLatch tripReleaseEvent
  dsimp only
  with_reducible apply_rules only [hs, h.raiseSumAt, h.trip, keeps_ite]

theorem periodActs (ch : Fin 64) (t : TE) : P (periodActs ch t s) := by
  unfold Machine.periodActs
  with_reducible apply_rules only [hs, h.releaseLatch, h.trip, keeps_ite]

theorem followAssert (wm : Fin 32) (t : TE) : P (followAssert wm t s) := by
  unfold Machine.followAssert
  dsimp only
  with_reducible apply_rules only [hs, h.assertTrip, h.raiseCountAt, h.mon, keeps_ite, h.line]

theorem doLate (p : TE × LineDue) : P (doLate p s) := by
  unfold Machine.doLate
  cases p.2 <;> dsimp only [remoteArrives, clearActs, swapPath] <;>
    with_reducible apply_rules only [hs, h.addDue, h.setLatches, h.periodActs, h.releaseLatch, h.trip, h.endStoring, h.swap, keeps_ite]

/-! ## Under the settings of another time, and settling -/

omit h in
/-- What is judged by settings keeps a property that does not speak of them (R145, R236, R243). -/
theorem asOf (hod : ∀ (s : State) (o : Settings), P s → P { s with od := o }) {f : State → State} (hf : ∀ t, P t → P (f t))
    (x : Instant) : P (s.asOf x f) := by
  unfold State.asOf
  split
  · exact hod _ _ (hf _ (hod _ _ hs))
  · exact hf _ hs

variable (hod : ∀ (s : State) (o : Settings), P s → P { s with od := o })
include hod

theorem deliverTriggers (e : TrigEv) (x : Instant) : P (deliverTriggers e x s) := by
  unfold Machine.deliverTriggers
  split
  · exact asOf hs hod (fun t ht => each_keeps P (fun ch u hu => h.sendTrigger hu x ch) ht _) x
  · exact each_keeps P (fun _ _ ht => h.delay _ _ _ ht) hs _

theorem deliverStamp (i : Fin 32) (x : Instant) (rising : Bool) (seq : W16) (gen : BitVec 4) :
    P (deliverStamp i x rising seq gen s) := by
  have hinbox (l : List (Fin 32)) (f : Fin 32 → Group → Group) {u : State} (hu : P u) : P (each l (fun g t => t.updGrp g (f g)) u) :=
    each_keeps P (fun _ _ ht => h.grp _ _ _ ht) hu l
  unfold Machine.deliverStamp
  dsimp only
  rw [apply_ite P]
  split
  · exact h.addDue (each_keeps P (fun _ _ ht => h.grp _ _ _ ht) (h.xbar _ _ _ (h.sendCodes (h.deliverTriggers hs hod ..) ..)) _) _
  · exact each_keeps P (fun _ _ ht => h.grp _ _ _ ht) (h.xbar _ _ _ (h.sendCodes (h.deliverTriggers hs hod ..) ..)) _

theorem takeEdge (i : Fin 32) (rising : Bool) (x : Instant) : P (takeEdge i rising x s) := by
  have hstamp {t : State} (ht : P t) (seq : W16) (gen : BitVec 4) : P (t.asOf x (Machine.deliverStamp i x rising seq gen)) :=
    asOf ht hod (fun _ hu => h.deliverStamp hu hod ..) x
  unfold Machine.takeEdge
  dsimp only
  with_reducible apply_rules only [hs, hstamp, h.input, keeps_ite] <;> exact fun _ => rfl

theorem doDue (p : TE × LineDue) : P (doDue p s) := by
  have htaken {t : State} (ht : P t) (i : Fin 32) (rising : Bool) (x : Instant) : P (Machine.takeEdge i rising x t) :=
    h.takeEdge ht hod i rising x
  unfold Machine.doDue
  cases p.2 <;> with_reducible apply_rules only [hs, h.pushFifo, h.formInterval, htaken, h.decideStop, keeps_ite]

theorem syncClass (wm : Fin 32) (t : TE) (c : Classn) : P (syncClass wm t c s) := by
  have htriggers {t : State} (ht : P t) (e : TrigEv) (x : Instant) : P (Machine.deliverTriggers e x t) :=
    h.deliverTriggers ht hod e x
  unfold Machine.syncClass monitorTest
  dsimp only
  with_reducible apply_rules only [hs, h.violate, h.sendCodes, htriggers, h.mon, keeps_ite]

theorem settleMon (a : TE) (wm : Fin 32) : P (settleMon a wm s) := by
  have hclass {t : State} (ht : P t) (a : TE) (c : Classn) : P (Machine.syncClass wm a c t) := h.syncClass ht hod wm a c
  have hdue (l : List (TE × Classn)) {u : State} (hu : P u) : P (each l (fun d t => applyDue wm d.1 d.2 t) u) :=
    each_keeps P (fun d t ht => by
      unfold applyDue
      with_reducible apply_rules only [ht, hclass, h.followAssert, h.mon, keeps_ite]) hu l
  unfold Machine.settleMon
  dsimp only
  with_reducible apply_rules only [hs, hdue, h.mon, keeps_ite]

theorem settleAt (t : TE) : P (settleAt t s) := by
  have hline : P (settleLine t s) := each_keeps P (fun p _ hu => h.doDue hu hod p) (h.line _ _ hs) _
  have hmon : P (each s.units8 (Machine.settleMon t) (settleLine t s)) := each_keeps P (fun i _ hu => h.settleMon hu hod t i) hline _
  exact each_keeps P (fun p _ hu => h.doLate hu p) (h.line _ _ hmon) _

/-- All that is due comes about. -/
theorem settle : P s.settle := by
  unfold State.settle
  generalize s.settleFuel = fuel
  induction fuel generalizing s with
  | zero => exact h.line _ _ hs
  | succ fuel ih =>
    unfold settleBy
    dsimp only
    split
    · exact h.judgeGroups hs
    · exact ih (h.settleAt (h.judgeGroups hs) hod _)

end Settling

/-! ## Views -/

/-- A view of the state that no step of the data plane's settling changes: neither time nor the unit each field names. -/
structure Unmoved {α : Type} (π : State → α) : Prop where
  time : ∀ (s : State) (x : TimeState), π { s with time := x } = π s
  swap : ∀ (s : State) (i : Fin 64), π (swapNow i s) = π s
  delay : ∀ (s : State) (i : Fin 64) (f : Delay → Delay), π (s.updDelay i f) = π s
  trip : ∀ (s : State) (i : Fin 64) (f : TripLatch → TripLatch), π (s.updTrip i f) = π s
  sti : ∀ (s : State) (i : Fin 32) (f : StampInput → StampInput), π (s.updSti i f) = π s
  grp : ∀ (s : State) (i : Fin 32) (f : Group → Group), π (s.updGrp i f) = π s
  stat : ∀ (s : State) (i : Fin 32) (f : StatRun → StatRun), π (s.updStat i f) = π s
  mon : ∀ (s : State) (i : Fin 32) (f : Monitor → Monitor), π (s.updMon i f) = π s
  xbar : ∀ (s : State) (i : Fin 4) (f : Crossbar → Crossbar), π (s.updXbar i f) = π s
  trig : ∀ (s : State) (i : Fin 4) (f : TrigEngine → TrigEngine), π (s.updTrig i f) = π s
  cap : ∀ (s : State) (i : Fin 4) (f : Capture → Capture), π (s.updCap i f) = π s
  sender : ∀ (s : State) (i : Fin 32) (f : Egress → Egress), π (s.updSender i f) = π s
  store : ∀ (s : State) (i : Fin 4) (f : Store → Store), π (s.updStore i f) = π s
  line : ∀ (s : State) (l : List (TE × LineDue)), π { s with line := l } = π s
  fab : ∀ (s : State) (x : Fabric), π { s with fab := x } = π s
  merger : ∀ (s : State) (x : Merger), π { s with merger := x } = π s
  health : ∀ (s : State) (x : Health), π { s with health := x } = π s
  od : ∀ (s : State) (x : Settings), π { s with od := x } = π s

namespace Unmoved
variable {α : Type} {π : State → α} (h : Unmoved π) (s : State)
include h

/-- What an unmoved view reads is a property that survives settling. -/
theorem settling (a : α) : Settling (fun t => π t = a) where
  swap _ _ ht := (h.swap ..).trans ht
  delay _ _ _ ht := (h.delay ..).trans ht
  trip _ _ _ ht := (h.trip ..).trans ht
  sti _ _ _ _ ht := (h.sti ..).trans ht
  grp _ _ _ ht := (h.grp ..).trans ht
  stat _ _ _ ht := (h.stat ..).trans ht
  mon _ _ _ ht := (h.mon ..).trans ht
  xbar _ _ _ ht := (h.xbar ..).trans ht
  trig _ _ _ ht := (h.trig ..).trans ht
  cap _ _ _ ht := (h.cap ..).trans ht
  sender _ _ _ ht := (h.sender ..).trans ht
  store _ _ _ ht := (h.store ..).trans ht
  line _ _ ht := (h.line ..).trans ht
  fab _ _ ht := (h.fab ..).trans ht
  merger _ _ _ ht := (h.merger ..).trans ht
  health _ _ _ ht := (h.health ..).trans ht

theorem settle : π s.settle = π s := (h.settling (π s)).settle rfl fun _ _ ht => (h.od ..).trans ht

theorem reach (a : TE) : π (s.reach a) = π s := (h.settle _).trans (h.time ..)

theorem healthMerger (x : Health) (m : Merger) : π { s with health := x, merger := m } = π s :=
  (h.merger { s with health := x } m).trans (h.health s x)

theorem memoryEvent (w : MemWord) (bad scrub : Bool) : π (memoryEvent w bad scrub s) = π s := by
  have honce (source key d : Nat) : π (s.raiseOnce source key d) = π s := by rw [raiseOnce_frame, h.merger]
  simp only [Machine.memoryEvent, apply_ite π, honce, State.raiseCount, (h.settling (π s)).raiseCountAt rfl, ite_self]

/-- An uncorrectable word outside the Saltern freezes no Pan (R376, R463). -/
theorem poisonWord {w : MemWord} (hw : w.mem ≠ 0) (scrub : Bool) : π (poisonWord w scrub s) = π s := by
  unfold Machine.poisonWord
  split
  · rfl
  · dsimp only
    simp only [hw]
    rw [h.memoryEvent]
    split
    · exact h.healthMerger ..
    · exact h.health ..

/-- A demand read of a word outside the Saltern (R462, R463). -/
theorem readWord {w : MemWord} (hw : w.mem ≠ 0) : π (readWord w s) = π s := by
  unfold Machine.readWord
  split
  · exact h.poisonWord s hw false
  · rw [correctWord, h.memoryEvent, h.health]
  · rfl

end Unmoved

end Sys2Proof.Machine

/-!
SUPPORT. The state in which an instruction acts, the instructions that change their sequencer alone, and the statement about them
(spec 06, R157 to R179, R186).
-/
namespace Sys2Proof.Machine

/-! ## Sequencers and what their programs have written (R128, R165) -/

/-- What a program has written into an edge engine and what has been placed of it. -/
def EdgeEngine.written (g : EdgeEngine) : List FifoEntry × OutState × W64 := (g.fifo, g.progState, g.placed)

/-- The sequencers, and what they have written into the edge engines. -/
def State.programs (s : State) : Vector Sequencer 64 × Vector (List FifoEntry × OutState × W64) 64 :=
  (s.seq, s.edge.map EdgeEngine.written)

theorem written_get {s t : State} (h : s.edge.map EdgeEngine.written = t.edge.map EdgeEngine.written) (k : Fin 64) :
    s.edge[k].fifo = t.edge[k].fifo ∧ s.edge[k].progState = t.edge[k].progState ∧ s.edge[k].placed = t.edge[k].placed := by
  simpa [EdgeEngine.written] using congrArg (fun v : Vector (List FifoEntry × OutState × W64) 64 => v[k]) h

/-- A change of an edge engine that keeps what its program has written. -/
theorem written_updEdge (s : State) (i : Fin 64) {f : EdgeEngine → EdgeEngine} (h : ∀ g, (f g).written = g.written) :
    (s.updEdge i f).edge.map EdgeEngine.written = s.edge.map EdgeEngine.written := by
  refine Vector.ext fun k hk => ?_
  by_cases hi : i.val = k
  · subst hi
    simp [h]
  · simp [upd, hi]

/-- A swap of paths changes the tables of its channel alone (R137). -/
theorem programs_unmoved : Unmoved State.programs where
  swap s i := Prod.ext rfl (written_updEdge s i fun g => by cases g.newTable <;> rfl)
  time _ _ := rfl
  delay _ _ _ := rfl
  trip _ _ _ := rfl
  sti _ _ _ := rfl
  grp _ _ _ := rfl
  stat _ _ _ := rfl
  mon _ _ _ := rfl
  xbar _ _ _ := rfl
  trig _ _ _ := rfl
  cap _ _ _ := rfl
  sender _ _ _ := rfl
  store _ _ _ := rfl
  line _ _ := rfl
  fab _ _ := rfl
  merger _ _ := rfl
  health _ _ := rfl
  od _ _ := rfl

/-- Time that passes changes no sequencer (R165). -/
theorem reach_seq (s : State) (a : TE) : (s.reach a).seq = s.seq := congrArg Prod.fst (programs_unmoved.reach s a)

/-- Nor what programs have written (R128). -/
theorem reach_written (s : State) (a : TE) : (s.reach a).edge.map EdgeEngine.written = s.edge.map EdgeEngine.written :=
  congrArg Prod.snd (programs_unmoved.reach s a)

/-! ## The state of an issue (R165, R167, R190, R194) -/

section
variable (s : State) (ch : Fin 64) (n : Nat)

/-- The words of an instruction stand in a frame, outside the Saltern (R190). -/
theorem frameWords_outside {cl : Fin 4} {slot off : Nat} {w : MemWord} (h : w ∈ frameWords cl slot off) : w.mem ≠ 0 := by
  obtain ⟨k, -, rfl⟩ := List.mem_map.mp h
  exact Nat.one_ne_zero

/-- A view that no read of a word of a frame changes is kept by a list of such reads. -/
theorem view_eachWord {α : Type} {π : State → α} (hread : ∀ (t : State) (w : MemWord), w.mem ≠ 0 → π (readWord w t) = π t)
    (l : List MemWord) (hl : ∀ w ∈ l, w.mem ≠ 0) (t : State) : π (each l readWord t) = π t := by
  unfold each
  induction l generalizing t with
  | nil => rfl
  | cons w rest ih =>
    rw [List.foldl_cons, ih (fun v hv => hl v (List.mem_cons_of_mem _ hv)), hread t w (hl w List.mem_cons_self)]

/-- Fetching reads words of a frame (R190, R207). -/
theorem view_readFetched {α : Type} {π : State → α} (hread : ∀ (t : State) (w : MemWord), w.mem ≠ 0 → π (readWord w t) = π t) :
    π (readFetched ch n s) = π s := by
  unfold readFetched
  dsimp only
  split
  · exact view_each s (fun k t => view_eachWord hread _ (fun w hw => frameWords_outside hw) t) _
  · rfl

theorem readFetched_programs : (readFetched ch n s).programs = s.programs :=
  view_readFetched s ch n fun t _ hw => programs_unmoved.readWord t hw

theorem bare_readFetched : (readFetched ch n s).bare = s.bare := view_readFetched s ch n fun t _ hw => bare_readWord t hw

/-- The sequencer that issues an instruction, in the T_E of the issue (R46, R165, R167). -/
def Sequencer.issuing (t : TE) (n : Nat) (q : Sequencer) : Sequencer :=
  { q with
    cursor := nearCoarse t q.cursor, origin := nearCoarse t q.origin
    issued := q.issued + 1, nextIssue := t + 2, pc := ⟨q.pc.pan, q.pc.word + BitVec.ofNat 9 n⟩ }

theorem issued_seq : (issued s ch n).seq = upd s.seq ch (Sequencer.issuing (s.issueAt ch) n) := by
  have hseq : (readFetched ch n (s.reach (s.issueAt ch))).seq = s.seq :=
    (congrArg Prod.fst (readFetched_programs ..)).trans (reach_seq ..)
  unfold issued touchFrame State.updStore State.updSeq
  dsimp only
  rw [hseq]
  rfl

theorem issued_seq_same : (issued s ch n).seq[ch] = s.seq[ch].issuing (s.issueAt ch) n := by rw [issued_seq, upd_same_fin]

theorem issued_seq_other {k : Fin 64} (h : k ≠ ch) : (issued s ch n).seq[k] = s.seq[k] := by
  rw [issued_seq, upd_other _ _ _ _ h.symm]

theorem issued_written : (issued s ch n).edge.map EdgeEngine.written = s.edge.map EdgeEngine.written := by
  have hread := congrArg Prod.snd (readFetched_programs (s.reach (s.issueAt ch)) ch n)
  unfold issued touchFrame State.updStore State.updSeq
  exact hread.trans (reach_written ..)

theorem bare_issued : (issued s ch n).bare = (s.arrive (s.issueAt ch)).bare := by
  unfold issued
  dsimp only
  rw [bare_updSeq, touchFrame, bare_updStore, bare_readFetched, bare_reach]

theorem issued_time : (issued s ch n).time = (s.arrive (s.issueAt ch)).time := bare_eq_time (bare_issued s ch n)

theorem issued_dataPlaneOnly : DataPlaneOnly s (issued s ch n) := by
  refine dataPlaneOnly_of_bare ?_
  rw [bare_issued, issued_time]
  rfl

end

/-! ## The bodies of the instructions (R163, R172, R176 to R179) -/

section
variable (s : State) (ch : Fin 64)

/-- A jump leaves the sequencer as it is but for the counter and the pending Pans (R178, R193). -/
theorem setPc_spec (x : Target) : ∃ h, setPc ch x s = s.updSeq ch (fun q => { q with pc := x, pendHints := h }) :=
  ⟨if x.pan = s.seq[ch].pc.pan then s.seq[ch].pendHints else s.seq[ch].pendHints.erase x.pan.toNat, by
    simp [setPc, State.updSeq, upd]⟩

theorem loopBack_done {r : Fin 8} {x : Target} (h : s.seq[ch].regs[r] = 0) : loopBack ch r x s = s := by
  unfold loopBack
  exact if_pos h

theorem loopBack_again {r : Fin 8} {x : Target} (h : s.seq[ch].regs[r] ≠ 0) :
    ∃ p, loopBack ch r x s =
      s.updSeq ch (fun q => { q with regs := q.regs.set r.val (s.seq[ch].regs[r] - 1) r.isLt, pc := x, pendHints := p }) := by
  obtain ⟨p, hp⟩ := setPc_spec (setReg ch r (s.seq[ch].regs[r] - 1) s) ch x
  refine ⟨p, ?_⟩
  unfold loopBack
  rw [if_neg h, hp]
  simp [setReg, State.updSeq, upd]

/-- Within the history a sample or a clear is taken at its own T_E (R173). -/
theorem historyAt_within {a t : TE} (h : s.oldest t ≤ a) : historyAt ch a t s = (a, s) := if_neg (Nat.not_lt.mpr h)

/-- The cursor that an action waits for is the sequencer's own (R168). -/
theorem appendAction_atCursor (a : SeqAction) :
    s.updSeq ch (fun q => { q with actions := q.actions ++ [(s.seq[ch].cursor, a)] }) =
      { s with seq := upd s.seq ch (fun q => { q with actions := q.actions ++ [(q.cursor, a)] }) } := by
  simp [State.updSeq, upd]

theorem clearAtCursor_ahead {l : BitVec 12} {t : TE} (h : t < teOf s.seq[ch].cursor) : clearAtCursor ch l t s =
    { s with seq := upd s.seq ch (fun q => { q with actions := q.actions ++ [(q.cursor, .clear l)] }) } :=
  (if_pos h).trans (appendAction_atCursor ..)

theorem clearAtCursor_within {l : BitVec 12} {t : TE} (hreached : teOf s.seq[ch].cursor ≤ t)
    (hwithin : s.oldest t ≤ teOf s.seq[ch].cursor) :
    clearAtCursor ch l t s = clearBits ch (latchBits l) (teOf s.seq[ch].cursor) s := by
  unfold clearAtCursor
  dsimp only
  rw [historyAt_within s ch hwithin]
  exact if_neg (Nat.not_lt.mpr hreached)

end

/-- Settles O28: the state of an issue is told by what settling leaves alone; each instruction is its body in that state. -/
theorem sequencerInstructions : Obligations.sequencer_instructions := by
  unfold Obligations.sequencer_instructions
  refine ⟨fun s ch n => ?_, fun s ch n => ?_, fun s ch n l h => ⟨fun hahead => ?_, fun hreached hwithin => ?_⟩⟩
  · dsimp only
    rw [issued_seq_same]
    refine ⟨rfl, rfl, rfl, ?_, fun k hk => issued_seq_other s ch n hk, fun k => written_get (issued_written s ch n) k,
      issued_dataPlaneOnly s ch n⟩
    rw [issued_time]
    exact Nat.le_max_right ..
  · refine ⟨fun h => ?_, fun t h => ?_, fun t h => ?_, fun r v h => ?_, fun r v h => ?_, fun r k h => ?_, fun h => ?_,
      fun x h => ?_, fun r x h hdone => ?_, fun r x h hagain => ?_, fun h => ?_⟩
    · exact next_eq (issue_issued _ h rfl)
    · exact next_eq (issue_issued _ h rfl)
    · exact next_eq (issue_issued _ h rfl)
    · exact next_eq (issue_issued _ h rfl)
    · exact next_eq (issue_issued _ h rfl)
    · exact next_eq (issue_issued _ h rfl)
    · exact next_eq (issue_issued _ h rfl)
    · obtain ⟨p, hp⟩ := setPc_spec (issued s ch n) ch x
      exact ⟨p, next_eq ((issue_issued _ h rfl).trans hp)⟩
    · exact next_eq ((issue_issued _ h rfl).trans (loopBack_done _ _ hdone))
    · obtain ⟨p, hp⟩ := loopBack_again (x := x) (issued s ch n) ch hagain
      exact ⟨p, next_eq ((issue_issued _ h rfl).trans hp)⟩
    · exact next_eq (issue_issued _ h rfl)
  · exact next_eq ((issue_issued _ h rfl).trans (clearAtCursor_ahead _ _ hahead))
  · exact next_eq ((issue_issued _ h rfl).trans (clearAtCursor_within _ _ hreached hwithin))

end Sys2Proof.Machine

/-!
SUPPORT. Actions: when they take place, STAMP and SIGNAL, and the statement about them (spec 06, R168, R180, R183, R184).
-/
namespace Sys2Proof.Machine

section
variable (s : State) (ch : Fin 64)

/-! ## When an action takes place (R168) -/

theorem act_ahead {a : SeqAction} {t : TE} (h : t < teOf s.seq[ch].cursor) : act ch a t s =
    { s with seq := upd s.seq ch (fun q => { q with actions := q.actions ++ [(s.seq[ch].cursor, a)] }) } := if_pos h

theorem act_late {a : SeqAction} {t : TE} (h : teOf s.seq[ch].cursor < t) :
    act ch a t s = doAction ch s.seq[ch].cursor (startOf t) true a (countLate ch s) :=
  (if_neg (Nat.lt_asymm h)).trans (if_pos h)

theorem act_atCursor {a : SeqAction} {t : TE} (h : t = teOf s.seq[ch].cursor) :
    act ch a t s = doAction ch s.seq[ch].cursor s.seq[ch].cursor false a s :=
  (if_neg (Nat.not_lt.mpr h.ge)).trans (if_neg (Nat.not_lt.mpr h.le))

theorem actionAtCursor_acts {x : Instant} {a : SeqAction} (h : firstAction s.seq[ch].actions = some (x, a)) :
    actionAtCursor ch s =
      doAction ch x x false a ((s.reach (teOf x)).updSeq ch (fun q => { q with actions := q.actions.erase (x, a) })) := by
  unfold actionAtCursor
  rw [h]

/-! ## STAMP and SIGNAL (R180, R183) -/

theorem presentStamp_joins {tag : W32} {c : Instant} {late : Bool} (howns : s.ownsCapture (clusterOf ch) (ch.val % 16) = true)
    (hroom : (s.cap[clusterOf ch].stamps.filter (fun p => p.1 = ch.val % 16)).length < 4) :
    presentStamp ch tag c late s = { s with cap := upd s.cap (clusterOf ch) (fun e => { e with
      stamps := e.stamps ++ [(ch.val % 16, record 0x08 ((if late then 64 else 0) + if s.lullAt c then 1 else 0) ch.val
        s.edge[ch].calGen.toNat tag.toNat (ztime c).toNat)] }) } := by
  unfold presentStamp
  dsimp only
  rw [howns]
  exact if_neg (Nat.not_le.mpr hroom)

theorem setSignal_frame (cl : Fin 4) (k : Fin 8) (t : TE) (v : Bool) :
    setSignal cl k t v s = { s with xbar := (setSignal cl k t v s).xbar } := rfl

theorem setSignal_signal (cl : Fin 4) (k : Fin 8) (t : TE) (v : Bool) :
    (setSignal cl k t v s).xbar[cl].signals[k] = traceTrim (signalPut s.xbar[cl].signals[k] t v) (s.now - keepTE) := by
  simp [setSignal, State.updXbar]

/-- A signal takes 4 T_E to another cluster (R183). -/
theorem signal_delay (cl : Fin 4) (x : Instant) :
    teOf x + (if cl = clusterOf ch then 0 else 4) = if cl = clusterOf ch then x / 3200 else x / 3200 + 4 := by
  split <;> rfl

end

/-! ## The instructions (R168, R180 to R184) -/

/-- The action that an instruction of a sequencer takes: PERIOD, STAMP, GUST, SIGNAL. -/
def Takes (u : State) (ch : Fin 64) (i : Instr) (a : SeqAction) : Prop :=
  (i, a) ∈ [(Instr.period ch, SeqAction.period)] ∨ (∃ v, (i, a) = (.stamp ch (.operand v), .stamp v)) ∨
    (∃ r, (i, a) = (.stamp ch (.reg r), .stamp u.seq[ch].regs[r])) ∨
    (∃ g, (i, a) = (.gustLocal ch g, .gustLocal g)) ∨ (∃ g, (i, a) = (.gustFabric ch g, .gustFabric g)) ∨
    (∃ k x v, (i, a) = (.signal ch k x v, .signal k x v))

/-- Such an instruction acts in its issue T_E. -/
theorem exec_action {s : State} {ch : Fin 64} {i : Instr} {a : SeqAction} {n : Nat} (htakes : Takes (issued s ch n) ch i a)
    (h : Issues s ch i n) : exec i s = .next (act ch a (s.issueAt ch) (issued s ch n)) := by
  rcases htakes with hp | ⟨v, hi⟩ | ⟨r, hi⟩ | ⟨g, hi⟩ | ⟨g, hi⟩ | ⟨k, x, v, hi⟩
  case inl =>
    obtain ⟨rfl, rfl⟩ := Prod.mk.inj (List.mem_singleton.mp hp)
    exact next_eq (issue_issued _ h rfl)
  all_goals
    obtain ⟨rfl, rfl⟩ := Prod.mk.inj hi
    exact next_eq (issue_issued _ h rfl)

/-- Settles O30: each action is `act` in the state of the issue, which waits, acts or acts late. -/
theorem actions : Obligations.actions := by
  unfold Obligations.actions
  refine ⟨fun s ch n => ⟨fun i a htakes h => ⟨fun hahead => ?_, fun hat => ?_, fun hlate => ?_⟩, fun x a h => ?_⟩,
    fun s ch c x late => ⟨fun tag howns hroom => presentStamp_joins s ch howns hroom, fun cl k v => ?_⟩⟩
  · rw [exec_action htakes h, act_ahead _ _ hahead]
  · rw [exec_action htakes h, act_atCursor _ _ hat]
  · rw [exec_action htakes h, act_late _ _ hlate]
    rfl
  · exact next_eq (actionAtCursor_acts s ch h)
  · rw [← signal_delay]
    exact ⟨_, rfl, setSignal_frame .., setSignal_signal ..⟩

end Sys2Proof.Machine

/-!
SUPPORT. Instructions that wait, how their waits end, and the statement about them (spec 06, R155, R166, R172 to R178, R185).
-/
namespace Sys2Proof.Machine

/-! ## SYNC waits (R185) -/

section
variable (s : State) (ch : Fin 64)

theorem length_filter_lt (l : List Instant) (f : Instant → Instant) (x : Instant) :
    (l.filter (fun y => decide (f y < x))).length = l.length - (l.filter (fun y => decide (x ≤ f y))).length := by
  have hsplit := List.length_eq_length_filter_add (l := l) (fun y => decide (x ≤ f y))
  have hrest : l.filter (fun y => !decide (x ≤ f y)) = l.filter (fun y => decide (f y < x)) := by simp [← decide_not]
  rw [hrest] at hsplit
  omega

/-- A SYNC kind 3 keeps the triggers whose visibility its cursor has not passed, and counts the others as discarded (R185). -/
theorem dropStale_spec {x : Instant} (hx : nearCoarse s.now s.seq[ch].syncFrom = x) : let t := dropStale ch s
    let l := s.seq[ch].trigQ.filter (fun y => decide (x ≤ s.triggerVis ch y))
    t = { s with seq := t.seq, delay := t.delay } ∧ (∀ k, k ≠ ch → t.seq[k] = s.seq[k] ∧ t.delay[k] = s.delay[k]) ∧
    t.seq[ch] = { s.seq[ch] with trigQ := l } ∧
    t.delay[ch] = { s.delay[ch] with discarded := s.delay[ch].discarded + BitVec.ofNat 64 (s.seq[ch].trigQ.length - l.length) } := by
  unfold dropStale
  dsimp only
  rw [hx, length_filter_lt]
  exact ⟨rfl, fun k hk => ⟨upd_other _ _ _ _ hk.symm, upd_other _ _ _ _ hk.symm⟩, upd_same_fin .., upd_same_fin ..⟩

/-- A SYNC that begins to wait looks from its cursor on (R155, R185). -/
theorem syncOn_syncFrom (w : SeqWait) : (syncOn ch w s).seq[ch].syncFrom = s.seq[ch].cursor := by
  have hseq : (syncOn ch w s).seq[ch] = { s.seq[ch] with pstate := 3, wait := w, resumeAt := none } := upd_same_fin ..
  rw [hseq]
  exact Nat.max_eq_left (Nat.zero_le _)

/-- SYNC kind 3 begins to wait with the triggers that are not too early (R185). -/
theorem syncTrigger_spec : let t := dropStale ch (syncOn ch .trigger s)
    let l := s.seq[ch].trigQ.filter (fun y => decide (nearCoarse s.now s.seq[ch].cursor ≤ s.triggerVis ch y))
    t = { s with seq := t.seq, delay := t.delay } ∧ (∀ k, k ≠ ch → t.seq[k] = s.seq[k] ∧ t.delay[k] = s.delay[k]) ∧
    t.seq[ch] = { (syncOn ch .trigger s).seq[ch] with trigQ := l } ∧
    t.delay[ch] = { s.delay[ch] with discarded := s.delay[ch].discarded + BitVec.ofNat 64 (s.seq[ch].trigQ.length - l.length) } := by
  have hnow : (syncOn ch .trigger s).now = s.now := rfl
  have hlist : (syncOn ch .trigger s).seq[ch].trigQ = s.seq[ch].trigQ := by
    rw [show (syncOn ch .trigger s).seq[ch] = _ from upd_same_fin ..]
  obtain ⟨hframe, hothers, hseq, hdelay⟩ := dropStale_spec (syncOn ch .trigger s) ch (congrArg (nearCoarse _) (syncOn_syncFrom ..))
  rw [hnow, hlist] at hseq hdelay
  exact ⟨hframe, fun k hk => ⟨(hothers k hk).1.trans (upd_other _ _ _ _ hk.symm), (hothers k hk).2⟩, hseq, hdelay⟩

/-! ## WAITCOND and BRANCH wait (R173, R177, R178) -/

theorem waitFor_within {c : Cond} {n : Nat} {x : Target} {t : TE} (h : s.oldest t ≤ teOf s.seq[ch].cursor) :
    waitFor ch c n x t s = { s with seq := upd s.seq ch (fun q => { q with
      pstate := 3, wait := .cond c (q.cursor / 3200) n q.cursor x }) } := by
  unfold waitFor
  dsimp only
  rw [historyAt_within _ _ h]
  simp [State.updSeq, upd, teOf, fuPerTE]

theorem branch_ahead {c : Cond} {x : Target} {t : TE} (h : t < teOf s.seq[ch].cursor) :
    branch ch c x t s = { s with seq := upd s.seq ch (fun q => { q with pstate := 3, wait := .branch c x }) } :=
  if_neg (Nat.not_le.mpr h)

theorem branch_reached {c : Cond} {x : Target} {t : TE} (hreached : teOf s.seq[ch].cursor ≤ t)
    (hwithin : s.oldest t ≤ teOf s.seq[ch].cursor) : branch ch c x t s = branchAt ch c x (teOf s.seq[ch].cursor) s := by
  unfold branch
  dsimp only
  rw [if_pos hreached, historyAt_within _ _ hwithin]

/-! ## Conditions decide (R172, R174) -/

/-- The latched bits that a condition with consume tests and finds at 1 (R174). -/
def consumedBits (c : Cond) (v : W64) : List Nat :=
  if c.consume then (List.range 64).filter (fun b => isLatched b && condTests c b && v.toNat.testBit b) else []

theorem clearBits_nil (a : TE) : clearBits ch [] a s = s := by
  have hseq : upd s.seq ch (fun q => q) = s.seq := Vector.set_getElem_self ..
  exact congrArg (fun v => ({ s with seq := v } : State)) hseq

theorem consumeCond_eq (c : Cond) (v : W64) (a : TE) : consumeCond ch c v a s = clearBits ch (consumedBits c v) a s := by
  unfold consumeCond consumedBits
  split
  · rfl
  · exact (clearBits_nil s ch a).symm

/-- What a clear of latches leaves of the settings of its sequencer (R172). -/
theorem clearBits_seq (bs : List Nat) (a : TE) : (clearBits ch bs a s).seq[ch] =
    { s.seq[ch] with cleared := (clearBits ch bs a s).seq[ch].cleared } := by
  rw [show (clearBits ch bs a s).seq[ch] = _ from upd_same_fin ..]

/-- A BRANCH takes its sample, consumes, and goes to its target or on (R174, R178). -/
theorem branchAt_spec (c : Cond) (x : Target) (a : TE) : let t := branchAt ch c x a s
    t = { s with seq := t.seq } ∧ ∃ p, t.seq[ch] = { s.seq[ch] with
      sample := snapshot s ch a, cleared := (clearBits ch (consumedBits c (snapshot s ch a)) a s).seq[ch].cleared
      pc := if condHolds c (snapshot s ch a) then x else s.seq[ch].pc, pendHints := p } := by
  unfold branchAt
  dsimp only
  rw [consumeCond_eq]
  by_cases h : condHolds c (snapshot s ch a) = true
  · obtain ⟨p, hp⟩ := setPc_spec (clearBits ch (consumedBits c (snapshot s ch a)) a
      (s.updSeq ch (fun q => { q with sample := snapshot s ch a }))) ch x
    rw [if_pos h, hp, if_pos h]
    exact ⟨rfl, p, by simp [clearBits, State.updSeq, upd]⟩
  · rw [if_neg h, if_neg h]
    exact ⟨rfl, s.seq[ch].pendHints, by simp [clearBits, State.updSeq, upd]⟩

/-- What a BRANCH that decides leaves in its sequencer. -/
theorem branchAt_decides (c : Cond) (x : Target) (a : TE) : let t := branchAt ch c x a s
    t.seq[ch].sample = snapshot s ch a ∧ t.seq[ch].pstate = s.seq[ch].pstate ∧ t.seq[ch].wait = s.seq[ch].wait ∧
    t.seq[ch].pc = (if condHolds c (snapshot s ch a) then x else s.seq[ch].pc) ∧ t.seq[ch].nextIssue = s.seq[ch].nextIssue ∧
    t.seq[ch].cleared = (clearBits ch (consumedBits c (snapshot s ch a)) a s).seq[ch].cleared ∧ t = { s with seq := t.seq } := by
  obtain ⟨hframe, p, hseq⟩ := branchAt_spec s ch c x a
  dsimp only
  rw [hseq]
  exact ⟨rfl, rfl, rfl, rfl, rfl, rfl, hframe⟩

/-- A condition that is met sets origin, cursor and sample, consumes, and the sequencer runs on (R166, R174, R177). -/
theorem metAt_spec (c : Cond) (t : TE) : let u := metAt ch c t s
    u = { s with seq := u.seq } ∧ u.seq[ch] = { s.seq[ch] with
      cleared := (clearBits ch (consumedBits c (snapshot s ch t)) t s).seq[ch].cleared
      pstate := 2, wait := .none, sample := snapshot s ch t, origin := t * 3200
      cursor := max (t * 3200) (nearCoarse t s.seq[ch].cursor), nextIssue := max s.seq[ch].nextIssue (t + 2) } := by
  have hlater (x : Instant) : laterTime (startOf t) x = max (t * 3200) (nearCoarse t x) := by
    have hte : teOf (startOf t) = t := Nat.mul_div_cancel t (by decide)
    rw [laterTime, hte]
    rfl
  unfold metAt
  dsimp only
  rw [consumeCond_eq]
  refine ⟨rfl, ?_⟩
  simp only [State.updSeq, upd_same_fin, hlater]
  rw [clearBits_seq]
  rfl

/-- What a condition that is met leaves in its sequencer. -/
theorem metAt_decides (c : Cond) (t : TE) : let u := metAt ch c t s
    u.seq[ch].pstate = 2 ∧ u.seq[ch].wait = .none ∧ u.seq[ch].origin = t * 3200 ∧
    u.seq[ch].cursor = max (t * 3200) (nearCoarse t s.seq[ch].cursor) ∧ u.seq[ch].sample = snapshot s ch t ∧
    u.seq[ch].cleared = (clearBits ch (consumedBits c (snapshot s ch t)) t s).seq[ch].cleared ∧ u = { s with seq := u.seq } := by
  obtain ⟨hframe, hseq⟩ := metAt_spec s ch c t
  dsimp only
  rw [hseq]
  exact ⟨rfl, rfl, rfl, rfl, rfl, rfl, hframe⟩

/-! ## How waits end (R155, R166, R177, R185) -/

theorem branchDecision_decides {c : Cond} {x : Target} (h : s.seq[ch].wait = .branch c x)
    (hhist : (s.reach (teOf s.seq[ch].cursor)).time.histFrom ≤ teOf s.seq[ch].cursor) :
    branchDecision ch s = branchAt ch c x (teOf s.seq[ch].cursor)
      ((s.reach (teOf s.seq[ch].cursor)).updSeq ch (fun q => { q with
        pstate := 2, wait := .none, nextIssue := max q.nextIssue (teOf s.seq[ch].cursor + 2) })) := by
  unfold branchDecision
  rw [h]
  dsimp only
  rw [Nat.max_eq_left hhist, historyAt_within]
  exact Nat.max_le.mpr ⟨Nat.sub_le .., hhist⟩

theorem waitcondMet_meets {c : Cond} {a n : Nat} {x : Instant} {y : Target} {t : TE} (hst : s.dev.st ≠ .hold)
    (h : s.seq[ch].wait = .cond c a n x y) (hmet : firstMet s.settle ch c a (timeoutAt x n) = some t) :
    waitcondMet ch s = metAt ch c t s.settle := by
  unfold waitcondMet
  rw [h]
  dsimp only
  rw [if_neg (by simpa using hst), hmet]

theorem waitcondTimeout_ends {c : Cond} {a n : Nat} {x : Instant} {y : Target} (hst : s.dev.st ≠ .hold)
    (h : s.seq[ch].wait = .cond c a n x y) (hn : 0 < n) (hmet : firstMet (s.reach (teOf (x + n))) ch c a (some (x + n)) = none) :
    waitcondTimeout ch s = setPc ch y ((s.reach (teOf (x + n))).updSeq ch (fun q => { q with
      pstate := 2, wait := .none, cursor := laterTime (x + n) q.cursor
      nextIssue := max q.nextIssue (max (teOf (x + n)) (s.reach (teOf (x + n))).time.histFrom + 2) })) := by
  have htimeout : timeoutAt x n = some (x + n) := if_neg hn.ne'
  unfold waitcondTimeout
  rw [h]
  dsimp only
  rw [htimeout]
  dsimp only
  rw [if_neg (by simpa using hst), hmet]

/-- A WAITCOND that times out goes on at its target, its cursor not before the instant of the timeout (R166, R177). -/
theorem timedOut_spec (e : Instant) (d : TE) (y : Target) : let t := setPc ch y (s.updSeq ch (fun q => { q with
      pstate := 2, wait := .none, cursor := laterTime e q.cursor, nextIssue := max q.nextIssue d }))
    t.seq[ch].pstate = 2 ∧ t.seq[ch].wait = .none ∧ t.seq[ch].pc = y ∧
    t.seq[ch].cursor = max e (nearCoarse (teOf e) s.seq[ch].cursor) ∧ t.seq[ch].origin = s.seq[ch].origin ∧
    t.seq[ch].nextIssue = max s.seq[ch].nextIssue d ∧ t = { s with seq := t.seq } := by
  obtain ⟨p, hp⟩ := setPc_spec (s.updSeq ch (fun q => { q with
    pstate := 2, wait := .none, cursor := laterTime e q.cursor, nextIssue := max q.nextIssue d })) ch y
  rw [hp]
  simp [State.updSeq, laterTime]

/-- The condition holds in the T_E in which it is met (R177). -/
theorem firstMet_holds {c : Cond} {a : TE} {stop : Option Instant} {t : TE} (h : firstMet s ch c a stop = some t) :
    condHolds c (snapshot s ch t) = true :=
  (Bool.and_eq_true_iff.mp (List.find?_some h :)).2

theorem takeTrigger_frame : takeTrigger ch s = { s with seq := (takeTrigger ch s).seq, delay := (takeTrigger ch s).delay } := by
  unfold takeTrigger
  split
  · dsimp only
    split <;> rfl
  · rfl

/-- A change of a sequencer, with what a taken trigger changes, leaves everything else (R185). -/
theorem takenBy_frame (f : Sequencer → Sequencer) : (takeTrigger ch s).updSeq ch f =
    { s with seq := ((takeTrigger ch s).updSeq ch f).seq, delay := ((takeTrigger ch s).updSeq ch f).delay } := by
  rw [takeTrigger_frame]
  rfl

theorem syncComplete_takes {k : Nat} {inst v : Instant} (hst : s.dev.st ≠ .hold) (h : syncEvent s ch = some (k, inst, v)) :
    syncComplete ch s = (takeTrigger ch (s.reach (teOf v))).updSeq ch (fun q => { q with
      pstate := 2, wait := .none, origin := inst, cursor := v, taken := (k, v) :: q.taken,
      nextIssue := max q.nextIssue (teOf v + 2), resumeAt := none }) := by
  unfold syncComplete
  rw [if_neg (by simpa using hst), h]

end

/-- Settles O31: a wait is written down at its issue; each end of a wait is a decision on the snapshot of its T_E. -/
theorem waits : Obligations.waits := by
  unfold Obligations.waits
  refine ⟨fun s ch n => ⟨fun m h => next_eq (issue_issued _ h rfl), fun m h => next_eq (issue_issued _ h rfl),
    fun m h => next_eq (issue_issued _ h rfl), fun h => ?_, fun c k x h hwithin => ?_, fun c x h hahead => ?_⟩,
    fun s ch c x => ⟨fun h hhist => ?_, fun n h hreached hwithin => ?_⟩,
    fun s ch hst => ⟨fun c a n x y t h hmet => ?_, fun c a n x y h hn hmet => ?_, fun k inst v h => ?_⟩⟩
  · refine ⟨_, next_eq (issue_issued _ h rfl), ?_⟩
    generalize issued s ch n = u
    obtain ⟨hframe, hothers, hseq, hdelay⟩ := syncTrigger_spec u ch
    exact ⟨hframe, hothers, hseq, hdelay⟩
  · exact next_eq ((issue_issued _ h rfl).trans (waitFor_within _ _ hwithin))
  · exact next_eq ((issue_issued _ h rfl).trans (branch_ahead _ _ hahead))
  · have hpresent (f : Sequencer → Sequencer) (u : State) : (u.updSeq ch f).seq[ch] = f u.seq[ch] := upd_same_fin ..
    obtain ⟨hsample, hstate, hwait, hpc, hnext, hcleared, hframe⟩ := branchAt_decides
      ((s.reach (teOf s.seq[ch].cursor)).updSeq ch (fun q => { q with
        pstate := 2, wait := .none, nextIssue := max q.nextIssue (teOf s.seq[ch].cursor + 2) })) ch c x (teOf s.seq[ch].cursor)
    rw [hpresent] at hstate hwait
    exact ⟨_, next_eq (branchDecision_decides s ch h hhist), hsample, hstate, hwait, hpc, hnext, hcleared, hframe⟩
  · obtain ⟨hsample, -, -, hpc, -, hcleared, hframe⟩ := branchAt_decides (issued s ch n) ch c x (teOf (issued s ch n).seq[ch].cursor)
    exact ⟨_, next_eq ((issue_issued _ h rfl).trans (branch_reached _ _ hreached hwithin)), hsample, hpc, hcleared, hframe⟩
  · obtain ⟨hstate, hwait, horigin, hcursor, hsample, hcleared, hframe⟩ := metAt_decides s.settle ch c t
    refine ⟨_, next_eq (waitcondMet_meets s ch hst h hmet), hstate, hwait, horigin, hcursor, hsample, ?_, hcleared, hframe⟩
    rw [hsample]
    exact firstMet_holds _ _ hmet
  · obtain ⟨hstate, hwait, hpc, hcursor, horigin, hnext, hframe⟩ := timedOut_spec (s.reach (teOf (x + n))) ch (x + n) _ y
    exact ⟨_, next_eq (waitcondTimeout_ends s ch hst h hn hmet), hstate, hwait, hpc, hcursor, horigin, hnext, hframe⟩
  · refine ⟨_, next_eq (syncComplete_takes s ch hst h), ?_⟩
    rw [show v / 3200 = teOf v from rfl]
    generalize s.reach (teOf v) = u
    rw [show ((takeTrigger ch u).updSeq ch _).seq[ch] = _ from upd_same_fin ..]
    exact ⟨rfl, rfl, rfl, rfl, takenBy_frame ..⟩

end Sys2Proof.Machine

/-!
SUPPORT. Gusts that execute, the contest for a group, event codes delivered, and the statement about them (spec 13, R351, R354, R356;
spec 06, R170, R189).
-/
namespace Sys2Proof.Machine

/-! ## Triggers are sent to delay units alone (R143, R145) -/

/-- The state but for its delay units. -/
def State.undelayed (s : State) : State := { s with delay := State.reset.delay }

theorem frame_of_undelayed {s t : State} (h : t.undelayed = s.undelayed) : t = { s with delay := t.delay } :=
  calc t = { t.undelayed with delay := t.delay } := rfl
    _ = { s.undelayed with delay := t.delay } := by rw [h]
    _ = { s with delay := t.delay } := rfl

theorem deliverTriggers_frame (e : TrigEv) (x : Instant) (s : State) :
    deliverTriggers e x s = { s with delay := (deliverTriggers e x s).delay } := by
  have hsend (l : List (Fin 64)) (u : State) : (each l (sendTrigger x) u).undelayed = u.undelayed :=
    view_each u (fun ch t => by unfold sendTrigger; split <;> rfl) l
  have hahead (u : State) : (each u.channels (fun ch t => t.updDelay ch (fun d => { d with ahead := d.ahead ++ [(e, x)] })) u).undelayed =
      u.undelayed := by
    refine view_each u (fun _ _ => ?_) _
    rfl
  have hview : (deliverTriggers e x s).undelayed = s.undelayed := by
    unfold deliverTriggers State.asOf
    split
    · split
      · exact congrArg (fun u : State => ({ u with od := s.od } : State)) (hsend _ { s with od := s.commits.prior })
      · exact hsend _ s
    · exact hahead s
  exact frame_of_undelayed hview

/-- States whose bare states differ in time and fabric differ in the data plane alone. -/
theorem dataPlaneOnly_of_bare_fab {s t : State} (h : t.bare = { s.bare with time := t.time, fab := t.bare.fab }) : DataPlaneOnly s t := by
  unfold DataPlaneOnly
  cases s; cases t
  simp only [State.bare, State.mk.injEq] at h ⊢
  simp_all

theorem bare_fabric (s : State) (f : Fabric) :
    ({ s with fab := f } : State).bare = { s.bare with fab := ({ s with fab := f } : State).bare.fab } := rfl

/-! ## Gusts execute (R354, R356) -/

section
variable (s : State) (g : Fin 16)

/-- The state in which the candidate `c` of a group has won (R354, R356). -/
def gustWon (c : Instant × W16) (s : State) : State :=
  (s.reach (teOf (c.1 + s.armg[g].latency * 3200))).updArm g (fun a => { a with
    armed := false, executed := true, cand := none, winner := some c, execs := a.execs + 1 })

/-- The candidate's Gust is reported, run, and sent as a trigger (R182, R354). -/
theorem gustExecute_eq {c : Instant × W16} (h : s.armg[g].cand = some c) : let x := c.1 + s.armg[g].latency * 3200
    gustExecute g s = executeGust x g true ((gustWon g c s).raiseAt x 497
      (BitVec.ofNat 32 (gustDetail 1 g.val c.2.toNat s.armg[g].seq.toNat))) := by
  unfold gustExecute
  rw [h]
  rfl

/-- Running a Gust notes it and sends its triggers (R182). -/
theorem executeGust_frame (x : Instant) (fabric : Bool) : executeGust x g fabric s =
    { s with fab := { s.fab with gustRuns := (x, g, fabric) :: s.fab.gustRuns }, delay := (executeGust x g fabric s).delay } :=
  deliverTriggers_frame ..

theorem bare_executeGust (x : Instant) (fabric : Bool) :
    (executeGust x g fabric s).bare = { s.bare with fab := (executeGust x g fabric s).bare.fab } := by
  rw [executeGust, bare_deliverTriggers, bare_fabric]

theorem gustWon_armg (c : Instant × W16) : (gustWon g c s).armg = upd s.armg g (fun a => { a with
    armed := false, executed := true, cand := none, winner := some c, execs := a.execs + 1 }) := by
  unfold gustWon State.updArm
  dsimp only
  rw [reach_armg]

theorem bare_updArm (f : ArmGroup → ArmGroup) : (s.updArm g f).bare = { s.bare with armg := (s.updArm g f).armg } := rfl

theorem bare_gustWon (c : Instant × W16) : (gustWon g c s).bare =
    { s.bare with time := (s.arrive (teOf (c.1 + s.armg[g].latency * 3200))).time, armg := (gustWon g c s).armg } := by
  rw [gustWon, bare_updArm, bare_reach]
  rfl

theorem raiseAt_armg (x : Instant) (source : Nat) (d : W32) (flags : Nat) : (s.raiseAt x source d flags).armg = s.armg := by
  rw [raiseAt_frame]

theorem Raised.executeGust {t : State} {x y : Instant} {fabric : Bool} {source detail : Nat} (h : Raised t x source detail) :
    Raised (executeGust y g fabric t) x source detail := by
  rw [executeGust_frame]
  exact h

/-- A group's candidate executes at its T_fire + L: the group, the report, the run, and nothing but the data plane (R354, R356). -/
theorem gustExecute_spec {c : Instant × W16} (h : s.armg[g].cand = some c) : let x := c.1 + s.armg[g].latency * 3200
    let t := gustExecute g s
    t.armg[g] = { s.armg[g] with
      armed := false, executed := true, cand := none, winner := some c, execs := s.armg[g].execs + 1 } ∧
    (∀ k, k ≠ g → t.armg[k] = s.armg[k]) ∧ t.time.count = max s.time.count (x / 3200) ∧
    (∃ l, t.fab.gustRuns = (x, g, true) :: l) ∧
    Raised t x 497 (1 + g.val * 2 ^ 4 + c.2.toNat % 2 ^ 14 * 2 ^ 8 + s.armg[g].seq.toNat % 256 * 2 ^ 22) ∧
    DataPlaneOnly { s with armg := t.armg } t := by
  intro x t
  let u := (gustWon g c s).raiseAt x 497 (BitVec.ofNat 32 (gustDetail 1 g.val c.2.toNat s.armg[g].seq.toNat))
  have ht : t = Machine.executeGust x g true u := gustExecute_eq s g h
  have harmg : t.armg = (gustWon g c s).armg := by rw [ht, executeGust_armg, raiseAt_armg]
  have hbare : t.bare = { s.bare with time := (s.arrive (teOf x)).time, fab := t.bare.fab, armg := t.armg } := by
    rw [harmg, ht, bare_executeGust, bare_raiseAt, bare_gustWon]
  have htime : t.time = (s.arrive (teOf x)).time := (congrArg State.time hbare :)
  refine ⟨?_, fun k hk => ?_, ?_, ?_, ?_, ?_⟩
  · rw [harmg, gustWon_armg, upd_same_fin]
  · rw [harmg, gustWon_armg, upd_other _ _ _ _ hk.symm]
  · rw [htime]
    rfl
  · rw [ht, executeGust_frame]
    exact ⟨_, rfl⟩
  · rw [ht]
    exact (raiseAt_raised ..).executeGust g
  · refine dataPlaneOnly_of_bare_fab ?_
    rw [htime]
    exact hbare

/-! ## The contest (R356) -/

theorem contest_stale {seq : Byte} {k : Instant × W16} (h : s.staleGust g seq = true) :
    contest g seq k s = gustEvent 4 g k.2.toNat seq.toNat s := if_pos h

theorem contest_unarmed {seq : Byte} {k : Instant × W16} (hstale : s.staleGust g seq = false) (hexecuted : s.armg[g].executed = false)
    (h : s.armg[g].armed = false) : contest g seq k s = s := by
  unfold contest
  simp only [hstale, hexecuted, h]
  rfl

/-- In time, the Gust meets the candidate of its arming, if there is one. -/
theorem contest_armed {seq : Byte} {k : Instant × W16} (hstale : s.staleGust g seq = false) (hexecuted : s.armg[g].executed = false)
    (h : s.armg[g].armed = true) (htime : s.nowAt + 51200 ≤ k.1 + s.armg[g].latency * 3200) : contest g seq k s =
      match s.armg[g].cand with
      | none => s.updArm g (fun a => { a with cand := some k })
      | some c =>
        if keyLess k c then loseGust g c.2.toNat seq.toNat (s.updArm g (fun a => { a with cand := some k }))
        else loseGust g k.2.toNat seq.toNat s := by
  have hlate : ¬ k.1 + s.armg[g].latency * fuPerTE < s.nowAt + 16 * fuPerTE := Nat.not_lt.mpr htime
  unfold contest
  rw [hstale]
  simp only [hexecuted, h, hlate]
  rfl

theorem loseGust_armg (node seq : Nat) : (loseGust g node seq s).armg = upd s.armg g (fun a => { a with lost := a.lost + 1 }) :=
  gustEvent_armg ..

theorem gustEvent_frame (kind node seq : Nat) : gustEvent kind g node seq s = { s with merger := (gustEvent kind g node seq s).merger } :=
  raiseOnce_frame ..

/-- A state that has the groups and the merger changed alone, and of the groups only one. -/
def GroupOnly (g : Fin 16) (s t : State) : Prop :=
  t = { s with armg := t.armg, merger := t.merger } ∧ ∀ j, j ≠ g → t.armg[j] = s.armg[j]

theorem groupOnly_updArm (f : ArmGroup → ArmGroup) : GroupOnly g s (s.updArm g f) :=
  ⟨rfl, fun _ hj => upd_other _ _ _ _ hj.symm⟩

theorem GroupOnly.trans {s t u : State} (h : GroupOnly g s t) (h' : GroupOnly g t u) : GroupOnly g s u := by
  obtain ⟨hframe, hothers⟩ := h
  obtain ⟨hframe', hothers'⟩ := h'
  refine ⟨?_, fun j hj => (hothers' j hj).trans (hothers j hj)⟩
  rw [hframe', hframe]

theorem groupOnly_gustEvent (kind node seq : Nat) : GroupOnly g s (gustEvent kind g node seq s) := by
  refine ⟨?_, fun j _ => by rw [gustEvent_armg]⟩
  rw [gustEvent_frame]

theorem groupOnly_loseGust (node seq : Nat) : GroupOnly g s (loseGust g node seq s) :=
  (groupOnly_updArm s g _).trans g (groupOnly_gustEvent ..)

theorem groupOnly_lateGust (node seq : Nat) : GroupOnly g s (lateGust g node seq s) :=
  (groupOnly_updArm s g _).trans g (groupOnly_gustEvent ..)

/-- Whatever its outcome, a contest changes its group and the merger alone (R356). -/
theorem contest_groupOnly (seq : Byte) (k : Instant × W16) : GroupOnly g s (contest g seq k s) := by
  unfold contest
  dsimp only
  split
  · exact groupOnly_gustEvent ..
  · split
    · split
      · split
        · exact groupOnly_lateGust ..
        · exact groupOnly_loseGust ..
      · exact groupOnly_loseGust ..
    · split
      · exact ⟨rfl, fun _ _ => rfl⟩
      · split
        · exact groupOnly_lateGust ..
        · split
          · exact groupOnly_updArm ..
          · split
            · exact (groupOnly_updArm s g _).trans g (groupOnly_loseGust ..)
            · exact groupOnly_loseGust ..

/-- Of two candidates of one arming the one with the smaller key stays, and the other is lost (R356). -/
theorem contest_candidates {seq : Byte} {k c : Instant × W16} (hstale : s.staleGust g seq = false)
    (hexecuted : s.armg[g].executed = false) (h : s.armg[g].armed = true) (htime : s.nowAt + 51200 ≤ k.1 + s.armg[g].latency * 3200)
    (hc : s.armg[g].cand = some c) : (contest g seq k s).armg[g] =
      { s.armg[g] with cand := some (if keyLess k c then k else c), lost := s.armg[g].lost + 1 } := by
  rw [contest_armed s g hstale hexecuted h htime, hc]
  dsimp only
  by_cases hk : keyLess k c = true
  · simp only [if_pos hk, loseGust_armg, State.updArm, upd_same_fin]
  · simp only [if_neg hk, loseGust_armg, upd_same_fin, ← hc]

end

/-! ## Event codes (R170, R189, R351) -/

/-- A change that brings about `P` or leaves it as it was, made for each member of a list. -/
theorem each_iff {α : Type} {I P : State → Prop} {Q : α → Prop} {f : α → State → State}
    (hI : ∀ b t, I t → I (f b t)) (hP : ∀ b t, I t → (P (f b t) ↔ Q b ∨ P t)) (l : List α) (s : State) (hs : I s) :
    P (each l f s) ↔ (∃ b ∈ l, Q b) ∨ P s := by
  unfold each
  induction l generalizing s with
  | nil => simp
  | cons b rest ih =>
    rw [List.foldl_cons, ih (f b s) (hI b s hs), hP b s hs]
    simp only [List.exists_mem_cons_iff, or_assoc, or_left_comm]

theorem mem_trimTimes {a : TE} {l : List TE} : a ∈ trimTimes a (a :: l) :=
  List.mem_append_left _ (List.mem_filter.mpr ⟨List.mem_cons_self, decide_eq_true (Nat.lt_add_of_pos_right (by decide))⟩)

/-- A matcher of a crossbar shows a code in T_E a. -/
def showsAt (a : TE) (cl m : Fin 4) (s : State) : Prop := a ∈ s.xbar[cl].matched[m]

theorem showsAt_congr {a : TE} {cl m : Fin 4} {s t : State} (h : s.xbar = t.xbar) : showsAt a cl m s ↔ showsAt a cl m t := by
  unfold showsAt
  rw [h]

theorem deliverTriggers_xbar (e : TrigEv) (x : Instant) (s : State) : (deliverTriggers e x s).xbar = s.xbar := by
  rw [deliverTriggers_frame]

/-- The matchers of one crossbar that a code meets show it, and no other. -/
theorem matchCode_shows (w : W16) (a : TE) (c cl m : Fin 4) (s : State) : showsAt a cl m (matchCode w a c s) ↔
    (cl = c ∧ matcherMeets (s.nat (clIdx c 9) (1 + m.val)) w = true) ∨ showsAt a cl m s := by
  have hone (k : Fin 4) (t : State) : showsAt a cl m
      (t.updXbar c (fun x => { x with matched := upd x.matched k (fun l => trimTimes a (a :: l)) })) ↔
      (cl = c ∧ m = k) ∨ showsAt a cl m t := by
    unfold showsAt State.updXbar
    by_cases hc : cl = c
    · subst hc
      rw [upd_same_fin]
      by_cases hk : m = k
      · subst hk
        simp [mem_trimTimes]
      · simp [upd_other _ _ _ _ (Ne.symm hk), hk]
    · simp [upd_other _ _ _ _ (Ne.symm hc), hc]
  unfold matchCode
  rw [each_iff (I := fun _ => True) (fun _ _ _ => trivial) (fun k t _ => hone k t) _ s trivial]
  simp only [List.mem_filter, List.mem_finRange, true_and]
  refine or_congr_left ⟨fun ⟨k, hk, hcl, hm⟩ => ⟨hcl, hm ▸ hk⟩, fun ⟨hcl, hm⟩ => ⟨m, hm, hcl, rfl⟩⟩

theorem matchCode_od (w : W16) (a : TE) (c : Fin 4) (s : State) : (matchCode w a c s).od = s.od :=
  bare_eq_od (bare_matchCode ..)

/-- The code is given to every crossbar (R170, R351). -/
theorem matchCodes_show (w : W16) (a : TE) (cl m : Fin 4) (s : State) (hcl : cl.val < s.part.clusters) :
    showsAt a cl m (each s.clusters (matchCode w a) s) ↔
      matcherMeets (s.nat (clIdx cl 9) (1 + m.val)) w = true ∨ showsAt a cl m s := by
  rw [each_iff (P := showsAt a cl m) (I := fun t => t.od = s.od)
    (Q := fun c => cl = c ∧ matcherMeets (s.nat (clIdx c 9) (1 + m.val)) w = true)
    (fun c t h => (matchCode_od w a c t).trans h) (fun c t h => ?_) _ s rfl]
  · refine or_congr_left ⟨fun ⟨c, _, hc, hm⟩ => hc ▸ hm, fun hm => ⟨cl, ?_, rfl, hm⟩⟩
    exact List.mem_filter.mpr ⟨List.mem_finRange cl, decide_eq_true hcl⟩
  · rw [matchCode_shows, State.nat, h, ← State.nat]

/-- The state in which a code that is due has been counted as delivered (R351). -/
def codeDue (w : W16) (a : TE) (s : State) : State :=
  { s.reach a with
    fab := { (s.reach a).fab with
      codesDue := (s.reach a).fab.codesDue.erase (a, w)
      delivered := (s.reach a).fab.delivered + 1 } }

section
variable (w : W16) (a : TE) (s : State)

theorem codeDue_part : (codeDue w a s).part = s.part := by
  unfold codeDue
  exact reach_part s a

theorem codeDue_od : (codeDue w a s).od = s.od := by
  unfold codeDue
  exact reach_od s a

theorem codeDue_xbar : (codeDue w a s).xbar = (s.reach a).xbar := by
  unfold codeDue
  rfl

end

theorem eventCodeDeliver_eq {w : W16} {a : TE} {s : State}
    (h : earliest (s.fab.codesDue.map (fun p => (p.2, p.1))) = some (w, a)) : eventCodeDeliver s =
      deliverTriggers (.code w.toNat) (startOf a) (each (codeDue w a s).clusters (matchCode w a) (codeDue w a s)) := by
  unfold eventCodeDeliver
  rw [h]
  rfl

/-- The triggers of a delivered code leave the crossbars. -/
theorem eventCodeDeliver_shows {w : W16} {a : TE} {s : State}
    (h : earliest (s.fab.codesDue.map (fun p => (p.2, p.1))) = some (w, a)) {cl : Fin 4} (hcl : cl.val < s.part.clusters) (m : Fin 4) :
    showsAt a cl m (eventCodeDeliver s) ↔
      matcherMeets (s.nat (clIdx cl 9) (1 + m.val)) w = true ∨ showsAt a cl m (s.reach a) := by
  have hnat : (codeDue w a s).nat (clIdx cl 9) (1 + m.val) = s.nat (clIdx cl 9) (1 + m.val) := by
    rw [State.nat, codeDue_od, State.nat]
  have hshow := matchCodes_show w a cl m (codeDue w a s) (by rw [codeDue_part]; exact hcl)
  rw [eventCodeDeliver_eq h, showsAt_congr (deliverTriggers_xbar ..), hshow, hnat, showsAt_congr (codeDue_xbar ..)]

theorem bare_codesMatched (w : W16) (a : TE) (s : State) :
    (each (codeDue w a s).clusters (matchCode w a) (codeDue w a s)).bare = (codeDue w a s).bare :=
  bare_each _ (fun cl t => bare_matchCode w a cl t) _

theorem bare_eventCodeDeliver {w : W16} {a : TE} {s : State}
    (h : earliest (s.fab.codesDue.map (fun p => (p.2, p.1))) = some (w, a)) :
    (eventCodeDeliver s).bare = { s.bare with time := (s.arrive a).time, fab := (codeDue w a s).bare.fab } := by
  rw [eventCodeDeliver_eq h, bare_deliverTriggers, bare_codesMatched, codeDue, bare_fabric, bare_reach]
  rfl

/-- Settles O44: a Gust that executes, a contest and a delivered code each change the units that the lemmas above name. -/
theorem gustsAndCodes : Obligations.gusts_and_codes := by
  unfold Obligations.gusts_and_codes
  refine ⟨fun s g c h => ?_, fun s g seq k => ⟨fun hstale => ?_, fun hexecuted harmed => ?_, fun hstale hexecuted harmed htime => ?_,
    (contest_groupOnly s g seq k).2, (contest_groupOnly s g seq k).1⟩, fun s w a h => ?_⟩
  · exact ⟨_, rfl, gustExecute_spec s g h⟩
  · rw [contest_stale s g hstale, gustEvent_armg]
  · by_cases hstale : s.staleGust g seq = true
    · rw [contest_stale s g hstale, gustEvent_armg]
    · rw [contest_unarmed s g (Bool.eq_false_iff.mpr hstale) hexecuted harmed]
  · refine ⟨fun hc => ?_, fun c hc => contest_candidates s g hstale hexecuted harmed htime hc⟩
    rw [contest_armed s g hstale hexecuted harmed htime, hc]
    exact upd_same_fin ..
  · have hbare := bare_eventCodeDeliver h
    have htime : (eventCodeDeliver s).time = (s.arrive a).time := (congrArg State.time hbare :)
    refine ⟨_, rfl, congrArg TimeState.count htime, ?_, fun cl hcl m => ⟨fun hm => (eventCodeDeliver_shows h hcl m).mpr (.inl hm),
      (eventCodeDeliver_shows h hcl m).mp⟩, dataPlaneOnly_of_bare_fab ?_⟩
    · exact eventCodeDeliver_delivered fun hnil => by simp [hnil, earliest] at h
    · rw [htime, hbare]

end Sys2Proof.Machine

/-!
SUPPORT. What the pager changes: Pans read, copied into frames and handed over, hint fetches, repairs, pin loads, and the answers to
Loads (spec 07, R190 to R210; spec 14, R371, R376; spec 15, R423).
-/
namespace Sys2Proof.Machine

variable {α : Type}

/-- A view of the state that does not see what memory errors that a read meets change, nor Pans that change hands (R371, R462, R463). -/
structure Reading (π : State → α) : Prop where
  own : ∀ (s : State) (l : List (Nat × PanFlag)), π { s with own := l } = π s
  merger : ∀ (s : State) (m : Merger), π { s with merger := m } = π s
  health : ∀ (s : State) (x : Health), π { s with health := x } = π s

/-- A view that sees no Pan of cluster `cl` become resident (R194). -/
structure Framed (cl : Fin 4) (π : State → α) : Prop extends Reading π where
  frames : ∀ (s : State) (f : Store → List Frame), π (s.updStore cl (fun t => { t with frames := f t })) = π s

/-- A view that does not see the hint fetches of the cluster either (R193 to R196). -/
structure Hinted (cl : Fin 4) (π : State → α) : Prop extends Framed cl π where
  hints : ∀ (s : State) (l : List Fetch) (f : W64 → W64) (g : W32 → W32),
    π (s.updStore cl (fun t => { t with hints := l, hintCount := f t.hintCount, longest := g t.longest })) = π s

/-- A view that does not see the pin loads and repairs of the cluster that wait (R195). -/
structure Queued (cl : Fin 4) (π : State → α) : Prop extends Hinted cl π where
  work : ∀ (s : State) (l : List Fetch), π (s.updStore cl (fun t => { t with work := l })) = π s

/-- A view that does not see the channels of the cluster resume or stop after a repair (R209, R210). -/
structure Resumed (cl : Fin 4) (π : State → α) : Prop extends Framed cl π where
  edge : ∀ (s : State) (ch : Fin 64) (x : Instant), clusterOf ch = cl →
    π (s.updEdge ch (fun g => { g with fifo := cancelFifo x g.fifo })) = π s
  stop : ∀ (s : State) (ch : Fin 64) (x : Instant), clusterOf ch = cl →
    π (s.updSeq ch (fun q => { q with pstate := 5, wait := .none, parkAt := some x })) = π s
  go : ∀ (s : State) (ch : Fin 64) (a : TE), clusterOf ch = cl →
    π (s.updSeq ch (fun q => { q with pstate := 2, wait := .none, nextIssue := max q.nextIssue a })) = π s

/-! ## Pans become resident (R190, R194, R371, R376) -/

namespace Reading
variable {π : State → α} (h : Reading π) (s : State)
include h

theorem raiseAt (x : Instant) (source : Nat) (d : W32) (flags : Nat) : π (s.raiseAt x source d flags) = π s := by
  rw [raiseAt_frame, h.merger]

theorem handOver (p : Nat) (o : Owner) (use : Byte) : π (s.handOver p o use) = π s := h.own ..

theorem takePan (p : Nat) (use : Byte) : π (s.takePan p use) = π s := h.handOver ..

theorem freezeProgramPan (p : Nat) : π (freezeProgramPan p s) = π s := by
  simp only [Machine.freezeProgramPan, apply_ite π, h.handOver, ite_self]

theorem memoryEvent (w : MemWord) (bad scrub : Bool) : π (memoryEvent w bad scrub s) = π s := by
  have honce (source key d flags : Nat) : π (s.raiseOnce source key d flags) = π s := by rw [raiseOnce_frame, h.merger]
  have hcount (source key low flags : Nat) : π (s.raiseCount source key low flags) = π s := by rw [raiseCount_frame, h.merger]
  simp only [Machine.memoryEvent, apply_ite π, honce, hcount, ite_self]

theorem healthMerger (x : Health) (m : Merger) : π { s with health := x, merger := m } = π s :=
  (h.merger { s with health := x } m).trans (h.health s x)

theorem readWord (w : MemWord) : π (readWord w s) = π s := by
  have hpoison (scrub : Bool) : π (poisonWord w scrub s) = π s := by
    unfold poisonWord
    split
    · rfl
    · dsimp only
      rw [apply_ite π, h.freezeProgramPan, ite_self, h.memoryEvent]
      split
      · exact h.healthMerger ..
      · exact h.health ..
  unfold Machine.readWord
  split
  · exact hpoison false
  · rw [correctWord, h.memoryEvent, h.health]
  · rfl

theorem readPan (p : Nat) : π (readPan p s) = π s := by
  unfold Machine.readPan
  exact view_each s (fun (e : MemWord × Bool) t => h.readWord t e.1) _

theorem copyWords (cl : Fin 4) (slot p : Nat) : π (copyWords cl slot p s) = π s := by
  simp only [Machine.copyWords, State.inject, apply_ite π, h.health, h.readPan, ite_self]

/-- The Pans that a check reaches are read, and those of them that the host owned pass to the device (R192). -/
theorem reachPans (l : List Nat) : π (reachPans l s).2 = π s := by
  unfold Machine.reachPans
  dsimp only
  rw [view_each _ fun p t => h.freezeProgramPan t p, view_each _ fun p t => h.readPan t p,
    view_each _ fun p t => h.takePan t p 0x01]

theorem releasePans (l : List Nat) : π (releasePans l s) = π s :=
  view_each s (fun p t => by simp only [State.givePan, apply_ite π, h.handOver, ite_self]) l

end Reading

namespace Framed
variable {cl : Fin 4} {π : State → α} (h : Framed cl π) (s : State)
include h

theorem loadFrame (slot p : Nat) (used : TE) : π (loadFrame cl slot p used s) = π s := (h.copyWords ..).trans (h.frames ..)

theorem bringIn (p : Nat) (used : TE) : π (bringIn cl p used s) = π s := by
  unfold Machine.bringIn
  split
  · rfl
  · split
    · exact h.loadFrame ..
    · rfl

theorem reserveFrame (p : Nat) : π (reserveFrame cl p s) = π s := by
  unfold Machine.reserveFrame
  split
  · rfl
  · split
    · exact h.frames ..
    · rfl

end Framed

/-! ## Hint fetches, repairs, pin loads (R195, R196, R208, R210) -/

theorem Hinted.hintFetchComplete {cl : Fin 4} {π : State → α} (h : Hinted cl π) (s : State) : π (hintFetchComplete cl s) = π s := by
  unfold Machine.hintFetchComplete
  split
  · rfl
  next f rest _ =>
    exact (h.hints (bringIn cl f.pan f.used s) rest (· + 1)
      (fun w => BitVec.ofNat 32 (max w.toNat ((bringIn cl f.pan f.used s).now - f.asked)))).trans (h.bringIn ..)

theorem Hinted.hintsFirst {cl : Fin 4} {π : State → α} (h : Hinted cl π) (s : State) : π (hintsFirst cl s) = π s :=
  view_each s (fun _ t => h.hintFetchComplete t) _

theorem mem_clusterChannels {cl : Fin 4} {ch : Fin 64} (h : ch ∈ clusterChannels cl) : clusterOf ch = cl := by
  obtain ⟨j, -, rfl⟩ := List.mem_map.mp h
  exact Fin.ext (by simp only [clusterOf, channelOf]; omega)

theorem Resumed.stopAndPark {cl : Fin 4} {π : State → α} (h : Resumed cl π) (s : State) {ch : Fin 64} (hch : clusterOf ch = cl)
    (m : TE) (t : Target) (saltern : Bool) (policy : Nat) : π (stopAndPark ch m t saltern policy s) = π s := by
  rw [Machine.stopAndPark, h.stop _ _ _ hch, h.edge _ _ _ hch, missEvent, h.raiseAt]

theorem Resumed.afterRepair {cl : Fin 4} {π : State → α} (h : Resumed cl π) (s : State) {ch : Fin 64} (hch : clusterOf ch = cl)
    (p : Nat) : π (afterRepair p ch s) = π s := by
  unfold Machine.afterRepair
  split
  · split
    · split
      · exact h.stopAndPark s hch ..
      · rw [missEvent, h.raiseAt, h.go _ _ _ hch]
    · rfl
  · rfl

/-- A repair is counted, copies the Pan again, and lets the channels of its cluster go on (R208, R210). -/
theorem Resumed.repairFrame {cl : Fin 4} {π : State → α} (h : Resumed cl π) (s : State) (p : Nat) :
    π (repairFrame cl p s) = π (s.updStore cl (fun t => { t with repairCount := t.repairCount + 1 })) := by
  have hafter (t : State) : π (each (clusterChannels cl) (Machine.afterRepair p) t) = π t :=
    each_induction (P := fun u => π u = π t) t rfl fun ch hch u hu => (h.afterRepair u (mem_clusterChannels hch) p).trans hu
  unfold Machine.repairFrame
  dsimp only
  rw [hafter, apply_ite π, h.freezeProgramPan, ite_self]
  split
  · exact h.copyWords ..
  · rfl

section
variable {cl : Fin 4} {π : State → α} {s : State}

theorem serveWork_eq {f : Fetch} {rest : List Fetch} (hwork : s.store[cl].work = f :: rest) : serveWork cl s =
    if f.repair then repairFrame cl f.pan (s.updStore cl (fun t => { t with work := rest }))
    else bringIn cl f.pan 0 (s.updStore cl (fun t => { t with work := rest })) := by
  unfold serveWork
  rw [hwork]

/-- A pin load that ends makes its Pan resident, and no more (R195, R197). -/
theorem Queued.serveWork (h : Queued cl π) {f : Fetch} {rest : List Fetch} (hwork : s.store[cl].work = f :: rest)
    (hload : f.repair = false) : π (serveWork cl s) = π s := by
  rw [serveWork_eq hwork, hload]
  exact (h.bringIn ..).trans (h.work ..)

/-- Whatever is served, it is a repair counted or nothing that the view sees. -/
theorem Queued.serveWork_count (h : Queued cl π) (hr : Resumed cl π)
    (hcount : ∀ t : State, π (t.updStore cl (fun u => { u with repairCount := u.repairCount + 1 })) = π t) :
    π (Machine.serveWork cl s) = π s := by
  unfold Machine.serveWork
  split
  · rfl
  · dsimp only
    rw [apply_ite π, hr.repairFrame, hcount, h.bringIn, ite_self, h.work]

/-- The fetches that wait are no matter of frames and hints. -/
theorem hinted_work (cl : Fin 4) : Hinted cl (fun t : State => t.store[cl].work) where
  own _ _ := rfl
  merger _ _ := rfl
  health _ _ := rfl
  frames t f := by simp only [State.updStore, upd_same_fin]
  hints t l f g := by simp only [State.updStore, upd_same_fin]

/-- Serving takes the first fetch off the list (R195). -/
theorem serveWork_work (cl : Fin 4) (s : State) : (Machine.serveWork cl s).store[cl].work = s.store[cl].work.tail := by
  have hframed := (hinted_work cl).toFramed
  have hresumed : Resumed cl (fun t : State => t.store[cl].work) :=
    { hframed with edge := fun _ _ _ _ => rfl, stop := fun _ _ _ _ => rfl, go := fun _ _ _ _ => rfl }
  cases hwork : s.store[cl].work with
  | nil => simp only [Machine.serveWork, hwork, List.tail_nil]
  | cons f rest =>
    rw [serveWork_eq hwork]
    split
    · refine (hresumed.repairFrame ..).trans ?_
      simp only [State.updStore, upd_same_fin, List.tail_cons]
    · refine (hframed.bringIn ..).trans ?_
      simp only [State.updStore, upd_same_fin, List.tail_cons]

/-! ## Serving up to a fetch (R195) -/

/-- The fetches behind the last one that satisfies `p`. -/
def behindLast (p : Fetch → Bool) (l : List Fetch) : List Fetch := (l.reverse.takeWhile (fun f => !p f)).reverse

theorem serveUpTo_eq (p : Fetch → Bool) : let n := s.store[cl].work.length - (behindLast p s.store[cl].work).length
    serveUpTo cl p s = if n = 0 then s else (Machine.serveWork cl)^[n] (hintsFirst cl s) := by
  have hiterate (n : Nat) (t : State) : each (List.range n) (fun _ t => Machine.serveWork cl t) t = (Machine.serveWork cl)^[n] t := by
    rw [each, List.foldl_const, List.length_range]
  unfold serveUpTo behindLast
  dsimp only
  rw [hiterate, List.length_reverse]

theorem serveWork_iterate_work (n : Nat) (s : State) : ((Machine.serveWork cl)^[n] s).store[cl].work = s.store[cl].work.drop n := by
  induction n generalizing s with
  | zero => rfl
  | succ n ih => rw [Function.iterate_succ_apply, ih, serveWork_work, List.drop_tail]

theorem drop_behindLast (p : Fetch → Bool) (l : List Fetch) : l.drop (l.length - (behindLast p l).length) = behindLast p l := by
  have hsuffix : behindLast p l <:+ l := by
    have hprefix := List.takeWhile_prefix (fun f => !p f) (l := l.reverse)
    simpa [behindLast] using List.reverse_suffix.mpr hprefix
  exact (List.suffix_iff_eq_drop.mp hsuffix).symm

/-- What is left are the fetches behind the last one that satisfies `p` (R195). -/
theorem serveUpTo_work (p : Fetch → Bool) : (serveUpTo cl p s).store[cl].work = behindLast p s.store[cl].work := by
  have hdrop := drop_behindLast p s.store[cl].work
  rw [serveUpTo_eq]
  split
  next h =>
    rw [h] at hdrop
    exact hdrop
  next =>
    rw [serveWork_iterate_work, ((hinted_work cl).hintsFirst s :)]
    exact hdrop

theorem not_of_mem_behindLast {p : Fetch → Bool} {l : List Fetch} {f : Fetch} (h : f ∈ behindLast p l) : p f = false := by
  have hmem := List.mem_takeWhile_imp (List.mem_reverse.mp h)
  simpa using hmem

/-- A view that sees nothing of what is served. -/
theorem Queued.serveUpTo (h : Queued cl π) (hserve : ∀ t, π (Machine.serveWork cl t) = π t) (p : Fetch → Bool) :
    π (serveUpTo cl p s) = π s := by
  have hiterate (n : Nat) (t : State) : π ((Machine.serveWork cl)^[n] t) = π t := by
    induction n generalizing t with
    | zero => rfl
    | succ n ih => rw [Function.iterate_succ_apply, ih, hserve]
  rw [serveUpTo_eq]
  split
  · rfl
  · rw [hiterate, h.hintsFirst]

/-- Where no repair waits, serving makes Pans resident and no more. -/
theorem Queued.serveUpTo_loads (h : Queued cl π) (hloads : ∀ f ∈ s.store[cl].work, f.repair = false) (p : Fetch → Bool) :
    π (Machine.serveUpTo cl p s) = π s := by
  have hiterate (n : Nat) (t : State) (ht : ∀ f ∈ t.store[cl].work, f.repair = false) : π ((Machine.serveWork cl)^[n] t) = π t := by
    induction n generalizing t with
    | zero => rfl
    | succ n ih =>
      rw [Function.iterate_succ_apply, ih]
      · cases hwork : t.store[cl].work with
        | nil => simp only [Machine.serveWork, hwork]
        | cons f rest => exact h.serveWork hwork (ht f (hwork ▸ List.mem_cons_self))
      · intro f hf
        rw [serveWork_work] at hf
        exact ht f (List.mem_of_mem_tail hf)
  rw [serveUpTo_eq]
  split
  · rfl
  · rw [hiterate, h.hintsFirst]
    rw [((hinted_work cl).hintsFirst s :)]
    exact hloads

end

end Sys2Proof.Machine

/-!
SUPPORT. Hint fetches and pin loads complete, misses, parking, repairs, and the statement about them (spec 06, R153; spec 07, R194 to
R197, R207 to R210).
-/
namespace Sys2Proof.Machine

section
variable (s : State) (cl : Fin 4)

/-! ## A hint fetch completes (R194 to R196) -/

/-- The state without what making a Pan of a cluster resident changes. -/
def State.unpaged (cl : Fin 4) (s : State) : State :=
  { s with store := upd s.store cl (fun _ => {}), own := [], merger := {}, health := {} }

theorem queued_unpaged : Queued cl (State.unpaged cl) where
  own _ _ := rfl
  merger _ _ := rfl
  health _ _ := rfl
  frames t f := by simp only [State.unpaged, State.updStore, upd_upd]
  hints t l f g := by simp only [State.unpaged, State.updStore, upd_upd]
  work t l := by simp only [State.unpaged, State.updStore, upd_upd]

variable {s cl} in
/-- States that the pager of a cluster has changed agree in everything else. -/
theorem frame_of_unpaged {t : State} (h : t.unpaged cl = s.unpaged cl) :
    (∀ k, k ≠ cl → t.store[k] = s.store[k]) ∧ t = { s with store := t.store, health := t.health, merger := t.merger, own := t.own } := by
  refine ⟨fun k hk => ?_, ?_⟩
  · have hstore : upd t.store cl (fun _ => {}) = upd s.store cl (fun _ => {}) := congrArg State.store h
    rw [← upd_other t.store cl k (fun _ => {}) hk.symm, hstore, upd_other _ _ _ _ hk.symm]
  · calc t = { t.unpaged cl with store := t.store, health := t.health, merger := t.merger, own := t.own } := rfl
      _ = { s.unpaged cl with store := t.store, health := t.health, merger := t.merger, own := t.own } := by rw [h]
      _ = { s with store := t.store, health := t.health, merger := t.merger, own := t.own } := rfl

/-- The record of a cluster's pager but for its frames. -/
def State.unframed (cl : Fin 4) (s : State) : Store := { s.store[cl] with frames := [] }

theorem framed_unframed : Framed cl (State.unframed cl) where
  own _ _ := rfl
  merger _ _ := rfl
  health _ _ := rfl
  frames t f := by simp only [State.unframed, State.updStore, upd_same_fin]

theorem loadFrame_store (slot p : Nat) (used : TE) : (loadFrame cl slot p used s).store = upd s.store cl (fun t => { t with
    frames := t.frames.filter (fun f => f.slot ≠ slot) ++ [{ slot := slot, pan := p, used := used, loaded := true }] }) :=
  Reading.copyWords (π := State.store) ⟨fun _ _ => rfl, fun _ _ => rfl, fun _ _ => rfl⟩ _ cl slot p

/-- Where a frame can be had the Pan is resident (R194). -/
theorem bringIn_resident {p : Nat} (used : TE) (h : (s.slotFor cl p).isSome = true) :
    ((bringIn cl p used s).frameOf cl p).isSome = true := by
  obtain ⟨n, hn⟩ := Option.isSome_iff_exists.mp h
  unfold bringIn
  split
  next hresident => exact hresident
  next =>
    rw [hn]
    dsimp only
    rw [State.frameOf, loadFrame_store, upd_same_fin]
    exact List.find?_isSome.mpr ⟨_, List.mem_append_right _ (List.mem_singleton_self _), by simp⟩

variable {s cl} in
/-- A Pan that is resident, or for which a frame is free, has a frame. -/
theorem slotFor_isSome {p : Nat} (h : (s.frameOf cl p).isSome = true ∨ (s.freeSlot cl).isSome = true) : (s.slotFor cl p).isSome = true := by
  unfold State.slotFor
  split
  · rfl
  next hnone =>
    refine h.resolve_left fun hresident => ?_
    obtain ⟨f, hmem, hf⟩ := List.find?_isSome.mp hresident
    exact absurd (Bool.and_eq_true_iff.mp hf).1 (List.find?_eq_none.mp hnone f hmem)

theorem hintFetchComplete_spec {f : Fetch} {rest : List Fetch} (h : s.store[cl].hints = f :: rest) : let t := hintFetchComplete cl s
    t.store[cl].hints = rest ∧ t.store[cl].hintCount = s.store[cl].hintCount + 1 ∧
    ((s.slotFor cl f.pan).isSome = true → (t.frameOf cl f.pan).isSome = true) ∧
    ((s.frameOf cl f.pan).isSome = true ∨ (s.freeSlot cl).isSome = true → (t.frameOf cl f.pan).isSome = true) ∧
    (∀ k, k ≠ cl → t.store[k] = s.store[k]) ∧
    t = { s with store := t.store, health := t.health, merger := t.merger, own := t.own } := by
  have hframe := frame_of_unpaged ((queued_unpaged cl).hintFetchComplete s)
  have hcount : (bringIn cl f.pan f.used s).store[cl].hintCount = s.store[cl].hintCount :=
    (congrArg Store.hintCount ((framed_unframed cl).bringIn s f.pan f.used) :)
  have hresident : (s.slotFor cl f.pan).isSome = true → ((hintFetchComplete cl s).frameOf cl f.pan).isSome = true := by
    intro hslot
    have hbrought := bringIn_resident s cl f.used hslot
    unfold hintFetchComplete
    rw [h]
    dsimp only
    rw [State.frameOf, State.updStore, upd_same_fin]
    exact hbrought
  refine ⟨?_, ?_, hresident, fun hor => hresident (slotFor_isSome hor), hframe⟩
  · simp only [hintFetchComplete, h, State.updStore, upd_same_fin]
  · simp only [hintFetchComplete, h, State.updStore, upd_same_fin, hcount]

/-! ## A Load is answered (R153, R423) -/

/-- What an answer to a Load leaves. -/
def State.unanswered (s : State) : Vector Sequencer 64 × Vector Store 4 × Vector EdgeEngine 64 × Vector Driver 64 × Settings ×
    List Host.Cell × Answer × Part × Dev × Commits :=
  (s.seq, s.store, s.edge, s.drv, s.od, s.mem, s.answer, s.part, s.dev, s.commits)

theorem refreshAlert_unanswered : s.refreshAlert.unanswered = s.unanswered := by
  unfold State.refreshAlert
  split <;> rfl

theorem lostTunnel_unanswered (node port : Nat) : (lostTunnel node port s).unanswered = s.unanswered := by
  rw [lostTunnel, raiseSumAt_frame]
  rfl

theorem deliver_unanswered (r : Requester) (m : KppMsg) : (deliver r m s).unanswered = s.unanswered := by
  unfold deliver
  dsimp only
  split
  · rfl
  · exact refreshAlert_unanswered _
  · rfl
  · unfold sendTunnel forwardTunnel
    split
    · split
      · rfl
      · exact lostTunnel_unanswered ..
    · exact lostTunnel_unanswered ..

theorem answerLoad_unanswered (ch : Fin 64) (r : Requester) : (answerLoad ch r s).unanswered = s.unanswered := by
  unfold answerLoad
  split
  · exact (deliver_unanswered ..).trans rfl
  · rfl

theorem answerLoad_seq (ch : Fin 64) (r : Requester) : (answerLoad ch r s).seq = s.seq :=
  congrArg (fun v => v.1) (answerLoad_unanswered s ch r)
theorem answerLoad_store (ch : Fin 64) (r : Requester) : (answerLoad ch r s).store = s.store :=
  congrArg (fun v => v.2.1) (answerLoad_unanswered s ch r)
theorem answerLoad_edge (ch : Fin 64) (r : Requester) : (answerLoad ch r s).edge = s.edge :=
  congrArg (fun v => v.2.2.1) (answerLoad_unanswered s ch r)
theorem answerLoad_drv (ch : Fin 64) (r : Requester) : (answerLoad ch r s).drv = s.drv :=
  congrArg (fun v => v.2.2.2.1) (answerLoad_unanswered s ch r)
theorem answerLoad_od (ch : Fin 64) (r : Requester) : (answerLoad ch r s).od = s.od :=
  congrArg (fun v => v.2.2.2.2.1) (answerLoad_unanswered s ch r)
theorem answerLoad_mem (ch : Fin 64) (r : Requester) : (answerLoad ch r s).mem = s.mem :=
  congrArg (fun v => v.2.2.2.2.2.1) (answerLoad_unanswered s ch r)
theorem answerLoad_answer (ch : Fin 64) (r : Requester) : (answerLoad ch r s).answer = s.answer :=
  congrArg (fun v => v.2.2.2.2.2.2.1) (answerLoad_unanswered s ch r)
theorem answerLoad_part (ch : Fin 64) (r : Requester) : (answerLoad ch r s).part = s.part :=
  congrArg (fun v => v.2.2.2.2.2.2.2.1) (answerLoad_unanswered s ch r)
theorem answerLoad_dev (ch : Fin 64) (r : Requester) : (answerLoad ch r s).dev = s.dev :=
  congrArg (fun v => v.2.2.2.2.2.2.2.2.1) (answerLoad_unanswered s ch r)
theorem answerLoad_commits (ch : Fin 64) (r : Requester) : (answerLoad ch r s).commits = s.commits :=
  congrArg (fun v => v.2.2.2.2.2.2.2.2.2) (answerLoad_unanswered s ch r)

/-! ## Pin loads complete (R153, R195, R197) -/

/-- What the pager serves before a program's pin loads end, and these (R195, R197). -/
def pinsLoaded (ch : Fin 64) (s : State) : State :=
  each s.seq[ch].pinned (fun p t => bringIn (clusterOf ch) p 0 t)
    (serveUpTo (clusterOf ch) (fun f => !f.repair && f.ch = ch.val) s)

theorem pinLoadComplete_eq {ch : Fin 64} {r : Requester} (h : s.seq[ch].loading = some r) : pinLoadComplete ch s =
    answerLoad ch r ((pinsLoaded ch s).updSeq ch (fun q => { q with pstate := 1, gen := q.gen + 1, loading := none })).ok := by
  unfold pinLoadComplete
  rw [h]
  rfl

variable {s cl} in
/-- The channels of a cluster that a repair lets go on keep what a predicate of the sequencer does not see. -/
theorem updSeq_view {β : Type} {g : Sequencer → β} {f : Sequencer → Sequencer} (h : ∀ q, g (f q) = g q) (ch k : Fin 64) :
    g (s.updSeq k f).seq[ch] = g s.seq[ch] := by
  by_cases hk : k = ch
  · subst hk
    rw [State.updSeq, upd_same_fin, h]
  · rw [State.updSeq, upd_other _ _ _ _ hk]

/-- A view that the pager never changes, whatever it serves. -/
structure PagerBlind {α : Type} (cl : Fin 4) (π : State → α) : Prop extends Queued cl π, Resumed cl π where
  count : ∀ s : State, π (s.updStore cl (fun u => { u with repairCount := u.repairCount + 1 })) = π s

theorem PagerBlind.serveUpTo {α : Type} {π : State → α} {cl : Fin 4} (h : PagerBlind cl π) (s : State) (p : Fetch → Bool) :
    π (serveUpTo cl p s) = π s := h.toQueued.serveUpTo (fun _ => h.toQueued.serveWork_count h.toResumed h.count) p

theorem PagerBlind.pinsLoaded {α : Type} {π : State → α} {ch : Fin 64} (h : PagerBlind (clusterOf ch) π) (s : State) :
    π (pinsLoaded ch s) = π s := (view_each _ (fun p t => h.bringIn t p 0) _).trans (h.serveUpTo ..)

/-- The program of a channel is the same after a repair (R210). -/
theorem pagerBlind_program (ch : Fin 64) : PagerBlind cl (fun t : State => (t.seq[ch].gen, t.seq[ch].panSet)) where
  own _ _ := rfl
  merger _ _ := rfl
  health _ _ := rfl
  frames _ _ := rfl
  hints _ _ _ _ := rfl
  work _ _ := rfl
  count _ := rfl
  edge _ _ _ _ := rfl
  stop t k x _ := by
    refine updSeq_view (g := fun q : Sequencer => (q.gen, q.panSet)) (fun q => ?_) ch k
    rfl
  go t k x _ := by
    refine updSeq_view (g := fun q : Sequencer => (q.gen, q.panSet)) (fun q => ?_) ch k
    rfl

theorem pagerBlind_memory : PagerBlind cl (fun t : State => (t.mem, t.od, t.drv)) where
  own _ _ := rfl
  merger _ _ := rfl
  health _ _ := rfl
  frames _ _ := rfl
  hints _ _ _ _ := rfl
  work _ _ := rfl
  count _ := rfl
  edge _ _ _ _ := rfl
  stop _ _ _ _ := rfl
  go _ _ _ _ := rfl

theorem queued_channels : Queued cl (fun t : State => (t.edge, t.seq)) where
  own _ _ := rfl
  merger _ _ := rfl
  health _ _ := rfl
  frames _ _ := rfl
  hints _ _ _ _ := rfl
  work _ _ := rfl

theorem pinsLoaded_work (ch : Fin 64) : (pinsLoaded ch s).store[clusterOf ch].work =
    behindLast (fun f => !f.repair && f.ch = ch.val) s.store[clusterOf ch].work :=
  (view_each (π := fun t : State => t.store[clusterOf ch].work) _
    (fun p t => (hinted_work (clusterOf ch)).bringIn t p 0) _).trans (serveUpTo_work ..)

theorem pinLoadComplete_spec {ch : Fin 64} {r : Requester} (h : s.seq[ch].loading = some r) : let t := pinLoadComplete ch s
    t.seq[ch].pstate = 1 ∧ t.seq[ch].gen = s.seq[ch].gen + 1 ∧ t.seq[ch].loading = none ∧ t.seq[ch].panSet = s.seq[ch].panSet ∧
    (∀ f ∈ t.store[clusterOf ch].work, f.repair = true ∨ f.ch ≠ ch.val) ∧ t.mem = s.mem ∧ t.od = s.od ∧ t.drv = s.drv ∧
    ((∀ f ∈ s.store[clusterOf ch].work, f.repair = false) → t.edge = s.edge ∧
      t.seq = upd s.seq ch (fun q => { q with pstate := 1, gen := q.gen + 1, loading := none })) := by
  have hprogram : ((pinsLoaded ch s).seq[ch].gen, (pinsLoaded ch s).seq[ch].panSet) = (s.seq[ch].gen, s.seq[ch].panSet) :=
    (pagerBlind_program (clusterOf ch) ch).pinsLoaded s
  have hmemory : ((pinsLoaded ch s).mem, (pinsLoaded ch s).od, (pinsLoaded ch s).drv) = (s.mem, s.od, s.drv) :=
    (pagerBlind_memory (clusterOf ch)).pinsLoaded s
  obtain ⟨hgen, hset⟩ := Prod.mk.inj hprogram
  obtain ⟨hmem, hod, hdrv⟩ : _ ∧ _ ∧ _ := by simpa only [Prod.mk.injEq] using hmemory
  simp only [pinLoadComplete_eq s h, answerLoad_seq, answerLoad_store, answerLoad_edge, answerLoad_drv, answerLoad_od, answerLoad_mem,
    State.ok, State.reply, State.updSeq, upd_same_fin, pinsLoaded_work, hgen, hset, hmem, hod, hdrv, true_and]
  refine ⟨fun f hf => ?_, fun hloads => ?_⟩
  · have hbehind := not_of_mem_behindLast hf
    cases hrepair : f.repair with
    | true => exact .inl rfl
    | false => exact .inr (by simpa [hrepair] using hbehind)
  · have hchannels : ((pinsLoaded ch s).edge, (pinsLoaded ch s).seq) = (s.edge, s.seq) :=
      (view_each (π := fun t : State => (t.edge, t.seq)) _ (fun p t => (queued_channels (clusterOf ch)).bringIn t p 0) _).trans
        ((queued_channels (clusterOf ch)).serveUpTo_loads hloads _)
    obtain ⟨hedge, hseq⟩ := Prod.mk.inj hchannels
    exact ⟨hedge, by rw [hseq]⟩

end

/-! ## A sequencer needs a poisoned word (R207 to R210) -/

section
variable (s : State) (ch : Fin 64)

/-- The state of a miss: the words of the frame are read again, and a repair is asked for (R207, R208). -/
def missSeen (x : Target) (s : State) : State :=
  askRepair (clusterOf ch) ch.val x.pan.toNat
    (match (s.reach (s.issueAt ch)).frameOf (clusterOf ch) x.pan.toNat with
    | some f => each (frameWords (clusterOf ch) f.slot x.word.toNat) readWord (s.reach (s.issueAt ch))
    | none => s.reach (s.issueAt ch))

theorem panMiss_eq {x : Target} (h : s.missAt ch = some x) (hready : s.ready ch = true) (hroom : s.hasRoom ch = true) :
    panMiss ch s =
      if (missSeen ch x s).nat (chIdx ch) 0x1E = 0 then
        stopAndPark ch (s.issueAt ch) x ((missSeen ch x s).salternBad x) 0 (missSeen ch x s)
      else missEvent ch (s.issueAt ch) x ((missSeen ch x s).salternBad x) false 1 0
        ((missSeen ch x s).updSeq ch (fun q => { q with pstate := 3, wait := .repair x (s.issueAt ch) })) := by
  unfold panMiss
  rw [h]
  dsimp only
  rw [if_pos (by rw [hready, hroom]; rfl)]
  rfl

theorem askRepair_frame (cl : Fin 4) (n p : Nat) : askRepair cl n p s = { s with store := (askRepair cl n p s).store } := by
  unfold askRepair
  split <;> rfl

theorem askRepair_asked (cl : Fin 4) (n p : Nat) : ∃ f ∈ (askRepair cl n p s).store[cl].work, f.repair = true ∧ f.pan = p := by
  unfold askRepair
  split
  next h =>
    obtain ⟨f, hf, hp⟩ := List.any_eq_true.mp h
    exact ⟨f, hf, by simpa using hp⟩
  next =>
    rw [State.updStore, upd_same_fin]
    exact ⟨_, List.mem_append_right _ (List.mem_singleton_self _), rfl, rfl⟩

/-- A view that neither settling nor a miss changes. -/
theorem view_missSeen {β : Type} {π : State → β} (hread : ∀ (t : State) (w : MemWord), w.mem ≠ 0 → π (readWord w t) = π t)
    (hstore : ∀ (t : State) (v : Vector Store 4), π { t with store := v } = π t) (x : Target) :
    π (missSeen ch x s) = π (s.reach (s.issueAt ch)) := by
  unfold missSeen
  rw [askRepair_frame, hstore]
  split
  · exact view_eachWord hread _ (fun w hw => frameWords_outside hw) _
  · rfl

theorem missSeen_programs (x : Target) : (missSeen ch x s).programs = s.programs :=
  (view_missSeen s ch (fun t _ hw => programs_unmoved.readWord t hw) (fun _ _ => rfl) x).trans (programs_unmoved.reach ..)

theorem bare_missSeen (x : Target) : (missSeen ch x s).bare = (s.arrive (s.issueAt ch)).bare :=
  (view_missSeen s ch (fun t _ hw => bare_readWord t hw) (fun _ _ => rfl) x).trans (bare_reach ..)

theorem missSeen_nat (x : Target) (i j : Nat) : (missSeen ch x s).nat i j = s.nat i j :=
  congrArg (fun o : Settings => o.nat i j) ((bare_eq_od (bare_missSeen s ch x)).trans rfl)

theorem stopAndPark_seq (m : TE) (x : Target) (saltern : Bool) (policy : Nat) : (stopAndPark ch m x saltern policy s).seq =
    upd s.seq ch (fun q => { q with pstate := 5, wait := .none, parkAt := some ((m + 4) * 3200) }) := by
  unfold stopAndPark missEvent
  dsimp only
  rw [raiseAt_frame]
  rfl

theorem stopAndPark_edge (m : TE) (x : Target) (saltern : Bool) (policy : Nat) : (stopAndPark ch m x saltern policy s).edge =
    upd s.edge ch (fun g => { g with fifo := cancelFifo ((m + 4) * 3200) g.fifo }) := by
  unfold stopAndPark missEvent
  dsimp only
  rw [raiseAt_frame]
  rfl

theorem stopAndPark_store (m : TE) (x : Target) (saltern : Bool) (policy : Nat) :
    (stopAndPark ch m x saltern policy s).store = s.store := by
  unfold stopAndPark missEvent
  dsimp only
  rw [raiseAt_frame]
  rfl

theorem bare_stopAndPark (m : TE) (x : Target) (saltern : Bool) (policy : Nat) : (stopAndPark ch m x saltern policy s).bare = s.bare := by
  unfold stopAndPark missEvent
  dsimp only
  rw [bare_updSeq, bare_updEdge, bare_raiseAt]

variable {s} in
/-- A state in which all that is due by T_E a has come about, and the data plane has acted. -/
theorem reached_of_bare {t : State} {a : TE} (h : t.bare = (s.arrive a).bare) : a ≤ t.time.count ∧ DataPlaneOnly s t := by
  have htime : t.time = (s.arrive a).time := bare_eq_time h
  refine ⟨by rw [htime]; exact Nat.le_max_right .., dataPlaneOnly_of_bare ?_⟩
  rw [h, htime]
  rfl

theorem missEvent_frame (m : TE) (x : Target) (saltern resumed : Bool) (policy n : Nat) :
    missEvent ch m x saltern resumed policy n s = { s with merger := (missEvent ch m x saltern resumed policy n s).merger } :=
  raiseAt_frame ..

theorem bare_missEvent (m : TE) (x : Target) (saltern resumed : Bool) (policy n : Nat) :
    (missEvent ch m x saltern resumed policy n s).bare = s.bare := bare_raiseAt ..

theorem panMiss_spec {x : Target} (h : s.missAt ch = some x) (hready : s.ready ch = true) (hroom : s.hasRoom ch = true) :
    let m := s.issueAt ch
    let t := panMiss ch s
    m ≤ t.time.count ∧ (∃ f ∈ t.store[clusterOf ch].work, f.repair = true ∧ f.pan = x.pan.toNat) ∧
    (s.nat (chIdx ch) 0x1E = 0 → t.seq[ch] = { s.seq[ch] with pstate := 5, wait := .none, parkAt := some ((m + 4) * 3200) } ∧
      t.edge[ch].fifo = cancelFifo ((m + 4) * 3200) s.edge[ch].fifo) ∧
    (s.nat (chIdx ch) 0x1E ≠ 0 → t.seq[ch] = { s.seq[ch] with pstate := 3, wait := .repair x m } ∧ t.edge[ch].fifo = s.edge[ch].fifo) ∧
    (∀ k, k ≠ ch → t.seq[k] = s.seq[k]) ∧ DataPlaneOnly s t := by
  obtain ⟨hseq, hwritten⟩ := Prod.mk.inj (missSeen_programs s ch x)
  have hfifo := (written_get hwritten ch).1
  have hasked : ∃ f ∈ (missSeen ch x s).store[clusterOf ch].work, f.repair = true ∧ f.pan = x.pan.toNat := askRepair_asked ..
  have hbare := bare_missSeen s ch x
  rw [panMiss_eq s ch h hready hroom, missSeen_nat]
  generalize missSeen ch x s = u at *
  by_cases hpolicy : s.nat (chIdx ch) 0x1E = 0
  · obtain ⟨hreached, hplane⟩ := reached_of_bare ((bare_stopAndPark u ch (s.issueAt ch) x (u.salternBad x) 0).trans hbare)
    rw [if_pos hpolicy]
    refine ⟨hreached, ?_, fun _ => ⟨?_, ?_⟩, fun hother => absurd hpolicy hother, fun k hk => ?_, hplane⟩
    · rw [stopAndPark_store]
      exact hasked
    · rw [stopAndPark_seq, upd_same_fin, hseq]
    · rw [stopAndPark_edge, upd_same_fin, hfifo]
    · rw [stopAndPark_seq, upd_other _ _ _ _ hk.symm, hseq]
  · obtain ⟨hreached, hplane⟩ := reached_of_bare ((bare_missEvent (u.updSeq ch (fun q => { q with
      pstate := 3, wait := .repair x (s.issueAt ch) })) ch (s.issueAt ch) x (u.salternBad x) false 1 0).trans hbare)
    rw [if_neg hpolicy]
    refine ⟨hreached, ?_, fun hzero => absurd hzero hpolicy, fun _ => ⟨?_, ?_⟩, fun k hk => ?_, hplane⟩
    · rw [missEvent_frame]
      exact hasked
    · rw [missEvent_frame, ← hseq]
      exact upd_same_fin ..
    · rw [missEvent_frame]
      exact hfifo
    · rw [missEvent_frame, ← hseq]
      exact upd_other _ _ _ _ hk.symm

/-- At t_p the ball parks, and no entry of an edge FIFO changes (R209). -/
theorem missPark_spec {x : Instant} (h : s.seq[ch].parkAt = some x) : let t := missPark ch s
    t.seq[ch].parkAt = none ∧ t.edge[ch].progState = .park ∧ t.edge[ch].fifo = s.edge[ch].fifo ∧
    (∀ k, k ≠ ch → t.edge[k].fifo = s.edge[k].fifo ∧ t.edge[k].progState = s.edge[k].progState) ∧ DataPlaneOnly s t := by
  obtain ⟨a, tp, heq⟩ : ∃ a tp, missPark ch s = setProgrammed ch tp .park ((s.reach a).updSeq ch (fun q => { q with parkAt := none })) := by
    unfold missPark
    rw [h]
    exact ⟨_, _, rfl⟩
  have hwritten := written_get (reach_written s a)
  have hbare : (missPark ch s).bare = (s.arrive a).bare := by rw [heq, bare_setProgrammed, bare_updSeq, bare_reach]
  have hplane := (reached_of_bare hbare).2
  dsimp only
  rw [heq] at hplane ⊢
  generalize s.reach a = u at *
  refine ⟨?_, ?_, ?_, fun k hk => ?_, hplane⟩
  · exact congrArg Sequencer.parkAt (upd_same_fin u.seq ch _)
  · exact congrArg EdgeEngine.progState (upd_same_fin u.edge ch _)
  · exact (congrArg EdgeEngine.fifo (upd_same_fin u.edge ch _)).trans (hwritten ch).1
  · obtain ⟨hfifo, hstate, -⟩ := hwritten k
    have hother (f : EdgeEngine → EdgeEngine) : (upd u.edge ch f)[k] = u.edge[k] := upd_other _ _ _ _ hk.symm
    exact ⟨(congrArg EdgeEngine.fifo (hother _)).trans hfifo, (congrArg EdgeEngine.progState (hother _)).trans hstate⟩

/-! ## Repairs complete (R195, R208, R210) -/

theorem afterRepair_resumes {x : Target} {m : TE} (h : s.seq[ch].wait = .repair x m) (hgood : s.salternBad x = false) :
    (afterRepair x.pan.toNat ch s).seq[ch] = { s.seq[ch] with pstate := 2, wait := .none, nextIssue := max s.seq[ch].nextIssue s.now } := by
  unfold afterRepair
  rw [h]
  dsimp only
  rw [if_pos rfl, hgood, if_neg Bool.false_ne_true, missEvent_frame]
  exact upd_same_fin ..

theorem afterRepair_stops {x : Target} {m : TE} (h : s.seq[ch].wait = .repair x m) (hbad : s.salternBad x = true) :
    (afterRepair x.pan.toNat ch s).seq[ch] = { s.seq[ch] with pstate := 5, wait := .none, parkAt := some ((s.now + 4) * 3200) } := by
  unfold afterRepair
  rw [h]
  dsimp only
  rw [if_pos rfl, hbad, if_pos rfl, stopAndPark_seq, upd_same_fin]

end

/-- The state without what the pager changes when it serves repairs too. -/
def State.unserved (s : State) : State :=
  { s with store := State.reset.store, seq := State.reset.seq, edge := State.reset.edge, own := [], merger := {}, health := {} }

theorem pagerBlind_unserved (cl : Fin 4) : PagerBlind cl State.unserved where
  own _ _ := rfl
  merger _ _ := rfl
  health _ _ := rfl
  frames _ _ := rfl
  hints _ _ _ _ := rfl
  work _ _ := rfl
  count _ := rfl
  edge _ _ _ _ := rfl
  stop _ _ _ _ := rfl
  go _ _ _ _ := rfl

theorem frame_of_unserved {s t : State} (h : t.unserved = s.unserved) :
    t = { s with store := t.store, seq := t.seq, edge := t.edge, health := t.health, merger := t.merger, own := t.own } :=
  calc t = { t.unserved with store := t.store, seq := t.seq, edge := t.edge, health := t.health, merger := t.merger, own := t.own } := rfl
    _ = { s.unserved with store := t.store, seq := t.seq, edge := t.edge, health := t.health, merger := t.merger, own := t.own } := by rw [h]
    _ = { s with store := t.store, seq := t.seq, edge := t.edge, health := t.health, merger := t.merger, own := t.own } := rfl

/-- Channels of other clusters neither resume nor stop (R208). -/
theorem pagerBlind_otherChannel {cl : Fin 4} {ch : Fin 64} (h : clusterOf ch ≠ cl) : PagerBlind cl (fun t : State => t.seq[ch]) where
  own _ _ := rfl
  merger _ _ := rfl
  health _ _ := rfl
  frames _ _ := rfl
  hints _ _ _ _ := rfl
  work _ _ := rfl
  count _ := rfl
  edge _ _ _ _ := rfl
  stop _ _ _ hk := upd_other _ _ _ _ fun e => h (e ▸ hk)
  go _ _ _ hk := upd_other _ _ _ _ fun e => h (e ▸ hk)

theorem queued_repairCount (cl : Fin 4) : Queued cl (fun t : State => t.store[cl].repairCount) where
  own _ _ := rfl
  merger _ _ := rfl
  health _ _ := rfl
  frames t f := by simp only [State.updStore, upd_same_fin]
  hints t l f g := by simp only [State.updStore, upd_same_fin]
  work t l := by simp only [State.updStore, upd_same_fin]

/-- Of the fetches up to the first repair, that one is counted (R208). -/
theorem serveWork_iterate_count {cl : Fin 4} {f : Fetch} {rest : List Fetch} (hf : f.repair = true) (l : List Fetch) (s : State)
    (hwork : s.store[cl].work = l ++ f :: rest) (hl : ∀ g ∈ l, g.repair = false) :
    ((serveWork cl)^[l.length + 1] s).store[cl].repairCount = s.store[cl].repairCount + 1 := by
  induction l generalizing s with
  | nil =>
    have hresumed : Resumed cl (fun t : State => t.store[cl].repairCount) :=
      { (queued_repairCount cl).toFramed with edge := fun _ _ _ _ => rfl, stop := fun _ _ _ _ => rfl, go := fun _ _ _ _ => rfl }
    rw [List.length_nil, Function.iterate_one, serveWork_eq hwork, if_pos hf]
    refine (hresumed.repairFrame ..).trans ?_
    simp only [State.updStore, upd_same_fin]
  | cons g l ih =>
    have hserved : (serveWork cl s).store[cl].repairCount = s.store[cl].repairCount :=
      (queued_repairCount cl).serveWork hwork (hl g List.mem_cons_self)
    rw [List.length_cons, Function.iterate_succ_apply, ih _ (by rw [serveWork_work, hwork]; rfl)
      (fun x hx => hl x (List.mem_cons_of_mem _ hx)), hserved]

theorem behindLast_append {p : Fetch → Bool} {f : Fetch} {l rest : List Fetch} (hf : p f = true) (hrest : ∀ g ∈ rest, p g = false) :
    behindLast p (l ++ f :: rest) = rest := by
  unfold behindLast
  rw [List.reverse_append, List.reverse_cons, List.append_assoc, List.takeWhile_append_of_pos (by simpa using hrest)]
  simp [hf]

theorem repairComplete_eq {s : State} {cl : Fin 4} {f : Fetch} {l rest : List Fetch} (hwork : s.store[cl].work = l ++ f :: rest)
    (hl : ∀ g ∈ l, g.repair = false) (hf : f.repair = true) : repairComplete cl s = serveUpTo cl (fun g => g = f) s := by
  have hfind : s.store[cl].work.find? (fun g => g.repair) = some f := by
    rw [hwork, List.find?_append, List.find?_eq_none.mpr (by simpa using hl)]
    simp [hf]
  unfold repairComplete
  rw [hfind]

theorem repairComplete_spec {s : State} {cl : Fin 4} {f : Fetch} {l rest : List Fetch} (hwork : s.store[cl].work = l ++ f :: rest)
    (hl : ∀ g ∈ l, g.repair = false) (hf : f.repair = true) (hrest : f ∉ rest) : let t := repairComplete cl s
    t.store[cl].work = rest ∧ t.store[cl].repairCount = s.store[cl].repairCount + 1 ∧
    (∀ ch : Fin 64, clusterOf ch ≠ cl → t.seq[ch] = s.seq[ch]) ∧
    t = { s with store := t.store, seq := t.seq, edge := t.edge, health := t.health, merger := t.merger, own := t.own } := by
  have hbehind : behindLast (fun g => decide (g = f)) s.store[cl].work = rest := by
    rw [hwork]
    exact behindLast_append (decide_eq_true rfl) fun g hg => decide_eq_false fun e => hrest (e ▸ hg)
  rw [repairComplete_eq hwork hl hf]
  refine ⟨(serveUpTo_work _).trans hbehind, ?_, fun ch hch => (pagerBlind_otherChannel hch).serveUpTo s _,
    frame_of_unserved ((pagerBlind_unserved cl).serveUpTo s _)⟩
  have hlength : s.store[cl].work.length - rest.length = l.length + 1 := by
    rw [hwork, List.length_append, List.length_cons]
    omega
  have hhints : (hintsFirst cl s).store[cl].repairCount = s.store[cl].repairCount := (queued_repairCount cl).hintsFirst s
  have hkept : (hintsFirst cl s).store[cl].work = l ++ f :: rest := ((hinted_work cl).hintsFirst s).trans hwork
  rw [serveUpTo_eq, hbehind, hlength, if_neg (Nat.succ_ne_zero _), serveWork_iterate_count hf l _ hkept hl, hhints]

/-- Settles O32: what the pager serves, and what a miss and a repair do to their channel, is said function by function above. -/
theorem hintsMissesRepairs : Obligations.hints_misses_repairs := by
  unfold Obligations.hints_misses_repairs
  refine ⟨fun s cl f rest h => ⟨_, rfl, hintFetchComplete_spec s cl h⟩, fun s ch r h => ⟨_, rfl, pinLoadComplete_spec s h⟩,
    fun s ch => ⟨fun x h hready hroom => ⟨_, rfl, panMiss_spec s ch h hready hroom⟩, fun x h => ⟨_, rfl, missPark_spec s ch h⟩⟩,
    fun s cl f l rest hwork hl hf hrest => ⟨_, rfl, repairComplete_spec hwork hl hf hrest⟩,
    fun s ch x m h => ⟨afterRepair_resumes s ch h, afterRepair_stops s ch h⟩⟩

end Sys2Proof.Machine

/-!
SUPPORT. LOAD, the end of its check, and the statement about them (spec 06, R153, R164, R188; spec 07, R192, R199, R200).
-/
namespace Sys2Proof.Machine

/-! ## The walk reads the Saltern alone (R164) -/

theorem instrAt_congr {s t : State} (hmem : s.mem = t.mem) (hown : s.own = t.own) (ch : Fin 64) (x : Target) :
    s.instrAt ch x = t.instrAt ch x := by
  have hword (p o : Nat) : s.progWordIn p o = t.progWordIn p o := by
    simp only [State.progWordIn, State.progWord, State.readBytes, State.byte, State.flag, hmem, hown]
  simp only [State.instrAt, hword]

theorem walk_congr {s t : State} (hmem : s.mem = t.mem) (hown : s.own = t.own) (hpart : s.part = t.part) (ch : Fin 64) (fuel : Nat)
    (l : List Nat) (w : Walk) :
    walk s ch fuel l w = walk t ch fuel l w := by
  induction fuel generalizing l w with
  | zero => rfl
  | succ fuel ih =>
    cases l with
    | nil => rfl
    | cons c rest => simp only [walk, instrAt_congr hmem hown, hpart, ih]

theorem walkFrom_congr {s t : State} (hmem : s.mem = t.mem) (hown : s.own = t.own) (hpart : s.part = t.part) (ch : Fin 64) (entry : Nat) :
    walkFrom s ch entry = walkFrom t ch entry := by
  unfold walkFrom
  rw [walk_congr hmem hown hpart]

/-! ## The Pans that a check reaches are not the host's (R192, R371, R376) -/

section
variable {Q : Owner → Prop} (hdevice : Q .device) (hfrozen : Q .frozen) {p : Nat} {s : State}

/-- The owner of a Pan meets a condition. -/
def Owned (Q : Owner → Prop) (p : Nat) (s : State) : Prop := Q (s.flag p).owner

theorem handOver_owned {o : Owner} (ho : Q o) (use : Byte) : Owned Q p (s.handOver p o use) := by
  unfold Owned State.handOver State.setFlag State.flag
  rw [if_neg (fun h => by simp at h), assocFind_put_some]
  exact ho

theorem Owned.handOver {o : Owner} (h : Owned Q p s) (ho : Q o) (q : Nat) (use : Byte) : Owned Q p (s.handOver q o use) := by
  by_cases hq : p = q
  · subst hq
    exact handOver_owned ho use
  · have hflag : (s.handOver q o use).flag p = s.flag p := by
      unfold State.handOver State.setFlag State.flag
      dsimp only
      rw [assocFind_put_ne hq]
    unfold Owned
    rw [hflag]
    exact h

theorem Owned.of_own {t : State} (h : Owned Q p s) (hown : t.own = s.own) : Owned Q p t := by
  unfold Owned State.flag
  rw [hown]
  exact h

include hfrozen in
theorem Owned.freezeProgramPan (h : Owned Q p s) (q : Nat) : Owned Q p (freezeProgramPan q s) := by
  unfold Machine.freezeProgramPan
  dsimp only
  split
  · exact h.handOver hfrozen q _
  · exact h

/-- Raising events and noting errors leaves the ownership store. -/
theorem memoryEvent_own (w : MemWord) (bad scrub : Bool) (t : State) : (memoryEvent w bad scrub t).own = t.own := by
  unfold memoryEvent
  split
  · rw [raiseOnce_frame]
  · split
    · rw [raiseOnce_frame]
    · rw [raiseCount_frame]

include hfrozen in
/-- An uncorrectable word of a program Pan freezes it, and that is all a read does to owners (R376, R463). -/
theorem Owned.readWord (h : Owned Q p s) (w : MemWord) : Owned Q p (readWord w s) := by
  unfold Machine.readWord
  split
  · unfold poisonWord
    split
    · exact h
    · dsimp only
      split
      · refine Owned.freezeProgramPan hfrozen (h.of_own ?_) _
        rw [memoryEvent_own]
        split <;> rfl
      · refine h.of_own ?_
        rw [memoryEvent_own]
        split <;> rfl
  · exact h.of_own (by rw [correctWord, memoryEvent_own])
  · exact h

include hfrozen in
/-- Reading Pans, and freezing those with a poisoned word, comes after taking them (R192, R376). -/
theorem Owned.afterTaking (h : Owned Q p s) (l m : List Nat) : Owned Q p (each m Machine.freezeProgramPan (each l readPan s)) := by
  refine each_induction _ (each_induction _ h fun q _ t ht => ?_) fun q _ t ht => Owned.freezeProgramPan hfrozen ht q
  exact each_induction t ht fun e _ u hu => Owned.readWord hfrozen hu e.1

include hdevice hfrozen in
theorem Owned.reachPans (h : Owned Q p s) (l : List Nat) : Owned Q p (reachPans l s).2 :=
  Owned.afterTaking hfrozen (each_induction s h fun q _ _ ht => ht.handOver hdevice q _) _ _

include hdevice hfrozen in
/-- A Pan that a check takes is the device's, or frozen. -/
theorem reachPans_owned {l : List Nat} (h : p ∈ (reachPans l s).1) : Owned Q p (reachPans l s).2 := by
  refine Owned.afterTaking hfrozen ?_ _ _
  have htaken (m : List Nat) (hm : p ∈ m) (t : State) : Owned Q p (each m (fun q u => u.takePan q 0x01) t) := by
    induction m generalizing t with
    | nil => exact absurd hm List.not_mem_nil
    | cons q rest ih =>
      rcases List.mem_cons.mp hm with rfl | hrest
      · exact each_induction (l := rest) _ (handOver_owned hdevice _) fun q _ _ hu => hu.handOver hdevice q _
      · exact ih hrest _
  exact htaken _ h s

end

/-! ## LOAD begins a check (R153, R192) -/

/-- The state without what reading memory changes. -/
def State.unread (s : State) : State := { s with own := [], merger := {}, health := {} }

theorem reading_unread : Reading State.unread where
  own _ _ := rfl
  merger _ _ := rfl
  health _ _ := rfl

theorem frame_of_unread {s t : State} (h : t.unread = s.unread) : t = { s with own := t.own, merger := t.merger, health := t.health } :=
  calc t = { t.unread with own := t.own, merger := t.merger, health := t.health } := rfl
    _ = { s.unread with own := t.own, merger := t.merger, health := t.health } := by rw [h]
    _ = { s with own := t.own, merger := t.merger, health := t.health } := rfl

theorem reachPans_frame (l : List Nat) (s : State) : (reachPans l s).2 =
    { s with own := (reachPans l s).2.own, merger := (reachPans l s).2.merger, health := (reachPans l s).2.health } :=
  frame_of_unread (reading_unread.reachPans s l)

/-- The Pans that the check of a Load has taken when it begins (R192). -/
def firstTaken (ch : Fin 64) (s : State) : List Nat :=
  ((walkFrom s ch (s.entryPoint ch)).pans.take (Config.checkReach s.free + 1)).filter (fun p => (s.flag p).owner = .host)

theorem load_begins {s : State} {r : Requester} {ch : Fin 64} (h : Admitted s (seqIdx ch) 2 .wo)
    (hoff : s.onOrStaged (chIdx ch) 2 = false) (hmode : s.nat (chIdx ch) 1 = 2) (hcheck : s.store[clusterOf ch].check = none) :
    load r ch s = (reachPans ((walkFrom s ch (s.entryPoint ch)).pans.take (Config.checkReach s.free + 1))
      { s with free := s.free + 1 }).2.updStore
      (clusterOf ch) (fun t => { t with
        check := some { ch := ch, entry := targetOf (s.entryPoint ch), req := r, taken := firstTaken ch s } }) := by
  have hwalk : walkFrom { s with free := s.free + 1 } ch (s.entryPoint ch) = walkFrom s ch (s.entryPoint ch) :=
    walkFrom_congr (s := { s with free := s.free + 1 }) (t := s) rfl rfl rfl ..
  unfold load
  dsimp only
  rw [request_granted h rfl (by rw [hoff, hmode, hcheck]; rfl), State.fresh]
  dsimp only
  rw [hwalk]
  rfl

theorem load_spec {s : State} {r : Requester} {ch : Fin 64} (h : Admitted s (seqIdx ch) 2 .wo)
    (hoff : s.onOrStaged (chIdx ch) 2 = false) (hmode : s.nat (chIdx ch) 1 = 2) (hcheck : s.store[clusterOf ch].check = none) :
    let t := load r ch s
    t.store = upd s.store (clusterOf ch) (fun u => { u with
      check := some { ch := ch, entry := targetOf (s.entryPoint ch), req := r, taken := firstTaken ch s } }) ∧
    (∀ p ∈ firstTaken ch s, (t.flag p).owner = .device ∨ (t.flag p).owner = .frozen) ∧
    t = { s with own := t.own, store := t.store, health := t.health, merger := t.merger, free := s.free + 1 } := by
  have hframe := reachPans_frame ((walkFrom s ch (s.entryPoint ch)).pans.take (Config.checkReach s.free + 1))
      { s with free := s.free + 1 }
  have howned (p : Nat) (hp : p ∈ firstTaken ch s) := reachPans_owned (Q := fun o => o = .device ∨ o = .frozen)
    (s := { s with free := s.free + 1 }) (.inl rfl) (.inr rfl) hp
  rw [load_begins h hoff hmode hcheck]
  generalize (reachPans ((walkFrom s ch (s.entryPoint ch)).pans.take (Config.checkReach s.free + 1))
    { s with free := s.free + 1 }).2 = u at hframe howned ⊢
  refine ⟨?_, howned, ?_⟩
  · rw [hframe]
    rfl
  · rw [hframe]
    rfl

/-! ## The end of a check (R153, R164, R188, R192, R199, R200) -/

/-- What the end of a check changes beside the sequencers: neither memory nor settings. -/
def State.memOd (s : State) : List Host.Cell × Settings := (s.mem, s.od)

/-- The record of a cluster's pager without what a Pan's release and load change (R193, R202). -/
def State.unlisted (cl : Fin 4) (s : State) : Store := { s.store[cl] with frames := [], hints := [], work := [] }

/-- Sequencers, memory, settings and the record of a cluster's pager. -/
def State.sluiced (cl : Fin 4) (s : State) : Vector Sequencer 64 × (List Host.Cell × Settings) × Store := (s.seq, s.memOd, s.unlisted cl)

theorem framed_sluiced (cl : Fin 4) : Framed cl (State.sluiced cl) where
  own _ _ := rfl
  merger _ _ := rfl
  health _ _ := rfl
  frames t f := by simp only [State.sluiced, State.memOd, State.unlisted, State.updStore, upd_same_fin]

section
variable (cl : Fin 4) (ch : Fin 64) (s : State)

theorem sluiced_answerLoad (r : Requester) : (answerLoad ch r s).sluiced cl = s.sluiced cl := by
  simp only [State.sluiced, State.memOd, State.unlisted, answerLoad_seq, answerLoad_mem, answerLoad_od, answerLoad_store]

theorem sluiced_reply (c : W32) : (s.reply c).sluiced cl = s.sluiced cl := rfl

theorem sluiced_dropFrames : (dropFrames cl s).sluiced cl = s.sluiced cl := by
  simp only [dropFrames, State.sluiced, State.memOd, State.unlisted, State.updStore, upd_same_fin]

/-- A change of one sequencer is all that the view sees of it. -/
theorem sluiced_updSeq (f : Sequencer → Sequencer) : (s.updSeq ch f).sluiced cl = (upd s.seq ch f, s.memOd, s.unlisted cl) := rfl

/-- A program that leaves its channel takes its sequencer's set with it (R153). -/
def Sequencer.endLoad (q : Sequencer) : Sequencer := { q with loading := none }

theorem sluiced_endLoading : ∃ f : Sequencer → Sequencer, (∀ q, f q = q ∨ f q = q.endLoad) ∧
    (endLoading ch s).sluiced cl = (upd s.seq ch f, s.memOd, s.unlisted cl) := by
  unfold endLoading
  split
  · exact ⟨Sequencer.endLoad, fun _ => .inr rfl, sluiced_answerLoad ..⟩
  · refine ⟨id, fun _ => .inl rfl, ?_⟩
    have hseq : upd s.seq ch id = s.seq := Vector.set_getElem_self ..
    rw [hseq]
    rfl

/-- The sequencer of a channel that holds no program any more (R153). -/
def Sequencer.empty (q : Sequencer) : Sequencer := { q with pstate := 0, panSet := [], streamed := [], demand := 0, loading := none }

theorem sluiced_discardProgram (also : List Nat) (hcl : clusterOf ch = cl) :
    (discardProgram ch also s).sluiced cl = (upd s.seq ch Sequencer.empty, s.memOd, s.unlisted cl) := by
  obtain ⟨f, hf, hend⟩ := sluiced_endLoading cl ch s
  have hfempty : (fun q => Sequencer.empty (f q)) = Sequencer.empty := by
    funext q
    rcases hf q with h | h
    · rw [h]
    · rw [h]
      rfl
  obtain ⟨hseq, hmem, hlist⟩ : _ ∧ _ ∧ _ := by simpa only [State.sluiced, Prod.mk.injEq] using hend
  unfold discardProgram
  dsimp only
  rw [hcl, sluiced_dropFrames, (framed_sluiced cl).releasePans]
  refine (sluiced_updSeq cl ch (endLoading ch s) Sequencer.empty).trans ?_
  rw [hseq, upd_upd, hfempty, hmem, hlist]

/-- A refusal is noted in the cluster's record, and the channel is left without a program (R200). -/
theorem sluiced_sluiceRefusal (c : LoadCheck) (a b : Nat) (hcl : clusterOf c.ch = cl) : (sluiceRefusal c a b s).sluiced cl =
    (upd s.seq c.ch Sequencer.empty, s.memOd,
      { s.unlisted cl with reason := a, refCh := c.ch.val, refWord := BitVec.ofNat 32 b, refusals := s.store[cl].refusals + 1 }) := by
  have hnoted : ((s.updStore cl (fun t => { t with
      reason := a, refCh := c.ch.val, refWord := BitVec.ofNat 32 b, refusals := t.refusals + 1 })).raise (420 + 8 * cl.val)
      (a + c.ch.val % 16 * 2 ^ 8 + b % 2 ^ 20 * 2 ^ 12)).sluiced cl = (s.seq, s.memOd,
      { s.unlisted cl with reason := a, refCh := c.ch.val, refWord := BitVec.ofNat 32 b, refusals := s.store[cl].refusals + 1 }) := by
    rw [State.raise, (framed_sluiced cl).raiseAt]
    simp only [State.sluiced, State.memOd, State.unlisted, State.updStore, upd_same_fin]
  obtain ⟨hseq, hmem, hlist⟩ : _ ∧ _ ∧ _ := by simpa only [State.sluiced, Prod.mk.injEq] using hnoted
  unfold sluiceRefusal
  dsimp only
  rw [hcl, sluiced_answerLoad, sluiced_reply, sluiced_discardProgram cl c.ch _ _ hcl, hseq, hmem, hlist]

/-- The sequencer of a channel whose new program is admitted, its pin loads to come (R153, R197). -/
def Sequencer.admitProgram (c : LoadCheck) (a : Admission) (q : Sequencer) : Sequencer :=
  { q with pstate := 0, panSet := a.set, streamed := a.streamed, demand := a.demand, loading := some c.req, refused := 0xFFFFFFFF }

theorem sluiced_admitted (c : LoadCheck) (a : Admission) (hcl : clusterOf c.ch = cl) :
    (Machine.admitted c a s).sluiced cl = (upd s.seq c.ch (Sequencer.admitProgram c a), s.memOd, s.unlisted cl) := by
  obtain ⟨f, hf, hend⟩ := sluiced_endLoading cl c.ch s
  have hfadmit : (fun q => Sequencer.admitProgram c a (f q)) = Sequencer.admitProgram c a := by
    funext q
    rcases hf q with h | h
    · rw [h]
    · rw [h]
      rfl
  obtain ⟨hseq, hmem, hlist⟩ : _ ∧ _ ∧ _ := by simpa only [State.sluiced, Prod.mk.injEq] using hend
  have hwork (t : State) (l : List Fetch) : (t.updStore cl (fun u => { u with work := u.work ++ l })).sluiced cl = t.sluiced cl := by
    simp only [State.sluiced, State.memOd, State.unlisted, State.updStore, upd_same_fin]
  unfold Machine.admitted
  dsimp only
  rw [hcl, hwork, view_each _ (fun p t => (framed_sluiced cl).reserveFrame t p), sluiced_dropFrames, (framed_sluiced cl).releasePans,
    view_each _ (fun p t => (framed_sluiced cl).takePan t p 0x01)]
  refine (sluiced_updSeq cl c.ch (endLoading c.ch s) (Sequencer.admitProgram c a)).trans ?_
  rw [hseq, upd_upd, hfadmit, hmem, hlist]

theorem sluiceRefusal_status (c : LoadCheck) (a b : Nat) : (sluiceRefusal c a b s).answer.status = 0x05010000 := by
  unfold sluiceRefusal
  dsimp only
  rw [answerLoad_answer]
  rfl

end

/-- The state in which a check ends: it has reached the rest of its Pans (R192). -/
def checkEnded (cl : Fin 4) (s : State) : State := s.updStore cl (fun x => { x with check := none })

/-- The walk of a check that ends (R164). -/
def checkWalk (cl : Fin 4) (c : LoadCheck) (s : State) : Walk := walkFrom (checkEnded cl s) c.ch (targetCode c.entry)

/-- The Pans that the end of a check takes, and the state that they leave. -/
def checkReached (cl : Fin 4) (c : LoadCheck) (s : State) : List Nat × State := reachPans (checkWalk cl c s).pans (checkEnded cl s)

section
variable {cl : Fin 4} {c : LoadCheck} {s : State} (h : s.store[cl].check = some c)
include h

theorem check_bad {b : Nat} (hbad : (checkWalk cl c s).bad = some b) : sluiceCheckComplete cl s =
    answerLoad c.ch c.req ((discardProgram c.ch (c.taken ++ (checkReached cl c s).1)
      ((checkReached cl c s).2.updSeq c.ch (fun q => { q with refused := BitVec.ofNat 32 b }))).reply 0x03020000) := by
  unfold checkWalk checkEnded at hbad
  unfold sluiceCheckComplete checkReached checkWalk checkEnded
  rw [h]
  dsimp only
  rw [hbad]

theorem check_refused {a b : Nat} (hgood : (checkWalk cl c s).bad = none)
    (hrefused : admissionOf ((checkReached cl c s).2.updSeq c.ch (fun q => { q with refused := 0xFFFFFFFF })) c.ch (targetCode c.entry)
      (c.taken ++ (checkReached cl c s).1) (checkWalk cl c s) = .error (a, b)) : sluiceCheckComplete cl s =
    sluiceRefusal { c with taken := c.taken ++ (checkReached cl c s).1 } a b
      ((checkReached cl c s).2.updSeq c.ch (fun q => { q with refused := 0xFFFFFFFF })) := by
  unfold checkReached checkWalk checkEnded at hrefused
  unfold checkWalk checkEnded at hgood
  unfold sluiceCheckComplete checkReached checkWalk checkEnded
  rw [h]
  dsimp only
  rw [hgood]
  dsimp only
  rw [hrefused]

theorem check_admitted {a : Admission} (hgood : (checkWalk cl c s).bad = none)
    (hadmitted : admissionOf ((checkReached cl c s).2.updSeq c.ch (fun q => { q with refused := 0xFFFFFFFF })) c.ch (targetCode c.entry)
      (c.taken ++ (checkReached cl c s).1) (checkWalk cl c s) = .ok a) : sluiceCheckComplete cl s =
    Machine.admitted { c with taken := c.taken ++ (checkReached cl c s).1 } a
      ((checkReached cl c s).2.updSeq c.ch (fun q => { q with refused := 0xFFFFFFFF })) := by
  unfold checkReached checkWalk checkEnded at hadmitted
  unfold checkWalk checkEnded at hgood
  unfold sluiceCheckComplete checkReached checkWalk checkEnded
  rw [h]
  dsimp only
  rw [hgood]
  dsimp only
  rw [hadmitted]

end

theorem sluiced_checkReached (cl : Fin 4) (c : LoadCheck) (s : State) :
    (checkReached cl c s).2.sluiced cl = (s.seq, s.memOd, { s.unlisted cl with check := none }) := by
  refine ((framed_sluiced cl).toReading.reachPans (checkEnded cl s) _).trans ?_
  simp only [checkEnded, State.sluiced, State.memOd, State.unlisted, State.updStore, upd_same_fin]

/-- What the view says of the sequencer that changed. -/
theorem sluiced_seq {cl : Fin 4} {ch : Fin 64} {s t : State} {f : Sequencer → Sequencer} {m : List Host.Cell × Settings} {r : Store}
    (h : t.sluiced cl = (upd s.seq ch f, m, r)) : t.seq[ch] = f s.seq[ch] := by
  have hseq : t.seq = upd s.seq ch f := congrArg Prod.fst h
  rw [hseq, upd_same_fin]

/-- The sequencer of a checked channel names the word that failed, or none (R164). -/
def Sequencer.refuse (b : W32) (q : Sequencer) : Sequencer := { q with refused := b }

theorem sluiced_named (cl : Fin 4) (c : LoadCheck) (s : State) (b : W32) :
    ((checkReached cl c s).2.updSeq c.ch (fun q => { q with refused := b })).sluiced cl =
      (upd s.seq c.ch (Sequencer.refuse b), s.memOd, { s.unlisted cl with check := none }) := by
  obtain ⟨hseq, hmem, hlist⟩ : _ ∧ _ ∧ _ := by simpa only [State.sluiced, Prod.mk.injEq] using sluiced_checkReached cl c s
  refine (sluiced_updSeq cl c.ch (checkReached cl c s).2 _).trans ?_
  rw [hseq, hmem, hlist]
  rfl

section
variable {cl : Fin 4} {c : LoadCheck} {s : State} (h : s.store[cl].check = some c) (hcl : clusterOf c.ch = cl)
include h hcl

theorem sluiced_check_bad {b : Nat} (hbad : (checkWalk cl c s).bad = some b) : (sluiceCheckComplete cl s).sluiced cl =
    (upd s.seq c.ch (fun q => (q.refuse (BitVec.ofNat 32 b)).empty), s.memOd, { s.unlisted cl with check := none }) ∧
    (sluiceCheckComplete cl s).answer.status = 0x03020000 := by
  obtain ⟨hseq, hmem, hlist⟩ : _ ∧ _ ∧ _ := by
    simpa only [State.sluiced, Prod.mk.injEq] using sluiced_named cl c s (BitVec.ofNat 32 b)
  rw [check_bad h hbad]
  refine ⟨?_, by rw [answerLoad_answer]; rfl⟩
  rw [sluiced_answerLoad, sluiced_reply, sluiced_discardProgram cl c.ch _ _ hcl, hseq, hmem, hlist, upd_upd]

theorem sluiced_check_refused {a b : Nat} (hgood : (checkWalk cl c s).bad = none)
    (hrefused : admissionOf ((checkReached cl c s).2.updSeq c.ch (fun q => { q with refused := 0xFFFFFFFF })) c.ch (targetCode c.entry)
      (c.taken ++ (checkReached cl c s).1) (checkWalk cl c s) = .error (a, b)) : (sluiceCheckComplete cl s).sluiced cl =
    (upd s.seq c.ch (fun q => (q.refuse 0xFFFFFFFF).empty), s.memOd, { s.unlisted cl with
      check := none, reason := a, refCh := c.ch.val, refWord := BitVec.ofNat 32 b, refusals := s.store[cl].refusals + 1 }) ∧
    (sluiceCheckComplete cl s).answer.status = 0x05010000 := by
  obtain ⟨hseq, hmem, hlist⟩ : _ ∧ _ ∧ _ := by simpa only [State.sluiced, Prod.mk.injEq] using sluiced_named cl c s 0xFFFFFFFF
  have hrefusals := congrArg Store.refusals hlist
  rw [check_refused h hgood hrefused]
  refine ⟨?_, sluiceRefusal_status ..⟩
  rw [sluiced_sluiceRefusal (c := { c with taken := c.taken ++ (checkReached cl c s).1 }) cl _ _ _ hcl, hseq, hmem, hlist, upd_upd]
  exact congrArg (fun n => (_, _, { s.unlisted cl with
    check := none, reason := a, refCh := c.ch.val, refWord := BitVec.ofNat 32 b, refusals := n + 1 })) hrefusals

theorem sluiced_check_admitted {a : Admission} (hgood : (checkWalk cl c s).bad = none)
    (hadmitted : admissionOf ((checkReached cl c s).2.updSeq c.ch (fun q => { q with refused := 0xFFFFFFFF })) c.ch (targetCode c.entry)
      (c.taken ++ (checkReached cl c s).1) (checkWalk cl c s) = .ok a) : (sluiceCheckComplete cl s).sluiced cl =
    (upd s.seq c.ch (fun q => (q.refuse 0xFFFFFFFF).admitProgram { c with taken := c.taken ++ (checkReached cl c s).1 } a), s.memOd,
      { s.unlisted cl with check := none }) := by
  obtain ⟨hseq, hmem, hlist⟩ : _ ∧ _ ∧ _ := by simpa only [State.sluiced, Prod.mk.injEq] using sluiced_named cl c s 0xFFFFFFFF
  rw [check_admitted h hgood hadmitted, sluiced_admitted (c := { c with taken := c.taken ++ (checkReached cl c s).1 }) cl _ _ hcl,
    hseq, hmem, hlist, upd_upd]

/-- However a check ends, it changes its channel's sequencer alone, and the cluster checks no Load any more. -/
theorem sluiced_check : ∃ f r, (sluiceCheckComplete cl s).sluiced cl = (upd s.seq c.ch f, s.memOd, r) ∧ r.check = none := by
  cases hbad : (checkWalk cl c s).bad with
  | some b => exact ⟨_, _, (sluiced_check_bad h hcl hbad).1, rfl⟩
  | none =>
    cases hadmission : admissionOf ((checkReached cl c s).2.updSeq c.ch (fun q => { q with refused := 0xFFFFFFFF })) c.ch (targetCode c.entry)
        (c.taken ++ (checkReached cl c s).1) (checkWalk cl c s) with
    | error e => exact ⟨_, _, (sluiced_check_refused h hcl hbad hadmission).1, rfl⟩
    | ok a => exact ⟨_, _, sluiced_check_admitted h hcl hbad hadmission, rfl⟩

theorem sluiceCheckComplete_spec : let t := sluiceCheckComplete cl s
    t.store[cl].check = none ∧ t.mem = s.mem ∧ t.od = s.od ∧ (∀ k, k ≠ c.ch → t.seq[k] = s.seq[k]) ∧
    (∀ b, (checkWalk cl c s).bad = some b → t.seq[c.ch].refused = BitVec.ofNat 32 b ∧ t.seq[c.ch].pstate = 0 ∧ t.seq[c.ch].panSet = [] ∧
      t.answer.status = 0x03020000) ∧
    (∀ a b, (checkWalk cl c s).bad = none → admissionOf ((checkReached cl c s).2.updSeq c.ch (fun q => { q with refused := 0xFFFFFFFF }))
        c.ch (targetCode c.entry) (c.taken ++ (checkReached cl c s).1) (checkWalk cl c s) = .error (a, b) →
      t.store[cl].reason = a ∧ t.store[cl].refCh = c.ch.val ∧ t.store[cl].refWord = BitVec.ofNat 32 b ∧
      t.store[cl].refusals = s.store[cl].refusals + 1 ∧ t.seq[c.ch].pstate = 0 ∧ t.seq[c.ch].panSet = [] ∧
      t.answer.status = 0x05010000) ∧
    (∀ a, (checkWalk cl c s).bad = none → admissionOf ((checkReached cl c s).2.updSeq c.ch (fun q => { q with refused := 0xFFFFFFFF }))
        c.ch (targetCode c.entry) (c.taken ++ (checkReached cl c s).1) (checkWalk cl c s) = .ok a →
      t.seq[c.ch].pstate = 0 ∧ t.seq[c.ch].panSet = a.set ∧ t.seq[c.ch].streamed = a.streamed ∧ t.seq[c.ch].demand = a.demand ∧
      t.seq[c.ch].loading = some c.req) := by
  obtain ⟨f, r, hall, hr⟩ := sluiced_check h hcl
  obtain ⟨hseq, hmem, hlist⟩ : _ ∧ _ ∧ _ := by simpa only [State.sluiced, Prod.mk.injEq] using hall
  obtain ⟨hmem, hod⟩ := Prod.mk.inj hmem
  refine ⟨(congrArg Store.check hlist).trans hr, hmem, hod, fun k hk => by rw [hseq, upd_other _ _ _ _ hk.symm], fun b hbad => ?_,
    fun a b hgood hrefused => ?_, fun a hgood hadmitted => ?_⟩
  · obtain ⟨hview, hstatus⟩ := sluiced_check_bad h hcl hbad
    rw [sluiced_seq hview]
    exact ⟨rfl, rfl, rfl, hstatus⟩
  · obtain ⟨hview, hstatus⟩ := sluiced_check_refused h hcl hgood hrefused
    obtain ⟨-, -, hrecord⟩ : _ ∧ _ ∧ _ := by simpa only [State.sluiced, Prod.mk.injEq] using hview
    rw [sluiced_seq hview]
    exact ⟨(congrArg Store.reason hrecord :), (congrArg Store.refCh hrecord :), (congrArg Store.refWord hrecord :),
      (congrArg Store.refusals hrecord :), rfl, rfl, hstatus⟩
  · rw [sluiced_seq (sluiced_check_admitted h hcl hgood hadmitted)]
    exact ⟨rfl, rfl, rfl, rfl, rfl⟩

end

/-- No Pan that a check has reached is the host's when it ends (R192). -/
theorem checkReached_owned {cl : Fin 4} {c : LoadCheck} {s : State} {p : Nat} (hp : p ∈ (checkWalk cl c s).pans) :
    ((checkReached cl c s).2.flag p).owner ≠ .host := by
  by_cases hhost : ((checkEnded cl s).flag p).owner = .host
  · exact reachPans_owned (Q := fun o => o ≠ .host) (fun h => by cases h) (fun h => by cases h)
      (List.mem_filter.mpr ⟨hp, decide_eq_true hhost⟩)
  · exact Owned.reachPans (Q := fun o => o ≠ .host) (fun h => by cases h) (fun h => by cases h) hhost _

/-- Settles O33: LOAD takes Pans and notes a check; its end refuses or admits, and tells the channel and the cluster's record so. -/
theorem sluice : Obligations.sluice := by
  unfold Obligations.sluice
  refine ⟨fun s r ch h hoff hmode hcheck => ⟨_, rfl, load_spec h hoff hmode hcheck⟩, fun s cl c h hcl => ⟨fun p hp => ?_, ?_⟩⟩
  · exact checkReached_owned hp
  · exact ⟨_, rfl, sluiceCheckComplete_spec h hcl⟩

end Sys2Proof.Machine

/-!
SUPPORT. Every instruction of an edge program, and what ends its waits, completes (spec 06, R153, R161 to R186; spec 07, R192 to R210).
-/
namespace Sys2Proof.Machine

section
variable (s : State) (ch : Fin 64) (n : Nat)

/-! ## Instructions that change their sequencer alone (R165) -/

/-- The issue of an instruction is counted, and sets the next (R165, R167). -/
def IssueCounted (t : State) : Prop := t.seq[ch].issued = s.seq[ch].issued + 1 ∧ t.seq[ch].nextIssue = s.issueAt ch + 2

theorem issued_isCounted : IssueCounted s ch (issued s ch n) := by
  unfold IssueCounted
  rw [issued_seq_same]
  exact ⟨rfl, rfl⟩

variable {s ch} in
/-- A change of the sequencer that leaves the count and the next issue. -/
theorem IssueCounted.set {u : State} (hu : IssueCounted s ch u) {q : Sequencer}
    (h : q.issued = u.seq[ch].issued ∧ q.nextIssue = u.seq[ch].nextIssue) :
    IssueCounted s ch { u with seq := u.seq.set ch.val q ch.isLt } := by
  obtain ⟨hissued, hnext⟩ := hu
  unfold IssueCounted
  rw [show ({ u with seq := u.seq.set ch.val q ch.isLt } : State).seq[ch] = q from by simp]
  exact ⟨h.1.trans hissued, h.2.trans hnext⟩

theorem set_seq (u : State) (q : Sequencer) : ({ u with seq := u.seq.set ch.val q ch.isLt } : State).seq[ch] = q := by simp

theorem plain_completes (i : Instr) (hi : i ∈ [Instr.nop ch, .setregOrigin ch, .halt ch] ∨ (∃ t, i = .wait ch .cursor t) ∨
      (∃ t, i = .wait ch .origin t) ∨ (∃ k v, i = .setregLoad ch k v) ∨ (∃ k v, i = .setregAdd ch k v) ∨
      (∃ k j, i = .setregCopy ch k j) ∨ (∃ x, i = .jump ch x) ∨ (∃ k x, i = .loop ch k x)) (h : Issues s ch i n) :
    ∃ t, exec i s = .next t ∧ IssueCounted s ch t := by
  have hall := sequencerInstructions
  unfold Obligations.sequencer_instructions at hall
  obtain ⟨hnop, hwaitCursor, hwaitOrigin, hload, hadd, hcopy, horigin, hjump, hdone, hagain, hhalt⟩ := hall.2.1 s ch n
  have hu := issued_isCounted s ch n
  clear hall
  generalize issued s ch n = u at *
  rcases hi with hi | ⟨t, rfl⟩ | ⟨t, rfl⟩ | ⟨k, v, rfl⟩ | ⟨k, v, rfl⟩ | ⟨k, j, rfl⟩ | ⟨x, rfl⟩ | ⟨k, x, rfl⟩
  · simp only [List.mem_cons, List.not_mem_nil, or_false] at hi
    rcases hi with rfl | rfl | rfl
    · exact ⟨_, hnop h, hu⟩
    · exact ⟨_, horigin h, hu.set ⟨rfl, rfl⟩⟩
    · exact ⟨_, hhalt h, hu.set ⟨rfl, rfl⟩⟩
  · exact ⟨_, hwaitCursor t h, hu.set ⟨rfl, rfl⟩⟩
  · exact ⟨_, hwaitOrigin t h, hu.set ⟨rfl, rfl⟩⟩
  · exact ⟨_, hload k v h, hu.set ⟨rfl, rfl⟩⟩
  · exact ⟨_, hadd k v h, hu.set ⟨rfl, rfl⟩⟩
  · exact ⟨_, hcopy k j h, hu.set ⟨rfl, rfl⟩⟩
  · obtain ⟨p, hp⟩ := hjump x h
    exact ⟨_, hp, hu.set ⟨rfl, rfl⟩⟩
  · by_cases hzero : u.seq[ch].regs[k] = 0
    · exact ⟨_, hdone k x h hzero, hu⟩
    · obtain ⟨p, hp⟩ := hagain k x h hzero
      exact ⟨_, hp, hu.set ⟨rfl, rfl⟩⟩

/-! ## Actions (R168) -/

theorem setregClear_waits {l : BitVec 12} (h : Issues s ch (.setregClear ch l) n)
    (hahead : s.issueAt ch < (issued s ch n).seq[ch].cursor / 3200) :
    ∃ t, exec (.setregClear ch l) s = .next t ∧ t.seq[ch].actions.length = (issued s ch n).seq[ch].actions.length + 1 := by
  refine ⟨_, next_eq ((issue_issued _ h rfl).trans (clearAtCursor_ahead _ _ hahead)), ?_⟩
  simp only [upd_same_fin, List.length_append, List.length_singleton]

theorem action_waits {i : Instr} {a : SeqAction} (htakes : Takes (issued s ch n) ch i a) (h : Issues s ch i n)
    (hahead : s.issueAt ch < (issued s ch n).seq[ch].cursor / 3200) :
    ∃ t, exec i s = .next t ∧ t.seq[ch].actions.length = (issued s ch n).seq[ch].actions.length + 1 := by
  refine ⟨_, (exec_action htakes h).trans (congrArg _ (act_ahead _ _ hahead)), ?_⟩
  simp only [upd_same_fin, List.length_append, List.length_singleton]

theorem doAction_time (c x : Instant) (late : Bool) (a : SeqAction) : (doAction ch c x late a s).time = s.time :=
  (congrArg State.time (afar_doAction s ch c x late a) :)

variable {s} in
/-- No time that passes shortens the history (R173). -/
theorem branch_inHistory {a : TE} {f : Sequencer → Sequencer} (h : s.time.histFrom ≤ a) :
    ((s.reach a).updSeq ch f).time.histFrom ≤ a := by
  rw [show ((s.reach a).updSeq ch f).time = (s.reach a).time from rfl, reach_time]
  exact h

/-! ## Edges (R128, R175) -/

theorem entriesWritten_length (adv : Bool) (l : List FifoEntry) (y : Instant) :
    (entriesWritten ch adv l y (issued s ch n)).edge[ch].fifo.length = s.edge[ch].fifo.length + l.length := by
  rw [entriesWritten, upd_same_fin, List.length_append, (written_get (issued_written s ch n) ch).1]

end

/-- Settles O56: what each instruction does was said above; here its effect is read off. -/
theorem programCommandsComplete : Obligations.program_commands_complete := by
  unfold Obligations.program_commands_complete
  intro s ch n
  have hseq := sequencerInstructions
  unfold Obligations.sequencer_instructions at hseq
  obtain ⟨-, -, -, hload, -, -, -, hjump, -, -, hhalt⟩ := hseq.2.1 s ch n
  have hwaits := waits
  unfold Obligations.waits at hwaits
  obtain ⟨htide, hfront, hgust, htrigger, hcond, hbranch⟩ := hwaits.1 s ch n
  refine ⟨plain_completes s ch n, ?_, ?_, ?_, ?_, ?_, ?_, ?_, ?_, ?_, ?_, ?_, ?_, ?_, ?_, ?_, ?_, ?_, ?_, ?_, ?_, ?_, ?_⟩
  · exact fun h => ⟨_, hhalt h, by rw [set_seq]⟩
  · intro x h
    obtain ⟨p, hp⟩ := hjump x h
    exact ⟨_, hp, by rw [set_seq]⟩
  · exact fun k v h => ⟨_, hload k v h, by rw [set_seq]; simp⟩
  · exact fun st base adv t h hroom => ⟨_, next_eq ((issue_issued _ h (fifoRoom_of_le hroom)).trans (placeEdge_written ..)),
      entriesWritten_length ..⟩
  · exact fun low base adv t w h hroom => ⟨_, next_eq ((issue_issued _ h (fifoRoom_of_le hroom)).trans (placePulse_written ..)),
      entriesWritten_length ..⟩
  · exact fun low base adv t k w p h hroom => ⟨_, next_eq ((issue_issued _ h (fifoRoom_of_le hroom)).trans (placeBurst_written ..)),
      entriesWritten_length ..⟩
  · intro tagged e h hfull
    refine ⟨_, next_eq (issue_issued _ h (by rw [hfull]; rfl)), ?_⟩
    rw [(queueLevel_spec ..).1, List.length_append, List.length_singleton]
  · intro i hi h hahead
    rcases hi with hi | ⟨v, rfl⟩ | ⟨g, rfl⟩ | ⟨g, rfl⟩ | ⟨k, x, v, rfl⟩ | ⟨l, rfl⟩
    · obtain rfl := List.mem_singleton.mp hi
      exact action_waits s ch n (.inl (List.mem_singleton_self _)) h hahead
    · exact action_waits s ch n (.inr (.inl ⟨v, rfl⟩)) h hahead
    · exact action_waits s ch n (.inr (.inr (.inr (.inl ⟨g, rfl⟩)))) h hahead
    · exact action_waits s ch n (.inr (.inr (.inr (.inr (.inl ⟨g, rfl⟩))))) h hahead
    · exact action_waits s ch n (.inr (.inr (.inr (.inr (.inr ⟨k, x, v, rfl⟩))))) h hahead
    · exact setregClear_waits s ch n h hahead
  · intro x a h
    refine ⟨_, next_eq (actionAtCursor_acts s ch h), ?_⟩
    rw [State.now, doAction_time]
    exact (Nat.le_max_right ..).trans_eq (reach_count s _).symm
  · exact fun m h => ⟨_, htide m h, by rw [upd_same_fin]; exact ⟨rfl, rfl⟩⟩
  · exact fun m h => ⟨_, hfront m h, by rw [upd_same_fin]; exact ⟨rfl, rfl⟩⟩
  · exact fun m h => ⟨_, hgust m h, by rw [upd_same_fin]; exact ⟨rfl, rfl⟩⟩
  · intro h
    obtain ⟨t, ht, -, -, hqueue, -⟩ := htrigger h
    refine ⟨t, ht, ?_⟩
    rw [hqueue, upd_same_fin]
    exact ⟨rfl, rfl⟩
  · exact fun c x h hahead => ⟨_, hbranch c x h hahead, by rw [upd_same_fin]; exact ⟨rfl, rfl⟩⟩
  · exact fun c k x h hwithin => ⟨_, hcond c k x h hwithin, by rw [upd_same_fin]⟩
  · intro p h
    obtain ⟨-, q, hq⟩ := hintPan_spec (ch := ch) (s := issued s ch n) p.toNat (s.issueAt ch)
    refine ⟨_, next_eq (issue_issued _ h rfl), ?_⟩
    rw [hq]
    exact (issued_isCounted s ch n).1
  · intro hst
    obtain ⟨hmet, htimeout, hsync⟩ := hwaits.2.2 s ch hst
    refine ⟨fun c x h hhist => ?_, fun c a k x y t h hfirst => ?_, fun c a k x y h hk hfirst => ?_, fun k inst v h => ?_⟩
    · obtain ⟨u, hu, -, hstate, hwait, -⟩ := (hwaits.2.1 s ch c x).1 h (branch_inHistory ch hhist)
      exact ⟨u, hu, hstate, hwait⟩
    · obtain ⟨u, hu, hstate, -, horigin, -⟩ := hmet c a k x y t h hfirst
      exact ⟨u, hu, hstate, horigin⟩
    · obtain ⟨u, hu, hstate, -, hpc, -⟩ := htimeout c a k x y h hk hfirst
      exact ⟨u, hu, hstate, hpc⟩
    · obtain ⟨u, hu, hstate, -, horigin, -⟩ := hsync k inst v h
      exact ⟨u, hu, hstate, horigin⟩
  · intro r h hoff hmode hcheck
    refine ⟨_, rfl, ?_⟩
    rw [(load_spec h hoff hmode hcheck).1, upd_same_fin]
    rfl
  · intro h
    obtain ⟨r, hr⟩ := Option.isSome_iff_exists.mp h
    obtain ⟨hstate, -, hloading, -⟩ := pinLoadComplete_spec s hr
    exact ⟨_, rfl, hstate, hloading⟩
  · intro hready hroom hmiss hpolicy
    obtain ⟨x, hx⟩ := Option.isSome_iff_exists.mp hmiss
    obtain ⟨-, -, hpark, -⟩ := panMiss_spec s ch hx hready hroom
    exact ⟨_, rfl, by rw [(hpark hpolicy).1]⟩
  · intro h
    obtain ⟨x, hx⟩ := Option.isSome_iff_exists.mp h
    exact ⟨_, rfl, (missPark_spec s ch hx).2.1⟩
  · intro cl f rest hwork hf hrest
    obtain ⟨hleft, hcount, -⟩ := repairComplete_spec (l := []) hwork (fun _ h => absurd h List.not_mem_nil) hf hrest
    exact ⟨_, rfl, hleft, hcount⟩

end Sys2Proof.Machine

/-!
SUPPORT. What a Tide boundary leaves alone, said once for every property of the state: `Steady` is that of a property that survives what
measures, settings, ports, clock outputs and triggers change (spec 03, R86, R103 to R112; spec 05, R145, R147; spec 13, R331 to R349;
spec 15, R412; spec 17, R468).
-/
namespace Sys2Proof.Machine

/-- A property of the state, served, that survives what the boundary's units change, but for the state of programs. -/
structure Steady (P : State → Prop) : Prop extends Settling P where
  rest : ∀ s t : State, t = { s with
    edge := t.edge, drv := t.drv, clkout := t.clkout, drz := t.drz, armg := t.armg, gustq := t.gustq, sender := t.sender
    store := t.store, margin := t.margin, port := t.port, fab := t.fab, csu := t.csu, boot := t.boot, own := t.own, mem := t.mem
    ring := t.ring, tripin := t.tripin, free := t.free, time := { t.time with count := s.time.count } } → P s → P t
  seq : ∀ (s : State) (i : Fin 64) (f : Sequencer → Sequencer),
    (∀ q, (f q).pstate = q.pstate ∧ (f q).started = q.started) → P s → P (s.updSeq i f)
  inputs : ∀ (s : State) (f : StampInput → StampInput), (∀ u, (f u).cal = u.cal) → P s → P { s with sti := s.sti.map f }
  served : ∀ s : State, P s → s.dev.st ≠ .load

namespace Steady
variable {P : State → Prop} (h : Steady P) {s : State} (hs : P s)
include h hs

/-! ## One unit -/

theorem edge (i : Fin 64) (f : EdgeEngine → EdgeEngine) : P (s.updEdge i f) := h.rest _ _ rfl hs
theorem drv (i : Fin 64) (f : Driver → Driver) : P (s.updDrv i f) := h.rest _ _ rfl hs
theorem clk (i : Fin 8) (f : ClkOut → ClkOut) : P (s.updClk i f) := h.rest _ _ rfl hs
theorem drz (i : Fin 4) (f : Drizzle → Drizzle) : P (s.updDrz i f) := h.rest _ _ rfl hs
theorem updPort (i : Fin 8) (f : Port → Port) : P (s.updPort i f) := h.rest _ _ rfl hs
theorem csu (x : Csu) : P { s with csu := x } := h.rest _ _ rfl hs
theorem fabric (x : Fabric) : P { s with fab := x } := h.rest _ _ rfl hs

/-! ## CSU (R86, R107 to R112, R122) -/

theorem noteMeasure (i : Nat) (v : Int) : P (noteMeasure i v s) := by
  unfold Machine.noteMeasure
  split
  · exact h.rest _ _ rfl hs
  · exact hs

theorem enterCsu (st : CsuSt) : P (enterCsu st s) := by
  rw [enterCsu_frame]
  exact h.rest _ _ rfl hs

theorem cancelAction : P (cancelAction s) := by
  unfold Machine.cancelAction
  split
  · exact hs
  · exact h.raise (h.csu hs _) ..

theorem lossCancels : P (lossCancels s) := by
  unfold Machine.lossCancels
  split
  · exact h.cancelAction hs
  · exact h.cancelAction hs
  · exact hs

theorem passToReturn : P (passToReturn s) := by
  unfold Machine.passToReturn
  split
  · exact h.enterCsu (h.csu hs _) _
  · exact hs

/-- Once start-up is over an ALIGN that fails begins no stage of it (R93, R434). -/
theorem failAlign (result : Nat) : P (failAlign result s) := by
  have hstage {t : State} (ht : P t) : P (stageSix t) := by
    rwa [stageSix, if_neg fun hl => h.served t ht hl.1]
  unfold Machine.failAlign
  split
  · exact hs
  next a _ =>
    have hevent : P (alignedEvent result 0 { s with csu := { s.csu with align := none } }) := h.raise (h.csu hs _) ..
    dsimp only
    split
    · exact hstage (h.rest _ _ rfl hevent)
    · exact hevent

theorem leaveLocked (cause : Nat) : P (leaveLocked cause s) := by
  have hleft {t : State} (ht : P t) (d : Nat) : P (Machine.lossCancels (t.raise 481 d)) := h.lossCancels (h.raise ht ..)
  unfold Machine.leaveLocked
  dsimp only
  split
  next v tw src _ =>
    have hlull : P (Machine.enterCsu .lull
        { s with fab := { s.fab with steerOk := false }, csu := { s.csu with hold := s.csu.hold.take v tw src } }) :=
      h.enterCsu (h.rest s _ rfl hs) _
    exact h.passToReturn (h.failAlign (h.raise (h.csu (hleft hlull _) _) ..) _)
  next =>
    have hfree : P (Machine.enterCsu .freerun
        { s with fab := { s.fab with steerOk := false }, csu := { s.csu with hold := { s.csu.hold with src := 2 } } }) :=
      h.enterCsu (h.rest s _ rfl hs) _
    exact h.passToReturn (h.failAlign (h.raise (hleft hfree _) ..) _)

theorem referenceLost : P (referenceLost s) := by
  have hdrop : P (dropReference s) := h.csu hs _
  unfold Machine.referenceLost
  dsimp only
  split
  · exact h.leaveLocked hdrop 1
  · exact h.leaveLocked hdrop 1
  · exact h.leaveLocked hdrop 1
  · exact h.enterCsu (h.raise hdrop ..) _
  · exact h.raise (h.enterCsu hdrop _) ..
  · exact hdrop

/-! ## Ports and the fabric (R331, R338 to R349) -/

theorem dropCandidate (g : Fin 16) : P (dropCandidate g s) := by
  unfold Machine.dropCandidate
  split
  · exact h.raiseOnce (h.rest s _ rfl hs) (fun e => absurd e (by decide)) ..
  · exact hs

theorem silencePort (n : Fin 8) : P (silencePort n s) := by
  refine each_keeps P (fun i t ht => ?_) (h.updPort hs n _) _
  split
  · exact h.raiseSumAt (h.fabric ht _) ..
  · exact ht

/-- The node becomes ALONE (R341, R348). -/
theorem enterAlone : P (enterAlone s) := by
  unfold Machine.enterAlone
  split
  · exact hs
  · refine h.raise (each_keeps P (fun n t ht => h.updPort ht n _) ?_ _) ..
    refine each_keeps P (fun n t ht => h.silencePort ht n) ?_ _
    exact each_keeps P (fun g t ht => h.rest _ _ rfl (h.dropCandidate ht g)) (h.fabric hs _) _

theorem markAbsent (node : Nat) (route : List (Fin 8)) (n : Fin 8) : P (markAbsent node route n s) := by
  unfold Machine.markAbsent
  dsimp only
  split
  · exact hs
  · exact h.raise (h.rest s _ rfl hs) ..

theorem linkLost (n : Fin 8) : P (linkLost n s) := by
  unfold Machine.linkLost
  split
  · exact h.enterAlone (h.referenceLost hs)
  · split
    · exact h.markAbsent hs 0 [] n
    · split
      · split
        · exact keeps_ite (h.updPort hs _ _) hs
        · exact hs
      · exact hs

theorem portLeaves (n : Fin 8) (st : PortSt) (cause : Nat) : P (portLeaves n st cause s) := by
  have hclosed : P (refreshFlag (s.updPort n (fun p => p.closed st))) := h.rest s _ rfl hs
  unfold Machine.portLeaves
  dsimp only
  split
  · exact h.linkLost (h.raise hclosed ..) n
  · exact keeps_ite (h.raise hclosed ..) hclosed

theorem portEnabled (n : Fin 8) (on : Bool) : P (portEnabled n on s) := by
  unfold Machine.portEnabled
  split
  · exact h.updPort hs n _
  · exact keeps_ite hs (h.updPort (h.portLeaves hs n _ _) n _)

theorem rootWritten (on : Bool) : P (rootWritten on s) := by
  unfold Machine.rootWritten
  split
  · exact keeps_ite hs (h.fabric hs _)
  · exact keeps_ite (h.rest _ _ rfl (h.enterAlone (h.fabric hs _))) hs

theorem givePan (pan : Nat) : P (s.givePan pan) := keeps_ite (h.rest _ _ rfl hs) hs

theorem closeWindow : P (closeWindow s) := h.rest _ _ rfl (each_keeps P (fun p _ ht => h.givePan ht p) hs _)

/-! ## Settings that act at once (R75, R153, R205, R329, R338, R477) -/

theorem dropRecords (i : Fin 32) : P (dropRecords i s) := by
  unfold Machine.dropRecords
  exact h.input hs i _ fun _ => rfl

theorem slotsWritten (cl : Fin 4) : P (slotsWritten cl s) := by
  have hlose (n : Nat) {t : State} (ht : P t) : P (each (List.range n) (fun _ u => Machine.loseEgress cl u) t) :=
    each_keeps P (fun _ _ hu => h.loseEgress hu cl) ht _
  have hdrop : P (each ((List.finRange 8).map (unitOf8 cl)) (fun i t => if t.inputOwns i then t else Machine.dropRecords i t) s) :=
    each_keeps P (fun i t ht => keeps_ite ht (h.dropRecords ht i)) hs _
  unfold Machine.slotsWritten
  dsimp only
  refine each_keeps P (fun ch t ht => keeps_ite ht (hlose _ (h.rest _ _ rfl ht))) ?_ _
  refine each_keeps P (fun i t ht => keeps_ite ht (hlose _ (h.rest _ _ rfl ht))) ?_ _
  generalize each ((List.finRange 8).map (unitOf8 cl)) (fun i t => if t.inputOwns i then t else Machine.dropRecords i t) s = u at hdrop ⊢
  exact keeps_ite (h.cap _ _ _ hdrop) (h.trig _ _ _ (h.cap _ _ _ hdrop))

theorem clkStop (n : Fin 8) (x : Instant) (st : Nat) : P (clkStop n x st s) :=
  h.clk (keeps_ite (h.raise hs ..) hs) _ _

theorem clkEnterSafe : P (clkEnterSafe s) := each_keeps P (fun n _ ht => keeps_ite (h.clkStop ht n _ 1) ht) hs _

/-- A setting acts; `hinj` is for the one that arms the error injection and clears itself (R466). -/
theorem settingTakes (hinj : ∀ (s : State) (b : Bool), P s → P { s with
    health := { s.health with injArmed := b }, od := s.od.set 0x7804 3 (.num 0) }) (idx sub : Nat) : P (settingTakes idx sub s) := by
  unfold Machine.settingTakes
  split
  · exact h.rootWritten hs _
  split
  · exact h.csu hs _
  split
  · exact h.slotsWritten hs _
  split
  · split
    · split
      · exact h.portEnabled hs _ _
      · exact keeps_ite (h.updPort hs _ _) hs
    · exact hs
  · split
    · exact h.clkEnterSafe hs
    split
    · exact keeps_ite (h.closeWindow hs) hs
    · exact keeps_ite (hinj _ _ hs) hs

/-! ## What was measured over the Tide (R109, R344 to R346, R468, R471) -/

theorem faultCheck (ch : Fin 64) (c : BitVec 3) : P (faultCheck ch c s) := keeps_ite hs (h.drv hs _ _)

theorem sensorValue (k : Fin 8) (t : Int) : P (sensorValue k t s) := by
  have hon (l : List (Fin 64)) {u : State} (hu : P u) : P (each l (causeOn 4) u) :=
    each_keeps P (fun ch _ hv => h.faultCheck (h.drv hv ch _) ch 4) hu l
  have hoff (l : List (Fin 64)) {u : State} (hu : P u) : P (each l (causeOff 4) u) :=
    each_keeps P (fun ch _ hv => h.drv hv ch _) hu l
  unfold Machine.sensorValue
  dsimp only
  split
  · exact hon _ (h.raise (h.health s _ (by rfl) hs) ..)
  · split
    · exact hoff _ (h.raise (h.health s _ (by rfl) hs) ..)
    · exact h.health s _ (by rfl) hs

theorem portAverage (n : Fin 8) : P (portAverage n s) := by
  unfold Machine.portAverage
  dsimp only
  split
  · exact h.updPort hs n _
  · with_reducible apply_rules only [hs, h.raise, h.noteMeasure, h.updPort, keeps_ite, h.fabric]

theorem fabricAtBoundary : P (fabricAtBoundary s) := by
  have haverage : P (each (s.ports.filter (fun n => s.port[n].st == .up)) Machine.portAverage s) :=
    each_keeps P (fun n _ ht => h.portAverage ht n) hs _
  unfold Machine.fabricAtBoundary
  dsimp only
  exact h.rest _ _ rfl (keeps_ite (h.leaveLocked haverage 2) haverage)

theorem liveResult (cl : Fin 4) (x : Nat × Int) : P (liveResult cl x s) := by
  unfold Machine.liveResult driftEvent
  dsimp only
  with_reducible apply_rules only [hs, h.raise, h.noteMeasure, h.edge, h.drz, keeps_ite]

theorem overrunEvent (late : Bool) : P (overrunEvent late s) := by
  have hover (n : Nat) : P { s with merger := { s.merger with overruns := n } } := h.merger _ _ ⟨fun _ h => h, id⟩ hs
  exact keeps_ite (h.raise (hover _) ..) (hover 0)

theorem tuningValue (whole : Bool) (m : TideMeas) : P (tuningValue whole m s) := by
  have hhold : P (holdAtBoundary whole m.tuningCode m.tuningUv (m.temps.getD 0 s.temp0) s) := h.csu hs _
  exact keeps_ite (h.noteMeasure hhold ..) hhold

theorem returnMeasured (d : Int) : P (returnMeasured d s) := h.csu hs _

/-- What the boundary takes in of the Tide that ended (R109, R139, R344, R468). -/
theorem takeMeasures (whole : Bool) (m : TideMeas) : P (takeMeasures whole m s) := by
  have hreturn {u : State} (hu : P u) : P (match u.csu.st, (TideMeas.averaged m).returnPpb with
      | .ret, some d => Machine.returnMeasured d u
      | _, _ => u) := by
    split
    · exact h.returnMeasured hu _
    · exact hu
  have hsensors {u : State} (hu : P u) : P (each (List.finRange 8)
      (fun k t => Machine.sensorValue k ((TideMeas.averaged m).temps.getD k.val t.health.temps[k]) t) u) :=
    each_keeps P (fun k _ ht => h.sensorValue ht k _) hu _
  have hlive (l : List (Fin 4)) {u : State} (hu : P u) :
      P (each l (fun cl t => Machine.liveResult cl ((TideMeas.averaged m).live.getD cl.val (0, 0)) t) u) :=
    each_keeps P (fun cl _ ht => h.liveResult ht cl _) hu l
  have hrails {u : State} (hu : P u) : P { u with health := { u.health with
      rails := Vector.ofFn (fun r : Fin 12 => (TideMeas.averaged m).rails.getD r.val u.health.rails[r]) } } :=
    h.health u _ (by rfl) hu
  have hfabric := h.fabricAtBoundary (hrails (hsensors (hreturn (h.tuningValue hs whole (TideMeas.averaged m)))))
  unfold Machine.takeMeasures
  refine h.overrunEvent ?_ _
  generalize Machine.fabricAtBoundary _ = u at hfabric ⊢
  exact keeps_ite hfabric (hlive _ hfabric)

/-! ## Triggers on their way (R145, R147) -/

theorem periodBoundary (ch : Fin 64) (x : Instant) : P (periodBoundary ch x s) :=
  keeps_ite (h.periodActs hs ch _) (h.addDue hs _)

theorem discardTrigger (ch : Fin 64) : P (discardTrigger ch s) := h.delay _ _ _ hs

theorem cancelEdges (ch : Fin 64) (x : Instant) : P (cancelEdges ch x s) := h.delay _ _ _ (h.edge hs _ _)

theorem acceptTrigger (ch : Fin 64) (tref t0 : Instant) : P (acceptTrigger ch tref t0 s) :=
  h.periodBoundary (h.edge (h.delay _ _ _ hs) _ _) ch _

theorem admitTrigger (ch : Fin 64) (tref : Instant) : P (admitTrigger ch tref s) := by
  have hd (f : Delay → Delay) : P (s.updDelay ch f) := h.delay _ _ _ hs
  refine keeps_ite (h.discardTrigger (hd _) ch) (keeps_ite (h.discardTrigger (hd _) ch)
    (keeps_ite (h.acceptTrigger (hd _) ..) ?_))
  split
  · exact h.discardTrigger (hd _) ch
  · exact h.acceptTrigger (h.cancelEdges (hd _) ..) ..
  · exact h.acceptTrigger (h.delay _ _ _ (hd _)) ..

theorem delayModeTrigger (ch : Fin 64) (tref : Instant) : P (delayModeTrigger ch tref s) := by
  unfold Machine.delayModeTrigger
  dsimp only
  with_reducible apply_rules only [hs, h.discardTrigger, h.admitTrigger, h.delay, keeps_ite]

theorem dropStale (ch : Fin 64) : P (dropStale ch s) := h.seq _ _ _ (fun _ => ⟨rfl, rfl⟩) (h.delay _ _ _ hs)

theorem programModeTrigger (ch : Fin 64) (tref : Instant) : P (programModeTrigger ch tref s) := by
  have hqueue {u : State} (hu : P u) (c : Option Nat) (l : List Instant) :
      P (u.updSeq ch (fun q => { q with lastCycle := c, trigQ := q.trigQ ++ l })) := h.seq _ _ _ (fun _ => ⟨rfl, rfl⟩) hu
  have hcycle {u : State} (hu : P u) (c : Option Nat) :
      P (u.updSeq ch (fun q => { q with lastCycle := c })) := h.seq _ _ _ (fun _ => ⟨rfl, rfl⟩) hu
  have hstale : P (if s.seq[ch].wait = .trigger then Machine.dropStale ch s else s) := keeps_ite (h.dropStale hs ch) hs
  unfold Machine.programModeTrigger
  dsimp only
  exact keeps_ite (keeps_ite (h.discardTrigger (hcycle hstale _) ch) (hqueue hstale _ _)) hstale

section
variable (hod : ∀ (s : State) (o : Settings), P s → P { s with od := o })
include hod

theorem considerTrigger (ch : Fin 64) (tref : Instant) : P (considerTrigger ch tref s) := by
  refine Settling.asOf hs hod (fun t ht => ?_) tref
  split
  · exact h.delayModeTrigger ht ch tref
  · exact h.programModeTrigger ht ch tref
  · exact ht

theorem drainChannel (x : Instant) (fuel : Nat) (ch : Fin 64) : P (drainChannel x fuel ch s) := by
  induction fuel generalizing s with
  | zero => exact hs
  | succ fuel ih =>
    unfold Machine.drainChannel
    split
    · exact keeps_ite (ih (h.considerTrigger (h.delay _ _ _ hs) hod ..)) hs
    · exact hs

/-- Every trigger before an instant is considered. -/
theorem drainTriggers (x : Instant) : P (drainTriggers x s) := each_keeps P (fun _ _ ht => h.drainChannel ht hod ..) hs _

/-- The settings of the autonomous class take effect (R475, R477). -/
theorem autonomousAtBoundary : P (autonomousAtBoundary s) := by
  refine each_keeps P (fun i t ht => ?_) hs _
  split
  · exact keeps_ite (hod _ _ (h.rest _ _ rfl ht)) (h.rest _ _ rfl ht)
  · exact ht

end

end Steady

end Sys2Proof.Machine

/-!
SUPPORT. What the units do at a Tide boundary leaves alone: the lemmas of `Steady` for each of them (spec 03, R101 to R104; spec 05,
R137, R138, R141, R154; spec 09, R244 to R250; spec 10, R263 to R277; spec 11, R283 to R297; spec 14, R385, R390; spec 17, R464).
-/
namespace Sys2Proof.Machine

/-- Lines installed leave the collection under way (R264). -/
theorem installLines_calibrates {c : LineCal} (l : List (Nat × List Nat × Option Int)) (hc : c.Calibrates) :
    (l.foldl LineCal.installLine c).Calibrates := by
  induction l generalizing c with
  | nil => exact hc
  | cons p rest ih => exact ih hc

namespace Steady
variable {P : State → Prop} (h : Steady P) {s : State} (hs : P s)
include h hs

/-! ## Clock outputs and the event ring (R101 to R104, R385, R390) -/

theorem clkAtBoundary (safe : Bool) (b : TE) (n : Fin 8) : P (clkAtBoundary safe b n s) := by
  unfold Machine.clkAtBoundary
  dsimp only
  with_reducible apply_rules only [hs, h.clkStop, h.clk, keeps_ite]

/-- Whole words are written into the Saltern without a read. -/
theorem putWords (n w : Nat) (l : List Byte) : P (s.putWords w n (l.map some)) := by
  have hword {t : State} (ht : P t) (w : Nat) (l : List Byte) : P (t.putWord w (l.map some)) := by
    have hall : (l.map some).all Option.isSome = true := by simp
    unfold State.putWord
    rw [if_pos hall]
    exact keeps_ite ht (h.wordWritten (h.rest t _ rfl ht) _)
  induction n generalizing s w l with
  | zero => exact hs
  | succ n ih =>
    rw [State.putWords, ← List.map_take, ← List.map_drop]
    exact ih (hword hs w _) (w + 1) _

theorem ringPut (r : W128) : P (ringPut r s) := h.rest _ _ rfl (h.putWords hs ..)

theorem closedEnd (i : W32) : P (closedEnd i s) := h.merger _ _ ⟨fun _ h => h, id⟩ hs

theorem ringOn (b : TE) : P (ringOn b s) := by
  have honce {t : State} (ht : P t) (key d : Nat) : P (t.raiseOnce 500 key d) := h.raiseOnce ht (fun e => absurd e (by decide)) d 0
  have hpans (l : List Nat) : P (each l (fun p t => t.takePan p 0x20) s) := each_keeps P (fun _ _ ht => h.rest _ _ rfl ht) hs l
  unfold Machine.ringOn
  dsimp only
  split
  · exact honce (h.ringPut (h.closedEnd (h.rest _ _ rfl (hpans _)) 0) _) 2 2
  · exact honce (h.rest s _ rfl hs) 4 4

theorem ringOff : P (ringOff s) := by
  have hpans (l : List Nat) : P (each l (fun p t => t.givePan p) s) := each_keeps P (fun p _ ht => h.givePan ht p) hs l
  unfold Machine.ringOff
  split
  · exact h.raiseOnce (h.closedEnd (h.rest _ _ rfl (hpans _)) _) (fun e => absurd e (by decide)) 3 0
  · exact h.rest s _ rfl hs

theorem ringAtEnable (old : State) (b : TE) : P (ringAtEnable old b s) :=
  keeps_ite (h.ringOn hs b) (keeps_ite (h.ringOff hs) hs)

/-! ## Inputs and groups (R236, R244 to R248, R269, R277) -/

theorem abandonMeasurement (x : Instant) (g : Fin 32) : P (abandonMeasurement x g s) := by
  unfold Machine.abandonMeasurement
  split
  · exact hs
  · exact keeps_ite (h.grp _ _ _ hs) (h.grp _ _ _ (h.line _ _ hs))

theorem abandonFrom (x : Instant) (g : Fin 32) : P (abandonFrom x g s) :=
  h.grp _ _ _ (h.abandonMeasurement (h.judgeGroup hs x g) x g)

theorem updCal (u : CalUnit) (f : LineCal → LineCal) (hf : (s.cal u).Calibrates → (f (s.cal u)).Calibrates) : P (s.updCal u f) := by
  cases u with
  | input i => exact h.sti _ _ _ hf hs
  | slice k => exact h.drz hs _ _

theorem uncounted (u : CalUnit) : P (uncounted u s) := by
  unfold Machine.uncounted
  split
  · exact h.rest s _ rfl hs
  · exact hs

/-- A raw collection goes on where a step would be abandoned (R269). -/
theorem abandonStep (u : CalUnit) : P (abandonStep u s) := by
  unfold Machine.abandonStep
  split
  · exact hs
  next hraw =>
    refine h.updCal (h.uncounted hs u) u _ fun hc => absurd ?_ hraw
    rw [uncounted_cal] at hc
    exact hc.1

theorem inputAtBoundary (old : State) (b : TE) (i : Fin 32) : P (inputAtBoundary old b i s) := by
  have hstops (c : Prop) [Decidable c] (l : List (Fin 32)) : P (if c then each l (Machine.abandonFrom (startOf b)) s else s) :=
    keeps_ite (each_keeps P (fun g _ ht => h.abandonFrom ht _ g) hs l) hs
  have hblank (c : Prop) [Decidable c] {t : State} (ht : P t) :
      P (if c then t.updSti i (fun u => { u with blankUntil := b + 2500 }) else t) := keeps_ite (h.input ht i _ fun _ => rfl) ht
  have hstep {t : State} (ht : P t) : P (if wentOff old t (inIdx i) 0x10 then stepDisabled i t else t) :=
    keeps_ite (h.abandonStep ht (.input i)) ht
  unfold Machine.inputAtBoundary
  refine hstep (h.input (hblank _ (hstops _ _)) i _ ?_)
  exact fun _ => rfl

theorem emptyPool (g : Fin 32) (d : TE) : P (emptyPool g d s) := h.addDue (h.grp _ _ _ hs) _

theorem abandonRun (g : Fin 32) : P (abandonRun g s) := keeps_ite (h.stat _ _ _ hs) hs

theorem runAtBoundary (g : Fin 32) (b : TE) (running restart changed : Bool) : P (runAtBoundary g b running restart changed s) := by
  have hdrop {t : State} (ht : P t) : P (dropStatUse g t) := h.inputs t _ (fun _ => rfl) ht
  unfold Machine.runAtBoundary
  dsimp only
  with_reducible apply_rules only [hs, hdrop, h.abandonRun, h.stat, keeps_ite]

theorem groupAtBoundary (old : State) (b : TE) (restarts : List Nat) (g : Fin 32) : P (groupAtBoundary old b restarts g s) := by
  refine h.runAtBoundary (keeps_ite (h.emptyPool (h.abandonFrom hs _ g) g b) (keeps_ite (h.grp _ _ _ hs) hs)) ..

/-! ## Trips, conditions and triggers (R143, R291 to R297, R309) -/

theorem tripinAtBoundary (b : TE) : P (tripinAtBoundary b s) := by
  refine keeps_ite hs (keeps_ite (h.assertTrip (h.rest s _ rfl hs) _ b) (h.rest s _ rfl hs))

theorem routesAtBoundary (old : State) (b : TE) (ch : Fin 64) : P (routesAtBoundary old b ch s) :=
  each_keeps P (fun k _ ht => h.setLatch ht k b ch) hs _

theorem releaseAhead (b : TE) (ch : Fin 64) : P (releaseAhead b ch s) :=
  each_keeps P (fun p _ ht => h.sendTrigger ht p.2 ch) (h.delay _ _ _ hs) _

/-! ## Monitors (R283 to R290) -/

section
variable (hod : ∀ (s : State) (o : Settings), P s → P { s with od := o })
include hod

theorem asyncClass (wm : Fin 32) (t : TE) (c : Classn) : P (asyncClass wm t c s) :=
  h.settle (h.followAssert (h.mon _ _ _ hs) wm t) hod

theorem filterAtBoundary (old : State) (b : TE) (wm : Fin 32) : P (filterAtBoundary old b wm s) :=
  keeps_ite hs (keeps_ite (h.asyncClass hs hod ..) (keeps_ite (h.mon _ _ _ hs) (h.mon _ _ _ hs)))

theorem continuousAgain (b : TE) (wm : Fin 32) : P (continuousAgain b wm s) :=
  keeps_ite hs (keeps_ite (h.mon _ _ _ (h.mon _ _ _ hs)) (h.asyncClass (h.mon _ _ _ hs) hod ..))

theorem monitorAtBoundary (old : State) (b : TE) (wm : Fin 32) : P (monitorAtBoundary old b wm s) := by
  have hmode := keeps_ite (c := wentOff old s (monIdx wm) 9 = true) (h.continuousAgain hs hod b wm)
    (keeps_ite (c := changed old s (monIdx wm) [8] = true) (h.filterAtBoundary hs hod old b wm) hs)
  refine keeps_ite (h.mon _ _ _ hs) (keeps_ite (h.syncClass (h.mon _ _ _ hs) hod ..) (keeps_ite (h.mon _ _ _ hs) ?_))
  exact keeps_ite (h.followAssert hmode wm b) hmode

end

/-! ## Calibration (R136 to R138, R264 to R270) -/

theorem rangeWritten (mem : Nat) (cl : Fin 4) (lo n : Nat) : P (rangeWritten mem cl lo n s) := h.wordsWritten hs _

theorem installHostTable (tide : W64) (i : Fin 32) (b : List Byte) : P (installHostTable tide i b s) := by
  refine keeps_ite hs (h.updCal (h.rangeWritten hs ..) _ _ fun hc => ?_)
  obtain ⟨hstate, horigin, hbusy⟩ := hc
  exact ⟨(if_pos hbusy).trans hstate, horigin, hbusy⟩

theorem tableAtBoundary (tide : W64) (e : SetEntry) : P (tableAtBoundary tide e s) := by
  unfold Machine.tableAtBoundary
  dsimp only
  split
  · exact h.edge (h.rangeWritten hs ..) _ _
  · split
    · exact h.installHostTable hs ..
    · exact hs

theorem installUnit (tide : W64) (u : CalUnit) : P (installUnit tide u s) := by
  have hlines (l : List (Nat × List Nat × Option Int)) : P (each l
      (fun p t => Machine.rangeWritten 4 (unitCluster u) (768 * (unitPlace u) + 192 * p.1) 192 t) s) :=
    each_keeps P (fun _ _ ht => h.rangeWritten ht ..) hs l
  refine keeps_ite hs (h.updCal (h.rangeWritten (hlines _) ..) u _ fun hc => ?_)
  obtain ⟨hstate, horigin, hbusy⟩ := installLines_calibrates _ hc
  exact ⟨(if_pos hc.2.2).trans hc.1, horigin, hbusy⟩

theorem swapPaths (b : TE) (tide : W64) : P (swapPaths b tide s) := by
  have hpath {t : State} (ht : P t) (ch : Fin 64) : P (swapPath ch b t) := 
    keeps_ite (h.addDue ht _) (keeps_ite (h.swap _ _ ht) (h.addDue ht _))
  refine each_keeps P (fun ch t ht => ?_) hs _
  split
  · exact keeps_ite ht (hpath (h.edge (h.rangeWritten (h.noteMeasure ht ..) ..) _ _) ch)
  · exact ht

/-- The ring takes no unit in raw mode (R266). -/
theorem ringAtBoundary (n : Nat) (cl : Fin 4) : P (ringAtBoundary n cl s) := by
  unfold Machine.ringAtBoundary
  dsimp only
  refine keeps_ite hs ?_
  split
  · exact h.drz hs _ _
  next k hk =>
    have hskip : s.skipStep (ringStep cl (s.drz[cl].step + k)).1 = false := by simpa using List.find?_some hk
    refine h.updCal (h.drz hs _ _) _ _ fun hc => absurd hc.1 ?_
    rw [cal_updDrz _ _ fun _ => by rfl]
    intro hraw
    simp only [State.skipStep, hraw, decide_true, Bool.true_or, Bool.true_eq_false] at hskip

theorem backgroundSweep (n interval : Nat) (cl : Fin 4) : P (backgroundSweep n interval cl s) := by
  refine keeps_ite hs ?_
  split
  · exact h.drz hs _ _
  · exact h.edge (h.drz (h.drz hs _ _) _ _) _ _

/-- The sweeps of CALIBRATE and start-up (R138); `hdev` is for the device record, which notes how far they are. -/
theorem sweepAtBoundary (hdev : ∀ (s : State) (d : Dev), d.st = s.dev.st → d.pendCmd = s.dev.pendCmd →
    d.sched = s.dev.sched → P s → P { s with dev := d }) (origin : Nat) : P (sweepAtBoundary origin s).2 := by
  have hpair (k : Nat) : P (startPair origin k s) := each_keeps P (fun ch _ ht => h.edge ht ch _) hs _
  unfold Machine.sweepAtBoundary
  dsimp only
  split
  · exact hs
  split
  next k _ =>
    have hsame : (startPair origin (s.dev.sweepPair.getD 0) s).dev = s.dev := 
      bare_eq_dev (bare_each s (fun _ _ => by rfl) _)
    refine hdev _ _ ?_ ?_ ?_ (hpair _) <;> rw [hsame]
  · exact hdev s _ rfl rfl rfl hs

/-- Calibration at a boundary (R137, R138, R263 to R267). -/
theorem calibrateAtBoundary (hod : ∀ (s : State) (o : Settings), P s → P { s with od := o })
    (hsweep : ∀ (s : State) (origin : Nat), P s → P (Machine.sweepAtBoundary origin s).2 ∧
      ((Machine.sweepAtBoundary origin s).1 = true → P { (Machine.sweepAtBoundary origin s).2 with
        dev := { (Machine.sweepAtBoundary origin s).2.dev with calibrating := false } }))
    (n : Nat) (tables : List SetEntry) : P (calibrateAtBoundary n tables s) := by
  have htables : P (each tables (Machine.tableAtBoundary (BitVec.ofNat 64 n)) s) :=
    each_keeps P (fun e _ ht => h.tableAtBoundary ht _ e) hs _
  have hunits (l : List CalUnit) {t : State} (ht : P t) : P (each l (Machine.installUnit (BitVec.ofNat 64 n)) t) :=
    each_keeps P (fun u _ hu => h.installUnit hu _ u) ht _
  have hring (l : List (Fin 4)) {t : State} (ht : P t) : P (each l (Machine.ringAtBoundary n) t) :=
    each_keeps P (fun cl _ hu => h.ringAtBoundary hu n cl) ht _
  unfold Machine.calibrateAtBoundary
  dsimp only
  have hswapped : P (Machine.swapPaths (each tables (Machine.tableAtBoundary (BitVec.ofNat 64 n)) s).now (BitVec.ofNat 64 n)
      (Machine.drainTriggers ((each tables (Machine.tableAtBoundary (BitVec.ofNat 64 n)) s).nowAt + 1)
        (each (each tables (Machine.tableAtBoundary (BitVec.ofNat 64 n)) s).calUnits (Machine.installUnit (BitVec.ofNat 64 n))
          (each tables (Machine.tableAtBoundary (BitVec.ofNat 64 n)) s)))) :=
    h.swapPaths (h.drainTriggers (hunits _ htables) hod _) _ _
  generalize Machine.swapPaths _ _ _ = u at hswapped ⊢
  split
  · split
    · exact h.rest _ _ rfl (hsweep u 1 hswapped).1
    · exact (hsweep u 1 hswapped).1
  split
  · refine hring _ ?_
    split
    next hdone => exact (hsweep u 3 hswapped).2 hdone
    next => exact (hsweep u 3 hswapped).1
  · refine keeps_ite (each_keeps P (fun cl _ ht => h.ringAtBoundary (h.backgroundSweep ht n _ cl) n cl) hswapped _) hswapped

/-! ## The scrub (R464, R465) -/

theorem askRepair (cl : Fin 4) (ch pan : Nat) : P (askRepair cl ch pan s) := keeps_ite hs (h.store _ _ _ hs)

theorem memoryEvent (w : MemWord) (bad scrub : Bool) : P (memoryEvent w bad scrub s) :=
  keeps_ite (h.raiseOnce hs (fun e => absurd e (by decide)) _ 0)
    (keeps_ite (h.raiseOnce hs (fun e => absurd e (by omega)) _ 0) (h.raiseCountAt hs ..))

/-- The scrub meets an error, which may lie in the merger's memory (R463). -/
theorem scrubMeets (hecc : ∀ (s : State) (x : Health) (m : Merger), P s → P { s with health := x, merger := m })
    (w : MemWord) (cl : Fin 4) (bad : Bool) :
    P (scrubMeets w cl bad s) := by
  have hpoison : P (poisonWord w true s) := by
    unfold poisonWord
    dsimp only
    refine keeps_ite hs ?_
    have hfreeze {t : State} (ht : P t) (pan : Nat) : P (freezeProgramPan pan t) := keeps_ite (h.rest _ _ rfl ht) ht
    have hevent {t : State} (ht : P t) : P (if w.mem = 0 then freezeProgramPan (w.addr / 1024) (Machine.memoryEvent w true true t)
        else Machine.memoryEvent w true true t) :=
      keeps_ite (hfreeze (h.memoryEvent ht w true true) _) (h.memoryEvent ht w true true)
    exact hevent (keeps_ite (hecc s _ _ hs) (hecc s _ s.merger hs))
  unfold Machine.scrubMeets scrubRepair
  split
  · split
    · split
      · exact h.askRepair hpoison cl 0 _
      · exact hpoison
    · exact hpoison
  · exact h.memoryEvent (hecc s _ s.merger hs) w false true

theorem scrubAtBoundary (hecc : ∀ (s : State) (x : Health) (m : Merger), P s → P { s with health := x, merger := m })
    (n : Nat) (b : TE) : P (scrubAtBoundary n b s) :=
  keeps_ite (hecc _ _ _ (each_keeps P (fun e _ ht => h.scrubMeets ht hecc e.1 _ e.2) hs _)) hs

end Steady

end Sys2Proof.Machine

/-!
SUPPORT. What a Tide boundary keeps while it carries out a command (spec 06, R154; spec 10, R263; spec 15, R403 to R406; spec 16, R453).
-/
namespace Sys2Proof.Machine

/-! ## What is kept through the boundary -/

/-- From state `s` to state `t` the part, the device state, its commands and the count stay, CALIBRATE is not over while an input
collects for it, and the program of channel `ch` stands as `φ` says; without errors left by the scrub's pass no event is lost, and
none is left while `E` holds. -/
def Kept (E : Prop) (ch : Fin 64) (φ : Nat → TE → Prop) (s t : State) : Prop :=
  (t.part = s.part ∧ t.dev.st = s.dev.st ∧ t.dev.pendCmd = s.dev.pendCmd ∧ t.dev.sched = s.dev.sched ∧
    t.time.count = s.time.count) ∧
  (∀ i : Fin 32, s.sti[i].cal.Calibrates → t.sti[i].cal.Calibrates) ∧
  ((∃ i ∈ s.units8, s.sti[i].cal.Calibrates) → s.dev.calibrating = true → t.dev.calibrating = true) ∧
  φ t.seq[ch].pstate t.seq[ch].started ∧
  (s.health.passErrs = [] → s.merger.GoesOn t.merger ∧ (E → t.health.passErrs = []))

/-- Everything is kept from a state to itself. -/
theorem Kept.refl {E : Prop} {ch : Fin 64} {φ : Nat → TE → Prop} {s : State} (hφ : φ s.seq[ch].pstate s.seq[ch].started) :
    Kept E ch φ s s := ⟨⟨rfl, rfl, rfl, rfl, rfl⟩, fun _ => id, fun _ => id, hφ, fun h => ⟨.refl _, fun _ => h⟩⟩

/-- One member of an array after another has changed. -/
theorem upd_keeps {α : Type} {n : Nat} {Q : α → Prop} {v : Vector α n} {i j : Fin n} {f : α → α} (hf : Q v[i] → Q (f v[i]))
    (h : Q v[j]) : Q (upd v i f)[j] := by
  by_cases hij : i = j
  · subst hij
    rw [upd_same_fin]
    exact hf h
  · rw [upd_other _ _ _ _ hij]
    exact h

/-- What a served boundary keeps survives what its units do. -/
theorem kept_steady (E : Prop) (ch : Fin 64) (φ : Nat → TE → Prop) {s : State} (hload : s.dev.st ≠ .load) :
    Steady (Kept E ch φ s) where
  swap _ _ h := h
  delay _ _ _ h := h
  trip _ _ _ h := h
  grp _ _ _ h := h
  stat _ _ _ h := h
  mon _ _ _ h := h
  xbar _ _ _ h := h
  trig _ _ _ h := h
  cap _ _ _ h := h
  sender _ _ _ h := h
  store _ _ _ h := h
  line _ _ h := h
  fab _ _ h := h
  sti t i f hf := by
    rintro ⟨hrule, hcal, hlast, hφ, hevents⟩
    exact ⟨hrule, fun j hj => upd_keeps (Q := fun u : StampInput => u.cal.Calibrates) hf (hcal j hj), hlast, hφ, hevents⟩
  merger t m hm := by
    rintro ⟨hrule, hcal, hlast, hφ, hevents⟩
    refine ⟨hrule, hcal, hlast, hφ, fun hclean => ?_⟩
    obtain ⟨⟨hstanding, honce⟩, herrs⟩ := hevents hclean
    exact ⟨⟨fun e he => hm.standing e (hstanding e he), fun h => honce (hm.once h)⟩, herrs⟩
  health t x hx := by
    rintro ⟨hrule, hcal, hlast, hφ, hevents⟩
    exact ⟨hrule, hcal, hlast, hφ, fun hclean => ⟨(hevents hclean).1, fun hE => hx.trans ((hevents hclean).2 hE)⟩⟩
  rest t u hu h := by rw [hu]; exact h
  seq t i f hf := by
    rintro ⟨hrule, hcal, hlast, hφ, hevents⟩
    refine ⟨hrule, hcal, hlast, ?_, hevents⟩
    refine upd_keeps (Q := fun q : Sequencer => φ q.pstate q.started) (fun hq => ?_) hφ
    obtain ⟨hp, hs⟩ := hf t.seq[i]
    rw [hp, hs]
    exact hq
  inputs t f hf := by
    rintro ⟨hrule, hcal, hlast, hφ, hevents⟩
    refine ⟨hrule, fun j hj => ?_, hlast, hφ, hevents⟩
    simp only [Fin.getElem_fin, Vector.getElem_map, hf]
    exact hcal j hj
  served t := by
    rintro ⟨⟨_, hst, _⟩, _⟩
    rwa [hst]

/-- What is kept does not speak of settings. -/
theorem kept_od {E : Prop} {ch : Fin 64} {φ : Nat → TE → Prop} {s : State} (t : State) (o : Settings) (h : Kept E ch φ s t) :
    Kept E ch φ s { t with od := o } := h

/-- A sweep goes on or waits for the collections; only without them it ends CALIBRATE. -/
theorem kept_sweep {E : Prop} {ch : Fin 64} {φ : Nat → TE → Prop} {s t : State} (hload : s.dev.st ≠ .load) (origin : Nat)
    (h : Kept E ch φ s t) : Kept E ch φ s (sweepAtBoundary origin t).2 ∧ ((sweepAtBoundary origin t).1 = true →
      Kept E ch φ s { (sweepAtBoundary origin t).2 with
        dev := { (sweepAtBoundary origin t).2.dev with calibrating := false } }) := by
  by_cases hraw : ∃ i ∈ s.units8, s.sti[i].cal.Calibrates
  · obtain ⟨i, hi, hc⟩ := hraw
    obtain ⟨⟨hpart, _⟩, hcal, _⟩ := id h
    obtain ⟨hstate, -, hbusy⟩ := hcal i hc
    have hunit : CalUnit.input i ∈ t.calUnits := by
      refine List.mem_append_left _ (List.mem_map_of_mem ?_)
      simpa only [State.units8, hpart] using hi
    have hruns : t.rawRuns = true := List.any_eq_true.mpr ⟨_, hunit, by
      rw [Bool.and_eq_true, decide_eq_true_iff]
      exact ⟨hbusy, hstate⟩⟩
    have hwaits : sweepAtBoundary origin t = (false, t) := by
      unfold sweepAtBoundary
      rw [hruns, Bool.true_or, if_pos rfl]
    rw [hwaits]
    exact ⟨h, fun hdone => Bool.noConfusion hdone⟩
  · have hdev (u : State) (d : Dev) (hst : d.st = u.dev.st) (hpend : d.pendCmd = u.dev.pendCmd) (hsched : d.sched = u.dev.sched)
        (hu : Kept E ch φ s u) : Kept E ch φ s { u with dev := d } := by
      obtain ⟨⟨h1, h2, h3, h4, h5⟩, hcal, -, hφ, hevents⟩ := hu
      exact ⟨⟨h1, hst.trans h2, hpend.trans h3, hsched.trans h4, h5⟩, hcal, fun hr => absurd hr hraw, hφ, hevents⟩
    have hswept := (kept_steady E ch φ hload).sweepAtBoundary h hdev origin
    exact ⟨hswept, fun _ => hdev _ _ rfl rfl rfl hswept⟩

end Sys2Proof.Machine

/-!
SUPPORT. What a Tide boundary leaves of settings and staged sets once its commands are carried out, and how its units take the state
(spec 06, R154; spec 15, R403, R412; spec 17, R464).
-/
namespace Sys2Proof.Machine

/-! ## Settings and staged sets -/

/-- The settings in force and what is staged. -/
def State.settings (s : State) : Settings × Commits := (s.od, s.commits)

section
variable (s : State)

theorem settings_of_widen {s t : State} (h : s.bare.widen = t.bare.widen) : s.settings = t.settings :=
  Prod.ext (widen_eq_od h) (congrArg (fun u => u.commits) h)

theorem widen_clkAtBoundary (safe : Bool) (b : TE) (n : Fin 8) : (clkAtBoundary safe b n s).bare.widen = s.bare.widen := by
  simp [clkAtBoundary]

theorem ringAtEnable_settings (old : State) (b : TE) : (ringAtEnable old b s).settings = s.settings := by
  have honce (t : State) (source key d : Nat) : (t.raiseOnce source key d).settings = t.settings :=
    settings_of_widen (congrArg State.widen (bare_raiseOnce ..))
  have hput (u : State) (r : W128) : (ringPut r u).settings = u.settings := settings_of_widen (widen_ringPut u r)
  have htake (l : List Nat) : (each l (fun p t => t.takePan p 0x20) s).settings = s.settings :=
    settings_of_widen (widen_each s (fun p t => widen_takePan t p 0x20) l)
  have hgive (l : List Nat) : (each l (fun p t => t.givePan p) s).settings = s.settings :=
    settings_of_widen (widen_each s (fun p t => widen_givePan t p) l)
  have hring (u : State) (r : Ring) : State.settings { u with ring := r } = u.settings := rfl
  have hclosed (i : W32) (u : State) : (closedEnd i u).settings = u.settings := rfl
  simp only [ringAtEnable, ringOn, ringOff, apply_ite State.settings, honce, hput, hclosed, hring, htake, hgive, ite_self]

theorem unitsAtBoundary_settings (old : State) (b : TE) (keys restarts : List Nat) :
    (unitsAtBoundary old b keys restarts s).settings = s.settings := by
  refine (settings_of_widen ?_).trans (ringAtEnable_settings s old b)
  unfold unitsAtBoundary
  dsimp only
  rw [bare_each]
  · simp
  · intro ch t
    split <;> simp

@[simp] theorem bare_rangeWritten (mem : Nat) (cl : Fin 4) (lo n : Nat) : (rangeWritten mem cl lo n s).bare = s.bare := by
  simp [rangeWritten]

theorem widen_tableAtBoundary (tide : W64) (e : SetEntry) : (tableAtBoundary tide e s).bare.widen = s.bare.widen := by
  unfold tableAtBoundary
  dsimp only
  split
  · exact congrArg State.widen ((bare_updEdge ..).trans (bare_rangeWritten ..))
  · split
    · unfold installHostTable
      split
      · rfl
      · exact (widen_updCal ..).trans (congrArg State.widen (bare_rangeWritten ..))
    · rfl

theorem widen_installUnit (tide : W64) (u : CalUnit) : (installUnit tide u s).bare.widen = s.bare.widen := by
  simp [installUnit]

theorem bare_noteMeasure (i : Nat) (v : Int) : (noteMeasure i v s).bare = s.bare := by
  unfold noteMeasure
  split <;> rfl

theorem bare_swapPaths (b : TE) (tide : W64) : (swapPaths b tide s).bare = s.bare := by
  refine bare_each s (fun ch t => ?_) _
  split
  · simp [tableWords, bare_noteMeasure]
  · rfl

theorem widen_ringAtBoundary (n : Nat) (cl : Fin 4) : (ringAtBoundary n cl s).bare.widen = s.bare.widen := by
  unfold ringAtBoundary
  dsimp only
  split
  · rfl
  · split <;> simp

theorem widen_backgroundSweep (n interval : Nat) (cl : Fin 4) : (backgroundSweep n interval cl s).bare.widen = s.bare.widen := by
  unfold backgroundSweep
  dsimp only
  split
  · rfl
  · split <;> simp

theorem sweepAtBoundary_settings (origin : Nat) : (sweepAtBoundary origin s).2.settings = s.settings := by
  have hpair (k : Nat) : (startPair origin k s).settings = s.settings :=
    settings_of_widen (congrArg State.widen (bare_each s (fun _ _ => by rfl) _))
  unfold sweepAtBoundary
  dsimp only
  split
  · rfl
  · split
    · exact hpair _
    · rfl

theorem calibrateAtBoundary_settings (n : Nat) (tables : List SetEntry) : (calibrateAtBoundary n tables s).settings = s.settings := by
  have hring (l : List (Fin 4)) (t : State) : (each l (ringAtBoundary n) t).settings = t.settings :=
    settings_of_widen (widen_each t (fun cl u => widen_ringAtBoundary u n cl) l)
  have hsweep (l : List (Fin 4)) (i : Nat) (t : State) :
      (each l (fun cl u => ringAtBoundary n cl (backgroundSweep n i cl u)) t).settings = t.settings :=
    settings_of_widen (widen_each t (fun cl u => (widen_ringAtBoundary _ n cl).trans (widen_backgroundSweep u n i cl)) l)
  unfold calibrateAtBoundary
  dsimp only
  generalize hu : swapPaths _ _ _ = u
  have hswapped : u.settings = s.settings := by
    rw [← hu]
    refine (settings_of_widen (congrArg State.widen (bare_swapPaths ..))).trans
      ((settings_of_widen (congrArg State.widen (bare_drainTriggers ..))).trans ?_)
    exact (settings_of_widen (widen_each _ (fun v t => widen_installUnit t _ v) _)).trans
      (settings_of_widen (widen_each s (fun e t => widen_tableAtBoundary t _ e) tables))
  split
  · split
    · exact (sweepAtBoundary_settings u 1).trans hswapped
    · exact (sweepAtBoundary_settings u 1).trans hswapped
  split
  · refine (hring _ _).trans ?_
    split
    · exact (sweepAtBoundary_settings u 3).trans hswapped
    · exact (sweepAtBoundary_settings u 3).trans hswapped
  split
  · exact (hsweep _ _ u).trans hswapped
  · exact hswapped

theorem bare_scrubRepair (w : MemWord) (cl : Fin 4) : (scrubRepair w cl s).bare = s.bare := by
  unfold scrubRepair
  split
  · split
    · simp [askRepair]
    · rfl
  · rfl

theorem scrubAtBoundary_settings (n : Nat) (b : TE) : (scrubAtBoundary n b s).settings = s.settings := by
  have hmeets (e : MemWord × Bool) (t : State) : (scrubMeets e.1 (Fin.ofNat 4 e.1.cl) e.2 t).bare.widen = t.bare.widen := by
    unfold scrubMeets
    split
    · exact (congrArg State.widen (bare_scrubRepair ..)).trans (widen_poisonWord ..)
    · exact congrArg State.widen (bare_correctWord ..)
  have hpass (l : List (MemWord × Bool)) (h : Health) :
      State.settings { each l (fun e t => scrubMeets e.1 (Fin.ofNat 4 e.1.cl) e.2 t) s with health := h } = s.settings := by
    have hmet := settings_of_widen (widen_each s hmeets l)
    exact hmet
  unfold scrubAtBoundary
  split
  · exact hpass _ _
  · rfl

end

end Sys2Proof.Machine

/-!
SUPPORT. The units at a Tide boundary once its commands are carried out: programs stop and start, nothing else that the boundary keeps
changes (spec 06, R154, R155; spec 15, R403, R406).
-/
namespace Sys2Proof.Machine

/-! ## Channels (R154, R155) -/

/-- A channel at a boundary: its start comes last, after what its enable, its causes and RESUME do. -/
theorem channelAtBoundary_eq (old : State) (b : TE) (ch : Fin 64) (s : State) :
    ∃ u, channelAtBoundary old b ch s =
        (if s.chOn ch && s.nat (chIdx ch) 1 = 2 && u.dev.st == .run && u.seq[ch].pstate = 1 then startProgram b ch u else u) ∧
      ∀ P : State → Prop, Steady P → (∀ t, P t → P (stopProgram ch t)) → P s → P u := by
  have hod (c : BitVec 3) : (faultCheck ch c s).od = s.od := widen_eq_od (widen_faultCheck ..)
  unfold Machine.channelAtBoundary
  dsimp only
  have hon (c : BitVec 3) : (faultCheck ch c s).chOn ch = s.chOn ch := by simp only [State.chOn, State.on, State.nat, hod]
  have hmode (c : BitVec 3) : (faultCheck ch c s).nat (chIdx ch) 1 = s.nat (chIdx ch) 1 := by simp only [State.nat, hod]
  rw [hon, hmode]
  refine ⟨_, rfl, fun P h hstop hs => ?_⟩
  have hresume {t : State} (ht : P t) : P (resumeProgram b ch t) :=
    h.seq _ _ _ (fun q => by cases q.wait <;> exact ⟨rfl, rfl⟩) ht
  have hprog {t : State} (ht : P t) (x : TE) (o : OutState) : P (setProgrammed ch x o t) := h.edge ht _ _
  have hstopped {t : State} (ht : P t) : P (stopProgram ch (cancelEdges ch (startOf b) t)) := hstop _ (h.cancelEdges ht ..)
  have hchecked := h.faultCheck hs ch
  with_reducible apply_rules only [hchecked, hresume, hprog, hstopped, keeps_ite]

/-- A channel at a boundary keeps what its program's stop and start keep. -/
theorem Steady.channelAtBoundary {P : State → Prop} (h : Steady P) {s : State} (hs : P s) (old : State) (b : TE) (ch : Fin 64)
    (hstop : ∀ t, P t → P (stopProgram ch t)) (hstart : ∀ t, P t → t.dev.st = .run → P (startProgram b ch t)) :
    P (channelAtBoundary old b ch s) := by
  obtain ⟨u, hu, hkeeps⟩ := channelAtBoundary_eq old b ch s
  rw [hu]
  split
  next hc =>
    simp only [Bool.and_eq_true, beq_iff_eq] at hc
    exact hstart u (hkeeps P h hstop hs) hc.1.2
  next => exact hkeeps P h hstop hs

/-- What starts runs from the boundary on (R154). -/
theorem startProgram_phase (b : TE) (ch : Fin 64) (s : State) :
    (startProgram b ch s).seq[ch].pstate = 2 ∧ (startProgram b ch s).seq[ch].started = b := by
  simp [startProgram, clearBits]

/-- What every change of one program keeps, a boundary's channels keep. -/
theorem each_of_mem {β : Type} {P : State → Prop} {f : β → State → State} {l : List β} (hf : ∀ b ∈ l, ∀ t, P t → P (f b t))
    {s : State} (hs : P s) : P (each l f s) := by
  unfold each
  induction l generalizing s with
  | nil => exact hs
  | cons b rest ih => exact ih (fun c hc => hf c (List.mem_cons_of_mem _ hc)) (hf b List.mem_cons_self s hs)

/-- One of a list of changes turns a property into another, which the others keep. -/
theorem each_turns {β : Type} {P R : State → Prop} {f : β → State → State} {l : List β} {b : β} (hb : b ∈ l) (hl : l.Nodup)
    (hP : ∀ c, c ≠ b → ∀ t, P t → P (f c t)) (hturn : ∀ t, P t → R (f b t)) (hR : ∀ c, c ≠ b → ∀ t, R t → R (f c t))
    {s : State} (hs : P s) : R (each l f s) := by
  induction l generalizing s with
  | nil => cases hb
  | cons c rest ih =>
    obtain ⟨hc, hrest⟩ := List.nodup_cons.mp hl
    by_cases hcb : c = b
    · subst hcb
      exact each_of_mem (fun d hd t ht => hR d (fun e => hc (e ▸ hd)) t ht) (hturn s hs)
    · exact ih ((List.mem_cons.mp hb).resolve_left (Ne.symm hcb)) hrest (hP c hcb s hs)

section
variable {E : Prop} {ch : Fin 64} {φ ψ : Nat → TE → Prop} {s t : State}

/-- What is kept, with the program of the channel where another property has it. -/
theorem Kept.phase (h : Kept E ch φ s t) (hψ : ψ t.seq[ch].pstate t.seq[ch].started) : Kept E ch ψ s t := by
  obtain ⟨hrule, hcal, hlast, -, hevents⟩ := h
  exact ⟨hrule, hcal, hlast, hψ, hevents⟩

/-- A change of another channel's program. -/
theorem Kept.otherSeq (h : Kept E ch φ s t) {i : Fin 64} (hi : i ≠ ch) (f : Sequencer → Sequencer) :
    Kept E ch φ s (t.updSeq i f) := by
  obtain ⟨hrule, hcal, hlast, hφ, hevents⟩ := h
  refine ⟨hrule, hcal, hlast, ?_, hevents⟩
  rw [updSeq_seq, upd_other _ _ _ _ hi]
  exact hφ

/-- A change of a program that the property follows. -/
theorem Kept.anySeq (h : Kept E ch φ s t) {i : Fin 64} {f : Sequencer → Sequencer}
    (hf : φ t.seq[i].pstate t.seq[i].started → φ (f t.seq[i]).pstate (f t.seq[i]).started) : Kept E ch φ s (t.updSeq i f) := by
  obtain ⟨hrule, hcal, hlast, hφ, hevents⟩ := h
  exact ⟨hrule, hcal, hlast, upd_keeps (Q := fun q : Sequencer => φ q.pstate q.started) hf hφ, hevents⟩

/-- A program stops: one that ran is admitted from then on. -/
theorem Kept.stop (h : Kept E ch φ s t) (i : Fin 64) (hφ : ∀ p n, φ p n → 2 ≤ p → φ 1 n) : Kept E ch φ s (stopProgram i t) := by
  refine h.anySeq fun hq => ?_
  split
  next hp => exact hφ _ _ hq hp
  next => exact hq

/-- A program starts: the programmed state, the program's record and its cleared bits change. -/
theorem Kept.start (h : Kept E ch φ s t) {i : Fin 64} {b : TE} (hseq : ∀ u f, Kept E ch φ s u → Kept E ch φ s (u.updSeq i f)) :
    Kept E ch φ s (startProgram b i t) := hseq _ _ (hseq _ _ h)

/-- A boundary of another channel. -/
theorem Kept.otherChannel (hload : s.dev.st ≠ .load) (h : Kept E ch φ s t) (old : State) (b : TE) {i : Fin 64} (hi : i ≠ ch) :
    Kept E ch φ s (channelAtBoundary old b i t) :=
  (kept_steady E ch φ hload).channelAtBoundary h old b i (fun _ hu => hu.otherSeq hi _)
    (fun _ hu _ => hu.start fun _ _ hv => hv.otherSeq hi _)

/-- Out of RUN no program starts: one that does not run goes on not running (R154, R155). -/
theorem kept_channels_stopped (hload : s.dev.st ≠ .load) (hrun : s.dev.st ≠ .run) (hφ : ∀ p n, φ p n → 2 ≤ p → φ 1 n)
    (h : Kept E ch φ s t) (old : State) (b : TE) : Kept E ch φ s (each t.channels (channelAtBoundary old b) t) := by
  refine each_keeps (Kept E ch φ s) (fun i u hu => ?_) h _
  refine (kept_steady E ch φ hload).channelAtBoundary hu old b i (fun v hv => hv.stop i hφ) ?_
  rintro v ⟨⟨_, hst, _⟩, _⟩ hv
  exact absurd (hst.symm.trans hv) hrun

/-- Whatever its programs do, the channels keep the rest. -/
theorem kept_channels_any (hload : s.dev.st ≠ .load) (h : Kept E ch (fun _ _ => True) s t) (old : State) (b : TE) :
    Kept E ch (fun _ _ => True) s (each t.channels (channelAtBoundary old b) t) :=
  each_keeps (Kept E ch (fun _ _ => True) s) (fun i _ hu => (kept_steady E ch _ hload).channelAtBoundary hu old b i
    (fun _ hv => hv.anySeq fun _ => trivial) (fun _ hv _ => hv.start fun _ _ hw => hw.anySeq fun _ => trivial)) h _

/-- A channel's admitted program, enabled in program mode, starts in RUN at its boundary (R154). -/
theorem Kept.starts (hrun : s.dev.st = .run) (h : Kept E ch (fun p _ => p = 1) s t) (hon : t.chOn ch = true)
    (hmode : t.nat (chIdx ch) 1 = 2) (old : State) (b : TE) :
    Kept E ch (fun p n => p = 2 ∧ n = b) s (channelAtBoundary old b ch t) := by
  have hload : s.dev.st ≠ .load := by rw [hrun]; decide
  obtain ⟨u, hu, hkeeps⟩ := channelAtBoundary_eq old b ch t
  have hkept := hkeeps _ (kept_steady E ch _ hload) (fun _ hv => hv.stop ch fun _ _ _ _ => rfl) h
  obtain ⟨⟨_, hst, _⟩, _, _, (hone : u.seq[ch].pstate = 1), _⟩ := id hkept
  have hstarts : startProgram b ch u = channelAtBoundary old b ch t := by
    rw [hu, if_pos (by simp only [hon, hmode, hst, hrun, hone, beq_self_eq_true, decide_true, Bool.and_true])]
  rw [← hstarts]
  exact (Kept.start (hkept.phase (ψ := fun _ _ => True) trivial) fun _ _ hw => hw.anySeq fun _ => trivial).phase
    (startProgram_phase b ch u)

/-- In RUN the channel's admitted program starts (R154). -/
theorem kept_channels_started (hrun : s.dev.st = .run) (hch : ch ∈ s.channels) (h : Kept E ch (fun p _ => p = 1) s t)
    (hon : t.chOn ch = true) (hmode : t.nat (chIdx ch) 1 = 2) (old : State) (b : TE) :
    Kept E ch (fun p n => p = 2 ∧ n = b) s (each t.channels (channelAtBoundary old b) t) := by
  have hload : s.dev.st ≠ .load := by rw [hrun]; decide
  have hchannels : t.channels = s.channels := by
    obtain ⟨⟨hpart, _⟩, _⟩ := h
    simp only [State.channels, hpart]
  have hod (i : Fin 64) (u : State) : (channelAtBoundary old b i u).od = u.od := widen_eq_od (widen_channelAtBoundary ..)
  refine each_turns (P := fun u => Kept E ch (fun p _ => p = 1) s u ∧ u.od = t.od) (b := ch) (l := t.channels) (hchannels ▸ hch)
    ((List.nodup_finRange 64).filter _) (fun i hi u ⟨hu, ho⟩ => ⟨hu.otherChannel hload old b hi, (hod i u).trans ho⟩)
    (fun u ⟨hu, ho⟩ => hu.starts hrun ?_ ?_ old b) (fun i hi u hu => hu.otherChannel hload old b hi) ⟨h, rfl⟩
  · simpa only [State.chOn, State.on, State.nat, ho] using hon
  · simpa only [State.nat, ho] using hmode

end

end Sys2Proof.Machine

/-!
SUPPORT. What follows the commands at a Tide boundary — the units, calibration, the scrub and what is due — leaves of device state,
collections, events and settings (spec 06, R154; spec 10, R263; spec 15, R403 to R406; spec 17, R464).
-/
namespace Sys2Proof.Machine

/-- What a served boundary does once its commands are carried out (R154, R263, R464). -/
def afterCommands (old : State) (b : TE) (keys restarts : List Nat) (tables : List SetEntry) (s : State) : State :=
  let u := unitsAtBoundary old b keys restarts (each (List.finRange 8) (clkAtBoundary (old.dev.st == .safe || s.dev.st == .safe) b) s)
  let v := scrubAtBoundary (tideWord b).toNat b (calibrateAtBoundary (tideOf b) tables u)
  { v with time := { v.time with lastTide := some b } }.settle

theorem afterCommands_settings (old : State) (b : TE) (keys restarts : List Nat) (tables : List SetEntry) (s : State) :
    (afterCommands old b keys restarts tables s).settings = s.settings := by
  refine (settings_of_widen (congrArg State.widen (bare_settle _))).trans ?_
  refine (scrubAtBoundary_settings ..).trans ((calibrateAtBoundary_settings ..).trans ((unitsAtBoundary_settings ..).trans ?_))
  exact settings_of_widen (widen_each s (fun n t => widen_clkAtBoundary t _ b n) _)

section
variable {E : Prop} {ch : Fin 64} {φ ψ : Nat → TE → Prop} {s t : State}

/-- What is kept without a claim about errors that the scrub's pass left. -/
theorem Kept.anyErrors (h : Kept E ch φ s t) : Kept False ch φ s t := by
  obtain ⟨hrule, hcal, hlast, hφ, hevents⟩ := h
  exact ⟨hrule, hcal, hlast, hφ, fun hclean => ⟨(hevents hclean).1, False.elim⟩⟩

/-- The scrub meets the errors that its pass left: without any, no event and no word changes (R464, R465). -/
theorem kept_scrubAtBoundary (hload : s.dev.st ≠ .load) (h : Kept True ch φ s t) (n : Nat) (b : TE) :
    Kept False ch φ s (scrubAtBoundary n b t) := by
  by_cases hclean : s.health.passErrs = []
  · obtain ⟨hrule, hcal, hlast, hφ, hevents⟩ := h
    have hnone : t.health.passErrs = [] := (hevents hclean).2 trivial
    have hgoes := (hevents hclean).1
    unfold scrubAtBoundary
    simp only [hnone, List.filter_nil, ite_self, each, List.foldl_nil]
    exact keeps_ite (P := Kept False ch φ s) ⟨hrule, hcal, hlast, hφ, fun _ => ⟨hgoes, False.elim⟩⟩
      ⟨hrule, hcal, hlast, hφ, fun _ => ⟨hgoes, False.elim⟩⟩
  · refine (kept_steady False ch φ hload).scrubAtBoundary h.anyErrors (fun u x m hu => ?_) n b
    obtain ⟨hrule, hcal, hlast, hφ, -⟩ := hu
    exact ⟨hrule, hcal, hlast, hφ, fun h => absurd h hclean⟩

/-- The units at a boundary keep what the channels keep. -/
theorem kept_unitsAtBoundary (hload : s.dev.st ≠ .load) (old : State) (b : TE) (keys restarts : List Nat)
    (hch : ∀ u, Kept E ch φ s u → u.od = t.od → Kept E ch ψ s (each u.channels (channelAtBoundary old b) u))
    (h : Kept E ch φ s t) : Kept E ch ψ s (unitsAtBoundary old b keys restarts t) := by
  have hs := kept_steady E ch φ hload
  have hk := kept_steady E ch ψ hload
  have hchannels := hch _ (hs.ringAtEnable h old b) (congrArg Prod.fst (ringAtEnable_settings t old b))
  unfold unitsAtBoundary
  dsimp only
  generalize each _ (channelAtBoundary old b) _ = u at hchannels ⊢
  have hall {β : Type} (l : List β) (f : β → State → State) (hf : ∀ c v, Kept E ch ψ s v → Kept E ch ψ s (f c v))
      {v : State} (hv : Kept E ch ψ s v) : Kept E ch ψ s (each l f v) := each_keeps (Kept E ch ψ s) hf hv l
  refine hall _ _ (fun c v hv => keeps_ite (hk.sendTrigger hv _ c) hv) ?_
  refine hall _ _ (fun c v hv => hk.releaseAhead hv _ c) ?_
  refine hall _ _ (fun c v hv => hk.trig v c _ hv) ?_
  refine hall _ _ (fun c v hv => hk.routesAtBoundary hv old b c) (hk.tripinAtBoundary ?_ b)
  refine hall _ _ (fun c v hv => hk.monitorAtBoundary hv kept_od old b c) ?_
  refine hall _ _ (fun c v hv => hk.groupAtBoundary hv old b restarts c) ?_
  exact hall _ _ (fun c v hv => hk.inputAtBoundary hv old b c) hchannels

/-- What follows the commands keeps what the channels keep. -/
theorem kept_afterCommands (hload : s.dev.st ≠ .load) (old : State) (b : TE) (keys restarts : List Nat) (tables : List SetEntry)
    (hch : ∀ u, Kept True ch φ s u → u.od = s.od → Kept True ch ψ s (each u.channels (channelAtBoundary old b) u))
    (hφ : φ s.seq[ch].pstate s.seq[ch].started) : Kept False ch ψ s (afterCommands old b keys restarts tables s) := by
  have hs := kept_steady True ch φ hload
  have hk := kept_steady True ch ψ hload
  have hf := kept_steady False ch ψ hload
  have hclk : Kept True ch φ s (each (List.finRange 8) (clkAtBoundary (old.dev.st == .safe || s.dev.st == .safe) b) s) :=
    each_keeps (Kept True ch φ s) (fun n v hv => hs.clkAtBoundary hv _ b n) (.refl hφ) _
  have hod : (each (List.finRange 8) (clkAtBoundary (old.dev.st == .safe || s.dev.st == .safe) b) s).od = s.od :=
    widen_eq_od (widen_each s (fun n t => widen_clkAtBoundary t _ b n) _)
  have hunits := kept_unitsAtBoundary hload old b keys restarts (fun u hu ho => hch u hu (ho.trans hod)) hclk
  have hcal := hk.calibrateAtBoundary hunits kept_od (fun u origin hu => kept_sweep hload origin hu) (tideOf b) tables
  exact hf.settle (hf.rest _ _ rfl (kept_scrubAtBoundary hload hcal (tideWord b).toNat b)) kept_od

end

end Sys2Proof.Machine

/-!
SUPPORT. What each command that a boundary carries out makes of the state (spec 06, R154; spec 10, R263; spec 15, R403 to R406; spec 16,
R453).
-/
namespace Sys2Proof.Machine

/-! ## Events that stand -/

/-- An event with this instant, source and detail stands in the merger. -/
def Merger.Holds (m : Merger) (x : Instant) (source detail : Nat) : Prop :=
  ∃ e ∈ m.standing, e.at_ = x ∧ e.source = source ∧ e.detail = BitVec.ofNat 32 detail

/-- What stands goes on standing. -/
theorem Merger.GoesOn.holds {m n : Merger} {x : Instant} {source detail : Nat} (h : m.GoesOn n) (hm : m.Holds x source detail) :
    n.Holds x source detail := by
  obtain ⟨e, he, hx⟩ := hm
  exact ⟨e, h.standing e he, hx⟩

/-- What stands is raised. -/
theorem Merger.Holds.raised {t : State} {x : Instant} {source detail : Nat} (h : t.merger.Holds x source detail) :
    Raised t x source detail := by
  obtain ⟨e, he, rfl, rfl, hd⟩ := h
  exact .inl (List.mem_append_left _ (List.mem_map.mpr ⟨e, he, by rw [hd]⟩))

/-- An event put into the Tide that its instant lies in stands there. -/
theorem inEnded_mem {f : EndedTide → EndedTide} {a : TE} {e : Event} (hf : ∀ b, e ∈ (f b).events) {l m : List EndedTide}
    (h : inEnded f a l = some m) : e ∈ (m.map (fun b => b.events)).flatten := by
  induction l generalizing m with
  | nil => cases h
  | cons b rest ih =>
    rw [inEnded] at h
    split at h
    · obtain rfl := Option.some.inj h
      exact List.mem_append_left _ (hf b)
    · obtain ⟨r, hr, rfl⟩ := Option.map_eq_some_iff.mp h
      exact List.mem_append_right _ (ih hr)

theorem Merger.mem_add (m : Merger) (e : Event) : e ∈ (m.add e).standing := by
  unfold Merger.add
  split
  next l hl =>
    exact List.mem_append_right _ (inEnded_mem (fun b => List.mem_append_right b.events (List.mem_singleton_self e)) hl)
  next => exact List.mem_append_left _ (List.mem_append_right _ (List.mem_singleton_self e))

/-- Out of BOOT and LOAD an event that is raised stands (R66, R438). -/
theorem raiseAt_holds {s : State} (hserved : s.served = true) (x : Instant) (source detail flags : Nat) :
    (s.raiseAt x source (BitVec.ofNat 32 detail) flags).merger.Holds x source detail := by
  unfold State.served at hserved
  unfold State.raiseAt
  cases hst : s.dev.st with
  | boot | load => rw [hst] at hserved; cases hserved
  | idle | run | hold | safe => exact ⟨_, Merger.mem_add _ _, rfl, rfl, rfl⟩

/-- The first event of its kind in a Tide stands (R65). -/
theorem raiseOnce_holds {s : State} (hserved : s.served = true) {source key : Nat} (hnew : (source, key) ∉ s.merger.once)
    (detail flags : Nat) :
    (s.raiseOnce source key detail flags).merger.Holds s.nowAt source detail := by
  unfold State.raiseOnce State.raiseOnceAt
  rw [if_neg (by simpa using hnew)]
  exact raiseAt_holds (s := { s with merger := { s.merger with once := (source, key) :: s.merger.once } }) hserved ..

/-! ## Changes one after another -/

/-- What one of a list of changes brings about stays, when each of them keeps it. -/
theorem each_makes {β : Type} {R : State → Prop} {f : β → State → State} {l : List β} {b : β} (hb : b ∈ l)
    (hmake : ∀ t, R (f b t)) (hkeep : ∀ c t, R t → R (f c t)) (s : State) : R (each l f s) := by
  induction l generalizing s with
  | nil => cases hb
  | cons c rest ih =>
    rcases List.mem_cons.mp hb with rfl | hrest
    · exact each_keeps R hkeep (hmake s) rest
    · exact ih hrest (f c s)

/-! ## GO, HOLD, RESUME, STOP, LEAVE_SAFE (R154, R403, R406) -/

/-- The state that is entered is reported (R406). -/
theorem enterState_holds {d : DevState} (hd : d ≠ .boot ∧ d ≠ .load) (s : State) :
    (enterState d s).merger.Holds s.nowAt 491 (6 + d.code * 2 ^ 4 + 0x1300 * 2 ^ 16) := by
  have hevent : ∃ u, enterState d s = stateEvent u ∧ u.bare.widen = ({ s with dev := { s.dev with st := d } } : State).bare.widen := by
    unfold enterState
    refine ⟨_, rfl, ?_⟩
    cases d <;> simp
  obtain ⟨u, hu, hwide⟩ := hevent
  have hst : u.dev.st = d := congrArg Dev.st (widen_eq_dev hwide)
  have htime : u.time = s.time := congrArg (fun t => t.time) hwide
  have hserved : u.served = true := by
    unfold State.served
    cases h : u.dev.st <;> simp_all
  have hnow : u.nowAt = s.nowAt := by simp only [State.nowAt, htime]
  rw [hu, ← hst, ← hnow]
  exact raiseAt_holds hserved ..

theorem channelRests_seq (ch : Fin 64) (s : State) : (channelRests ch s).seq = (stopProgram ch (cancelAll ch s)).seq := by
  unfold channelRests
  dsimp only
  split <;> rfl

/-- A program that is stopped, or did not run, does not run after the stop. -/
theorem stopProgram_pstate_le {c ch : Fin 64} {s : State} (h : c = ch ∨ s.seq[ch].pstate ≤ 1) :
    (stopProgram c s).seq[ch].pstate ≤ 1 := by
  rw [stopProgram, updSeq_seq]
  by_cases hc : c = ch
  · subst hc
    rw [upd_same_fin]
    split
    · exact le_rfl
    · omega
  · rw [upd_other _ _ _ _ hc]
    exact h.resolve_left hc

/-- Entering IDLE stops every program (R155, R403). -/
theorem enterState_idle_stops {ch : Fin 64} {s : State} (hch : ch ∈ s.channels) : (enterState .idle s).seq[ch].pstate ≤ 1 := by
  have hrest {c : Fin 64} {t : State} (h : c = ch ∨ t.seq[ch].pstate ≤ 1) : (channelRests c t).seq[ch].pstate ≤ 1 := by
    rw [channelRests_seq]
    exact stopProgram_pstate_le (s := cancelAll c t) h
  have hrests := each_makes (R := fun t => t.seq[ch].pstate ≤ 1) hch (fun _ => hrest (.inl rfl))
    (fun _ _ h => hrest (.inr h)) { s with dev := { s.dev with st := .idle } }
  unfold enterState stateEvent
  rw [raise_frame]
  exact hrests

/-! ## RESTORE_DEFAULTS (R453) -/

/-- The sets are empty and every setting but those that are kept is at its default. -/
def Restored (p : Part) (d : Dev) (t : State) : Prop :=
  t.part = p ∧ t.dev = d ∧ t.commits.sets = [] ∧ ∀ key, keptByRestore p key = false → assocFind t.od key = none

theorem restored_steady (p : Part) {d : Dev} (hload : d.st ≠ .load) : Steady (Restored p d) where
  swap _ _ h := h
  delay _ _ _ h := h
  trip _ _ _ h := h
  grp _ _ _ h := h
  stat _ _ _ h := h
  mon _ _ _ h := h
  xbar _ _ _ h := h
  trig _ _ _ h := h
  cap _ _ _ h := h
  sender _ _ _ h := h
  store _ _ _ h := h
  line _ _ h := h
  fab _ _ h := h
  sti _ _ _ _ h := h
  merger _ _ _ h := h
  health _ _ _ h := h
  rest t u hu h := by rw [hu]; exact h
  seq _ _ _ _ h := h
  inputs _ _ _ h := h
  served t := by
    rintro ⟨-, hdev, -⟩
    rwa [hdev]

/-- An object that is put at no value is not listed. -/
theorem assocFind_assocPut_none {α : Type} {l : List (Nat × α)} {key : Nat} (h : assocFind l key = none) (k : Nat) :
    assocFind (assocPut l k none) key = none := by
  induction l with
  | nil => rfl
  | cons e rest ih =>
    obtain ⟨j, w⟩ := e
    simp only [assocFind] at h
    split at h
    · cases h
    next hj =>
      unfold assocPut
      split
      · simp [assocFind, hj, h]
      · split
        · exact h
        · simp [assocFind, hj, ih h]

/-- Of settings that are left out none is listed. -/
theorem assocFind_filter_none {α : Type} (l : List (Nat × α)) {keep : Nat → Bool} {key : Nat} (h : keep key = false) :
    assocFind (l.filter (fun e => keep e.1)) key = none := by
  induction l with
  | nil => rfl
  | cons e rest ih =>
    obtain ⟨j, w⟩ := e
    by_cases hj : keep j = true
    · have hne : j ≠ key := by rintro rfl; simp_all
      simp [hj, assocFind, hne, ih]
    · simpa [hj] using ih

theorem restored_discardProgram {p : Part} {d : Dev} {s : State} (hload : d.st ≠ .load) (h : Restored p d s) (ch : Fin 64)
    (also : List Nat) : Restored p d (discardProgram ch also s) := by
  have hs := restored_steady p hload
  have hend : Restored p d (endLoading ch s) := by
    unfold endLoading
    split
    next r _ =>
      unfold Restored
      rw [answerLoad_part, answerLoad_dev, answerLoad_commits, answerLoad_od]
      exact h
    next => exact h
  have hpans (l : List Nat) {t : State} (ht : Restored p d t) : Restored p d (releasePans l t) :=
    each_keeps (Restored p d) (fun q u hu => keeps_ite hu (hs.givePan hu q)) ht l
  exact hpans _ hend

theorem restored_defaultTakes {p : Part} {d : Dev} {s : State} (hload : d.st ≠ .load) (h : Restored p d s) (key : Nat) :
    Restored p d (defaultTakes key s) := by
  have htakes (idx sub : Nat) : Restored p d (settingTakes idx sub s) := by
    refine (restored_steady p hload).settingTakes h (fun t b ht => ?_) idx sub
    obtain ⟨hpart, hdev, hsets, hod⟩ := ht
    refine ⟨hpart, hdev, hsets, fun k hk => ?_⟩
    have hdefault : OdVal.num 0 = odDefaultVal 0x7804 3 := by decide +kernel
    rw [Settings.set, if_pos hdefault]
    exact assocFind_assocPut_none (hod k hk) _
  unfold defaultTakes
  dsimp only
  split
  · split
    · exact restored_discardProgram hload h _ _
    · exact htakes _ _
  · exact keeps_ite h (htakes _ _)

/-- RESTORE_DEFAULTS empties the sets and takes every stored setting but those it keeps to its default (R453). -/
theorem restoreNow_restored {s : State} (hload : s.dev.st ≠ .load) : Restored s.part s.dev (restoreNow s) := by
  refine each_keeps (Restored s.part s.dev) (fun k t ht => restored_defaultTakes hload ht k) ?_ _
  exact ⟨rfl, rfl, rfl, fun key hkey => assocFind_filter_none _ hkey⟩

/-! ## CALIBRATE (R263) -/

/-- The calibration of an input where another unit's changes. -/
theorem updCal_sti_other {i : Fin 32} {u : CalUnit} (h : u ≠ .input i) (f : LineCal → LineCal) (s : State) :
    (s.updCal u f).sti[i] = s.sti[i] := by
  cases u with
  | input j => exact upd_other _ _ _ _ fun hj => h (hj ▸ rfl)
  | slice k => rfl

/-- A unit enters raw mode, the input itself or another one (R263). -/
theorem enterRaw_calibrates {i : Fin 32} {u : CalUnit} {s : State} (target : Nat) (h : u = .input i ∨ s.sti[i].cal.Calibrates) :
    (enterRaw 3 target u (abandonCollection u s)).sti[i].cal.Calibrates := by
  by_cases hu : u = .input i
  · subst hu
    have hcal : (enterRaw 3 target (.input i) (abandonCollection (.input i) s)).sti[i].cal = _ :=
      cal_updCal (.input i) _ (abandonCollection (.input i) s)
    rw [hcal]
    exact ⟨rfl, rfl, rfl⟩
  · rw [enterRaw, updCal_sti_other hu, abandonCollection, updCal_sti_other hu, uncounted_frame]
    exact h.resolve_left hu

/-- Every input is in raw mode (R263). -/
theorem startRaw_calibrates {i : Fin 32} {s : State} (hi : i ∈ s.units8) (target : Nat) :
    (startRaw 3 target s).sti[i].cal.Calibrates :=
  each_makes (R := fun t => t.sti[i].cal.Calibrates) (List.mem_append_left _ (List.mem_map_of_mem hi))
    (fun _ => enterRaw_calibrates target (.inl rfl)) (fun _ _ h => enterRaw_calibrates target (.inr h)) s

end Sys2Proof.Machine

/-!
SUPPORT. What a Tide boundary does before its commands — what is due, the end of the Tide, the measurements, the sets — leaves of device
state, programs and events (spec 02, R49; spec 06, R154; spec 15, R403, R405, R408).
-/
namespace Sys2Proof.Machine

/-! ## The boundary in three parts -/

/-- Everything before the boundary is done, and the Tide that ends is closed for the merger (R49, R50, R65, R68). -/
def boundaryEnded (s : State) : State :=
  let t := beforeBoundary s.nextBoundary s
  if t.merger.ended.any (fun e => e.at_ = t.now) then t else t.endTideAt (tideWord (s.nextBoundary - 1))

/-- What was measured over the Tide that ended is taken in (R109, R471). -/
def boundaryMeasured (m : TideMeas) (s : State) : State :=
  takeMeasures (decide (s.time.lastTide = some (s.nextBoundary - tideLen))) m (boundaryEnded s)

/-- The sets and the autonomous settings of the boundary are in force (R408, R412, R475). -/
def setsInForce (b : TE) (s : State) : State :=
  let t := autonomousAtBoundary (applySets (tideOf b) b s)
  { t with
    commits := { t.commits with prior := s.od, priorEnd := b }
    sti := t.sti.map (fun u => { u with calBefore := u.cal }) }

/-- A served boundary: what ends and what is set, the commands, and the rest (R49, R403, R405). -/
theorem tideBoundary_eq {m : TideMeas} {s : State} (hruns : s.time.running = true) (hreset : s.resetBy s.nextBoundary = false)
    (hserved : (boundaryMeasured m s).served = true) : ∃ keys restarts tables, tideBoundary m s =
      afterCommands (boundaryMeasured m s) s.nextBoundary keys restarts tables
        (scheduledActs (tideOf s.nextBoundary) (pendingActs s.nextBoundary (setsInForce s.nextBoundary (boundaryMeasured m s)))) := by
  rw [tideBoundary, if_pos hruns, if_neg (by simp [hreset])]
  dsimp only
  have hmeasured : takeMeasures (decide (s.time.lastTide = some (s.nextBoundary - tideLen))) m
      (if (beforeBoundary s.nextBoundary s).merger.ended.any (fun e => e.at_ = (beforeBoundary s.nextBoundary s).now)
        then beforeBoundary s.nextBoundary s
        else (beforeBoundary s.nextBoundary s).endTideAt (tideWord (s.nextBoundary - 1))) = boundaryMeasured m s := rfl
  rw [hmeasured, if_pos hserved]
  generalize (if (settingsAtBoundary (tideOf s.nextBoundary) s.nextBoundary (boundaryMeasured m s)).served then _ else []) = tables
  generalize boundaryMeasured m s = old
  exact ⟨(old.due (tideOf s.nextBoundary)).map (fun e => e.key),
    (old.commits.restart.filter (fun p => p.2 ≤ s.nextBoundary)).map (fun p => p.1), tables, by
      unfold afterCommands settingsAtBoundary setsInForce
      rfl⟩

/-! ## What is kept up to the commands -/

section
variable {ch : Fin 64} {φ : Nat → TE → Prop} {s t : State}

/-- The end of a Tide moves events, and forgets what is raised once per Tide (R65, R68). -/
theorem Merger.GoesOn.endTide (s : State) (n : W64) : s.merger.GoesOn (s.endTideAt n).merger := by
  refine ⟨fun e he => ?_, fun h => absurd h List.not_mem_nil⟩
  refine List.mem_append.mpr ?_
  simp only [State.endTideAt, List.map_append, List.flatten_append, List.mem_append]
  rcases List.mem_append.mp he with hopen | hended
  · by_cases hlater : s.now ≤ teOf e.at_
    · exact .inl (List.mem_filter.mpr ⟨hopen, by simpa using hlater⟩)
    · exact .inr (.inr (by simpa using ⟨hopen, not_le.mp hlater⟩))
  · exact .inr (.inl hended)

/-- Everything that is due comes about up to the boundary, under the settings before it (R145, R248). -/
theorem kept_beforeBoundary {b : TE} (hload : s.dev.st ≠ .load) (hφ : φ s.seq[ch].pstate s.seq[ch].started) :
    Kept True ch φ (s.arrive b) (beforeBoundary b s) := by
  have hreach : Kept True ch φ (s.arrive (b - 1)) (s.reach (b - 1)) :=
    (kept_steady True ch φ (s := s.arrive (b - 1)) hload).settle (.refl hφ) kept_od
  have harrive : Kept True ch φ (s.arrive b) ((s.reach (b - 1)).arrive b) := by
    obtain ⟨⟨hpart, hst, hpend, hsched, hcount⟩, hrest⟩ := hreach
    refine ⟨⟨hpart, hst, hpend, hsched, ?_⟩, hrest⟩
    have hmax (x y : Nat) : max (max x (y - 1)) y = max x y := by omega
    rw [arrive_count, arrive_count, hcount, arrive_count]
    exact hmax _ _
  exact (kept_steady True ch φ (s := s.arrive b) hload).drainTriggers harrive kept_od _

/-- The Tide that ended is closed for the merger (R65, R68). -/
theorem kept_boundaryEnded (hload : s.dev.st ≠ .load) (hφ : φ s.seq[ch].pstate s.seq[ch].started) :
    Kept True ch φ (s.arrive s.nextBoundary) (boundaryEnded s) := by
  have hbefore := kept_beforeBoundary (b := s.nextBoundary) hload hφ
  exact keeps_ite hbefore ((kept_steady True ch φ (s := s.arrive s.nextBoundary) hload).merger _ _ (.endTide ..) hbefore)

/-- The sets that are due take effect (R408, R412). -/
theorem kept_setsInForce (hload : s.dev.st ≠ .load) (h : Kept True ch φ s t) (b : TE) : Kept True ch φ s (setsInForce b t) := by
  have hs := kept_steady True ch φ hload
  have hsets : Kept True ch φ s (applySets (tideOf b) b t) := by
    unfold applySets
    dsimp only
    refine each_keeps (Kept True ch φ s) (fun k u hu => hs.settingTakes hu (fun _ _ hv => hv) _ _) ?_ _
    refine keeps_ite (hs.raiseOnce (keeps_ite ?_ ?_) (fun _ => by decide) 7 0) (keeps_ite ?_ ?_) <;> exact h
  exact hs.inputs _ _ (fun _ => rfl) (hs.autonomousAtBoundary hsets kept_od)

/-- Measurements and sets, up to the commands. -/
theorem kept_boundarySet (hload : s.dev.st ≠ .load) (h : Kept True ch φ s (boundaryEnded t)) (m : TideMeas) :
    Kept True ch φ s (setsInForce t.nextBoundary (boundaryMeasured m t)) :=
  kept_setsInForce hload ((kept_steady True ch φ hload).takeMeasures h _ m) _

end

/-- The Tides that wait to be closed are those of before, whatever was raised in them. -/
theorem beforeBoundary_ended (b : TE) (s : State) :
    (beforeBoundary b s).merger.ended.map EndedTide.at_ = s.merger.ended.map EndedTide.at_ := by
  have hshell : (beforeBoundary b s).merger.shell = s.merger.shell :=
    (congrArg State.merger (bare_drainTriggers _ _)).trans (congrArg State.merger (bare_reach s (b - 1)))
  have hat := congrArg (fun m => m.ended.map EndedTide.at_) hshell
  simpa only [Merger.shell, List.map_map, Function.comp_def, EndedTide.shell] using hat

theorem beforeBoundary_now {b : TE} {s : State} (hnow : s.now ≤ b) : (beforeBoundary b s).now = b := by
  have htime : (beforeBoundary b s).time = ((s.reach (b - 1)).arrive b).time := bare_eq_time (bare_drainTriggers ..)
  have hmax (x y : Nat) (h : x ≤ y) : max (max x (y - 1)) y = y := by omega
  rw [State.now, htime, arrive_count, reach_count]
  exact hmax _ _ hnow

/-- Nothing is yet noted as raised in the Tide that begins (R65). -/
theorem boundaryEnded_once {s : State} (hnow : s.now ≤ s.nextBoundary) (hnone : ∀ e ∈ s.merger.ended, e.at_ ≠ s.nextBoundary) :
    (boundaryEnded s).merger.once = [] := by
  have hopen : ¬ (beforeBoundary s.nextBoundary s).merger.ended.any
      (fun e => e.at_ = (beforeBoundary s.nextBoundary s).now) = true := by
    rw [beforeBoundary_now hnow]
    intro hany
    obtain ⟨e, he, hat⟩ := List.any_eq_true.mp hany
    have hmem := List.mem_map_of_mem (f := EndedTide.at_) he
    rw [beforeBoundary_ended] at hmem
    obtain ⟨f, hf, hfat⟩ := List.mem_map.mp hmem
    exact hnone f hf (hfat.trans (of_decide_eq_true hat))
  unfold boundaryEnded
  dsimp only
  rw [if_neg hopen]
  rfl

/-! ## Where the commands begin -/

/-- In state `t` the served boundary `b`, which state `s` waits for, carries out its commands. -/
structure AtCommands (s : State) (b : TE) (t : State) : Prop where
  part : t.part = s.part
  st : t.dev.st = s.dev.st
  count : t.time.count = b
  phase : ∀ ch : Fin 64, t.seq[ch].pstate = s.seq[ch].pstate
  clean : s.health.passErrs = [] → t.health.passErrs = []

/-- A change of the merger and of what the device notes, but its state. -/
theorem AtCommands.noted {s t : State} {b : TE} (h : AtCommands s b t) {m : Merger} {d : Dev} (hd : d.st = t.dev.st) :
    AtCommands s b { t with merger := m, dev := d } := ⟨h.part, hd.trans h.st, h.count, h.phase, h.clean⟩

section
variable {s : State} (hload : s.dev.st ≠ .load) (hnow : s.now ≤ s.nextBoundary) (m : TideMeas)
include hload hnow

/-- What was due, measured and set leaves the boundary to its commands. -/
theorem boundarySet_atCommands : AtCommands s s.nextBoundary (setsInForce s.nextBoundary (boundaryMeasured m s)) ∧
    (setsInForce s.nextBoundary (boundaryMeasured m s)).dev.pendCmd = s.dev.pendCmd ∧
    (setsInForce s.nextBoundary (boundaryMeasured m s)).dev.sched = s.dev.sched := by
  have hkept (ch : Fin 64) : Kept True ch (fun p _ => p = s.seq[ch].pstate) (s.arrive s.nextBoundary)
      (setsInForce s.nextBoundary (boundaryMeasured m s)) :=
    kept_boundarySet (s := s.arrive s.nextBoundary) hload
      (kept_boundaryEnded hload (φ := fun p _ => p = s.seq[ch].pstate) rfl) m
  obtain ⟨⟨hpart, hst, hpend, hsched, hcount⟩, -, -, -, hevents⟩ := hkept 0
  refine ⟨⟨hpart, hst, hcount.trans (max_eq_right hnow), fun ch => ?_, fun h => (hevents h).2 trivial⟩, hpend, hsched⟩
  obtain ⟨-, -, -, hphase, -⟩ := hkept ch
  exact hphase

/-- The drop of a scheduled command is not yet noted as reported in the Tide that begins (R405). -/
theorem boundarySet_once (hclean : s.health.passErrs = []) (hnone : ∀ e ∈ s.merger.ended, e.at_ ≠ s.nextBoundary) :
    (491, 3) ∉ (setsInForce s.nextBoundary (boundaryMeasured m s)).merger.once := by
  obtain ⟨⟨_, hst, _⟩, -, -, -, hevents⟩ := kept_boundaryEnded (ch := 0) (φ := fun _ _ => True) hload trivial
  have hended : (boundaryEnded s).dev.st ≠ .load := fun h => hload (hst.symm.trans h)
  obtain ⟨-, -, -, -, hafter⟩ := kept_boundarySet (ch := 0) (φ := fun _ _ => True) (s := boundaryEnded s) hended (.refl trivial) m
  intro h
  have honce := (hafter ((hevents hclean).2 trivial)).1.once h
  rw [boundaryEnded_once hnow hnone] at honce
  exact List.not_mem_nil honce

omit hnow in
theorem boundaryMeasured_st : (boundaryMeasured m s).dev.st = s.dev.st := by
  obtain ⟨⟨_, hst, _⟩, _⟩ := (kept_steady True 0 _ (s := s.arrive s.nextBoundary) hload).takeMeasures
    (kept_boundaryEnded (φ := fun _ _ => True) hload trivial) (decide (s.time.lastTide = some (s.nextBoundary - tideLen))) m
  exact hst

end

end Sys2Proof.Machine

/-!
SUPPORT. The commands at a Tide boundary, from their state to the end of the boundary, and the statement about them (spec 06, R154;
spec 10, R263; spec 15, R403 to R406; spec 16, R453).
-/
namespace Sys2Proof.Machine

/-! ## A command that takes effect -/

theorem stateAfter_ne_load (c : Nat) : stateAfter c ≠ .load := by
  unfold stateAfter
  split <;> decide

/-- No command begins BOOT or LOAD, or touches what is pending and scheduled (R403). -/
theorem commandActs_dev (c : Nat) {s : State} (hload : s.dev.st ≠ .load) : (commandActs c s).dev.st ≠ .load ∧
    (commandActs c s).dev.pendCmd = s.dev.pendCmd ∧ (commandActs c s).dev.sched = s.dev.sched := by
  unfold commandActs
  split
  · obtain ⟨-, hdev, -⟩ := restoreNow_restored hload
    rw [hdev]
    exact ⟨hload, rfl, rfl⟩
  split
  · rw [widen_eq_dev (widen_startRaw ..)]
    exact ⟨hload, rfl, rfl⟩
  · rw [enterState_dev]
    exact ⟨stateAfter_ne_load c, rfl, rfl⟩

/-- The state that a command enters, and what becomes of the programs there (R154, R403, R406). -/
def Enters (s : State) (b : TE) (t : State) (d : DevState) : Prop :=
  t.dev.st = d ∧ (s.health.passErrs = [] → Raised t (b * 3200) 491 (6 + d.code * 16 + 0x13000000)) ∧
    ∀ ch ∈ s.channels, (d = .idle → t.seq[ch].pstate ≤ 1) ∧
      (d = .run → t.chOn ch = true → t.nat (chIdx ch) 1 = 2 → s.seq[ch].pstate = 1 → t.seq[ch].pstate = 2 ∧ t.seq[ch].started = b)

section
variable {s t : State} {b : TE} (old : State) (keys restarts : List Nat) (tables : List SetEntry)

/-- The rest of the boundary keeps device state and commands, whatever becomes of the programs. -/
theorem afterCommands_kept (hload : s.dev.st ≠ .load) :
    Kept False 0 (fun _ _ => True) s (afterCommands old b keys restarts tables s) :=
  kept_afterCommands hload old b keys restarts tables (fun _ hu _ => kept_channels_any hload hu old b) trivial

/-- A state that is entered is reported at the end of the boundary (R406). -/
theorem enterState_raised (ht : AtCommands s b t) {d : DevState} (hd : d ≠ .boot ∧ d ≠ .load) (hclean : s.health.passErrs = []) :
    Raised (afterCommands old b keys restarts tables (enterState d t)) (b * 3200) 491 (6 + d.code * 16 + 0x13000000) := by
  have hload : (enterState d t).dev.st ≠ .load := by
    rw [enterState_dev]
    exact hd.2
  obtain ⟨-, -, -, -, hevents⟩ := afterCommands_kept (b := b) old keys restarts tables hload
  have herrs : (enterState d t).health.passErrs = t.health.passErrs := congrArg (fun u => u.health.passErrs) (widen_enterState d t)
  have hholds := enterState_holds hd t
  rw [State.nowAt, ht.count] at hholds
  exact ((hevents (herrs.trans (ht.clean hclean))).1.holds hholds).raised

/-- Entering IDLE, every program stands still at the end of the boundary (R155). -/
theorem enterState_idle_rests (ht : AtCommands s b t) {ch : Fin 64} (hch : ch ∈ s.channels) :
    (afterCommands old b keys restarts tables (enterState .idle t)).seq[ch].pstate ≤ 1 := by
  have hst : (enterState .idle t).dev.st = .idle := by rw [enterState_dev]
  have hload : (enterState .idle t).dev.st ≠ .load := by rw [hst]; decide
  have hrun : (enterState .idle t).dev.st ≠ .run := by rw [hst]; decide
  have hrests : ch ∈ t.channels := by simpa only [State.channels, ht.part] using hch
  obtain ⟨-, -, -, hφ, -⟩ := kept_afterCommands (ch := ch) (φ := fun p _ => p ≤ 1) hload old b keys restarts tables
    (fun _ hu _ => kept_channels_stopped hload hrun (fun _ _ _ _ => le_rfl) hu old b) (enterState_idle_stops hrests)
  exact hφ

/-- Entering RUN, the admitted program of an enabled channel has started at the boundary (R154). -/
theorem enterState_run_starts (ht : AtCommands s b t) {ch : Fin 64} (hch : ch ∈ s.channels) (hone : s.seq[ch].pstate = 1)
    (hon : (afterCommands old b keys restarts tables (enterState .run t)).chOn ch = true)
    (hmode : (afterCommands old b keys restarts tables (enterState .run t)).nat (chIdx ch) 1 = 2) :
    (afterCommands old b keys restarts tables (enterState .run t)).seq[ch].pstate = 2 ∧
      (afterCommands old b keys restarts tables (enterState .run t)).seq[ch].started = b := by
  have hrun : (enterState .run t).dev.st = .run := by rw [enterState_dev]
  have hload : (enterState .run t).dev.st ≠ .load := by rw [hrun]; decide
  have hseq : (enterState .run t).seq = t.seq := by
    unfold enterState stateEvent
    rw [raise_frame]
  have hpart : (enterState .run t).part = t.part := congrArg (fun u => u.part) (widen_enterState .run t)
  have hchannels : ch ∈ (enterState .run t).channels := by simpa only [State.channels, hpart, ht.part] using hch
  have hod := congrArg Prod.fst (afterCommands_settings old b keys restarts tables (enterState .run t))
  obtain ⟨-, -, -, hφ, -⟩ := kept_afterCommands (ch := ch) (φ := fun p _ => p = 1) hload old b keys restarts tables
    (fun u hu ho => by
      have hall := ho.trans hod.symm
      refine kept_channels_started hrun hchannels hu ?_ ?_ old b
      · simp only [State.chOn, State.on, State.nat, hall]
        exact hon
      · simp only [State.nat, hall]
        exact hmode)
    (by rw [hseq, ht.phase ch, hone])
  exact hφ

/-- What is entered stands at the end of the boundary. -/
theorem enterState_enters (ht : AtCommands s b t) {d : DevState} (hd : d ≠ .boot ∧ d ≠ .load) :
    Enters s b (afterCommands old b keys restarts tables (enterState d t)) d := by
  have hst : (enterState d t).dev.st = d := by rw [enterState_dev]
  obtain ⟨⟨_, hkept, _⟩, _⟩ := afterCommands_kept (b := b) old keys restarts tables (hst.symm ▸ hd.2)
  refine ⟨hkept.trans hst, enterState_raised old keys restarts tables ht hd, fun ch hch => ⟨?_, ?_⟩⟩
  · rintro rfl
    exact enterState_idle_rests old keys restarts tables ht hch
  · rintro rfl hon hmode hone
    exact enterState_run_starts old keys restarts tables ht hch hone hon hmode

/-- CALIBRATE: every input is in raw mode at the end of the boundary (R263). -/
theorem startRaw_kept (ht : AtCommands s b t) (hload : s.dev.st ≠ .load) (target : Nat) :
    let w := afterCommands old b keys restarts tables (startRaw 3 target { t with dev := { t.dev with calibrating := true } })
    w.dev.st = s.dev.st ∧ w.dev.calibrating = true ∧ ∀ i ∈ s.units8, w.sti[i].cal.Calibrates := by
  have hwide := widen_startRaw { t with dev := { t.dev with calibrating := true } } 3 target
  have hraw (i : Fin 32) (hi : i ∈ s.units8) :=
    startRaw_calibrates (i := i) (s := { t with dev := { t.dev with calibrating := true } })
      (by simpa only [State.units8, ht.part] using hi) target
  generalize startRaw 3 target { t with dev := { t.dev with calibrating := true } } = u at hwide hraw ⊢
  have hdev : u.dev = { t.dev with calibrating := true } := widen_eq_dev hwide
  have hpart : u.part = s.part := (congrArg (fun x => x.part) hwide).trans ht.part
  have hst : u.dev.st = s.dev.st := (congrArg Dev.st hdev).trans ht.st
  obtain ⟨⟨_, hkept, _⟩, hcal, hlast, _⟩ := afterCommands_kept (b := b) old keys restarts tables (hst.symm ▸ hload)
  have hunit : (0 : Fin 32) ∈ s.units8 := by
    unfold State.units8
    cases s.part <;> decide
  refine ⟨hkept.trans hst, hlast ⟨0, ?_, hraw 0 hunit⟩ (congrArg Dev.calibrating hdev), fun i hi => hcal i (hraw i hi)⟩
  simpa only [State.units8, hpart] using hunit

/-- RESTORE_DEFAULTS: sets and settings are at their defaults at the end of the boundary (R453). -/
theorem restoreNow_kept (ht : AtCommands s b t) (hload : s.dev.st ≠ .load) :
    let w := afterCommands old b keys restarts tables (restoreNow t)
    w.dev.st = s.dev.st ∧ w.commits.sets = [] ∧ ∀ key, keptByRestore s.part key = false → assocFind w.od key = none := by
  have hst : t.dev.st ≠ .load := ht.st ▸ hload
  obtain ⟨hpart, hdev, hsets, hod⟩ := restoreNow_restored hst
  have hrestored : (restoreNow t).dev.st ≠ .load := by rwa [hdev]
  obtain ⟨⟨_, hkept, _⟩, _⟩ := afterCommands_kept (b := b) old keys restarts tables hrestored
  have hsettings := afterCommands_settings old b keys restarts tables (restoreNow t)
  refine ⟨hkept.trans ((congrArg Dev.st hdev).trans ht.st), ?_, fun key hkey => ?_⟩
  · exact (congrArg (fun x => x.2.sets) hsettings).trans hsets
  · rw [show (afterCommands old b keys restarts tables (restoreNow t)).od = (restoreNow t).od from congrArg Prod.fst hsettings]
    exact hod key (ht.part.symm ▸ hkey)

/-- A scheduled command is dropped: the state stays, and the first drop of the Tide is reported (R405). -/
theorem dropped_kept (ht : AtCommands s b t) (hsched : t.dev.sched = none) (hserved : s.served = true) (detail : Nat) :
    let w := afterCommands old b keys restarts tables (t.raiseOnce 491 3 detail)
    w.dev.sched = none ∧ w.dev.st = s.dev.st ∧
      (s.health.passErrs = [] → (491, 3) ∉ t.merger.once → Raised w (b * 3200) 491 detail) := by
  have htserved : t.served = true := by
    rw [State.served, ht.st]
    exact hserved
  have hholds := fun hnew => raiseOnce_holds htserved (source := 491) (key := 3) hnew detail 0
  rw [raiseOnce_frame] at hholds ⊢
  generalize (t.raiseOnce 491 3 detail).merger = n at hholds ⊢
  have hload : t.dev.st ≠ .load := fun h => by simp [State.served, h] at htserved
  obtain ⟨⟨_, hst, _, hkept, _⟩, -, -, -, hevents⟩ :=
    afterCommands_kept (s := { t with merger := n }) (b := b) old keys restarts tables hload
  refine ⟨hkept.trans hsched, hst.trans ht.st, fun hclean hnew => ((hevents (ht.clean hclean)).1.holds ?_).raised⟩
  have hhere := hholds hnew
  rw [State.nowAt, ht.count] at hhere
  exact hhere

/-- The state that a command leads to (R403). -/
def LeadsTo (c : Byte) (d : DevState) : Prop := (c = 1 ∨ c = 3) ∧ d = .run ∨ c = 2 ∧ d = .hold ∨ (c = 4 ∨ c = 6) ∧ d = .idle

theorem commandActs_eq_enterState {c : Byte} {d : DevState} (h : LeadsTo c d) (t : State) :
    commandActs c.toNat t = enterState d t := by
  rcases h with ⟨rfl | rfl, rfl⟩ | ⟨rfl, rfl⟩ | ⟨rfl | rfl, rfl⟩ <;> simp [commandActs, stateAfter]

/-- A command enters the state that it leads to. -/
theorem commandActs_enters (ht : AtCommands s b t) {c : Byte} {d : DevState} (h : LeadsTo c d) :
    Enters s b (afterCommands old b keys restarts tables (commandActs c.toNat t)) d := by
  have hd : d ≠ .boot ∧ d ≠ .load := by
    rcases h with ⟨-, rfl⟩ | ⟨-, rfl⟩ | ⟨-, rfl⟩ <;> decide
  rw [commandActs_eq_enterState h]
  exact enterState_enters old keys restarts tables ht hd

end

/-! ## The pending and the scheduled command (R403, R405) -/

section
variable {s u : State} {b : TE} (hu : AtCommands s b u) {c : Byte}
include hu

/-- The command that is due takes effect, and is pending no more. -/
theorem pendingActs_due {a : TE} (hpend : u.dev.pendCmd = some (c, a)) (ha : a ≤ b) : ∃ v, pendingActs b u = commandActs c.toNat v ∧
    AtCommands s b v ∧ v.dev.pendCmd = none ∧ v.dev.sched = u.dev.sched := by
  have hmoved (n : Merger) : AtCommands s b { u with merger := n, dev := { u.dev with pendCmd := none } } := hu.noted rfl
  unfold pendingActs
  rw [hpend]
  dsimp only
  rw [if_pos ha]
  refine ⟨_, rfl, ?_⟩
  split
  · rw [raiseOnce_frame]
    exact ⟨hmoved _, rfl, rfl⟩
  · exact ⟨hmoved u.merger, rfl, rfl⟩

/-- A scheduled command whose Tide has come takes effect where the state permits it, and its drop is reported where not. -/
theorem scheduledActs_due {x : W64} (hsched : u.dev.sched = some (c, x)) (hx : tideNamed b x.toNat ≤ tideOf b) :
    scheduledActs (tideOf b) u = if commandPermits c.toNat s.dev.st then commandActs c.toNat { u with dev := { u.dev with sched := none } }
      else State.raiseOnce { u with dev := { u.dev with sched := none } } 491 3 (3 + c.toNat * 2 ^ 4 + 0x1300 * 2 ^ 16) := by
  unfold scheduledActs
  rw [hsched]
  dsimp only
  rw [State.now, hu.count, if_pos hx, hu.st]

theorem scheduledActs_later {x : W64} (hsched : u.dev.sched = some (c, x)) (hx : tideOf b < tideNamed b x.toNat) :
    scheduledActs (tideOf b) u = u := by
  unfold scheduledActs
  rw [hsched]
  dsimp only
  rw [State.now, hu.count, if_neg (not_le.mpr hx)]

end

theorem pendingActs_none {b : TE} {u : State} (h : u.dev.pendCmd = none) : pendingActs b u = u := by
  unfold pendingActs
  rw [h]

theorem scheduledActs_none {n : Nat} {u : State} (h : u.dev.sched = none) : scheduledActs n u = u := by
  unfold scheduledActs
  rw [h]

/-- Settles O59: up to its commands a boundary keeps what they depend on, and after them what they brought about. -/
theorem boundaryCommands : Obligations.boundary_commands := by
  intro s m c b hruns hserved hreset hnow _ enters after
  have hload : s.dev.st ≠ .load := by
    intro h
    rw [State.served, h] at hserved
    cases hserved
  obtain ⟨hu, hpend, hsched⟩ := boundarySet_atCommands hload hnow m
  have honce := boundarySet_once hload hnow m
  obtain ⟨keys, restarts, tables, heq⟩ := tideBoundary_eq (m := m) hruns hreset
    (by rw [State.served, boundaryMeasured_st hload]; exact hserved)
  have hexec : exec (.tideBoundary m) s = .next (tideBoundary m s) := rfl
  rw [heq] at hexec
  generalize setsInForce s.nextBoundary (boundaryMeasured m s) = u at hu hpend hsched honce hexec
  generalize boundaryMeasured m s = old at hexec
  have hst : u.dev.st ≠ .load := hu.st ▸ hload
  refine ⟨fun a hp ha hs => ?_, fun x hp hs hx => ?_, fun x hp hs hx => ?_⟩
  · obtain ⟨v, hv, hcommands, hnone, hnext⟩ := pendingActs_due hu (hpend.trans hp) ha
    have hvst : v.dev.st ≠ .load := hcommands.st ▸ hload
    obtain ⟨hwst, hwpend, hwsched⟩ := commandActs_dev c.toNat hvst
    rw [hv, scheduledActs_none (hwsched.trans (hnext.trans (hsched.trans hs)))] at hexec
    obtain ⟨⟨_, _, hkept, _⟩, _⟩ := afterCommands_kept (b := b) old keys restarts tables hwst
    refine ⟨_, hexec, hkept.trans (hwpend.trans hnone), fun d hd => commandActs_enters old keys restarts tables hcommands hd, ?_, ?_⟩
    · rintro rfl
      exact restoreNow_kept old keys restarts tables hcommands hload
    · rintro rfl
      exact startRaw_kept old keys restarts tables hcommands hload _
  · rw [pendingActs_none (hpend.trans hp), scheduledActs_due hu (hsched.trans hs) hx] at hexec
    have hcommands : AtCommands s b { u with dev := { u.dev with sched := none } } := hu.noted rfl
    by_cases hpermits : commandPermits c.toNat s.dev.st = true
    · rw [if_pos hpermits] at hexec
      obtain ⟨hwst, -, hwsched⟩ := commandActs_dev (s := { u with dev := { u.dev with sched := none } }) c.toNat hst
      obtain ⟨⟨_, _, _, hkept, _⟩, _⟩ := afterCommands_kept (b := b) old keys restarts tables hwst
      exact ⟨_, hexec, hkept.trans hwsched, fun d hd _ => commandActs_enters old keys restarts tables hcommands hd,
        fun h => absurd (hpermits.symm.trans h) (by decide)⟩
    · rw [if_neg hpermits] at hexec
      obtain ⟨hdropped, hstays, hreported⟩ := dropped_kept old keys restarts tables hcommands rfl hserved
        (3 + c.toNat * 2 ^ 4 + 0x1300 * 2 ^ 16)
      exact ⟨_, hexec, hdropped, fun _ _ h => absurd h hpermits,
        fun _ => ⟨hstays, fun hclean hnone => hreported hclean (honce hclean hnone)⟩⟩
  · rw [pendingActs_none (hpend.trans hp), scheduledActs_later hu (hsched.trans hs) hx] at hexec
    obtain ⟨⟨_, hkept, _, hwsched, _⟩, _⟩ := afterCommands_kept (b := b) old keys restarts tables hst
    exact ⟨_, hexec, hwsched.trans (hsched.trans hs), hkept.trans hu.st⟩

end Sys2Proof.Machine
